-- ==== Sys2Proof/Word.lean ====
section
/-! DEFINITION. The word types of the Lorsan L64 and their plainest vocabulary (00_scope.md:R4: little-endian,
bit 0 least significant). Everything a test could show wrong stands in Sys2Proof/Machine/. -/
namespace Sys2Proof

/-- A byte. -/
abbrev Byte := BitVec 8
/-- A 16-bit value (a status code, an index). -/
abbrev Half := BitVec 16
/-- A 32-bit word (a register, an FP32 code). -/
abbrev Word := BitVec 32
/-- A 64-bit value (a counter, an address pair). -/
abbrev DWord := BitVec 64

/-- A finite table by natural-number key: pairs with strictly rising keys. -/
abbrev Tab (α : Type) := List (Nat × α)

end Sys2Proof
end

