-- ==== Sys2Proof/Machine/Bits.lean ====
section
/-! DEFINITION. Bit fields of words, little-endian byte lists and alignment (00_scope.md:R4). -/
namespace Sys2Proof.Machine

/-- Bits [lo + len - 1 : lo] of a number. -/
def bitsOf (x lo len : Nat) : Nat := (x >>> lo) % 2 ^ len

/-- One bit of a number. -/
def bitOf (x i : Nat) : Bool := Nat.testBit x i

/-- A field of a register: its lowest bit and its length. -/
structure Fld where
  /-- lowest bit -/
  lo : Nat
  /-- number of bits -/
  len : Nat
deriving DecidableEq, Repr

/-- The mask of a field. -/
def fldMask (f : Fld) : Word := BitVec.ofNat 32 ((2 ^ f.len - 1) <<< f.lo)

/-- Read a field. -/
def fldGet (w : Word) (f : Fld) : Nat := bitsOf w.toNat f.lo f.len

/-- Write a field; the value is cut to the field's length. -/
def fldSet (w : Word) (f : Fld) (v : Nat) : Word :=
  (w &&& ~~~(fldMask f)) ||| (BitVec.ofNat 32 ((v % 2 ^ f.len) <<< f.lo))

/-- 1 for true, 0 for false. -/
def b2n (b : Bool) : Nat := if b then 1 else 0

/-- The `n` low bytes of a number, least significant first. -/
def leBytes : Nat → Nat → List Byte
  | 0, _ => []
  | n + 1, x => BitVec.ofNat 8 x :: leBytes n (x / 256)

/-- The number that bytes spell, least significant first. -/
def leNat : List Byte → Nat
  | [] => 0
  | b :: t => b.toNat + 256 * leNat t

/-- Bytes [i, i + n) of a list, short lists read as zero beyond their end. -/
def sliceZ (bs : List Byte) (i n : Nat) : List Byte :=
  let t := (bs.drop i).take n
  t ++ List.replicate (n - t.length) 0#8

/-- The little-endian number in bytes [i, i + n) of a list. -/
def fieldLE (bs : List Byte) (i n : Nat) : Nat := leNat (sliceZ bs i n)

/-- Cut a list into pieces of `n` (the fuel bounds the number of pieces). -/
def chunks {α : Type} (n : Nat) : Nat → List α → List (List α)
  | 0, _ => []
  | f + 1, l => if l.isEmpty then [] else l.take n :: chunks n f (l.drop n)

/-- Round up to a multiple. -/
def ceilDiv (a b : Nat) : Nat := (a + b - 1) / b

/-- Put a value at a position of a list (a list too short is left as it is). -/
def listSet {α : Type} (l : List α) (i : Nat) (x : α) : List α := l.set i x

/-- The elements of a list paired with their positions. -/
def indexed {α : Type} (l : List α) : List (Nat × α) := l.zipIdx.map fun p => (p.2, p.1)

/-- The positions of set bits of a number below a bound, ascending. -/
def setBits (n x : Nat) : List Nat := (List.range n).filter fun i => bitOf x i

/-- The number whose set bits are the positions listed. -/
def ofBits (l : List Nat) : Nat := l.foldl (fun a i => a ||| (1 <<< i)) 0

/-- Two's complement reading of an n-bit number. -/
def signedOf (n x : Nat) : Int := if x % 2 ^ n < 2 ^ (n - 1) then ((x % 2 ^ n : Nat) : Int) else ((x % 2 ^ n : Nat) : Int) - (2 ^ n : Nat)

/-- Two's complement code of an integer in n bits. -/
def codeOf (n : Nat) (z : Int) : Nat := (z % ((2 ^ n : Nat) : Int)).toNat

end Sys2Proof.Machine
end

