-- ==== Sys2Proof/Machine/Float.lean ====
section
/-! DEFINITION. Exact values and the one rounding of 03_numerics.md (R48-R53, R60, R70): a value is a signed dyadic,
an infinity or NaN; codes of the FP32 family (FP32, W40, W48) differ only in the number of fraction bits. -/
namespace Sys2Proof.Machine

/-- A value: `(-1)^neg * m * 2^e`, an infinity, or NaN (R49, R50). -/
inductive Val where
  /-- a finite value; zero keeps its sign -/
  | fin (neg : Bool) (m : Nat) (e : Int)
  /-- an infinity -/
  | inf (neg : Bool)
  /-- any NaN: all are treated alike (R50) -/
  | nan
deriving DecidableEq, Repr

/-- An exact dyadic number `z * 2^e`. -/
structure Dy where
  /-- integer part -/
  z : Int
  /-- exponent -/
  e : Int
deriving DecidableEq, Repr

/-- Shift an integer left by a natural number of bits. -/
def intShl (z : Int) (n : Nat) : Int := z * (2 ^ n : Nat)

/-- The exact sum of two dyadics. -/
def dyAdd (a b : Dy) : Dy :=
  if a.e ≤ b.e then ⟨a.z + intShl b.z (b.e - a.e).toNat, a.e⟩
  else ⟨intShl a.z (a.e - b.e).toNat + b.z, b.e⟩

/-- The exact product. -/
def dyMul (a b : Dy) : Dy := ⟨a.z * b.z, a.e + b.e⟩

/-- The dyadic as a value; an exact zero is +0 (R70). -/
def dyVal (a : Dy) : Val := .fin (decide (a.z < 0)) a.z.natAbs a.e

/-- Whether a value is finite. -/
def valFinite : Val → Bool
  | .fin _ _ _ => true
  | _ => false

/-- The dyadic of a finite value (0 for the others). -/
def valDy : Val → Dy
  | .fin n m e => ⟨if n then -(m : Int) else m, e⟩
  | _ => ⟨0, 0⟩

/-- Sum of values under R67 and R70: NaN wins, opposite infinities give NaN, an exact zero is +0. -/
def valAdd (a b : Val) : Val :=
  match a, b with
  | .nan, _ => .nan
  | _, .nan => .nan
  | .inf x, .inf y => if x = y then .inf x else .nan
  | .inf x, .fin _ _ _ => .inf x
  | .fin _ _ _, .inf y => .inf y
  | .fin n m e, .fin n' m' e' => dyVal (dyAdd (valDy (.fin n m e)) (valDy (.fin n' m' e')))

/-- Exact product of values; a zero product keeps its sign (R88), infinity times zero is NaN (R67). R67 names no product of two
infinities: it is an infinity of the XOR sign here. (Open points: assumption 87, DESIGN CHOICE.) -/
def valMul (a b : Val) : Val :=
  match a, b with
  | .nan, _ => .nan
  | _, .nan => .nan
  | .inf x, .inf y => .inf (x != y)
  | .inf x, .fin n m _ => if m = 0 then .nan else .inf (x != n)
  | .fin n m _, .inf y => if m = 0 then .nan else .inf (n != y)
  | .fin n m e, .fin n' m' e' => .fin (n != n') (m * m') (e + e')

/-- Negate a value. -/
def valNeg : Val → Val
  | .fin n m e => .fin (!n) m e
  | .inf n => .inf (!n)
  | .nan => .nan

/-- Absolute value. -/
def valAbs : Val → Val
  | .fin _ m e => .fin false m e
  | .inf _ => .inf false
  | .nan => .nan

/-- Scale by a power of two. -/
def valScale (v : Val) (k : Int) : Val :=
  match v with
  | .fin n m e => .fin n m (e + k)
  | w => w

/-- `⌊log2 |v|⌋` of a non-zero finite magnitude `m * 2^e`. -/
def magLog2 (m : Nat) (e : Int) : Int := (Nat.log2 m : Int) + e

/-- Quotient and remainder of `m * 2^e` by the unit `2^u`: the integer part, the rest, and the shift that weighs the
rest (the fraction is rest / 2^shift). -/
def unitSplit (m : Nat) (e u : Int) : Nat × Nat × Nat :=
  if u ≤ e then (m <<< (e - u).toNat, 0, 0)
  else let sh := (u - e).toNat
       (m >>> sh, m % 2 ^ sh, sh)

/-- Whether nearest-even rounds up: fraction above one half, or one half with an odd integer part (R60). -/
def roundsUp (q rest sh : Nat) : Bool := 2 * rest > 2 ^ sh || (2 * rest == 2 ^ sh && sh != 0 && q % 2 == 1)

/-- The magnitude code of `m * 2^e` (m non-zero) in the FP32 family with `fb` fraction bits, rounded once to
nearest-even; at or above the overflow threshold it is the code of infinity (R70). -/
def magCode (fb : Nat) (m : Nat) (e : Int) : Nat :=
  let l := max (magLog2 m e) (-126)
  let (q, rest, sh) := unitSplit m e (l - fb)
  let q := if roundsUp q rest sh then q + 1 else q
  let c := (l + 126).toNat * 2 ^ fb + q
  if 255 * 2 ^ fb ≤ c then 255 * 2 ^ fb else c

/-- The code of a value in the FP32 family with `fb` fraction bits (sign at bit fb + 8); NaN is canonical (R50). -/
def valCode (fb : Nat) (v : Val) : Nat :=
  match v with
  | .nan => 255 * 2 ^ fb + 2 ^ (fb - 1)
  | .inf n => b2n n * 2 ^ (fb + 8) + 255 * 2 ^ fb
  | .fin n m e => b2n n * 2 ^ (fb + 8) + (if m = 0 then 0 else magCode fb m e)

/-- The value of a code of the FP32 family with `fb` fraction bits (R49, R51, R52). A stored W40 or W48 code with E = 255 and a
non-zero tail below a zero F, which R51 does not say how to read, is NaN. (Open points: assumption 87, DESIGN CHOICE.) -/
def codeVal (fb : Nat) (c : Nat) : Val :=
  let n := bitOf c (fb + 8)
  let ex := bitsOf c fb 8
  let f := c % 2 ^ fb
  if ex = 255 then (if f = 0 then .inf n else .nan)
  else if ex = 0 then .fin n f (-126 - fb)
  else .fin n (2 ^ fb + f) ((ex : Int) - 127 - fb)

/-- The FP32 value of a word. -/
def fp32Val (w : Word) : Val := codeVal 23 w.toNat
/-- A value rounded once to FP32, as a word. -/
def fp32Of (v : Val) : Word := BitVec.ofNat 32 (valCode 23 v)
/-- A value rounded once to FP32, as a value. -/
def fp32Round (v : Val) : Val := codeVal 23 (valCode 23 v)
/-- A value rounded once to W48 (R52), as a value. (Open points: assumption 41, DEDUCED.) -/
def w48Round (v : Val) : Val := codeVal 39 (valCode 39 v)
/-- FP32 nearest-even sum of two words. -/
def fp32Add (a b : Word) : Word := fp32Of (valAdd (fp32Val a) (fp32Val b))
/-- FP32 nearest-even product of two words. -/
def fp32Mul (a b : Word) : Word := fp32Of (valMul (fp32Val a) (fp32Val b))

/-- Whether an FP32 code is infinite or NaN. -/
def fp32NonFinite (w : Word) : Bool := bitsOf w.toNat 23 8 == 255
/-- Whether an FP32 code is NaN. -/
def fp32IsNan (w : Word) : Bool := bitsOf w.toNat 23 8 == 255 && bitsOf w.toNat 0 23 != 0

/-- The order of values as extended reals (NaN is not ordered). -/
def valLt (a b : Val) : Bool :=
  match a, b with
  | .nan, _ => false
  | _, .nan => false
  | .inf x, .inf y => x && !y
  | .inf x, .fin _ _ _ => x
  | .fin _ _ _, .inf y => !y
  | .fin n m e, .fin n' m' e' =>
    decide ((dyAdd (valDy (.fin n m e)) ⟨-(valDy (.fin n' m' e')).z, e'⟩).z < 0)

/-- Equality of values as numbers: −0 equals +0, NaN equals nothing. -/
def valEq (a b : Val) : Bool :=
  match a, b with
  | .nan, _ => false
  | _, .nan => false
  | a, b => !(valLt a b) && !(valLt b a)

/-- Whether a value is zero. -/
def valIsZero : Val → Bool
  | .fin _ m _ => m == 0
  | _ => false

/-- A quotient of non-zero finite magnitudes to 64 bits below the leading one, with the rest folded into a sticky
low bit, so that one rounding to any format of the chapter is the correct rounding of the exact quotient. -/
def magDiv (m : Nat) (e : Int) (m' : Nat) (e' : Int) : Nat × Int :=
  let k := Nat.log2 m' + 66
  let n := m <<< k
  let q := n / m'
  (2 * q + (if n % m' = 0 then 0 else 1), e - e' - k - 1)

/-- Exact-to-one-rounding quotient of values, with IEEE 754 special cases. -/
def valDiv (a b : Val) : Val :=
  match a, b with
  | .nan, _ => .nan
  | _, .nan => .nan
  | .inf _, .inf _ => .nan
  | .inf x, .fin n _ _ => .inf (x != n)
  | .fin n _ _, .inf y => .fin (n != y) 0 0
  | .fin n m e, .fin n' m' e' =>
    if m' = 0 then (if m = 0 then .nan else .inf (n != n'))
    else if m = 0 then .fin (n != n') 0 0
    else let (q, x) := magDiv m e m' e'
         .fin (n != n') q x

/-- Integer square root by bits, from the bit `2^k` down. -/
def isqrtFrom : Nat → Nat → Nat → Nat
  | 0, n, r => if (r + 1) * (r + 1) ≤ n then r + 1 else r
  | k + 1, n, r => isqrtFrom k n (if (r + 2 ^ (k + 1)) * (r + 2 ^ (k + 1)) ≤ n then r + 2 ^ (k + 1) else r)

/-- Integer square root. -/
def isqrt (n : Nat) : Nat := isqrtFrom (Nat.log2 n / 2 + 1) n 0

/-- Square root of a value to 64 bits and a sticky bit, with IEEE 754 special cases. -/
def valSqrt (v : Val) : Val :=
  match v with
  | .nan => .nan
  | .inf n => if n then .nan else .inf false
  | .fin n m e =>
    if m = 0 then .fin n 0 0
    else if n then .nan
    else
      let odd := e % 2 = 1
      let m1 := if odd then 2 * m else m
      let e1 := if odd then e - 1 else e
      let n2 := m1 <<< 140
      let q := isqrt n2
      .fin false (2 * q + (if q * q = n2 then 0 else 1)) ((e1 - 140) / 2 - 1)

/-! ### Element formats (R48, R49). -/

/-- Parameters of an element format. -/
structure FmtInfo where
  /-- bits of a code -/
  width : Nat
  /-- fraction bits -/
  mbits : Nat
  /-- exponent of the largest finite value -/
  emax : Int
  /-- exponent of the smallest normal value -/
  emin : Int
  /-- magnitude code of the largest finite value -/
  maxCode : Nat
  /-- magnitude code of infinity, if the format has one -/
  infCode : Option Nat
  /-- the canonical NaN, if the format has one (R50) -/
  nanCode : Option Nat
deriving DecidableEq, Repr

/-- The formats of R48 with codes 0x1 to 0x8. -/
def fmtInfo (f : Nat) : FmtInfo :=
  match f with
  | 1 => ⟨4, 1, 2, 0, 0x7, none, none⟩
  | 2 => ⟨6, 3, 2, 0, 0x1F, none, none⟩
  | 3 => ⟨6, 2, 4, -2, 0x1F, none, none⟩
  | 4 => ⟨8, 3, 8, -6, 0x7E, none, some 0x7F⟩
  | 5 => ⟨8, 2, 15, -14, 0x7B, some 0x7C, some 0x7E⟩
  | 6 => ⟨16, 10, 15, -14, 0x7BFF, some 0x7C00, some 0x7E00⟩
  | 7 => ⟨16, 7, 127, -126, 0x7F7F, some 0x7F80, some 0x7FC0⟩
  | _ => ⟨32, 23, 127, -126, 0x7F7FFFFF, some 0x7F800000, some 0x7FC00000⟩

/-- The value of a code of a format. -/
def fmtVal (f c : Nat) : Val :=
  let i := fmtInfo f
  let n := bitOf c (i.width - 1)
  let g := c % 2 ^ (i.width - 1)
  if i.maxCode < g then (if i.infCode = some g then .inf n else .nan)
  else
    let ex := g / 2 ^ i.mbits
    let fr := g % 2 ^ i.mbits
    if ex = 0 then .fin n fr (i.emin - i.mbits)
    else .fin n (2 ^ i.mbits + fr) ((ex : Int) - 1 + i.emin - i.mbits)

/-- Whether a format code is one of FP8 (0x4, 0x5). -/
def isFp8 (f : Nat) : Bool := f == 4 || f == 5
/-- Whether a format code is FP6 or FP4 (two K elements per bead, R22). -/
def isPair (f : Nat) : Bool := f == 1 || f == 2 || f == 3
/-- Whether a format code is FP16 or BF16 (two issue cycles per wavefront, R22). -/
def isHalf (f : Nat) : Bool := f == 6 || f == 7

/-! ### Stochastic bits (R61). -/

/-- `mix` of R61. -/
def srMix (z : DWord) : DWord :=
  let z := z + 0x9E3779B97F4A7C15#64
  let z := (z ^^^ (z >>> 30)) * 0xBF58476D1CE4E5B9#64
  let z := (z ^^^ (z >>> 27)) * 0x94D049BB133111EB#64
  z ^^^ (z >>> 31)

/-- `sr_bits` of R61. -/
def srBits (seed : DWord) (kind : Nat) (step : DWord) (site index : Nat) : Nat :=
  let a := srMix (seed ^^^ srMix (step ^^^ (BitVec.ofNat 64 (kind % 256) <<< 56)))
  let b := srMix (a ^^^ ((BitVec.ofNat 64 (site % 2 ^ 32) <<< 32) ||| BitVec.ofNat 64 (index % 2 ^ 32)))
  b.toNat % 65536

/-! ### Narrowing (R59, R60, R62). -/

/-- How an element is rounded: to nearest-even, or stochastically with its 16-bit value. -/
inductive Rounding where
  | nearest
  | stoch (r : Nat)
deriving DecidableEq, Repr

/-- Round a non-zero magnitude to a format: its magnitude code and whether it saturated (R60, R61). -/
def fmtRound (f : Nat) (rnd : Rounding) (m : Nat) (e : Int) : Nat × Bool :=
  let i := fmtInfo f
  let l := max (magLog2 m e) i.emin
  let (q, rest, sh) := unitSplit m e (l - i.mbits)
  let up := match rnd with
    | .nearest => roundsUp q rest sh
    | .stoch r => decide (65536 ≤ (rest * 65536) / 2 ^ sh + r)
  let c := (l - i.emin).toNat * 2 ^ i.mbits + (if up then q + 1 else q)
  if i.maxCode < c then
    (match (if f = 6 ∨ f = 7 then i.infCode else none) with
      | some k => k
      | none => i.maxCode, true)
  else (c, false)

/-- Attach a sign to a magnitude code. -/
def fmtSign (f : Nat) (n : Bool) (g : Nat) : Nat := b2n n * 2 ^ ((fmtInfo f).width - 1) + g

/-- Convert one value, not NaN under a block scale, to a format's code; `(code, saturated)` (R60-R62). Conversion to
FP32 is the identity on FP32 values. -/
def fmtOf (f : Nat) (rnd : Rounding) (v : Val) : Nat × Bool :=
  match v with
  | .nan => ((fmtInfo f).nanCode.getD 0, false)
  | .inf n => (match (fmtInfo f).infCode with
      | some k => fmtSign f n k
      | none => (fmtInfo f).nanCode.getD 0, false)
  | .fin n m e =>
    if m = 0 then (fmtSign f n 0, false)
    else if 8 ≤ f then (fmtSign f n (magCode 23 m e), false)
    else let (g, s) := fmtRound f rnd m e
         (fmtSign f n g, s)

/-! ### Recipes (R55, R57). -/

/-- FMT of a recipe word. -/
def rcpFmt (w : Word) : Nat := bitsOf w.toNat 0 4
/-- BLOCK of a recipe word, as elements: 0 unscaled, else 32, 64 or 128. -/
def rcpBlock (w : Word) : Nat := match bitsOf w.toNat 4 2 with
  | 0 => 0
  | 1 => 32
  | 2 => 64
  | _ => 128
/-- ROUND of a recipe word. -/
def rcpRound (w : Word) : Nat := bitsOf w.toNat 6 2
/-- MARGIN of a recipe word. -/
def rcpMargin (w : Word) : Nat := bitsOf w.toNat 8 3

/-- Validity of the recipe word of a kind (R57). -/
def rcpValid (kind : Nat) (w : Word) : Bool :=
  let f := rcpFmt w
  let bl := bitsOf w.toNat 4 2
  (1 ≤ f && f ≤ 8) &&
  (bl != 0 || !(isPair f)) &&
  (!(f == 6 || f == 7 || f == 8) || (bl == 0 && rcpMargin w == 0 && (rcpRound w == 0 || (f != 8 && rcpRound w == 1)))) &&
  (rcpRound w ≤ 1) &&
  (bl != 0 || rcpMargin w == 0) &&
  (kind != 3 || f == 8) &&
  (bitsOf w.toNat 11 21 == 0)

/-- The largest finite magnitude of values, as a non-zero dyadic magnitude, or none if all finite ones are zero. (Open points: assumption 41, DEDUCED.) -/
def amaxOf (vs : List Val) : Val :=
  vs.foldl (fun a v => match v with
    | .fin _ m e => if valLt a (.fin false m e) then .fin false m e else a
    | _ => a) (.fin false 0 0)

/-- Clamp an integer. -/
def clampInt (x lo hi : Int) : Int := max lo (min hi x)

/-- A block conversion (R59): scale byte, element codes, and number of saturations. `rnd i` gives the rounding of
element i of the block. (Open points: assumption 41, DEDUCED.) -/
def convBlock (w : Word) (rnd : Nat → Rounding) (vs : List Val) : Nat × List Nat × Nat :=
  let f := rcpFmt w
  if vs.any (fun v => v == .nan) || (f != 5 && vs.any (fun v => match v with | .inf _ => true | _ => false)) then
    (255, vs.map (fun _ => 0), 0)
  else
    let x : Int := match amaxOf vs with
      | .fin _ m e => if m = 0 then -127 else clampInt (magLog2 m e - (fmtInfo f).emax + rcpMargin w) (-127) 127
      | _ => -127
    let cs := vs.zipIdx.map fun (v, i) => fmtOf f (rnd i) (valScale v (-x))
    ((x + 127).toNat, cs.map Prod.fst, (cs.filter Prod.snd).length)

/-- Conversion of a row of elements under a recipe: codes, scale bytes (one for each 32 elements, R54, R90; none when
unscaled) and saturations. `rnd i` is the rounding of element i. -/
def convRow (w : Word) (rnd : Nat → Rounding) (vs : List Val) : List Nat × List Nat × Nat :=
  let b := rcpBlock w
  if b = 0 then
    let cs := vs.zipIdx.map fun (v, i) => fmtOf (rcpFmt w) (rnd i) v
    (cs.map Prod.fst, [], (cs.filter Prod.snd).length)
  else
    (chunks b vs.length vs).zipIdx.foldl (fun acc (c, k) =>
      let (sc, cs, n) := convBlock w (fun i => rnd (k * b + i)) c
      (acc.1 ++ cs, acc.2.1 ++ List.replicate (ceilDiv c.length 32) sc, acc.2.2 + n)) ([], [], 0)

/-- Pack element codes of a format into bytes (R90: FP4 two per byte, FP6 four per three bytes, low element first). -/
def packCodes (f : Nat) (cs : List Nat) : List Byte :=
  let w := (fmtInfo f).width
  leBytes ((cs.length * w) / 8) (cs.zipIdx.foldl (fun a (c, i) => a + c * 2 ^ (w * i)) 0)

/-- Unpack the `n` element codes of a format from bytes. -/
def unpackCodes (f n : Nat) (bs : List Byte) : List Nat :=
  let w := (fmtInfo f).width
  let x := leNat bs
  (List.range n).map fun i => bitsOf x (w * i) w

/-- Bytes of `n` elements of a format. -/
def fmtBytes (f n : Nat) : Nat := (n * (fmtInfo f).width) / 8

/-- The factor of an E8M0 scale byte, or none for NaN (R53). -/
def scaleExp (c : Nat) : Option Int := if c = 255 then none else some ((c : Int) - 127)

/-- An element decoded under a scale byte (R53). -/
def scaledVal (v : Val) (c : Nat) : Val :=
  match scaleExp c with
  | none => .nan
  | some x => valScale v x

end Sys2Proof.Machine
end

