-- ==== Sys2Proof/Machine/Types.lean ====
section
/-! DEFINITION. The plain data that State is made of: memory, frames, beams, Garnets, schedules, windows, Shale tags,
coherence. -/
namespace Sys2Proof.Machine

/-! ### Memory (09:R188; assumptions 5, 6). -/

/-- A range [lo, hi) whose contents were lost; its unlisted bytes read as free bytes under the tag. -/
structure Lost where
  /-- first address -/
  lo : Nat
  /-- one past the last address -/
  hi : Nat
  /-- tag of the loss -/
  tag : Nat
deriving DecidableEq, Repr

/-- Memory: the listed bytes, addresses strictly rising, and the lost ranges, newest first. -/
structure Memory where
  /-- listed bytes -/
  cells : List Host.Cell
  /-- lost ranges, newest first -/
  lost : List Lost
deriving DecidableEq, Repr

/-- The tag of a Shale row (08:R174, 16:R381). -/
structure RowTag where
  /-- WRITTEN -/
  written : Bool
  /-- WRITER -/
  writer : Nat
  /-- NZ -/
  nz : Bool
  /-- a parity error stands in the tag -/
  parity : Bool
deriving DecidableEq, Repr

/-- Who reads or writes memory, for 08:R181 and R182. -/
structure Agent where
  /-- KIND of SHL_UE_SRC -/
  kind : Nat
  /-- identity byte of the requesting die -/
  die : Nat
deriving DecidableEq, Repr

/-! ### Schedule descriptors (06:R140-R145). -/

/-- LOAD (06:R141). -/
structure LoadDesc where
  slot : Nat
  fmt : Nat
  scaled : Bool
  src : Nat
  turn : Bool
  addr : Nat
  scaleAddr : Nat
  rowMask : Nat
  colMask : Nat
deriving DecidableEq, Repr

/-- PASS (06:R142). -/
structure PassDesc where
  slot : Nat
  fmt : Nat
  src : Nat
  turn : Bool
  maskSmooth : Bool
  scaled : Bool
  splitScale : Bool
  addr : Nat
  scaleAddr : Nat
  stride : Nat
  w : Nat
  outTag : Nat
deriving DecidableEq, Repr

/-- GAP (06:R142). -/
structure GapDesc where
  smooth : Bool
  g : Nat
deriving DecidableEq, Repr

/-- TILE (06:R143). -/
structure TileDesc where
  entry : Nat
  acc : Nat
  rowsLog2 : Nat
  baseKib : Nat
deriving DecidableEq, Repr

/-- OUTPUT (06:R143). -/
structure OutputDesc where
  entry : Nat
  outMode : Nat
  topkK : Nat
  scaleT : Word
  auxStride : Nat
  colscaleAddr : Nat
  biasAddr : Nat
  auxAddr : Nat
  act : Nat
  auxFn : Nat
  auxFmt : Nat
  kind : Nat
  stashKind : Nat
  colBase : Nat
  dst : Nat
  dstScale : Nat
  dstStride : Nat
  site : Nat
  stashDst : Nat
  stashScale : Nat
  stashStride : Nat
  stashSite : Nat
deriving DecidableEq, Repr

/-- GARNET (06:R144). -/
structure GarnetDesc where
  op : Nat
  causal : Bool
  xFmt : Nat
  gFmt : Nat
  kind : Nat
  rows : Nat
  len : Nat
  maskOff : Int
  tau : Word
  eps : Word
  xAddr : Nat
  xStride : Nat
  gStride : Nat
  gAddr : Nat
  gammaAddr : Nat
  betaAddr : Nat
  statBase : Nat
  tag : Nat
  site : Nat
  dst : Nat
  dstStride : Nat
  dstScale : Nat
  pgradDst : Nat
deriving DecidableEq, Repr

/-- SEND (06:R145). -/
structure SendDesc where
  mica : Bool
  epoch : Nat
  micaFmt : Nat
  srcAddr : Nat
  bytes : Nat
  xferId : Nat
  dest : Nat
  port : Nat
  hold : Nat
deriving DecidableEq, Repr

/-- RECV (06:R145). -/
structure RecvDesc where
  dstAddr : Nat
  bytes : Nat
  xferId : Nat
  source : Nat
  port : Nat
  slack : Nat
deriving DecidableEq, Repr

/-- MOVE (06:R145). -/
structure MoveDesc where
  srcAddr : Nat
  dstAddr : Nat
  bytes : Nat
  doneIn : Nat
deriving DecidableEq, Repr

/-- BARRIER (06:R145). -/
structure BarrierDesc where
  number : Nat
  final : Bool
deriving DecidableEq, Repr

/-- What a descriptor asks for. -/
inductive DescBody where
  | load (d : LoadDesc)
  | pass (d : PassDesc)
  | gap (d : GapDesc)
  | tile (d : TileDesc)
  | output (d : OutputDesc)
  | garnet (d : GarnetDesc)
  | send (d : SendDesc)
  | recv (d : RecvDesc)
  | move (d : MoveDesc)
  | barrier (d : BarrierDesc)
deriving DecidableEq, Repr

/-- A descriptor: its length in 16-byte units, its AT and its body (06:R140). -/
structure Desc where
  units : Nat
  time : Nat
  body : DescBody
deriving DecidableEq, Repr

/-- One variant: nine streams and PLAN_CYC (06:R123, R139). -/
structure Variant where
  streams : List (List Desc)
  plan : Nat
deriving DecidableEq, Repr

/-- A loaded schedule image (06:R138). -/
structure Image where
  sections : Nat
  classes : Nat
  peerMask : Nat
  shares : List Nat
  classTokens : List Nat
  /-- variant of section s and class c at s × CLASSES + c -/
  variants : List Variant
  /-- address and length of the image in Shale -/
  addr : Nat
  bytes : Nat
deriving DecidableEq, Repr

/-! ### Frames (02, 04, 05). -/

/-- One streaming wavefront: element codes in K order and group scale bytes. -/
structure Wave where
  elems : List Nat
  scales : List Nat
deriving DecidableEq, Repr

/-- What has been fetched for a LOAD or a PASS (02:R30, R31; 06:R130). A PASS has a lane for each wavefront that some row has yet to
deliver, with a word for each row, DATA and XS; a LOAD has one for each column, with its load words. A lane's words stand in the
order in which they are fetched. A turned descriptor first fills its transpose buffer: stored vectors, and their scale bytes
(05:R103). -/
structure Fetch where
  lanes : List (List Word)
  src : List (List Nat × List Nat)
deriving DecidableEq, Repr

/-- Nothing fetched. -/
def Fetch.empty : Fetch := ⟨[], []⟩

/-- What has been fetched for a LOAD or PASS that has yet to act: run number of its window, the descriptor, the words. -/
structure Ahead where
  run : Nat
  body : DescBody
  got : Fetch
deriving DecidableEq, Repr

/-- What the beam decided on a wavefront when its column 0 entered (04:R80-R82): taken, refused by the entry's state,
or beyond the rows. -/
inductive Verdict where
  | taken | refused | overrun
deriving DecidableEq, Repr

/-- A pass in the array (02:R24-R29): its descriptor, the slot's format and masks, the age of the frame in its first issue
cycle, what the feeders have fetched of it, and what the beam has had of it. -/
structure PassRec where
  desc : PassDesc
  statFmt : Nat
  rowMask : Nat
  colMask : Nat
  start : Nat
  got : Fetch
  /-- wavefronts delivered in each column -/
  done : Tab Nat
  /-- decision on each wavefront, oldest first -/
  verdicts : List Verdict
deriving DecidableEq, Repr

/-- A wavefront as the feeders issue it in one issue cycle (02:R27, R28): the pass, by the age of its first issue cycle, the
number of the wavefront, and what its row words and its sideband are formed from. `half` is H; `smooth` says that masked rows
issue dummies. -/
structure WaveSlot where
  start : Nat
  k : Nat
  slot : Nat
  fmt : Nat
  half : Bool
  first : Bool
  last : Bool
  outTag : Nat
  rowMask : Nat
  smooth : Bool
deriving DecidableEq, Repr

/-- What the feeders issue in one issue cycle: a wavefront, a dummy in every row, or plain bubbles (02:R27, R34). -/
inductive IssueSlot where
  | bubble
  | dummy
  | wave (w : WaveSlot)
deriving DecidableEq, Repr

/-- What a row keeps of the words issued into it (02:R35): format and DATA of its last operand, its most recent S, and
whether its next dummy inverts the signs. -/
structure RowReg where
  fmt : Nat
  data : Nat
  s : Nat
  flip : Bool
deriving DecidableEq, Repr

/-- A row that has issued nothing since frame reset: operand +0 (02:R35). -/
def RowReg.zero : RowReg := ⟨4, 0, 0, false⟩

/-- What a frame is issuing (02:R37): a pass from a slot or a gap; issue cycles left, issue cycles of the whole. -/
inductive Issue where
  | idle
  | pass (slot left total : Nat) (turn : Bool)
  | gap (left : Nat) (dummy : Bool)
deriving DecidableEq, Repr

/-- A load (02:R24-R26, R31, R32): its descriptor, the age of its cycle L, whether its 256 cycles are over and its slot is
HELD, and the load words of each column. It stays until its last column has latched, at L + 510. -/
structure LoadRec where
  desc : LoadDesc
  start : Nat
  held : Bool
  got : Fetch
deriving DecidableEq, Repr

/-- An accumulation in the beam's pipeline (04:R83): the age from which it can be read, address and bytes of the element, and
whether the word that holds it met an uncorrectable error, so that a part of it is not written. -/
structure Accum where
  due : Nat
  addr : Nat
  code : Nat
  wide : Bool
  lost : Bool
deriving DecidableEq, Repr

/-- A record of Garnet's side memory (05:R112). -/
structure SideRec where
  stat0 : Word
  stat1 : Word
  tag : Nat
  opf : Nat
  nonfinite : Bool
  emptyRow : Bool
  row : Nat
deriving DecidableEq, Repr

/-- What a GARNET descriptor holds of a row between its passes: the statistics so far, the backward coefficients D, or a and b
(05:R114), whether the row is non-finite or empty (R115), and whether its record cannot be used (R116). -/
structure GntRow where
  st : Val × Val
  coef : Val × Val
  bad : Bool
  empty : Bool
  skip : Bool
deriving DecidableEq, Repr

/-- A GARNET descriptor in progress (05:R117): cycles run, γ and β, the exact sums of its parameter gradients, the chunks of x
and of the upstream gradient read of the row under way, what it holds of each row, and what it has yet to write: row records
and outputs by the cycle of the run in which they are due. -/
structure GntRun where
  desc : GarnetDesc
  t : Nat
  gamma : List Val
  beta : List Val
  dgamma : List Val
  dbeta : List Val
  xs : List Val
  gs : List Val
  rows : List GntRow
  /-- saturations of the row under way in the last pass, and whether one of its outputs is not finite -/
  sat : Nat
  nf : Bool
  /-- forward records: cycle, record number, record -/
  recs : List (Nat × Nat × SideRec)
  /-- output chunks: cycle, row, chunk, element codes and scale bytes of the chunk -/
  chunks : List (Nat × Nat × Nat × List Nat × List Nat)
  /-- what each finished row adds to the counters: cycle, saturations, and whether it is non-finite -/
  tails : List (Nat × Nat × Bool)
deriving DecidableEq, Repr

/-- A tile waiting to drain or draining (04:R92): entry, rows, the age of its cycle D, whether it has started, its program,
s[j] and b[j], cycles run, and the rows and records on their way to their writes. -/
structure Drain where
  entry : Nat
  rows : Nat
  d : Nat
  started : Bool
  prog : Option OutputDesc
  sv : List Val
  bias : List Val
  t : Nat
  /-- accumulators read and not yet written out: row, values -/
  held : List (Nat × List Val)
  /-- top-k records not yet written: row, bytes, whether one of its values is non-finite -/
  recs : List (Nat × List Byte × Bool)
deriving DecidableEq, Repr

/-- The state of a logical frame that no register holds. -/
structure Frame where
  /-- slot contents, heaven then earth: element codes of each column in K order -/
  tileH : List (List Nat)
  tileE : List (List Nat)
  /-- stationary scale bytes of each column -/
  tsclH : List (List Nat)
  tsclE : List (List Nat)
  /-- loads whose words are in the array, oldest first -/
  loads : List LoadRec
  issue : Issue
  /-- passes in the array, oldest first -/
  passes : List PassRec
  /-- cycles in which the feeders have moved -/
  age : Nat
  /-- what has been fetched for the descriptors to come, in stream order -/
  ahead : List Ahead
  /-- row words that miss their issue cycle: row, and the age at which row i issues them (02:R30) -/
  absent : List (Nat × Nat)
  /-- the latest issue slots, newest first: row i issues the one i places back (02:R29) -/
  trail : List IssueSlot
  /-- what each row keeps, row 0 first; a row not listed has issued nothing -/
  rows : List RowReg
  /-- the aligned window of 16 cycles that the frame last moved in, and the issue cycles used in it (02:R33) -/
  used16 : Nat × Nat
  /-- touched mask of each tile entry (04:R84) -/
  touched : Tab Nat
  /-- the OUTPUTs of each tile entry that may still be the program of its next drain, latest first, with the age at which
  each was consumed (04:R86, R87) -/
  progs : Tab (List (OutputDesc × Nat))
  /-- tiles waiting to drain, or draining, in order of their cycle D -/
  drains : List Drain
  /-- accumulations in the pipeline, oldest first -/
  pipe : List Accum
  /-- age of the cycle after the last read of the most recent drain -/
  readEnd : Nat
  /-- Garnet's side memory -/
  side : Tab SideRec
  /-- 64-bit side-memory words holding an error, two to a record: true is uncorrectable -/
  sideErr : Tab Bool
  /-- GARNET descriptors in progress: the writes of one may still issue while the next reads (05:R117) -/
  gnt : List GntRun
deriving DecidableEq, Repr

/-- A frame as a frame reset leaves it (02:R42, 04:R95, 05:R119). -/
def Frame.empty : Frame :=
  { tileH := [], tileE := [], tsclH := [], tsclE := [], loads := [], issue := .idle, passes := [], age := 0,
    ahead := [], absent := [], trail := [], rows := [], used16 := (0, 0), touched := [], progs := [], drains := [], pipe := [], readEnd := 0,
    side := [], sideErr := [], gnt := [] }

/-! ### Windows and runs (06). -/

/-- A SEND of an open window; `ready` is the arithmetic cycle from which its data may leave, T_send of 06:R133. -/
structure SendRec where
  desc : SendDesc
  time : Nat
  credit : Bool
  ready : Option Nat
  read : Bool
  holding : Bool
deriving DecidableEq, Repr

/-- A RECV of an open window. -/
structure RecvRec where
  desc : RecvDesc
  time : Nat
  complete : Bool
  holding : Bool
  /-- format and bytes of the Mica blocks decoded so far (12:R283) -/
  fmt : Option Nat
  got : Nat
deriving DecidableEq, Repr

/-- A MOVE of an open window. -/
structure MoveRec where
  desc : MoveDesc
  time : Nat
  complete : Bool
  holding : Bool
deriving DecidableEq, Repr

/-- An open window (06:R124-R137). -/
structure Window where
  /-- identifier of the run that opened it -/
  run : Nat
  /-- TAG and BATCH_ID of the run (06:R148) -/
  tag : Nat
  batch : Nat
  /-- the nine streams as they were at the opening, and what is left of them -/
  all : List (List Desc)
  streams : List (List Desc)
  sends : List SendRec
  recvs : List RecvRec
  moves : List MoveRec
  /-- status of the pending fault, if one is pending -/
  fault : Option Nat
  /-- a peer stop notice has arrived -/
  notice : Bool
  /-- the FINAL barrier has been reached and waits (06:R127) -/
  finalWait : Bool
  /-- status of a window that stops and waits for the work already issued (06:R128) -/
  stop : Option Nat
  /-- consecutive stall cycles up to now -/
  stallRun : Nat
  /-- cycles until every write issued in the window is readable (06:R127, R130) -/
  readable : Nat
deriving DecidableEq, Repr

/-- The schedule state of a Gabbro that no register holds. -/
structure Sched where
  image : Option Image
  win : Option Window
deriving DecidableEq, Repr

/-- Transfer data under way (06:R134, R135): identity byte of the source, port, destination Gabbro
ordinal, identifier, run number, bytes. -/
structure Xfer where
  source : Nat
  port : Nat
  dest : Nat
  xferId : Nat
  runNo : Nat
  data : List Byte
deriving DecidableEq, Repr

/-- Credit granted by a RECV (06:R134; 07:R159): sender's Gabbro ordinal, identifier, run number, the RECV's BYTES,
whether it came over a cable, and whether it has arrived. -/
structure Credit where
  dest : Nat
  xferId : Nat
  runNo : Nat
  bytes : Nat
  cable : Bool
  arrived : Bool
deriving DecidableEq, Repr

/-- How one Gabbro of a run stands. -/
inductive RunPart where
  | waiting
  | opened
  | ended (status time stalls : Nat)
deriving DecidableEq, Repr

/-- Where a command came from: a queue (64 is the relay queue of 15:R368), and its SEQ. -/
structure Src where
  queue : Fin 65
  seq : Word
deriving DecidableEq, Repr

/-- An accepted SCH_RUN (06:R148). -/
structure Run where
  id : Nat
  src : Src
  pkt : List Byte
  mask : Nat
  section_ : Nat
  tokens : Nat
  tag : Nat
  batch : Nat
  /-- class selected on its lowest Gabbro (06:R147, R148) -/
  cls : Nat
  parts : Tab RunPart
deriving DecidableEq, Repr

end Sys2Proof.Machine
end

