-- ==== Sys2Proof/Machine/TypesCmd.lean ====
section
/-! DEFINITION. The plain data of coherence, commands, sessions, the pod, health and replay, the recorder, resets and
power that State is made of. -/
namespace Sys2Proof.Machine

/-! ### Coherence (09:R194-R208). -/

/-- Die-level cache states (09:R194); Invalid is no entry. -/
inductive CState where
  | m | e | s | f
deriving DecidableEq, Repr

/-- A line held by a Gneiss. -/
structure CacheLine where
  st : CState
  data : List Byte
deriving DecidableEq, Repr

/-- The levels of a Gneiss's caches that hold a line: one bit for each L2, and the last-level cache (09:R193). -/
structure LineAt where
  l2 : Nat
  llc : Bool
deriving DecidableEq, Repr

/-- A directory entry (09:R195); `seq` orders allocations in a set. -/
structure DirEnt where
  /-- the owner, for OWNED -/
  owner : Option Nat
  /-- presence mask by Gneiss ordinal, for SHARED -/
  mask : Nat
  /-- forwarder, for SHARED -/
  fwd : Option Nat
  /-- allocation order -/
  seq : Nat
deriving DecidableEq, Repr

/-- A path barrier in progress (09:R207): home die, address, the hart or the command that waits, and the dies whose
markers cannot reach the home. -/
structure PathBar where
  id : Nat
  home : Nat
  addr : Nat
  hart : Option Nat
  cmd : Option Nat
  missing : List Nat
deriving DecidableEq, Repr

/-! ### Commands taken whose reply is still to be written (15:R349, R351). -/

/-- A firmware command of R463 that waits for its turn. -/
inductive FwCall where
  | opn (addr : DWord)
  | data (offset addr : DWord) (len : Word)
  | commit (bad : List (Fin 9))
  | abort
  | activate (mode : Byte)
  | status
deriving DecidableEq, Repr

/-- What a taken command waits for. -/
inductive Wait where
  /-- SCH_RUN: the run -/
  | run (id : Nat)
  /-- SCH_STEP: MODE and STEP; the runs accepted before it -/
  | step (mode : Nat) (step : Nat) (runs : List Nat)
  /-- DEV_WARM_RESET: the runs accepted before it -/
  | warm (runs : List Nat)
  /-- FW_ACTIVATE with MODE NOW: the runs accepted before it -/
  | fwNow (runs : List Nat)
  /-- FW_ACTIVATE with MODE STEP -/
  | fwStep
  /-- FW_CLOSE COMMIT: dies still preloading -/
  | fwCommit
  /-- a firmware command accepted while a COMMIT waits (20:R458) -/
  | fwTurn (call : FwCall)
  /-- DIE_REJOIN of a die -/
  | rejoin (die : Nat)
  /-- DEV_STATE_SET: the state, and whether an exit to RUN follows its entry at once (18:R428) -/
  | state (st : Nat) (back : Bool)
  /-- SHL_WELL_ARM: Gabbro ordinal and entries -/
  | wellArm (g : Nat) (mask : Nat)
  /-- a Shale command of Gabbro ordinal g that waits behind a SHL_WELL_ARM -/
  | shale (g : Nat)
  /-- MEM_PATH_BARRIER: the barrier -/
  | barrier (id : Nat)
  /-- RING_CFG, RING_RS, RING_AG of a slot -/
  | ring (slot : Nat)
  /-- UPD_RUN -/
  | upd
  /-- MICA_TABLE_RETIRE of an epoch -/
  | micaRetire (epoch : Nat)
  /-- LINK_CFG or LINK_TRAIN: ports still training -/
  | linkTrain (ports : List Nat)
  /-- PCIE_HOT_RESET or PCIE_CFG: the PCIe link -/
  | pcie
deriving DecidableEq, Repr

/-- A command taken and not yet answered. -/
structure Taken where
  id : Nat
  src : Src
  op : Nat
  pkt : List Byte
  /-- parameter block that the command read, for its COMMAND record (16:R388) -/
  app : List Byte
  /-- the packet runs as a pod packet: its status goes into a report (15:R369) -/
  pod : Bool
  /-- TAKE of the packet, 0 for one taken while the replay log did not run (16:R387) -/
  take : Nat
  /-- die of the Schist that took it (15:R351) -/
  schist : Nat
  wait : Wait
deriving DecidableEq, Repr

/-! ### Sessions (15:R357-R366). -/

/-- What a session holds besides its registers. -/
structure Ses where
  /-- session key Ks -/
  ks : List Byte
  /-- highest counter accepted, and those accepted within 64 below it -/
  rxHigh : Nat
  rxSeen : List Nat
  /-- last counter sent -/
  tx : Nat
  /-- management port of the last accepted message -/
  port : Nat
  /-- LEASE_MS for the lease period that follows the present one (15:R371) -/
  nextLease : Nat
  /-- arithmetic cycles of recent dropped messages, newest first (15:R357) -/
  drops : List Nat
  /-- DETACHED, and no SCH_STEP in mode ADVANCE has completed since (15:R364) -/
  armed : Bool
deriving DecidableEq, Repr

/-- A half-open session (15:R358). -/
structure HalfOpen where
  sid : Nat
  slot : Nat
  resume : Bool
  policy : Nat
  queues : Nat
  lease : Nat
  hostNonce : List Byte
  devNonce : List Byte
  port : Nat
deriving DecidableEq, Repr

/-! ### Pod (15:R367-R370). -/

/-- The pod table and this member's place in it. -/
structure Pod where
  /-- MODULE_ID and PARENT of each entry -/
  entries : List (Nat × Nat)
  me : Nat
  depth : Nat
deriving DecidableEq, Repr

/-- A pod packet on the relay queue, or one that waits to go to the children (15:R368): identifier of its `PodCmd`, the packet, and
what its relay frames carry it by: the pod table in force and POD_TIMEOUT of the root. -/
structure RelayPkt where
  id : Nat
  pkt : List Byte
  pod : Pod
  timeout : Nat
deriving DecidableEq, Repr

/-- A report of a member: FAIL_MASK, status and index of the lowest failing member, members whose status is OK. -/
structure PodRep where
  failMask : Nat
  status : Nat
  index : Nat
  ok : Nat
deriving DecidableEq, Repr

/-- A pod packet whose report this member still owes (15:R369). (Open points: assumption 27, DESIGN CHOICE.) -/
structure PodCmd where
  id : Nat
  /-- the pod table in force when the packet was relayed -/
  pod : Pod
  /-- on the root, the command as it was taken -/
  root : Option Taken
  /-- own reply status, once held -/
  own : Option Nat
  /-- reports of children, by member index -/
  reps : Tab PodRep
  /-- POD_TIMEOUT of the root in ms -/
  timeout : Nat
deriving DecidableEq, Repr

/-! ### Health and replay (16). -/

/-- One watch entry (16:R382). -/
structure Watch where
  addr : Nat
  lines : Nat
  tensor : Nat
deriving DecidableEq, Repr

/-- A HEALTH_CFG waiting for the next sample (16:R384). -/
structure HltPend where
  flags : Nat
  silentThr : Nat
  ratio : Word
  lossAddr : Nat
  alpha : Word
  meanInit : Word
  warmup : Nat
  watch : List Watch
deriving DecidableEq, Repr

/-- Health state that no register holds. -/
structure Health where
  lossAddr : Nat
  warmup : Nat
  warmLeft : Nat
  watch : List Watch
  /-- previous reading of each counter, by its address (16:R376) -/
  prev : Tab Nat
  pend : List HltPend
  /-- SCH_HLT_ERR bits that the last sample set (16:R387) -/
  set_ : Nat
deriving DecidableEq, Repr

/-- Replay-log state that no register holds (16:R385-R387). -/
structure Replay where
  /-- packets taken and numbered -/
  take : Nat
  /-- those taken before the reply of the last START -/
  first : Nat
  /-- records lost since the last LOST record -/
  lost : Nat
  /-- records held while LPDDR6 is in self-refresh: type and content -/
  held : List (Nat × List Byte)
deriving DecidableEq, Repr

/-! ### The recorder (19). -/

/-- A record accepted and waiting for flash: source, uptime in µs, its 256 bytes less SEQ, FLAGS and CRC, and whether
it is committed ahead of all others (19:R437, R440). -/
structure PendRec where
  source : Nat
  uptime : Nat
  bytes : List Byte
  first : Bool
  holdup : Bool
deriving DecidableEq, Repr

/-- Rate state of a source (19:R438). -/
structure SrcRate where
  /-- uptime in µs of the last accepted event, if there was one -/
  last : Option Nat
  /-- events not accepted since then -/
  suppressed : Nat
deriving DecidableEq, Repr

/-- Recorder state that no register holds. -/
structure Strata where
  /-- flash slots: 256 bytes each, erased slots absent -/
  store : Tab (List Byte)
  slice : List PendRec
  rates : Tab SrcRate
  /-- staged low half of the cursor (19:R442) -/
  staged : Option Word
  /-- uptime in µs at which the freeze ends -/
  freezeEnd : Nat
  /-- events suppressed during the freeze -/
  freezeSupp : Nat
  /-- accepted records lost since the last 0xF8 record, and whether LOST_BEFORE is owed -/
  lostSince : Nat
  lostFlag : Bool
  /-- quadrants of the sources whose slices lost a record and have not drained since (19:R439) -/
  spilled : List Nat
  /-- SEQs of records whose write a loss of power cut short (19:R437), in flash -/
  torn : List Nat
deriving DecidableEq, Repr

/-! ### Outputs (assumption 2). -/

/-- The kinds of a hart's access: a store takes in the AMOs (09:R189). (Open points: assumption 79, DESIGN CHOICE.) -/
inductive HartAccess where
  | fetch | load | store
deriving DecidableEq, Repr

/-- What the block puts on its links, its pins, and back to the agents that asked. (Open points: assumption 2, DESIGN CHOICE; assumption 58, DESIGN CHOICE; assumption 79, DESIGN CHOICE.) -/
inductive Out where
  /-- a reply written at RPL_TAIL of a queue: queue, 32 bytes (15:R343) -/
  | reply (queue : Nat) (bytes : List Byte)
  /-- a management message: port, header, BODY and TAG (15:R355) -/
  | mgmt (port : Nat) (bytes : List Byte)
  /-- a hart's load, atomic or barrier answer: hart, value -/
  | hart (id : Nat) (value : Nat)
  /-- a RISC-V access fault of a hart's fetch, load, or store or AMO (09:R189) -/
  | hartFault (id : Nat) (kind : HartAccess)
  /-- data to a requesting Gneiss: Gneiss ordinal, state it ends in, line bytes -/
  | line (gneiss : Nat) (st : Option CState) (data : List Byte)
  /-- a snoop or invalidation to a Gneiss for a line -/
  | snoop (gneiss line : Nat) (inval : Bool)
  /-- a link frame on a cable port: kind, SEQ and the whole frame -/
  | frame (port kind seq : Nat) (bytes : List Byte)
  /-- a received Mica block decoded into its elements: port, bytes -/
  | block (port : Nat) (bytes : List Byte)
  /-- an answer on PCIe or RoCE: kind and payload -/
  | io (kind : Nat) (bytes : List Byte)
  /-- an interrupt to a hart -/
  | irq (hart : Nat)
  /-- a register value read: address, value -/
  | reg (addr : Nat) (value : Word)
  /-- a budget message (14:R336): die, 16 bytes -/
  | budget (die : Nat) (bytes : List Byte)
  /-- bytes of an I3C read -/
  | i3c (bytes : List Byte)
  /-- an I3C in-band interrupt -/
  | ibi
  /-- bits on JTAG_TDO -/
  | jtag (value : Nat)
  /-- a pin driven: name, level -/
  | pin (name : Nat) (level : Bool)
deriving DecidableEq, Repr

end Sys2Proof.Machine
end

