-- ==== Sys2Proof/Syntax.lean ====
section
/-! DEFINITION. The commands of the block, one constructor for each row of spec/opcode_table.json, with the operands
that the rows' rules give them: parameters of command packets, messages, and what the surroundings supply (sensor
readings, errors found, frames received). -/
namespace Sys2Proof
open Sys2Proof.Machine

/-- What has happened in the stores since the last command: an error in stored memory that the next read meets (08:R178,
R181; 04:R94, R496), a parity error in the tag of a well row (08:R176), a store of a Gneiss's hart into a line that its
die holds in E or M, the eviction of a line held in S, and a move of a line among the levels of a die's caches (its L2s,
one bit each, and its last-level cache), none of which reaches a home (09:R193, R194). (Open points: assumption 77,
DESIGN CHOICE.) -/
inductive Before where
  | upset (addr : Nat) (uncorrectable : Bool)
  | parity (addr : Nat)
  | store (hart : Fin 256) (addr : Nat) (bytes : List Byte)
  | evict (c : Fin 8) (addr : Nat)
  | level (c : Fin 8) (addr : Nat) (l2 : Byte) (llc : Bool)
deriving DecidableEq, Repr

/-- The AMOs of the RISC-V A extension (09:R201). -/
inductive AmoOp where
  | swap | add | xor | and | or | min | max | minu | maxu
deriving DecidableEq, Repr

/-- The request that a home snooped for when the write-back of a line crossed its snoop (09:R198): a line for a core of a
Gneiss, an NcRd, an NcWr, or a FarAtomic. -/
inductive Crossing where
  | line (q : Fin 8) (core : Fin 32)
  | read (die : Fin 64) (core : Fin 32) (agent : Byte) (addr len : Nat)
  | write (die : Fin 64) (core : Fin 32) (agent : Byte) (addr : Nat) (data : List Byte)
  | atomic (q : Fin 8) (core : Fin 32) (addr : Nat) (amo : AmoOp) (wide : Bool) (operand : DWord)
deriving DecidableEq, Repr

/-- What a boot finds (14:R318, R324-R327; 18:R424; 20:R453): dies that do not answer, dies whose fuse CRC fails, seams
that report a wrong identity, lanes that fail (receiving die, seam, lane: 0-63 data, 64-67 spares P0-P3, 68-69 clocks K0-K1), and firmware parts whose verification fails
(set, KIND with 0 for header and manifest, die), copies of the security record whose tag for a Schist fails (copy, quadrant; 20:R451),
whether a reference is there (21:R489), and the level of the I3C pull-up (21:R485). -/
structure BootReport where
  silent : List (Fin 64)
  fuseBad : List (Fin 64)
  seamBad : List (Fin 64 × Fin 16)
  lanes : List (Fin 64 × Fin 16 × Fin 70)
  partBad : List (Bool × Fin 9 × Fin 64)
  recBad : List (Bool × Fin 4)
  reference : Bool
  i3c18 : Bool
deriving DecidableEq, Repr

/-- What the other members of a closing level contribute: their flags, the non-finite flag and repass count their
verdicts carry, their retried blocks, and the extreme norms of their shards (10:R230-R237). -/
structure RingVote where
  flags : Byte
  nonfinite : Nat
  repassed : Nat
  retried : Nat
  low : Nat
  high : Nat
  scale : Bool
deriving DecidableEq, Repr

/-- The IPv6 control messages a management port answers (15:R354). -/
inductive IcmpKind where
  | neighbourSolicit | echo | routerAdvert | other
deriving DecidableEq, Repr

/-- What a Mica block is part of (12:R283): a transfer by XFER_ID and run number, or a ring payload by its slot and the place
of the block in it. -/
inductive MicaPay where
  | transfer (id : Half) (runNo : Word)
  | ring (slot : Fin 8) (i : Fin 8)
deriving DecidableEq, Repr

/-- How a hart's access to the PCIe window ends (13:R309): with a completion, or not yet: PCIE_COMPLETION_TIMEOUT then ends
an access that none has come for. -/
inductive PcieEnd where
  | ok (data : List Byte)
  | unsupported
  | abort
  | waits
deriving DecidableEq, Repr

/-- How a training of the PCIe link ends, or that the link left the active state (13:R308, R313). -/
inductive PcieLink where
  | up (gen : Fin 8) (wide : Bool)
  | failed
  | left
deriving DecidableEq, Repr

/-- What a remote QP answers (13:R306). -/
inductive RoceRep where
  | ack
  | data (bytes : List Byte)
  | error
deriving DecidableEq, Repr

/-- An inbound request (13:R307): its kind, and what it writes or how much it reads. -/
inductive RoceReq where
  | send (data : List Byte)
  | write (data : List Byte)
  | read (len : Nat)
deriving DecidableEq, Repr

/-- A reading that trips the module (17:R410): a die's hottest sensor and that of its attached part, an inlet temperature,
or a flow held for 1 s. -/
inductive TripCause where
  | die (d : Fin 64) (hot attached : Half)
  | inlet (t : Half)
  | flow (rate : Half)
deriving DecidableEq, Repr

/-- A JTAG instruction with what is shifted through it (21:R488). -/
inductive JtagOp where
  | bypass (tdi : Nat)
  | idcode
  | other (code : Nat)
deriving DecidableEq, Repr

/-- The commands of the block: one constructor for each row of the table of operations and events. -/
inductive Instr where
  /-- DEV_INFO (R371): Command that returns module identity, floor, safe and hold state, Schist and session counts and the step number. -/
  | devInfo (src : Src)
  /-- DEV_NOP (R371): Command that does nothing and returns a status. -/
  | devNop (src : Src)
  /-- QUEUE_STATE (R371): Command that returns the indices, expected SEQ and enable state of one queue. -/
  | queueState (src : Src) (q : Byte)
  /-- POD_CFG (R367): Command that loads and checks a pod table and fixes this member's index and depth. -/
  | podCfg (src : Src) (addr : DWord)
  /-- POD_RELEASE (R371): POD_CFG with the RELEASE bit set, which releases the pod table. -/
  | podRelease (src : Src)
  /-- RCP_SET (R58): Command that stages recipe words and the seed, to take effect at the next step boundary or at once when no schedule runs. -/
  | rcpSet (src : Src) (mask : Byte) (seedValid : Bool) (words : List Word) (seed : DWord)
  /-- DIE_RESET (R338): Command that fences a die and holds it in reset. -/
  | dieReset (src : Src) (die : Byte)
  /-- DIE_REJOIN (R334): Command that releases a fenced die, trains its seams and restores its configuration. -/
  | dieRejoin (src : Src) (die : Byte)
  /-- DIE_REJOIN_COMPLETE (R334): A rejoin reaches RUNNING, or fails or times out at 100 ms, and its reply is written. -/
  | dieRejoinComplete (die : Fin 64) (ok : Bool) (lanes : List (Fin 64 × Fin 16 × Fin 70))
  /-- DEV_WARM_RESET (R421): Command accepted that waits as SCH_STEP does before it performs a warm reset. -/
  | devWarmReset (src : Src)
  /-- WARM_RESET (R421): After the wait, the reply is written and boot steps 4 to 9 run, keeping sessions and recorder state. -/
  | warmReset (rep : BootReport)
  /-- FRAME_RESET (R431): Command that resets the selected logical frames of one Gabbro. -/
  | frameReset (src : Src) (die : Byte) (mask : Byte)
  /-- DEV_STATE_SET (R426): Command that moves the Lorsan among RUN, IDLE, HOLD and REST, waiting for windows and commands to end first. -/
  | devStateSet (src : Src) (st : Byte)
  /-- SCH_LOAD (R146): Command that validates a schedule image in Shale, loads it and returns its hash. -/
  | schLoad (src : Src) (die : Byte) (addr : DWord) (len : Word)
  /-- SCH_UNLOAD (R147): Command that unloads the schedule image of a Gabbro. -/
  | schUnload (src : Src) (die : Byte)
  /-- SCH_RUN (R148): Command that selects a length class and queues a run of one section on the named Gabbros. -/
  | schRun (src : Src) (mask : Half) (sec : Byte) (tokens : Word) (tag : Half) (batch : DWord)
  /-- SCH_STEP_ADVANCE (R149): SCH_STEP in mode ADVANCE, accepted and waiting under R129. -/
  | schStepAdvance (src : Src) (step : DWord)
  /-- STEP_BOUNDARY (R129): Once the ADVANCE wait is met and the checks pass, the step number increases, wells arm, recipes and staged firmware take effect; `written`: the record write of an activation succeeds. -/
  | stepBoundary (written : Bool)
  /-- SCH_STEP_REPEAT (R149): SCH_STEP in mode REPEAT, accepted and waiting as ADVANCE does. -/
  | schStepRepeat (src : Src) (step : DWord)
  /-- STEP_REPEAT_DONE (R149): After its wait, REPEAT arms every well and clears the failed mark of the step. -/
  | stepRepeatDone
  /-- SCH_STEP_SET (R149): SCH_STEP in mode SET, which replaces the step number and arms every well. -/
  | schStepSet (src : Src) (step : DWord)
  /-- SCH_ABORT (R149): Command that ends open windows at once, resets the frames, cancels transfers and discards pending runs. -/
  | schAbort (src : Src) (mask : Half)
  /-- SHL_REGION_SET (R173): Command that changes one entry of a Shale region table. -/
  | shlRegionSet (src : Src) (die : Byte) (entry : Byte) (word : Word)
  /-- SHL_WELL_ARM (R175): Command that arms the selected wells of a Shale once no window is open. -/
  | shlWellArm (src : Src) (die : Byte) (mask : Half)
  /-- SHL_FILL (R184): Command that writes a pattern over a Shale range on the bank-side path. -/
  | shlFill (src : Src) (die : Byte) (off : DWord) (bytes : Word) (pat : Word)
  /-- SHL_ERR_INJECT (R184): Command that corrupts the check bytes of one sector when debug is enabled. -/
  | shlErrInject (src : Src) (die : Byte) (off : DWord) (kind : Byte)
  /-- MEM_INTERLEAVE (R211): Command that changes the LPDDR6 interleave mode of quadrants and invalidates their cached copies. -/
  | memInterleave (src : Src) (quads : Byte) (mode : Byte) (ups : List Before)
  /-- MEM_PATH_BARRIER (R207): Command that performs a path barrier toward the home of an address. -/
  | memPathBarrier (src : Src) (addr : DWord)
  /-- RING_CFG (R222): Command that validates a ring record and exchanges configuration hellos with the cable peers of a slot. -/
  | ringCfg (src : Src) (slot : Byte) (addr : DWord)
  /-- RING_RS (R225): Command that runs the reduce-scatter of a ring slot for a step. -/
  | ringRs (src : Src) (slot : Byte) (step : DWord)
  /-- RING_AG (R243): Command that all-gathers working weights over a ring slot. -/
  | ringAg (src : Src) (slot : Byte) (step : DWord)
  /-- RING_RELEASE (R244): Command that releases the configuration of a ring slot. -/
  | ringRelease (src : Src) (slot : Byte)
  /-- UPD_CFG (R267): Command that copies an update configuration and its tensor tables into the Flints. -/
  | updCfg (src : Src) (addr : DWord)
  /-- UPD_COEF_SET (R258): Command that replaces selected coefficient rows for later UPD_RUNs. -/
  | updCoefSet (src : Src) (mask : DWord) (addr : DWord)
  /-- UPD_RUN (R263): Command that checks and then applies the optimiser to the shard and publishes the working weights. -/
  | updRun (src : Src) (step : DWord)
  /-- MICA_TABLE_LOAD (R291): Command that loads a decode table into a FREE epoch on all Feldspars and advertises it. -/
  | micaTableLoad (src : Src) (epoch : Byte) (addr : DWord)
  /-- MICA_TABLE_RETIRE (R290): Command that starts the retirement of an epoch. -/
  | micaTableRetire (src : Src) (epoch : Byte)
  /-- MICA_RETIRE_COMPLETE (R290): An epoch becomes FREE once every port has acknowledged and all reference counts are zero. -/
  | micaRetireComplete (epoch : Fin 4)
  /-- STRATA_INFO (R446): Command that returns the recorder's NEWEST, count, GEN and freeze state. -/
  | strataInfo (src : Src)
  /-- STRATA_FREEZE (R444): Command that freezes the recorder for a number of seconds. -/
  | strataFreeze (src : Src) (seconds : Half)
  /-- STRATA_THAW (R445): Command that ends a freeze at once. -/
  | strataThaw (src : Src)
  /-- STRATA_SEEK (R443): Command that positions the cursor and copies records to memory. -/
  | strataSeek (src : Src) (mode : Byte) (seq : DWord) (count : Half) (dest : DWord)
  /-- REPLAY_CFG_START (R390): REPLAY_CFG operation START, which opens a log region and writes the START record. -/
  | replayCfgStart (src : Src) (flags : Byte) (base : DWord) (size : Word)
  /-- REPLAY_CFG_STOP (R390): REPLAY_CFG operation STOP, which stops the replay log. -/
  | replayCfgStop (src : Src) (flags : Byte)
  /-- REPLAY_CFG_MARK (R390): REPLAY_CFG operation MARK, which writes a MARK record with user bytes. -/
  | replayCfgMark (src : Src) (flags : Byte) (user : List Byte)
  /-- HEALTH_CFG (R384): Command that sets the event, loss-detector and watch-table configuration for the next sample. -/
  | healthCfg (src : Src) (flags : Byte) (silentThr : Half) (ratio : Word) (lossAddr : DWord) (alpha : Word) (meanInit : Word) (warmup : Half) (watchAddr : DWord) (watchCount : Half)
  /-- FW_OPEN (R459): Command that checks a package header and manifest and starts receiving into the other set. -/
  | fwOpen (src : Src) (addr : DWord)
  /-- FW_DATA (R459): Command that feeds payload bytes into the parts of the staged set. -/
  | fwData (src : Src) (offset : DWord) (addr : DWord) (len : Word)
  /-- FW_CLOSE_COMMIT (R459): FW_CLOSE operation COMMIT, which completes the other set and preloads every die. -/
  | fwCloseCommit (src : Src) (bad : List (Fin 9))
  /-- FW_CLOSE_ABORT (R458): FW_CLOSE operation ABORT, which abandons staging or cancels an armed activation. -/
  | fwCloseAbort (src : Src)
  /-- FW_ACTIVATE (R460): Command that arms activation of the staged package at a step boundary or now. -/
  | fwActivate (src : Src) (mode : Byte)
  /-- FW_ACTIVATION (R461): At the activation point, the security record commits the new set and every die switches to its shadow image; `written`: the record write succeeds. -/
  | fwActivation (written : Bool)
  /-- DIE_PRELOAD_READY (R459): A die's shadow copy of the staged part verifies and the die becomes READY. -/
  | diePreloadReady (die : Fin 64)
  /-- FW_STATUS (R463): Command that returns the firmware update state and versions. -/
  | fwStatus (src : Src)
  /-- SES_INFO (R371): Command that returns the state of one session index. -/
  | sesInfo (src : Src) (idx : Byte)
  /-- SES_CLOSE (R366): Command that closes a session and discards its untaken packets. -/
  | sesClose (src : Src) (id : Word)
  /-- SES_LEASE_SET (R371): Command that changes a session's lease and policy. -/
  | sesLeaseSet (src : Src) (id : Word) (lease : Word) (policy : Byte)
  /-- SEC_KEY_SET (R466): SEC_KEY_SET operation SET, which writes a new host key derived from X. -/
  | secKeySet (src : Src) (slot : Byte) (x : BitVec 256)
  /-- SEC_KEY_CLEAR (R466): SEC_KEY_SET operation CLEAR, which empties a host-key slot. -/
  | secKeyClear (src : Src) (slot : Byte)
  /-- SEC_ATTEST (R465): Command that writes a signed attestation report and optionally the certificate. -/
  | secAttest (src : Src) (dest : DWord) (nonce : BitVec 256) (cert : Bool)
  /-- PWR_STATUS (R412): Command that returns input power, class, stage, limits, coolant and temperatures. -/
  | pwrStatus (src : Src)
  /-- PWR_CLASS_SET (R413): Command that selects a power class for the next grant interval. -/
  | pwrClassSet (src : Src) (cls : Byte)
  /-- PWR_LIMIT_SET (R413): Command that sets or removes LIMIT_W for the next grant interval. -/
  | pwrLimitSet (src : Src) (watts : Half)
  /-- LINK_CFG (R311): Command that sets the mode and identity checks of cable ports and trains them. -/
  | linkCfg (src : Src) (ports : BitVec 48) (mode : Byte) (ethRate : Byte) (flags : Byte) (netTag : Half) (expectId : DWord) (expectPort : Byte)
  /-- LINK_TRAIN (R311): Command that retrains the named cable ports. -/
  | linkTrain (src : Src) (ports : BitVec 48)
  /-- LINK_DOWN (R304): Command that takes ports down and disables their automatic retraining. -/
  | linkDown (src : Src) (ports : BitVec 48)
  /-- LINK_STATUS (R311): Command that returns the status, lane and peer registers of one port. -/
  | linkStatus (src : Src) (port : Byte)
  /-- PCIE_CFG (R311): Command that sets the PCIe generation and width and retrains the root port. -/
  | pcieCfg (src : Src) (maxGen : Byte) (width : Byte)
  /-- PCIE_HOT_RESET (R311): Command that hot-resets the PCIe link and waits for it to retrain. -/
  | pcieHotReset (src : Src)
  /-- ROCE_QP_CFG (R311): Command that configures a RoCEv2 queue pair on an Ethernet port. -/
  | roceQpCfg (src : Src) (port : Byte) (qpn : Half) (addr : DWord)
  /-- ROCE_MR_SET (R307): Command that sets one entry of the memory-region table. -/
  | roceMrSet (src : Src) (entry : Byte) (access : Byte) (tag : Byte) (base : DWord) (length : DWord)
  /-- PACKET_TAKE (R349): A Schist takes the next eligible packet of a queue in round robin and checks it. -/
  | packetTake (quad : Fin 4) (relay : Bool) (ups : List Before)
  /-- QUEUE_DOORBELL (R347): Write of a new TAIL to SCH_Q_DOORBELL, discarded on overrun. -/
  | queueDoorbell (q : Fin 64) (tail : Half)
  /-- QUEUE_RPL_DOORBELL (R347): Write of a new RPL_HEAD to SCH_Q_RPL_DOORBELL, discarded if it passes RPL_TAIL. -/
  | queueRplDoorbell (q : Fin 64) (head : Half)
  /-- QUEUE_ENABLE (R346): Write of ENABLE 1 to SCH_Q_CFG, which zeroes the indices when the depth is legal and the queue is not draining. -/
  | queueEnable (q : Fin 64) (word : Word)
  /-- QUEUE_DISABLE (R346): Write of ENABLE 0 to SCH_Q_CFG, which stops taking packets and starts draining. -/
  | queueDisable (q : Fin 64) (word : Word)
  /-- HOLD_CLEAR (R364): A hart writes 1 to HELD in SCH_HOLD and the queues are taken again. -/
  | holdClear (word : Word)
  /-- REGISTER_WRITE (R6): Write to a register with no row of its own, acting as its access code gives. -/
  | registerWrite (hart : Fin 256) (die : Fin 64) (off : Nat) (word : Word)
  /-- COUNTER_LO_READ (R47): Read of a _LO counter half, which latches the matching _HI half. -/
  | counterLoRead (hart : Fin 256) (die : Fin 64) (off : Nat)
  /-- FRM_COUNTER_CLEAR (R47): Write of CLEAR to GAB_FRM_CNT_CTRL, which zeroes the six frame counters. -/
  | frmCounterClear (g : Fin 16) (f : Fin 8)
  /-- NUM_COUNTER_CLEAR (R75): Write of CLEAR to GAB_FRM_NUM_CNT_CTRL, which zeroes the four numerics counters. -/
  | numCounterClear (g : Fin 16) (f : Fin 8)
  /-- BEAM_COUNTER_CLEAR (R93): Write of CLEAR to GAB_BEAM_CNT_CTRL, which zeroes the five beam counters. -/
  | beamCounterClear (g : Fin 16) (f : Fin 8)
  /-- BWD_COUNTER_CLEAR (R122): Write of CLEAR to GAB_FRM_BWD_CNT_CTRL, which zeroes the six backward counters. -/
  | bwdCounterClear (g : Fin 16) (f : Fin 8)
  /-- SCH_COUNTER_CLEAR (R155): Write of CLEAR to GAB_SCH_CNT_CTRL, which zeroes the stall counters and GAB_SCH_STALE_XFER. -/
  | schCounterClear (g : Fin 16)
  /-- SHL_COUNTER_CLEAR (R187): Write of CLEAR to SHL_CNT_CTRL, which zeroes the four Shale counters. -/
  | shlCounterClear (g : Fin 16)
  /-- DIR_COUNTER_CLEAR (R215): Write of CLEAR to _DIR_CNT_CTRL, which zeroes the counters of a directory block. -/
  | dirCounterClear (die : Fin 64)
  /-- ATOM_COUNTER_CLEAR (R215): Write of CLEAR to GNS_ATOM_CNT_CTRL, which zeroes the three atomic counters. -/
  | atomCounterClear (c : Fin 8)
  /-- RING_COUNTER_CLEAR (R247): Write of CLEAR to FLD_RING_CNT_CTRL, which zeroes the six ring counters. -/
  | ringCounterClear (l : Fin 8)
  /-- UPD_COUNTER_CLEAR (R273): Write of CLEAR to FLT_UPD_CNT_CTRL, which zeroes the four update counters. -/
  | updCounterClear (m : Fin 12)
  /-- MICA_COUNTER_CLEAR (R295): Write of CLEAR to FLD_MICA_CNT_CTRL, which zeroes the seven codec counters. -/
  | micaCounterClear (l : Fin 8)
  /-- PORT_COUNTER_CLEAR (R313): Write of CLEAR to FLD_PORT_CNT_CTRL, which zeroes the three port counters. -/
  | portCounterClear (port : Fin 48)
  /-- DIE_COUNTER_CLEAR (R340): Write of CLEAR to _DIE_CNT_CTRL, which zeroes _DIE_FENCE_DROP. -/
  | dieCounterClear (die : Fin 64)
  /-- SEAM_COUNTER_CLEAR (R340): Write of CLEAR to _SEAM_CNT_CTRL, which zeroes the two seam counters. -/
  | seamCounterClear (die : Fin 64) (seam : Fin 16)
  /-- CMD_COUNTER_CLEAR (R374): Write of CLEAR to SCH_CMD_CNT_CTRL, which zeroes the three command counters. -/
  | cmdCounterClear
  /-- HLT_COUNTER_CLEAR (R394): Write of CLEAR to SCH_HLT_CNT_CTRL, which zeroes the three health counters. -/
  | hltCounterClear
  /-- PWR_COUNTER_CLEAR (R416): Write of CLEAR to SCH_PWR_CNT_CTRL, which zeroes the three power counters. -/
  | pwrCounterClear
  /-- DROOP_COUNTER_CLEAR (R416): Write of CLEAR to _PWR_CNT_CTRL, which zeroes GAB_PWR_DROOP. -/
  | droopCounterClear (g : Fin 16)
  /-- STRATA_COUNTER_CLEAR (R449): Write of CLEAR to SCH_STRATA_CNT_CTRL, which zeroes the three recorder counters. -/
  | strataCounterClear
  /-- FRAME_ENABLE_START (R43): Write of a 1 bit to GAB_FRAME_ENABLE, which requests the start of a logical frame. -/
  | frameEnableStart (g : Fin 16) (f : Fin 8)
  /-- FRAME_ENABLE_STOP (R43): Write of a 0 bit for a started frame, which sets STOP_PENDING. -/
  | frameEnableStop (g : Fin 16) (f : Fin 8)
  /-- FRAME_STARTED (R403): A pending frame start reaches its stagger slot and the frame starts. -/
  | frameStarted (g : Fin 16) (f : Fin 8)
  /-- FRAME_STOPPED (R43): A stopping frame has no descriptor in issue, no wavefront in the array and no window needing it, and stops. -/
  | frameStopped (g : Fin 16) (f : Fin 8)
  /-- FRM_RESET_WRITE (R422): Write of 1 to GAB_FRM_RESET, which resets the frame unless a window is open or pending. -/
  | frmResetWrite (g : Fin 16) (f : Fin 8)
  /-- STRATA_CURSOR_LO_WRITE (R442): Write to SCH_STRATA_CURSOR_LO, which stages a low half. -/
  | strataCursorLoWrite (word : Word)
  /-- STRATA_CURSOR_HI_WRITE (R442): Write to SCH_STRATA_CURSOR_HI, which moves the cursor and starts a window fill. -/
  | strataCursorHiWrite (word : Word)
  /-- STRATA_NEXT (R442): Write of NEXT to SCH_STRATA_WIN_CTRL, which moves the cursor forward. -/
  | strataNext
  /-- STRATA_PREV (R442): Write of PREV to SCH_STRATA_WIN_CTRL, which moves the cursor back. -/
  | strataPrev
  /-- STRATA_WINDOW_FILL (R442): The window copy of the cursor's slot completes and WIN_BUSY clears. -/
  | strataWindowFill
  /-- ROCE_DOORBELL (R306): Write of a producer index to a QP doorbell, which starts its work requests. -/
  | roceDoorbell (port : Fin 48) (qpn : Fin 1024) (producer : Half) (ups : List Before)
  /-- WINDOW_OPEN (R148): 64 cycles after a run is ready on its last Gabbro, its windows open together. -/
  | windowOpen (mask : Half)
  /-- RUN_FRAME_NOT_STARTED (R125): A run reaches the head of its Gabbro with a needed frame neither started nor pending and is failed. -/
  | runFrameNotStarted (g : Fin 16)
  /-- LOAD_DESCRIPTOR (R26): A LOAD reaches its AT and begins loading a tile into a slot. -/
  | loadDescriptor (g : Fin 16) (f : Fin 8) (ups : List Before)
  /-- LOAD_COMPLETE (R24): At L + 256 the loading slot becomes HELD. -/
  | loadComplete (g : Fin 16) (f : Fin 8)
  /-- PASS_DESCRIPTOR (R29): A PASS reaches its AT and issues wavefronts from its slot. -/
  | passDescriptor (g : Fin 16) (f : Fin 8) (absent : List (Nat × Fin 256)) (ups : List Before)
  /-- PASS_COMPLETE (R24): The cycle after a pass's last wavefront issues, its slot becomes HELD. -/
  | passComplete (g : Fin 16) (f : Fin 8)
  /-- GAP_DESCRIPTOR (R34): A GAP issues bubbles or dummy operations for G cycles. -/
  | gapDescriptor (g : Fin 16) (f : Fin 8)
  /-- ROW_WORD_ARRIVAL (R30): A fetched row word reaches its feeder queue, ending any hold that waited for it. -/
  | rowWordArrival (g : Fin 16) (f : Fin 8) (row : Fin 256)
  /-- FRAME_PARITY_ERROR (R41): A parity error in a slot, queue, column or load lane sets its flag and fails the step at the next barrier. -/
  | frameParityError (g : Fin 16) (f : Fin 8) (kind : Fin 4)
  /-- TILE_DESCRIPTOR (R86): A TILE configures a beam entry and makes it FREE. -/
  | tileDescriptor (g : Fin 16) (f : Fin 8)
  /-- OUTPUT_DESCRIPTOR (R86): An OUTPUT sets the drain program of a beam entry. -/
  | outputDescriptor (g : Fin 16) (f : Fin 8)
  /-- BEAM_DELIVERY (R81): A column sum enters the beam and is added into its tile element. -/
  | beamDelivery (g : Fin 16) (f : Fin 8) (j : Fin 256) (ups : List Before)
  /-- DRAIN_START (R92): At D, or when the running drain's reads end, a tile enters DRAIN. -/
  | drainStart (g : Fin 16) (f : Fin 8) (ups : List Before)
  /-- DRAIN_COMPLETE (R92): The cycle after its last write issues, a draining tile becomes DONE. -/
  | drainComplete (g : Fin 16) (f : Fin 8)
  /-- GARNET_DESCRIPTOR (R117): A GARNET descriptor starts and computes softmax or normalisation rows. -/
  | garnetDescriptor (g : Fin 16) (f : Fin 8) (ups : List Before) (side : List (Nat × Bool))
  /-- WELL_WRITE (R105): An FP32 row reaches a well line and is added into it by the tally unit. -/
  | wellWrite (g : Fin 16) (f : Fin 8) (addr : Nat) (row : List Word) (ups : List Before) (tagErr : Bool)
  /-- BARRIER_DESCRIPTOR (R127): At a barrier's AT the Gabbro checks for faults, stop notices and FINAL. -/
  | barrierDescriptor (g : Fin 16)
  /-- FINAL_BARRIER_COMPLETE (R127): Once writes are readable and transfers complete, the FINAL barrier completes and the window ends. -/
  | finalBarrierComplete (g : Fin 16) (ups : List Before)
  /-- SEND_DESCRIPTOR (R134): A SEND reaches its AT and waits for credit before moving data. -/
  | sendDescriptor (g : Fin 16)
  /-- RECV_DESCRIPTOR (R134): A RECV reaches its AT, opens its slack window and grants credit. -/
  | recvDescriptor (g : Fin 16)
  /-- MOVE_DESCRIPTOR (R134): A MOVE reaches its AT and starts copying. -/
  | moveDescriptor (g : Fin 16)
  /-- MOVE_COMPLETE (R130): A MOVE finishes copying its bytes. -/
  | moveComplete (g : Fin 16) (addr : Nat) (ups : List Before)
  /-- CREDIT_ARRIVAL (R134): RECV credit reaches the sender and the SEND starts moving data. -/
  | creditArrival (g : Fin 16) (xferId : Half) (runNo : Word) (cable : Option Word) (ups : List Before)
  /-- TRANSFER_DATA_ARRIVAL (R135): Transfer data arrive and are matched to a RECV by source, XFER_ID and run number. -/
  | transferDataArrival (g : Fin 16) (source : Byte) (port : Fin 48) (xferId : Half) (runNo : Word) (data : List Byte)
  /-- RECV_DEADLINE (R134): Schedule time reaches AT + SLACK and the receiver holds until every byte is readable. -/
  | recvDeadline (g : Fin 16) (xferId : Half) (source : Byte)
  /-- SEND_HOLD_DEADLINE (R134): Schedule time reaches AT + HOLD and the sender holds until its source has been read. -/
  | sendHoldDeadline (g : Fin 16) (xferId : Half)
  /-- MOVE_DEADLINE (R134): Schedule time reaches AT + DONE_IN and the group holds until the move completes. -/
  | moveDeadline (g : Fin 16) (addr : Nat)
  /-- PEER_STOP_NOTICE (R128): A stop notice from another Gabbro arrives and stops the window at its next barrier. -/
  | peerStopNotice (g : Fin 16)
  /-- CABLE_STOP_NOTICE (R167): A cable stop notice arrives on a port and is delivered or kept by run number. -/
  | cableStopNotice (port : Fin 48) (runNo : Word)
  /-- STALL_LIMIT_ABORT (R137): A stall run or the window stall sum reaches its limit and the window is aborted. -/
  | stallLimitAbort (g : Fin 16)
  /-- REFRESH (R177): A Shale bank refreshes its rows at the rate its temperature sets. -/
  | refresh (g : Fin 16) (bank : Fin 512) (hot : Bool)
  /-- SCRUB_ROW (R179): The scrubber reads the next row of the Shale. -/
  | scrubRow (g : Fin 16) (ups : List Before)
  /-- SPARE_COPY_COMPLETE (R180): A spare copy ends and the row is remapped. -/
  | spareCopyComplete (g : Fin 16) (row : Nat) (ups : List Before)
  /-- RDS (R196): A shared-read request reaches a home and is served by the directory. -/
  | rds (c : Fin 8) (core : Fin 32) (fetch : Bool) (addr : Nat) (late : Bool) (ups : List Before)
  /-- RDO (R196): An ownership-read request reaches a home. -/
  | rdo (c : Fin 8) (core : Fin 32) (addr : Nat) (late : Bool) (ups : List Before)
  /-- UPGRADE (R196): An Upgrade reaches a home and invalidates other holders. -/
  | upgrade (c : Fin 8) (core : Fin 32) (addr : Nat) (late : Bool) (ups : List Before)
  /-- WB (R196): A write-back reaches a home and writes memory. -/
  | wb (c : Fin 8) (addr : Nat) (data : List Byte) (crossed : Option Crossing)
  /-- CLEAN_EVICT (R196): A CleanEvict reaches a home and removes the holder. -/
  | cleanEvict (c : Fin 8) (addr : Nat)
  /-- NC_RD (R196): A non-caching read reaches a home. -/
  | ncRd (die : Fin 64) (core : Fin 32) (agent : Byte) (addr : Nat) (len : Nat) (io : PcieEnd) (ups : List Before)
  /-- NC_WR (R196): A non-caching or posted write reaches a home and invalidates every holder. -/
  | ncWr (die : Fin 64) (core : Fin 32) (agent : Byte) (addr : Nat) (data : List Byte) (io : PcieEnd) (ups : List Before)
  /-- FAR_ATOMIC (R201): A FarAtomic reaches a home and is executed beside memory. -/
  | farAtomic (c : Fin 8) (core : Fin 32) (addr : Nat) (amo : AmoOp) (wide : Bool) (operand : DWord) (ups : List Before)
  /-- AMO_ISSUE (R199): A core AMO is executed NEAR in its L2 or sent FAR by its predictor. -/
  | amoIssue (hart : Fin 256) (addr : Nat) (amo : AmoOp) (wide : Bool) (operand : DWord) (late : Bool) (ups : List Before)
  /-- PATH_BARRIER_READ (R207): A hart load from the barrier alias sends marker requests from the home. -/
  | pathBarrierRead (hart : Fin 256) (addr : Nat)
  /-- PATH_BARRIER_COMPLETE (R207): Every marker reaches the home and the barrier word returns. -/
  | pathBarrierComplete (home : Fin 64)
  /-- PATH_BARRIER_TIMEOUT (R208): A marker is missing after 100 µs and the barrier completes with a timeout status. -/
  | pathBarrierTimeout (home : Fin 64)
  /-- RING_CONFIG_HELLO (R222): A configuration hello arrives and is matched against the expected peer. -/
  | ringConfigHello (port : Fin 48) (ringId : Word) (level : Byte) (pos : Half) (digest : List Byte)
  /-- RING_START_HELLO (R225): A start hello arrives and is compared or kept until the command starts. -/
  | ringStartHello (port : Fin 48) (ringId : Word) (level : Byte) (pos : Half) (digest : List Byte) (step : DWord)
  /-- RING_BLOCK_ARRIVAL (R228): A ring block arrives, is checked and added, and is forwarded or kept. -/
  | ringBlockArrival (port : Fin 48) (bytes : List Byte) (ups : List Before)
  /-- REPASS_START (R237): Once every member holds all maps, marked blocks are sent again. -/
  | repassStart (slot : Fin 8) (marks : List (Nat × Fin 4))
  /-- CLOSING_PHASE (R239): After the last level, the verdict is reduced and the new exponent table gathered. -/
  | closingPhase (slot : Fin 8) (v : RingVote) (xs : List Byte)
  /-- RING_ABORT_TOKEN (R240): An abort token arrives, is passed on and completes the command with RING_ABORTED. -/
  | ringAbortToken (port : Fin 48) (ringId : Word) (status : Half)
  /-- RING_PROGRESS_TIMEOUT (R240): No stripe progresses for FLD_RING_TIMEOUT and the command fails. -/
  | ringProgressTimeout (slot : Fin 8)
  /-- MICA_BLOCK_DECODE (R282): A received block is decoded into its element codes. -/
  | micaBlockDecode (port : Fin 48) (seq : Half) (pay : MicaPay) (block : List Byte)
  /-- MICA_ADVERTISEMENT (R287): A peer's epoch advertisement arrives and updates the usable epochs of the port. -/
  | micaAdvertisement (port : Fin 48) (states : List (Fin 3 × DWord))
  /-- MICA_RETIRE_ACK (R290): A peer's retirement acknowledgement arrives on a port. -/
  | micaRetireAck (port : Fin 48) (epoch : Fin 4)
  /-- TRAIN_DETECT_DONE (R299): DETECT ends, retiring failed lanes, and moves to ALIGN or FAILED. -/
  | trainDetectDone (port : Fin 48) (shorted : Byte) (open_ : Byte) (silent : Byte)
  /-- TRAIN_ALIGN_DONE (R299): ALIGN ends with lanes locked and polarity fixed, moving to IDENTIFY or FAILED. -/
  | trainAlignDone (port : Fin 48) (locked : Byte) (inverted : Byte)
  /-- IDENTITY_FRAME (R301): An identity frame arrives on a locked lane. -/
  | identityFrame (port : Fin 48) (lane : Fin 8) (bytes : List Byte)
  /-- TRAIN_IDENTIFY_DONE (R302): IDENTIFY ends and the port goes UP or REFUSED. -/
  | trainIdentifyDone (port : Fin 48)
  /-- TRAIN_TIMEOUT (R299): A training state passes its time limit and the port ends FAILED. -/
  | trainTimeout (port : Fin 48)
  /-- LINK_FRAME_RECEIVE (R303): A link frame arrives, is CRC-checked and acknowledged in order. -/
  | linkFrameReceive (port : Fin 48) (crcOk : Bool) (seq : Half) (ack : Half) (fec : Half)
  /-- LINK_NAK (R303): A NAK arrives and the sender resends from its retry buffer. -/
  | linkNak (port : Fin 48) (seq : Half) (block : Option Nat)
  /-- LANE_RETIRE (R304): A lane that loses lock or exceeds the FEC count is retired while the port stays UP. -/
  | laneRetire (port : Fin 48) (lane : Fin 8)
  /-- SIGNAL_LOSS (R304): Signal is lost on every lane of a port. -/
  | signalLoss (port : Fin 48)
  /-- SIGNAL_RETURN (R304): Signal returns on a lane of a down port, which then enters DETECT. -/
  | signalReturn (port : Fin 48)
  /-- AUTO_RETRAIN (R304): The retrain timer of a DOWN or FAILED port expires and it enters DETECT. -/
  | autoRetrain (port : Fin 48)
  /-- PORT_WAKE (R426): A wake pattern returns a port in REST to full use. -/
  | portWake (port : Fin 48)
  /-- ROCE_CNP (R306): A congestion notification halves a QP's sending rate. -/
  | roceCnp (port : Fin 48) (qpn : Fin 1024)
  /-- ROCE_RATE_INCREASE (R306): 55 µs without a notification raises a QP's rate by 5 % of line rate. -/
  | roceRateIncrease (port : Fin 48) (qpn : Fin 1024)
  /-- ROCE_INBOUND (R307): An inbound RDMA or SEND request is checked against the memory-region table. -/
  | roceInbound (port : Fin 48) (qpn : Fin 1024) (key : Word) (addr : DWord) (req : RoceReq) (ups : List Before)
  /-- PCIE_INBOUND (R310): An inbound PCIe request is translated to device memory or completed with Unsupported Request. -/
  | pcieInbound (addr : DWord) (len : Nat) (data : Option (List Byte)) (ups : List Before)
  /-- PCIE_MSI_WRITE (R310): A write to the MSI page sets a pending bit and interrupts the target hart. -/
  | pcieMsiWrite (n : Word)
  /-- PCIE_COMPLETION_TIMEOUT (R309): A hart load to PCIe has no completion in 50 ms and faults. -/
  | pcieCompletionTimeout (hart : Fin 256) (store : Bool)
  /-- SEAM_FLIT_NAK (R314): A seam CRC failure is NAKed and the flits are replayed. -/
  | seamFlitNak (die : Fin 64) (seam : Fin 16) (flits : Nat) (errs : Nat)
  /-- SEAM_LANE_FAILING (R319): A lane exceeds 16 errors in 1 ms and is marked failing. -/
  | seamLaneFailing (die : Fin 64) (seam : Fin 16) (lane : Fin 64) (errs : Nat)
  /-- SEAM_URGENT_SWAP (R320): A failing lane loses lock or replays exceed their limit and the swap is done at once. -/
  | seamUrgentSwap (die : Fin 64) (seam : Fin 16) (lane : Option (Fin 64))
  /-- SEAM_CLOCK_SWITCH (R322): The forwarded clock lane in use fails and the receiver switches to the other. -/
  | seamClockSwitch (die : Fin 64) (seam : Fin 16) (both : Bool)
  /-- DIE_FENCE (R329): A fence trigger isolates a die, places its memory in self-refresh and holds it in reset. -/
  | dieFence (die : Fin 64) (cause : Fin 7) (ups : List Before)
  /-- BUDGET_MESSAGE_TIMEOUT (R328): No budget message arrives from a die for 100 µs and the die is fenced. -/
  | budgetMessageTimeout (die : Fin 64)
  /-- BUDGET_DEMAND (R336): Every 10 µs a die sends a DEMAND to its quadrant Schist. -/
  | budgetDemand (die : Fin 64) (mw : Word) (hot : Half) (attached : Half) (current : Bool) (failed : Bool)
  /-- GRANT_COMPUTE (R400): Every 10 µs the Schists exchange demands and compute grants from the pool. -/
  | grantCompute
  /-- GRANT_RECEIVE (R337): A die receives its GRANT and enforces it. -/
  | grantReceive (die : Fin 64)
  /-- BUDGET_FALLBACK (R337): A die without a valid GRANT for 100 µs takes the fallback budget. -/
  | budgetFallback (die : Fin 64)
  /-- RATE_STEP_UP (R401): Each µs a raised grant lifts ISSUE_PER_16 by one step. -/
  | rateStepUp (g : Fin 16)
  /-- DROOP_EVENT (R402): A Gabbro's rail falls below the droop threshold and its issue rate is halved for 1 µs. -/
  | droopEvent (g : Fin 16)
  /-- POWER_SAMPLE (R405): Each µs the input is measured and the excursion counter updated. -/
  | powerSample (watts : Half) (volt : Half)
  /-- WEAR_UPDATE (R406): Each second a die's wear count advances by its temperature. -/
  | wearUpdate (die : Fin 64)
  /-- ALLOWANCE_RECOMPUTE (R406): Each hour the excursion allowance is recomputed from the largest Gabbro wear. -/
  | allowanceRecompute
  /-- THERMAL_CAP_STEP (R407): A die's thermal cap falls every 100 ms above throttle or rises every 1 s at release. -/
  | thermalCapStep (die : Fin 64)
  /-- COOLANT_EVAL (R408): Every 100 ms inlet temperature and flow move the thermal stage down or up. -/
  | coolantEval (inletA : Half) (inletB : Half) (flowA : Half) (flowB : Half)
  /-- THERMAL_TRIP (R410): A trip condition drives THERM_TRIP_N and turns off every die regulator. -/
  | thermalTrip (cause : TripCause)
  /-- ROOT_TAKEOVER (R396): The owner root fails and ownership passes to the next locked RUNNING Schist. -/
  | rootTakeover (lostLock : Bool)
  /-- REF_LOSS (R397): Loss of the reference puts every PLL into holdover. -/
  | refLoss
  /-- REF_FREERUN (R397): The reference stays absent for 1 s and the PLLs run free. -/
  | refFreerun
  /-- REF_RETURN (R397): The reference returns and the PLLs slew back and relock. -/
  | refReturn
  /-- COLD_POWER_ON (R424): The input becomes valid and the full boot order runs. -/
  | coldPowerOn (straps : Byte) (rep : BootReport)
  /-- MOD_RESET_ASSERT (R420): MOD_RESET_N goes low and every die is held in reset with memory in self-refresh. -/
  | modResetAssert
  /-- MODULE_RESET (R419): MOD_RESET_N is released after at least 10 µs and boot runs from step 2. -/
  | moduleReset (straps : Byte) (rep : BootReport)
  /-- POWER_FAULT (R440): The input leaves range, regulators turn off and records are committed on hold-up energy; `torn` is what a
  write that the loss cuts short leaves in its slot (R437), empty without one. -/
  | powerFault (torn : List Byte)
  /-- MATE_DISCONNECT (R476): MATE_N opens under a live input and the input stage turns off. -/
  | mateDisconnect
  /-- OVERVOLTAGE_CLAMP (R476): Input above 66 V beyond the surge allowance makes the input stage clamp and turn off. -/
  | overvoltageClamp
  /-- STRAP_PIN_CHANGE (R418): A strap pin changes on a running module and STRAP_DIFF follows. -/
  | strapPinChange (pins : Byte)
  /-- WAKE (R427): A command, access or interrupt needing a stopped unit returns the Lorsan to RUN. -/
  | wake (cause : Fin 5) (opcode : Half)
  /-- STRATA_COMMIT (R439): The writer commits the next pending record to flash. -/
  | strataCommit
  /-- STRATA_AUTO_THAW (R445): A freeze's time runs out and the recorder thaws itself. -/
  | strataAutoThaw
  /-- OPEN_REQ (R358): A session-open request arrives and is answered with OPEN_CHAL or OPEN_REFUSE. -/
  | openReq (port : Fin 2) (msg : List Byte) (sid : Word) (nonce : List Byte)
  /-- RESUME_REQ (R365): A request to resume a DETACHED session arrives. -/
  | resumeReq (port : Fin 2) (msg : List Byte) (nonce : List Byte)
  /-- OPEN_CONFIRM (R358): The host's confirmation arrives and the session opens or resumes with OPEN_OK. -/
  | openConfirm (port : Fin 2) (msg : List Byte)
  /-- HALF_OPEN_TIMEOUT (R358): No OPEN_CONFIRM arrives within 1 s and the half-open session is discarded. -/
  | halfOpenTimeout (sid : Word)
  /-- CMD (R360): A CMD message appends packets to a session queue and is answered with CMD_ACK. -/
  | cmd (port : Fin 2) (msg : List Byte)
  /-- REPLY_ACK (R361): A REPLY_ACK arrives and acts as the reply doorbell. -/
  | replyAck (port : Fin 2) (msg : List Byte)
  /-- REPLY_RESEND (R361): 50 ms pass with no REPLY_ACK and the replies from RPL_HEAD are resent. -/
  | replyResend (idx : Fin 8)
  /-- DATA_WR (R362): A DATA_WR message writes device memory and is acknowledged. -/
  | dataWr (port : Fin 2) (msg : List Byte) (ups : List Before)
  /-- DATA_RD (R362): A DATA_RD message reads device memory or a Strata window. -/
  | dataRd (port : Fin 2) (msg : List Byte) (ups : List Before)
  /-- KEEPALIVE (R363): A KEEPALIVE from the host arrives and restarts the lease. -/
  | keepalive (port : Fin 2) (msg : List Byte)
  /-- KEEPALIVE_SEND (R363): Every LEASE_MS / 4 the Lorsan sends KEEPALIVE to an ATTACHED session. -/
  | keepaliveSend (idx : Fin 8)
  /-- SESSION_DETACH (R363): A session accepts no message for LEASE_MS and becomes DETACHED. -/
  | sessionDetach (idx : Fin 8)
  /-- CLOSE (R366): A CLOSE message arrives and the session closes. -/
  | close (port : Fin 2) (msg : List Byte)
  /-- POD_RELAY_FRAME (R368): A pod packet arrives from the parent, is relayed to children and taken on the relay queue. -/
  | podRelayFrame (port : Fin 48) (timeout : Word) (pkt : List Byte)
  /-- POD_REPORT (R369): A child's report arrives and is merged, or discarded as late. -/
  | podReport (port : Fin 48) (child : Fin 64) (id : Nat) (rep : PodRep)
  /-- POD_WAIT_EXPIRY (R369): A member's pod wait expires and it reports with missing children marked. -/
  | podWaitExpiry (id : Nat)
  /-- CBL_PWR_OVERCURRENT (R480): CBL_PWR stays at its current limit for 100 µs and turns off. -/
  | cblPwrOvercurrent (q : Fin 4)
  /-- CBL_PWR_RETRY (R480): Every 1 s a faulted CBL_PWR tries again. -/
  | cblPwrRetry (q : Fin 4) (ok : Bool)
  /-- CABLE_MATE (R481): CBL_PRSNT_N changes as a cable is mated or removed. -/
  | cableMate (q : Fin 4) (mated : Bool)
  /-- PCIE_PRESENCE_CHANGE (R483): PRSNT_IN_N changes and the root port trains or stays down. -/
  | pciePresenceChange (present : Bool)
  /-- STRAP_PU_FAULT (R486): STRAP_PU is overloaded, limits its current and sets its fault. -/
  | strapPuFault
  /-- I3C_POINTER_WRITE (R487): An I3C write sets the register pointer. -/
  | i3cPointerWrite (addr : BitVec 7) (bytes : List Byte)
  /-- I3C_READ (R487): An I3C read returns words from the pointer upward. -/
  | i3cRead (addr : BitVec 7) (words : Nat)
  /-- I3C_IBI (R487): While ALERT_N is low the target raises an in-band interrupt at most every 100 ms. -/
  | i3cIbi
  /-- JTAG_INSTRUCTION (R488): A JTAG instruction acts, limited to BYPASS and IDCODE while debug is disabled. -/
  | jtagInstruction (op : JtagOp)
  /-- RING_HELLO_TIMEOUT (R222): A cable peer gives no configuration hello within FLD_RING_TIMEOUT, and RING_CFG completes with RING_TIMEOUT, leaving the slot unconfigured. -/
  | ringHelloTimeout (slot : Fin 8)
  /-- LINK_TRAIN_REPLY_TIMEOUT (R311): 200 ms after a LINK_CFG or LINK_TRAIN, its reply is written even though some named ports are still training. -/
  | linkTrainReplyTimeout (id : Nat)
  /-- PCIE_LINK_CHANGE (R313): The PCIe root port link finishes training or leaves the active state, updating FLD_PCIE_STATUS, setting LINK_DOWN and writing a 0x78 record. -/
  | pcieLinkChange (link : PcieLink)
  /-- AER_UNCORRECTABLE_REPORT (R313): An endpoint reports an uncorrectable error under AER, setting AER_UNCORR and writing a Strata record with unit byte 0x78. -/
  | aerUncorrectableReport
  /-- ETHERNET_LINK_CHANGE (R305): An Ethernet-mode port's PHY completes auto-negotiation and link training, or goes down on losing a lane. -/
  | ethernetLinkChange (port : Fin 48) (up : Bool)
  /-- ROCE_RESPONSE (R306): An acknowledgement, read response or error from the remote QP arrives, and the work request's completion is written, or the QP stops on ROCE_REMOTE_ERROR. -/
  | roceResponse (port : Fin 48) (qpn : Fin 1024) (rep : RoceRep) (ups : List Before)
  /-- ROCE_RETRY_EXCEEDED (R306): A QP's retransmissions are exhausted without acknowledgement, and its completion carries ROCE_RETRY_EXCEEDED and the QP stops. -/
  | roceRetryExceeded (port : Fin 48) (qpn : Fin 1024)
  /-- ICMPV6_MESSAGE (R354): A management port receives IPv6 neighbour discovery, an ICMPv6 echo or a router advertisement and answers it or forms an address. -/
  | icmpv6Message (port : Fin 2) (kind : IcmpKind) (target : BitVec 128) (payload : List Byte)
  /-- OPERATING_MINUTE (R435): 60 s of in-range input accumulate, OP_MIN advances by one and is saved to flash. -/
  | operatingMinute
  /-- STATE_REACHED (R425): A power-state entry or exit finishes after its stated time, the state in force changes and the DEV_STATE_SET reply is written. -/
  | stateReached
  /-- I3C_DYNAMIC_ADDRESS (R487): An I3C controller assigns the target a dynamic address, which it answers at thereafter. -/
  | i3cDynamicAddress (addr : BitVec 7)
deriving DecidableEq, Repr

end Sys2Proof
end

