-- ==== Sys2Proof/Decode.lean ====
section
/-! DEFINITION. Reading a command from the bits of the opcode table. The table gives no row any bits: a command of this
block is an event at its boundary, and packets carry their own opcodes (assumption 8). -/
namespace Sys2Proof

/-- The command that a word of the opcode table spells: no row of the table gives bits, so none. (Open points: assumption 8, DESIGN CHOICE.) -/
def decodeTableWord (_nbits _w : Nat) : Option Instr := none

end Sys2Proof
end

