-- ==== Sys2Proof/Config.lean ====
section
/-! DEFINITION. What an implementation fixes and the values the spec leaves open: constants without a body, so that a
claim holds whatever they are. The recipe defaults of 03_numerics.md:R56 are given by the spec and have bodies. -/
namespace Sys2Proof

/-! ### Free values (assumption log 4, 6). -/

/-- A fresh free value: entry `n` of a stream nothing constrains (assumption 4). -/
opaque Config.freeValue : Nat → DWord
/-- The byte that a lost address reads as until it is written: contents undefined (18:R429, 09:R211, 08:R173; assumption 6). -/
opaque Config.lostByte (tag addr : Nat) : Byte

/-! ### Functions within 2 units in the last place of a formula, fixed by the input bits alone (04:R89, 05:R113, 11:R252). The
bound itself is `Sys2Proof.Machine.within`: a word outside it is not taken. -/

/-- The activation codes 0x3-0x6 and 0xA-0xD of 04:R89 on a finite FP32 input: code, input word, result word. (Open points: assumption 33, DESIGN CHOICE.) -/
opaque Config.activation : Nat → Word → Word
/-- EXP of 05:R113. (Open points: assumption 33, DESIGN CHOICE.) -/
opaque Config.expFn : Word → Word
/-- RSQRT of 05:R113. (Open points: assumption 33, DESIGN CHOICE.) -/
opaque Config.rsqrtFn : Word → Word
/-- POW of 11:R252: base word, exponent, result word. (Open points: assumption 33, DESIGN CHOICE.) -/
opaque Config.powFn : Word → Nat → Word

/-- The directory set of a line (09:R195 gives 65,536 sets and not which line falls in which). (Open points: assumption 44, DESIGN CHOICE.) -/
opaque Config.dirSet : Nat → Fin 65536

/-! ### Identity fuses (14:R324; assumption 10). -/

/-- Silicon revision of a die: every die as shipped is at revision 2 (00:R2). (Open points: assumption 10, DESIGN CHOICE.) -/
def Config.dieRev (_ : Nat) : BitVec 4 := 2
/-- Manufacturing trace of a die. -/
opaque Config.dieTrace : Nat → DWord
/-- DISABLED_PHYS of a Gabbro: the physical frame disabled at assembly (02:R39). (Open points: assumption 10, DESIGN CHOICE.) -/
opaque Config.disabledPhys : Nat → Fin 9
/-- GAB_FRAME_MAP of a Gabbro: DISABLED_PHYS, and SPARE_USED where that is not the spare (02:R45). (Open points: assumption 10, DESIGN CHOICE.) -/
def Config.frameMap (d : Nat) : Word :=
  BitVec.ofNat 32 ((Config.disabledPhys d).val + if (Config.disabledPhys d).val = 8 then 0 else 16)
/-- The data lane that spare k of a direction replaces since assembly, if any (14:R317): receiving die, seam, k. (Open points: assumption 10, DESIGN CHOICE.) -/
opaque Config.assemblySpare : Nat → Nat → Fin 4 → Option (Fin 64)
/-- The byte of _SEAM_MAP that a spare has after assembly: LANE and USED, no field replacement (14:R340). -/
def Config.spareByte : Option (Fin 64) → Nat
  | some l => l.val + 64
  | none => 0
/-- Assembly spare map of a seam: die, seam. (Open points: assumption 10, DESIGN CHOICE.) -/
def Config.seamMap (d q : Nat) : Word :=
  BitVec.ofNat 32 (Config.spareByte (Config.assemblySpare d q 0) + 256 * Config.spareByte (Config.assemblySpare d q 1)
    + 65536 * Config.spareByte (Config.assemblySpare d q 2) + 16777216 * Config.spareByte (Config.assemblySpare d q 3))
/-- Spare rows that the assembly-time row remaps of a Shale use in one bank (08:R187): die, bank. (Open points: assumption 10, DESIGN CHOICE.) -/
opaque Config.bankSpares : Nat → Nat → Fin 65
/-- Spare rows in use after assembly, all banks of a Shale. -/
def Config.spareUsed (d : Nat) : Nat := ((List.range 512).map fun b => (Config.bankSpares d b).val).sum
/-- Most spare rows in use in one bank of a Shale after assembly. -/
def Config.spareMax (d : Nat) : Nat := (List.range 512).foldl (fun m b => Nat.max m (Config.bankSpares d b).val) 0
/-- Module serial. (Open points: assumption 10, DESIGN CHOICE.) -/
opaque Config.moduleId : DWord
/-- Ethernet MAC base. -/
opaque Config.macBase : DWord
/-- Fuse half of the debug enable. (Open points: assumption 10, DESIGN CHOICE.) -/
opaque Config.debugAllow : Bool

/-! ### Keys (20:R450, R451, R464, R466; assumptions 10, 12). -/

/-- Byte n of Walyoka's Falcon-1024 firmware public key i; a boot ROM holds its SHAKE256 digest FKi (20:R450). (Open points: assumption 10, DESIGN CHOICE.) -/
opaque Config.firmwareKeyByte (i : Fin 4) (n : Nat) : Byte
/-- Byte n of Walyoka's Falcon-1024 identity-CA public key i; a boot ROM holds its SHAKE256 digest CKi (20:R450). (Open points: assumption 10, DESIGN CHOICE.) -/
opaque Config.caKeyByte (i : Fin 4) (n : Nat) : Byte
/-- The 256-bit device key of the Schist of a quadrant (20:R450): it wraps the secrets of the security record and tags that record,
and no register, command or debug access reads it. (Open points: assumption 10, DESIGN CHOICE.) -/
opaque Config.deviceKey (quad : Fin 4) : BitVec 256
/-- The identity private key, which the security record holds wrapped once under each device key (20:R451, R464). (Open points: assumption 10, DESIGN CHOICE.) -/
opaque Config.identityKey : List Byte
/-- Byte n of the factory host key of slot 0 (20:R466). -/
opaque Config.factoryKeyByte (n : Nat) : Byte
/-- The factory host key. -/
def Config.factoryKey : List Byte := (List.range 32).map Config.factoryKeyByte
/-- CA_INDEX of the identity certificate: the CA key that signs it (20:R464). (Open points: assumption 10, DESIGN CHOICE.) -/
opaque Config.caIndex : Fin 4
/-- Byte n of the identity certificate, where no other constant names it: the identity public key and the CA's signature (20:R464). -/
opaque Config.certByte (n : Nat) : Byte
/-- Falcon-1024 verification: public key, message, padded signature (20:R454; FIPS text not in the spec). (Open points: assumption 12, PRESUMED.) -/
opaque Config.falconVerify : List Byte → List Byte → List Byte → Bool
/-- Falcon-1024 signature: private key, fresh value, message, byte number (20:R465). (Open points: assumption 12, PRESUMED.) -/
opaque Config.falconSignByte : List Byte → DWord → List Byte → Nat → Byte

/-! ### The shipped firmware package (20:R452-R455; assumption 11). -/

/-- PKG_VERSION of the shipped package. (Open points: assumption 11, DESIGN CHOICE.) -/
opaque Config.shippedVersion : Word
/-- SVN of the shipped package. -/
opaque Config.shippedSvn : Word
/-- What FLOOR_SVN of the shipped package is, where it is at most SVN. -/
opaque Config.shippedFloor : Word
/-- FLOOR_SVN of the shipped package, at most its SVN (20:R454). -/
def Config.shippedFloorSvn : Word := if Config.shippedFloor ≤ Config.shippedSvn then Config.shippedFloor else Config.shippedSvn
/-- KEY_INDEX of the shipped package. -/
opaque Config.shippedKeyIndex : Fin 4
/-- MIN_FLOOR of the shipped package: at most revision 2, at which every die ships (00:R2). -/
opaque Config.shippedMinFloor : Fin 3
/-- Byte n of the signature of the shipped package. (Open points: assumption 12, PRESUMED.) -/
opaque Config.shippedSigByte (n : Nat) : Byte
/-- VERSION of the shipped part of KIND k. -/
opaque Config.shippedPartVersion (kind : Nat) : Word
/-- What IMAGE_BYTES less 1 of the shipped part of KIND k is, modulo its slot. -/
opaque Config.shippedLength (kind : Nat) : Nat
/-- Byte n of the shipped image of KIND k. -/
opaque Config.shippedImageByte (kind n : Nat) : Byte

/-! ### Power (17). -/

/-- ISSUE_PER_16 by which a Gabbro enforces a grant: grant and demand in mW (17:R401 gives no figure). (Open points: assumption 65, DEDUCED.) -/
opaque Config.issueFor : Nat → Nat → Nat
/-! ### Recipes (03:R56). -/

/-- The recipe word that the shipped firmware supplies for a kind. -/
def Config.recipeDefault (kind : Nat) : Word :=
  match kind with
  | 0 => 0x00000014#32
  | 1 => 0x00000014#32
  | 2 => 0x00000015#32
  | 3 => 0x00000008#32
  | 4 => 0x00000007#32
  | 5 => 0x00000054#32
  | 6 => 0x00000114#32
  | 7 => 0x00000007#32
  | _ => 0

end Sys2Proof
end

