-- ==== Sys2Proof/Machine/Formula.lean ====
section
/-! DEFINITION. The functions that the spec gives to within 2 units in the last place of a formula: the activation codes of
04:R89, EXP and RSQRT of 05:R113, POW of 11:R252. Each formula is computed here on dyadics of `fcut` significant bits, far past
FP32; `within` holds a result to the FP32 words within 2 units in the last place of the formula's FP32 value (04:R89), and
`withinReal` to those within 2 units of the value itself (05:R113, 11:R252). Which of those words a module returns is free: it is a constant of Config (assumption 33). -/
namespace Sys2Proof.Machine

/-- Significant bits that a formula's intermediate results keep. -/
def fcut : Nat := 320
/-- A dyadic cut to `fcut` significant bits. -/
def dyCut (a : Dy) : Dy :=
  let k := Nat.log2 a.z.natAbs + 1 - fcut
  ⟨(if a.z < 0 then -((a.z.natAbs >>> k : Nat) : Int) else ((a.z.natAbs >>> k : Nat) : Int)), a.e + k⟩
/-- A product, cut. -/
def fMul (a b : Dy) : Dy := dyCut (dyMul a b)
/-- The integer one. -/
def fOne : Dy := ⟨1, 0⟩
/-- Negation. -/
def dyNeg (a : Dy) : Dy := ⟨-a.z, a.e⟩
/-- A sum, cut. Terms more than `2 * fcut` bits apart leave the larger one. -/
def fAdd (a b : Dy) : Dy :=
  if a.z = 0 then b else if b.z = 0 then a
  else
    let la := magLog2 a.z.natAbs a.e
    let lb := magLog2 b.z.natAbs b.e
    if lb + 2 * fcut < la then a else if la + 2 * fcut < lb then b else dyCut (dyAdd a b)
/-- A quotient by a positive dyadic, cut. -/
def fDiv (a b : Dy) : Dy :=
  let k := fcut + Nat.log2 b.z.natAbs
  let q := (a.z.natAbs <<< k) / b.z.natAbs
  dyCut ⟨(if a.z < 0 then -(q : Int) else (q : Int)), a.e - b.e - k⟩
/-- The number `n / d`. -/
def fRat (n : Int) (d : Nat) : Dy := fDiv ⟨n, 0⟩ ⟨d, 0⟩

/-- Σ from n of x^k n!/k!, by `fuel` terms: Horner's form of the exponential series. -/
def expTail : Nat → Nat → Dy → Dy
  | 0, _, _ => fOne
  | fuel + 1, n, x => fAdd fOne (fMul (fMul x (fRat 1 (n + 1))) (expTail fuel (n + 1) x))
/-- The powers of 1/3 that give ln 2 = 2 artanh(1/3) = Σ 2 / ((2k + 1) 3^(2k + 1)), in units of 2^-400. -/
def ln2Units : Nat := ((List.range 128).map fun k => 2 ^ 401 / ((2 * k + 1) * 3 ^ (2 * k + 1))).sum
/-- `e^x`. The argument is held to ±1024, past which FP32 shows no difference; x = k ln 2 + r with |r| ≤ ln 2. -/
def fExp (x : Dy) : Dy :=
  let far := decide (x.z ≠ 0) && decide (10 ≤ magLog2 x.z.natAbs x.e)
  let y : Dy := if far then ⟨(if x.z < 0 then -1024 else 1024), 0⟩ else x
  let u : Int := match dyAdd y ⟨0, -400⟩ with
    | ⟨z, e⟩ => if e ≤ -400 then z / (2 ^ (-400 - e).toNat : Nat) else intShl z (e + 400).toNat
  let k := u / (ln2Units : Int)
  let r := expTail 80 0 ⟨u - k * ln2Units, -400⟩
  ⟨r.z, r.e + k⟩

/-- σ(x) = 1 / (1 + e^−x). -/
def fSigmoid (x : Dy) : Dy := fDiv fOne (fAdd fOne (fExp (dyNeg x)))
/-- 2x. -/
def fTwo (x : Dy) : Dy := ⟨x.z, x.e + 1⟩
/-- tanh x = (1 − e^−2x) / (1 + e^−2x), by its odd symmetry on |x|; near zero by its series x − x³/3. -/
def fTanh (x : Dy) : Dy :=
  if x.z = 0 then x
  else if magLog2 x.z.natAbs x.e < -100 then fAdd x (fMul (fRat (-1) 3) (fMul x (fMul x x)))
  else
    let q := fExp (dyNeg (fTwo ⟨(x.z.natAbs : Int), x.e⟩))
    let t := fDiv (fAdd fOne (dyNeg q)) (fAdd fOne q)
    if x.z < 0 then dyNeg t else t
/-- t = 0.797,884,56 (x + 0.044,715 x³). -/
def fGeluArg (x : Dy) : Dy := fMul (fRat 79788456 100000000) (fAdd x (fMul (fRat 44715 1000000) (fMul x (fMul x x))))
/-- dt/dx. -/
def fGeluSlope (x : Dy) : Dy := fMul (fRat 79788456 100000000) (fAdd fOne (fMul (fRat 134145 1000000) (fMul x x)))

/-- The formula of an activation code 0x3–0x6, 0xA–0xD (04:R89). With σ(2t) for 0.5 (1 + tanh t) and σ(−x) for 1 − σ(x), no
form subtracts nearly equal numbers. -/
def fActivation (code : Nat) (x : Dy) : Dy :=
  match code with
  | 3 => fSigmoid x
  | 4 => fTanh x
  | 5 => fMul x (fSigmoid x)
  | 6 => fMul x (fSigmoid (fTwo (fGeluArg x)))
  | 10 => fMul (fSigmoid x) (fSigmoid (dyNeg x))
  | 11 => fMul ⟨4, 0⟩ (fMul (fSigmoid (fTwo x)) (fSigmoid (dyNeg (fTwo x))))
  | 12 => fMul (fSigmoid x) (fAdd fOne (fMul x (fSigmoid (dyNeg x))))
  | _ =>
    let u := fTwo (fGeluArg x)
    fMul (fSigmoid u) (fAdd fOne (fMul (fMul x (fTwo (fGeluSlope x))) (fSigmoid (dyNeg u))))

/-- The FP32 value of a formula: rounded once (03:R70). A zero keeps the sign `neg`; magnitudes outside 2^±300 are far past
FP32 and are cut there. -/
def formulaVal (neg : Bool) (a : Dy) : Val :=
  if a.z = 0 then .fin neg 0 0
  else
    let l := magLog2 a.z.natAbs a.e
    if 300 < l then .inf (decide (a.z < 0))
    else if l < -300 then .fin (decide (a.z < 0)) 0 0
    else fp32Round (dyVal a)

/-- The weight of a unit in the last place of a finite FP32 value, as a power of two. -/
def ulpExp (m : Nat) (e : Int) : Int := max (if m = 0 then -126 else magLog2 m e) (-126) - 23
/-- Whether a word is within 2 units in the last place of a value: of NaN only NaN, of an infinity only it. -/
def near (y : Val) (w : Word) : Bool :=
  match y, fp32Val w with
  | .nan, .nan => true
  | .inf a, .inf b => a == b
  | .fin n m e, .fin n' m' e' =>
    let d := dyAdd (valDy (.fin n m e)) (dyNeg (valDy (.fin n' m' e')))
    !(valLt (.fin false 2 (ulpExp m e)) (.fin false d.z.natAbs d.e))
  | _, _ => false
/-- A result within 2 units in the last place of `y`: the module's own `w` where it is one, and else `y` itself. (Open points: assumption 33, DESIGN CHOICE.) -/
def within (y : Val) (w : Word) : Val := if near y w then fp32Val w else y

/-- Whether a word is finite and within 2 units in the last place of a dyadic, the unit being that of the dyadic itself. -/
def nearReal (a : Dy) (w : Word) : Bool :=
  match fp32Val w with
  | .fin n m e =>
    let d := dyAdd a (dyNeg (valDy (.fin n m e)))
    !(valLt (.fin false 2 (ulpExp a.z.natAbs a.e)) (.fin false d.z.natAbs d.e))
  | _ => false
/-- Whether a word is a permitted result for the value of a formula, not yet rounded: within 2 units in the last place of it. A
value outside 2^±300 is taken as rounded, to an infinity or zero. (Open points: assumption 33, DESIGN CHOICE.) -/
def realOk (neg : Bool) (a : Dy) (w : Word) : Bool :=
  let y := formulaVal neg a
  let l := magLog2 a.z.natAbs a.e
  if a.z = 0 ∨ l < -300 ∨ 300 < l then near y w else nearReal a w || (!(valFinite y) && near y w)
/-- A result within 2 units in the last place of the value of a formula: the module's own `w` where it is one, and else the
rounded value. (Open points: assumption 33, DESIGN CHOICE.) -/
def withinReal (neg : Bool) (a : Dy) (w : Word) : Val := if realOk neg a w then fp32Val w else formulaVal neg a

/-- An activation code 0x3–0x6, 0xA–0xD on a finite input (04:R89). (Open points: assumption 33, DESIGN CHOICE.) -/
def actBound (code : Nat) (n : Bool) (m : Nat) (e : Int) : Val :=
  within (formulaVal (n && (code == 4 || code == 5 || code == 6)) (fActivation code (valDy (.fin n m e))))
    (Config.activation code (fp32Of (.fin n m e)))
/-- EXP of a finite value (05:R113). (Open points: assumption 33, DESIGN CHOICE.) -/
def expBound (n : Bool) (m : Nat) (e : Int) : Val :=
  withinReal false (fExp (valDy (.fin n m e))) (Config.expFn (fp32Of (.fin n m e)))
/-- RSQRT of a positive finite value (05:R113): the root of an integer of over 300 bits, and its reciprocal. (Open points:
assumption 33, DESIGN CHOICE.) -/
def rsqrtBound (m : Nat) (e : Int) : Val :=
  let odd := e % 2 = 1
  let root : Dy := ⟨(isqrt ((if odd then 2 * m else m) <<< 640) : Nat), (if odd then e - 1 else e) / 2 - 320⟩
  withinReal false (fDiv fOne root) (Config.rsqrtFn (fp32Of (.fin false m e)))

/-- A dyadic power by repeated squaring, with exponents held to ±2^20, past which FP32 shows no difference. -/
def fPow : Nat → Dy → Nat → Dy
  | 0, _, _ => fOne
  | fuel + 1, b, t =>
    let half := fPow fuel b (t / 2)
    let sq := fMul half half
    let p := if t % 2 = 1 then fMul sq b else sq
    ⟨p.z, clampInt p.e (-1048576) 1048576⟩
/-- POW(α, t) for t from 1 (11:R252): exactly α at t = 1. An infinite or zero α gives its power, NaN gives NaN. (Open points:
assumption 33, DESIGN CHOICE.) -/
def powBound (a : Word) (t : Nat) : Val :=
  match fp32Val a with
  | .nan => .nan
  | .inf n => .inf (n && t % 2 == 1)
  | .fin n m e =>
    if t = 1 then .fin n m e
    else if m = 0 then .fin (n && t % 2 == 1) 0 0
    else withinReal (n && t % 2 == 1) (fPow 64 (valDy (.fin n m e)) t) (Config.powFn a t)

end Sys2Proof.Machine
end

