-- ==== Sys2Proof/Machine/Tab.lean ====
section
/-! DEFINITION. Finite tables by key, in one canonical form (strictly rising keys): read, put, delete. -/
namespace Sys2Proof.Machine

/-- The entry at a key, if there is one. -/
def tabFind {α : Type} : Tab α → Nat → Option α
  | [], _ => none
  | (k, v) :: t, i => if k = i then some v else tabFind t i

/-- The entry at a key, or a default. -/
def tabGet {α : Type} (t : Tab α) (i : Nat) (dflt : α) : α := (tabFind t i).getD dflt

/-- Put an entry, keeping keys rising. -/
def tabPut {α : Type} : Tab α → Nat → α → Tab α
  | [], i, x => [(i, x)]
  | (k, v) :: t, i, x =>
    if i < k then (i, x) :: (k, v) :: t
    else if k = i then (i, x) :: t
    else (k, v) :: tabPut t i x

/-- Remove every entry whose key meets a test. -/
def tabDelIf {α : Type} (t : Tab α) (p : Nat → Bool) : Tab α := t.filter fun e => !(p e.1)

/-- Remove the entry at a key. -/
def tabDel {α : Type} (t : Tab α) (i : Nat) : Tab α := tabDelIf t fun k => k == i

/-- Put a number at a key, where no entry reads as 0. -/
def tabPutZ (t : Tab Nat) (i n : Nat) : Tab Nat := if n = 0 then tabDel t i else tabPut t i n

/-- Change the entry at a key (a missing entry starts from the default). -/
def tabMod {α : Type} (t : Tab α) (i : Nat) (dflt : α) (f : α → α) : Tab α := tabPut t i (f (tabGet t i dflt))

/-- The keys rise strictly. -/
def tabSorted {α : Type} : Tab α → Bool
  | [] => true
  | [_] => true
  | a :: b :: t => a.1 < b.1 && tabSorted (b :: t)

end Sys2Proof.Machine
end

