-- ==== Sys2Proof/Machine/Column.lean ====
section
/-! DEFINITION. The arithmetic of a frame column (03:R63-R68, R72): products, group folds, non-finite states; and the
turned requantisation of 05:R101. -/
namespace Sys2Proof.Machine

/-- Elements of K that one row holds in a stationary format (02:R22). -/
def perRow (f : Nat) : Nat := if isPair f then 2 else 1
/-- Rows of a group (02:R23). -/
def groupRows (f : Nat) : Nat := if isPair f then 16 else 32
/-- Groups of a column (02:R23). -/
def groupCount (f : Nat) : Nat := if isPair f then 16 else 8
/-- Issue cycles of a wavefront (02:R22). -/
def issueCycles (f : Nat) : Nat := if isHalf f then 2 else 1

/-- Whether a streaming format is accepted with a stationary one, with the SCALED bits (03:R63). -/
def pairAccepted (stat strm : Nat) (sScaled pScaled : Bool) : Bool :=
  if isFp8 stat then isFp8 strm && sScaled == pScaled
  else if isPair stat then isPair strm && sScaled && pScaled
  else isHalf stat && strm == stat && !sScaled && !pScaled

/-- A product as the bead forms it, and whether it was flushed or overflowed under 03:R66. (Open points: assumption 41, DEDUCED.) -/
def beadProduct (half : Bool) (a b : Val) : Val × Bool × Bool :=
  match half, a, b with
  | true, .fin n m e, .fin n' m' e' =>
    if m = 0 ∨ m' = 0 then (valMul a b, false, false)
    else
      let x := magLog2 m e + magLog2 m' e'
      if x < -60 then (.fin false 0 0, true, false)
      else if 68 < x then (.inf (n != n'), false, true)
      else (.fin (n != n') (m * m') (e + e'), false, false)
  | _, _, _ => (valMul a b, false, false)

/-- What the feeders have fetched of wavefront `k` of a pass: a word for each row. -/
def waveLane (p : PassRec) (k : Nat) : List Word := p.got.lanes.getD (k - tabGet p.done 255 0) []

/-- The wavefront `k` of a pass, out of the row words fetched: DATA of row i holds element i, or elements 2i and 2i + 1; XS
stands in the last row of each group (02:R23, R27). -/
def passWave (p : PassRec) (k : Nat) : Wave :=
  let n := (fmtInfo p.desc.fmt).width
  let l := waveLane p k
  ⟨l.flatMap fun w => if isPair p.desc.fmt then [bitsOf w.toNat 0 n, bitsOf w.toNat n n] else [bitsOf w.toNat 0 n],
   (List.range (groupCount p.desc.fmt)).map fun g => bitsOf (l.getD (g * groupRows p.desc.fmt + groupRows p.desc.fmt - 1) 0).toNat 24 8⟩

/-- The products of the unmasked rows of a range: their exact sum, flushes and overflows. (Open points: assumption 41, DEDUCED.) -/
def rowProducts (p : PassRec) (col wave : List Nat) (lo n : Nat) : Val × Nat × Nat :=
  let k := perRow p.statFmt
  ((List.range n).filter fun i => bitOf p.rowMask (lo + i)).foldl (fun acc i =>
    (List.range k).foldl (fun (acc : Val × Nat × Nat) t =>
      let x := k * (lo + i) + t
      let r := beadProduct (isHalf p.statFmt) (fmtVal p.statFmt (col.getD x 0)) (fmtVal p.desc.fmt (wave.getD x 0))
      (valAdd acc.1 r.1, acc.2.1 + b2n r.2.1, acc.2.2 + b2n r.2.2)) acc) (.fin false 0 0, 0, 0)

/-- Whether a group has an unmasked row. -/
def groupLive (p : PassRec) (g : Nat) : Bool :=
  (List.range (groupRows p.statFmt)).any fun i => bitOf p.rowMask (g * groupRows p.statFmt + i)

/-- Fold the groups of a block-scaled column in row order: the running W48 value and the column's state (03:R67, R68). (Open points: assumption 41, DEDUCED.) -/
def foldGroups (p : PassRec) (col cs wave ws : List Nat) : List Nat → Val → Val → Val
  | [], r, state => if valFinite state then r else state
  | g :: t, r, state =>
    if !(groupLive p g) then foldGroups p col cs wave ws t r state
    else
      let sum := (rowProducts p col wave (g * groupRows p.statFmt) (groupRows p.statFmt)).1
      match scaleExp (cs.getD g 0), scaleExp (ws.getD g 0) with
      | some a, some b =>
        if valFinite sum then
          let x := w48Round (valAdd r (valScale sum (a + b)))
          if valFinite x then foldGroups p col cs wave ws t x state
          else foldGroups p col cs wave ws t r (valAdd state x)
        else foldGroups p col cs wave ws t r (valAdd state sum)
      | _, _ => foldGroups p col cs wave ws t r .nan

/-- What a column with stationary elements `col` and group scales `cs` delivers for wavefront `k`: the value, and the products
flushed and overflowed (03:R66-R68). (Open points: assumption 41, DEDUCED.) -/
def columnSum (p : PassRec) (col cs : List Nat) (k : Nat) : Val × Nat × Nat :=
  let w := passWave p k
  if p.desc.scaled then
    (foldGroups p col cs w.elems w.scales (List.range (groupCount p.statFmt)) (.fin false 0 0) (.fin false 0 0), 0, 0)
  else rowProducts p col w.elems 0 256

/-! ### Turned operands (05:R99-R101). -/

/-- Requantise one group of a turned block-scaled operand: codes and source scales of its 32 positions and which are
unmasked; the answers are the group's scale, the codes, and how many elements changed in value (05:R101). A group with
no unmasked position takes scale 0. -/
def turnGroup (f : Nat) (codes scales : List Nat) (live : List Bool) : Nat × List Nat × Nat :=
  let c := (indexed scales).foldl (fun m p => if live.getD p.1 false then Nat.max m p.2 else m) 0
  if c = 255 then (255, codes, 0)
  else
    let out := (indexed codes).map fun p =>
      if live.getD p.1 false then
        let v := fmtVal f p.2
        let r := (fmtOf f .nearest (valScale v ((scales.getD p.1 0 : Int) - c))).1
        let changed := match v with
          | .fin _ _ _ => !(valEq (valScale v ((scales.getD p.1 0 : Int) - c)) (fmtVal f r))
          | _ => false
        (r, changed)
      else (p.2, false)
    (c, out.map Prod.fst, (out.filter Prod.snd).length)

/-- Requantise a K-column of 256 elements group by group: codes, group scales, changes. -/
def turnColumn (f : Nat) (codes scales : List Nat) (live : List Bool) : List Nat × List Nat × Nat :=
  (List.range 8).foldl (fun acc g =>
    let r := turnGroup f ((codes.drop (32 * g)).take 32) ((scales.drop (32 * g)).take 32) ((live.drop (32 * g)).take 32)
    (acc.1 ++ r.2.1, acc.2.1 ++ [r.1], acc.2.2 + r.2.2)) ([], [], 0)

end Sys2Proof.Machine
end

