-- ==== Sys2Proof/Machine/Hash.lean ====
section
/-! DEFINITION. The check and hash functions the spec names: CRC-32C (19:R435, 06:R138, 10:R218), SHAKE256 (06:R138,
10:R225, 12:R278, 16:R389, 20:R454) and KMAC256 (15:R357). PRESUMED: the algorithms are those of the standards of
these names (RFC 3720, FIPS 202, NIST SP 800-185); see assumption 12. -/
namespace Sys2Proof.Machine

/-- One bit step of the reflected CRC-32C. -/
def crcBit : Nat → Word → Word
  | 0, c => c
  | n + 1, c => crcBit n (if c.getLsbD 0 then (c >>> 1) ^^^ 0x82F63B78#32 else c >>> 1)

/-- CRC-32C of bytes. (Open points: assumption 12, PRESUMED.) -/
def crc32c (bs : List Byte) : Word :=
  (bs.foldl (fun c b => crcBit 8 (c ^^^ b.setWidth 32)) 0xFFFFFFFF#32) ^^^ 0xFFFFFFFF#32

/-- Rotation offsets of Keccak, lane x + 5y. -/
def keccakRot : List Nat := [0, 1, 62, 28, 27, 36, 44, 6, 55, 20, 3, 10, 43, 25, 39, 41, 45, 15, 21, 8, 18, 2, 61, 56, 14]

/-- Round constants of Keccak-f[1600]. -/
def keccakRc : List DWord := [
  0x0000000000000001#64, 0x0000000000008082#64, 0x800000000000808A#64, 0x8000000080008000#64,
  0x000000000000808B#64, 0x0000000080000001#64, 0x8000000080008081#64, 0x8000000000008009#64,
  0x000000000000008A#64, 0x0000000000000088#64, 0x0000000080008009#64, 0x000000008000000A#64,
  0x000000008000808B#64, 0x800000000000008B#64, 0x8000000000008089#64, 0x8000000000008003#64,
  0x8000000000008002#64, 0x8000000000000080#64, 0x000000000000800A#64, 0x800000008000000A#64,
  0x8000000080008081#64, 0x8000000000008080#64, 0x0000000080000001#64, 0x8000000080008008#64]

/-- A lane of a Keccak state. -/
def lane (a : List DWord) (i : Nat) : DWord := a.getD i 0

/-- One round of Keccak-f[1600]. -/
def keccakRound (a : List DWord) (rc : DWord) : List DWord :=
  let c := (List.range 5).map fun x => lane a x ^^^ lane a (x + 5) ^^^ lane a (x + 10) ^^^ lane a (x + 15) ^^^ lane a (x + 20)
  let d := (List.range 5).map fun x => lane c ((x + 4) % 5) ^^^ (lane c ((x + 1) % 5)).rotateLeft 1
  let a := (List.range 25).map fun i => lane a i ^^^ lane d (i % 5)
  -- rho and pi: new lane (y, 2x + 3y) takes old lane (x, y)
  let b := (List.range 25).map fun j =>
    let x' := j % 5
    let y' := j / 5
    -- old x = x' + 3 y' (mod 5), old y = x'
    let i := (x' + 3 * y') % 5 + 5 * x'
    (lane a i).rotateLeft (keccakRot.getD i 0)
  let e := (List.range 25).map fun j =>
    let x := j % 5
    let y := j / 5
    lane b j ^^^ (~~~(lane b ((x + 1) % 5 + 5 * y)) &&& lane b ((x + 2) % 5 + 5 * y))
  match e with
  | [] => []
  | h :: t => (h ^^^ rc) :: t

/-- Keccak-f[1600]. -/
def keccakF (a : List DWord) : List DWord := keccakRc.foldl keccakRound a

/-- Bytes of a state. -/
def laneBytes (a : List DWord) : List Byte := a.flatMap fun w => leBytes 8 w.toNat

/-- Absorb one block of 136 bytes. -/
def absorb (a : List DWord) (blk : List Byte) : List DWord :=
  keccakF ((List.range 25).map fun i => lane a i ^^^ (if i < 17 then BitVec.ofNat 64 (fieldLE blk (8 * i) 8) else 0))

/-- Squeeze output in blocks of 136 bytes. -/
def squeeze : Nat → List DWord → List Byte
  | 0, _ => []
  | n + 1, a => (laneBytes a).take 136 ++ squeeze n (keccakF a)

/-- Padding to the rate with a domain suffix. -/
def spongePad (suffix : Byte) (m : List Byte) : List Byte :=
  let k := 136 - m.length % 136
  if k = 1 then m ++ [suffix ||| 0x80#8]
  else m ++ suffix :: List.replicate (k - 2) 0#8 ++ [0x80#8]

/-- The sponge of SHAKE256 and cSHAKE256. -/
def sponge (suffix : Byte) (m : List Byte) (n : Nat) : List Byte :=
  let p := spongePad suffix m
  let a := (chunks 136 (p.length / 136 + 1) p).foldl absorb (List.replicate 25 0#64)
  (squeeze (n / 136 + 1) a).take n

/-- SHAKE256 with `n` output bytes. (Open points: assumption 12, PRESUMED.) -/
def shake256 (m : List Byte) (n : Nat) : List Byte := sponge 0x1F#8 m n

/-- Bytes of a number, most significant first, without leading zeros (at least one byte). -/
def beMin : Nat → Nat → List Byte
  | 0, _ => []
  | f + 1, x => if x < 256 then [BitVec.ofNat 8 x] else beMin f (x / 256) ++ [BitVec.ofNat 8 x]

/-- left_encode of SP 800-185. -/
def leftEncode (x : Nat) : List Byte := let b := beMin 16 x; BitVec.ofNat 8 b.length :: b
/-- right_encode of SP 800-185. -/
def rightEncode (x : Nat) : List Byte := let b := beMin 16 x; b ++ [BitVec.ofNat 8 b.length]
/-- encode_string of SP 800-185. -/
def encodeString (s : List Byte) : List Byte := leftEncode (8 * s.length) ++ s
/-- bytepad to the rate. -/
def bytepad (s : List Byte) : List Byte :=
  let z := leftEncode 136 ++ s
  z ++ List.replicate ((136 - z.length % 136) % 136) 0#8

/-- Bytes of an ASCII string. -/
def ascii (s : String) : List Byte := s.toList.map fun c => BitVec.ofNat 8 c.toNat

/-- KMAC256 with `n` output bytes. (Open points: assumption 12, PRESUMED.) -/
def kmac256 (key data : List Byte) (custom : String) (n : Nat) : List Byte :=
  let pre := bytepad (encodeString (ascii "KMAC") ++ encodeString (ascii custom))
  sponge 0x04#8 (pre ++ bytepad (encodeString key) ++ data ++ rightEncode (8 * n)) n

end Sys2Proof.Machine
end

