-- ==== Sys2Proof/Machine/Mem.lean ====
section
/-! DEFINITION. Memory: one byte read and one byte written, loss of a range, and the canonical form (09:R188;
assumptions 5 and 6): addresses rise strictly, and outside the lost ranges no listed byte is 0x00, which is what an
unlisted address reads as. -/
namespace Sys2Proof.Machine

/-- What an unlisted address reads as: the free byte of the newest loss that covers it, or 0x00. (Open points: assumption 6, DESIGN CHOICE.) -/
def lostRead : List Lost → Nat → Byte
  | [], _ => 0#8
  | l :: t, a => if l.lo ≤ a ∧ a < l.hi then Config.lostByte l.tag a else lostRead t a

/-- Whether an address lies in a lost range. -/
def isLost (ls : List Lost) (a : Nat) : Bool := ls.any fun l => decide (l.lo ≤ a) && decide (a < l.hi)

/-- Read one byte. (Open points: assumption 5, DESIGN CHOICE.) -/
def memGet (m : Memory) (a : Nat) : Byte :=
  match tabFind m.cells a with
  | some b => b
  | none => lostRead m.lost a

/-- Write one byte: 0x00 outside the lost ranges is unlisted, everything else is listed. (Open points: assumption 5, DESIGN CHOICE.) -/
def memSet (m : Memory) (a : Nat) (b : Byte) : Memory :=
  if b = 0#8 && !(isLost m.lost a) then { m with cells := tabDel m.cells a }
  else { m with cells := tabPut m.cells a b }

/-- Lose a range: its listed bytes go, and its contents are undefined under the tag. (Open points: assumption 6, DESIGN CHOICE.) -/
def memLose (m : Memory) (lo hi tag : Nat) : Memory :=
  if lo < hi then
    { cells := tabDelIf m.cells fun a => decide (lo ≤ a) && decide (a < hi), lost := ⟨lo, hi, tag⟩ :: m.lost }
  else m

/-- Read `n` bytes from an address. -/
def memRead (m : Memory) : Nat → Nat → List Byte
  | _, 0 => []
  | a, n + 1 => memGet m a :: memRead m (a + 1) n

/-- Write bytes from an address. -/
def memWrite (m : Memory) : Nat → List Byte → Memory
  | _, [] => m
  | a, b :: t => memWrite (memSet m a b) (a + 1) t

/-- The canonical form. (Open points: assumption 5, DESIGN CHOICE.) -/
def memWf (m : Memory) : Bool := tabSorted m.cells && m.cells.all fun c => c.2 != 0#8 || isLost m.lost c.1

end Sys2Proof.Machine
end

