-- ==== Sys2Proof/Machine/Shipped.lean ====
section
/-! DEFINITION. What the flash area and the boot ROMs hold as shipped (20:R450, R452-R455; 12:R279; 03:R56): key digests,
images, header and manifest. -/
namespace Sys2Proof.Machine

/-- FKi, as every boot ROM holds it. (Open points: assumption 10, DESIGN CHOICE.) -/
def fkDigest (i : Fin 4) : List Byte := shake256 ((List.range 1793).map (Config.firmwareKeyByte i)) 32
/-- CKi, as every boot ROM holds it; it is compared with the signing CA's key by who verifies the certificate (20:R464, R465). (Open points: assumption 10, DESIGN CHOICE.) -/
def ckDigest (i : Fin 4) : List Byte := shake256 ((List.range 1793).map (Config.caKeyByte i)) 32

/-- Slot size of a KIND (20:R452). -/
def slotBytes (kind : Nat) : Nat :=
  if kind = 1 then 16777216 else if kind = 2 then 4194304 else if kind = 3 ∨ kind = 4 then 8388608 else if kind = 5 then 1048576
  else if kind = 6 then 33554432 else if kind = 7 then 64 else 32

/-- The default Mica image (12:R279). -/
def micaDefault : List Byte :=
  (List.range 5).flatMap (fun _ => [0x40#8, 0x00#8, 0x3F#8, 0x3E#8, 0x3D#8, 0x3C#8, 0x3B#8, 0x80#8]) ++ List.replicate 24 0#8

/-- IMAGE_BYTES of the shipped part of a KIND: 1 to its slot size, and the sizes of the tables of KINDs 7 and 8. -/
def shippedBytes (kind : Nat) : Nat := if kind = 7 then 64 else if kind = 8 then 32 else 1 + Config.shippedLength kind % slotBytes kind

/-- The shipped image of a KIND: the tables of 12:R279 and 03:R56, else what an implementation ships. (Open points: assumption 11, DESIGN CHOICE.) -/
def shippedImage (kind : Nat) : List Byte :=
  if kind = 7 then micaDefault
  else if kind = 8 then (List.range 8).flatMap fun k => leBytes 4 (Config.recipeDefault k).toNat
  else (List.range (shippedBytes kind)).map (Config.shippedImageByte kind)

/-- The digest of the shipped image of a KIND. -/
def shippedDigest (kind : Nat) : List Byte := shake256 (shippedImage kind) 32

/-- Bytes [i, i + n) of a list replaced. -/
def spliceBytes (bs : List Byte) (i : Nat) (x : List Byte) : List Byte := bs.take i ++ x ++ bs.drop (i + x.length)

/-- An entry of the shipped manifest: METHOD FULL, its payload behind those of the KINDs before it. (Open points: assumption 11, DESIGN CHOICE.) -/
def shippedEntry (kind : Nat) : List Byte :=
  let n := shippedBytes kind
  let off := ((List.range (kind - 1)).map fun k => shippedBytes (k + 1)).sum
  [BitVec.ofNat 8 kind, 1#8, 0#8, 0#8] ++ leBytes 4 (Config.shippedPartVersion kind).toNat ++ leBytes 4 n ++ leBytes 4 0 ++ leBytes 8 off
    ++ leBytes 8 n ++ List.replicate 32 0#8 ++ shippedDigest kind ++ List.replicate 32 0#8

/-- Header and manifest of the shipped package, laid out as 20:R454 and R455 say, with the sizes of its images. (Open points: assumption 11,
DESIGN CHOICE.) -/
def shippedMeta : List Byte :=
  let key := Config.shippedKeyIndex
  leBytes 4 0x574B4657 ++ leBytes 2 1 ++ [BitVec.ofNat 8 key.val, BitVec.ofNat 8 Config.shippedMinFloor.val]
    ++ leBytes 4 Config.shippedVersion.toNat ++ leBytes 4 Config.shippedSvn.toNat ++ leBytes 4 Config.shippedFloorSvn.toNat ++ leBytes 4 0
    ++ leBytes 4 1088 ++ leBytes 8 ((List.range 8).map fun k => shippedBytes (k + 1)).sum ++ List.replicate 28 0#8
    ++ (List.range 1793).map (Config.firmwareKeyByte key) ++ List.replicate 63 0#8
    ++ (List.range 1280).map Config.shippedSigByte ++ List.replicate 896 0#8
    ++ leBytes 4 8 ++ List.replicate 60 0#8 ++ (List.range 8).flatMap fun k => shippedEntry (k + 1)

end Sys2Proof.Machine
end

