-- ==== Sys2Proof/Machine/Regs.lean ====
section
/-! DEFINITION. The register map of the control blocks (02:R44-R46, 03:R73-R74, 04:R96-R97, 05:R120-R121, 06:R153-R154,
08:R185-R186, 09:R212-R214, 10:R245-R246, 11:R271-R272, 12:R293-R294, 13:R312-R313, 14:R339-R340, 15:R372-R373,
16:R392-R393, 17:R414-R415, 18:R432-R433, 19:R447-R448, 20:R469-R470, 21:R493-R494): every register's address, access
code and reset value, and every field's place. A register is named by its device physical address (09:R188); a
register that the Schists mirror (15:R345) is held once, under the address in Q0.S. -/
namespace Sys2Proof.Machine

/-- The access codes of 00_scope.md:R6; `ctr` is a read-only 64-bit counter with a latched high half (02:R47). -/
inductive Acc where
  | ro | rw | wo | w1c | rwl | ctr
deriving DecidableEq, Repr

/-- The kinds of die (01:R10, 14:R340). -/
inductive DieKind where
  | gabbro | shale | gneiss | feldspar | flint | schist
deriving DecidableEq, Repr

/-- The kind of the die with a die index (01:R11). -/
def dieKind (d : Nat) : DieKind :=
  let c := d % 16
  if c < 4 then .gabbro else if c < 8 then .shale else if c < 10 then .gneiss
  else if c < 12 then .feldspar else if c < 15 then .flint else .schist

/-- One row of a register table: first offset, two repeat counts with their strides, whether it is a 64-bit pair,
the access code, the bits a write may change, and the reset value. -/
structure RegRow where
  /-- offset of the first instance in its control block -/
  off : Nat
  /-- instances of the outer repeat (frames, ports, queues) -/
  n1 : Nat
  /-- stride of the outer repeat -/
  s1 : Nat
  /-- instances of the inner repeat (entries, words) -/
  n2 : Nat
  /-- stride of the inner repeat -/
  s2 : Nat
  /-- a _LO, _HI pair -/
  wide : Bool
  /-- access code -/
  acc : Acc
  /-- bits a write may change -/
  wmask : Word
  /-- reset value where the table gives a number -/
  reset : Word
deriving DecidableEq, Repr

/-- Base of the control blocks (09:R188). -/
def ctrlBase : Nat := 0x01C000000000
/-- The address of offset `off` in the control block of die `d`. -/
def regAt (d off : Nat) : Nat := ctrlBase + d * 0x4000000 + off
/-- The die that owns a register address. -/
def regDie (k : Nat) : Nat := (k - ctrlBase) / 0x4000000
/-- The offset of a register address in its control block. -/
def regOff (k : Nat) : Nat := (k - ctrlBase) % 0x4000000
/-- Offsets mirrored in every Schist (15:R345, R372; 14:R339; 16:R392; 17:R414; 18:R432; 19:R447; 20:R469; 21:R493). (Open points: assumption 29, DESIGN CHOICE.) -/
def regMirrored (d off : Nat) : Bool := dieKind d = .schist && decide (0x3000 ≤ off) && decide (off < 0xC000)
/-- The address under which a register is held. (Open points: assumption 29, DESIGN CHOICE.) -/
def regKey (d off : Nat) : Nat := if regMirrored d off then regAt 15 off else regAt d off

/-- Registers of every die, part 1. -/
def allRegs1 : List RegRow := [
  ⟨0x1000, 1, 0x0, 1, 0, false, .ro, 0x0, 0x0⟩,
  ⟨0x1008, 1, 0x0, 1, 0, true, .ro, 0x0, 0x0⟩,
  ⟨0x1010, 1, 0x0, 1, 0, false, .rw, 0x1, 0x1⟩,
  ⟨0x1018, 1, 0x0, 1, 0, true, .ctr, 0x0, 0x0⟩,
  ⟨0x1020, 1, 0x0, 1, 0, false, .wo, 0x0, 0x0⟩]

/-- How many seams a die of a kind has (14:R315). -/
def seamCount : DieKind → Nat
  | .gabbro => 16
  | .shale => 0
  | .gneiss => 13
  | .feldspar => 15
  | .flint => 9
  | .schist => 11

/-- Registers of every die but a Shale: its seam blocks, `n` of them (14:R339), and its power registers. -/
def notShaleRegs1 (n : Nat) : List RegRow := [
  ⟨0x2000, n, 0x40, 1, 0, false, .ro, 0x0, 0x0⟩,
  ⟨0x2004, n, 0x40, 1, 0, false, .ro, 0x0, 0x0⟩,
  ⟨0x2008, n, 0x40, 1, 0, false, .w1c, 0x1f, 0x0⟩,
  ⟨0x2010, n, 0x40, 1, 0, true, .ro, 0x0, 0x0⟩,
  ⟨0x2018, n, 0x40, 1, 0, true, .ctr, 0x0, 0x0⟩,
  ⟨0x2020, n, 0x40, 1, 0, true, .ctr, 0x0, 0x0⟩,
  ⟨0x2028, n, 0x40, 1, 0, false, .wo, 0x0, 0x0⟩,
  ⟨0x1100, 1, 0x0, 1, 0, false, .ro, 0x0, 0x0⟩,
  ⟨0x1104, 1, 0x0, 1, 0, false, .ro, 0x0, 0x0⟩,
  ⟨0x1108, 1, 0x0, 1, 0, false, .ro, 0x0, 0x0⟩,
  ⟨0x110c, 1, 0x0, 1, 0, false, .ro, 0x0, 0x0⟩,
  ⟨0x1110, 1, 0x0, 1, 0, false, .ro, 0x0, 0x0⟩]

/-- Registers of a Gabbro, part 1. -/
def gabbroRegs1 : List RegRow := [
  ⟨0x100000, 1, 0x0, 1, 0, false, .ro, 0x0, 0x0⟩,
  ⟨0x100004, 1, 0x0, 1, 0, false, .rw, 0xff, 0x0⟩,
  ⟨0x101000, 8, 0x1000, 1, 0, false, .rw, 0x3, 0x3⟩,
  ⟨0x101004, 8, 0x1000, 1, 0, false, .ro, 0x0, 0x0⟩,
  ⟨0x101008, 8, 0x1000, 1, 0, false, .w1c, 0x1f, 0x0⟩,
  ⟨0x10100c, 8, 0x1000, 1, 0, false, .wo, 0x0, 0x0⟩,
  ⟨0x101010, 8, 0x1000, 1, 0, false, .ro, 0x0, 0x10⟩,
  ⟨0x101014, 8, 0x1000, 1, 0, false, .ro, 0x0, 0x0⟩,
  ⟨0x101018, 8, 0x1000, 1, 0, false, .ro, 0x0, 0x0⟩,
  ⟨0x101020, 8, 0x1000, 1, 0, true, .ctr, 0x0, 0x0⟩,
  ⟨0x101028, 8, 0x1000, 1, 0, true, .ctr, 0x0, 0x0⟩,
  ⟨0x101030, 8, 0x1000, 1, 0, true, .ctr, 0x0, 0x0⟩,
  ⟨0x101038, 8, 0x1000, 1, 0, true, .ctr, 0x0, 0x0⟩,
  ⟨0x101040, 8, 0x1000, 1, 0, true, .ctr, 0x0, 0x0⟩,
  ⟨0x101048, 8, 0x1000, 1, 0, true, .ctr, 0x0, 0x0⟩,
  ⟨0x101050, 8, 0x1000, 1, 0, false, .wo, 0x0, 0x0⟩,
  ⟨0x101100, 8, 0x1000, 8, 4, false, .ro, 0x0, 0x0⟩,
  ⟨0x101120, 8, 0x1000, 8, 4, false, .ro, 0x0, 0x0⟩,
  ⟨0x101140, 8, 0x1000, 8, 4, false, .ro, 0x0, 0x0⟩,
  ⟨0x101160, 8, 0x1000, 8, 4, false, .ro, 0x0, 0x0⟩,
  ⟨0x100040, 1, 0x0, 8, 4, false, .ro, 0x0, 0x0⟩,
  ⟨0x100060, 1, 0x0, 1, 0, true, .ro, 0x0, 0x0⟩,
  ⟨0x100068, 1, 0x0, 1, 0, false, .ro, 0x0, 0x0⟩,
  ⟨0x101200, 8, 0x1000, 1, 0, true, .ctr, 0x0, 0x0⟩,
  ⟨0x101208, 8, 0x1000, 1, 0, true, .ctr, 0x0, 0x0⟩,
  ⟨0x101210, 8, 0x1000, 1, 0, true, .ctr, 0x0, 0x0⟩,
  ⟨0x101218, 8, 0x1000, 1, 0, true, .ctr, 0x0, 0x0⟩,
  ⟨0x101220, 8, 0x1000, 1, 0, false, .wo, 0x0, 0x0⟩,
  ⟨0x101300, 8, 0x1000, 1, 0, false, .ro, 0x0, 0x0⟩,
  ⟨0x101304, 8, 0x1000, 1, 0, false, .w1c, 0x1f, 0x0⟩]

/-- Registers of a Gabbro, part 2. -/
def gabbroRegs2 : List RegRow := [
  ⟨0x101310, 8, 0x1000, 1, 0, true, .ctr, 0x0, 0x0⟩,
  ⟨0x101318, 8, 0x1000, 1, 0, true, .ctr, 0x0, 0x0⟩,
  ⟨0x101320, 8, 0x1000, 1, 0, true, .ctr, 0x0, 0x0⟩,
  ⟨0x101328, 8, 0x1000, 1, 0, true, .ctr, 0x0, 0x0⟩,
  ⟨0x101330, 8, 0x1000, 1, 0, true, .ctr, 0x0, 0x0⟩,
  ⟨0x101340, 8, 0x1000, 1, 0, false, .wo, 0x0, 0x0⟩,
  ⟨0x101400, 8, 0x1000, 64, 16, false, .ro, 0x0, 0x0⟩,
  ⟨0x101404, 8, 0x1000, 64, 16, false, .ro, 0x0, 0x0⟩,
  ⟨0x101408, 8, 0x1000, 64, 16, false, .ro, 0x0, 0x0⟩,
  ⟨0x101800, 8, 0x1000, 1, 0, false, .ro, 0x0, 0x0⟩,
  ⟨0x101804, 8, 0x1000, 1, 0, false, .w1c, 0x1f, 0x0⟩,
  ⟨0x101808, 8, 0x1000, 1, 0, false, .ro, 0x0, 0x0⟩,
  ⟨0x101810, 8, 0x1000, 1, 0, true, .ctr, 0x0, 0x0⟩,
  ⟨0x101818, 8, 0x1000, 1, 0, true, .ctr, 0x0, 0x0⟩,
  ⟨0x101820, 8, 0x1000, 1, 0, true, .ctr, 0x0, 0x0⟩,
  ⟨0x101828, 8, 0x1000, 1, 0, true, .ctr, 0x0, 0x0⟩,
  ⟨0x101830, 8, 0x1000, 1, 0, true, .ctr, 0x0, 0x0⟩,
  ⟨0x101838, 8, 0x1000, 1, 0, true, .ctr, 0x0, 0x0⟩,
  ⟨0x101840, 8, 0x1000, 1, 0, false, .wo, 0x0, 0x0⟩,
  ⟨0x110000, 1, 0x0, 1, 0, false, .ro, 0x0, 0x0⟩,
  ⟨0x110004, 1, 0x0, 1, 0, false, .rw, 0xffffffff, 0x6422c40⟩,
  ⟨0x110008, 1, 0x0, 1, 0, false, .rw, 0xffffffff, 0x0⟩,
  ⟨0x110010, 1, 0x0, 1, 0, true, .ro, 0x0, 0x0⟩,
  ⟨0x110018, 1, 0x0, 1, 0, false, .ro, 0x0, 0x0⟩,
  ⟨0x11001c, 1, 0x0, 1, 0, false, .ro, 0x0, 0x0⟩,
  ⟨0x110020, 1, 0x0, 1, 0, false, .ro, 0x0, 0x0⟩,
  ⟨0x110024, 1, 0x0, 1, 0, false, .ro, 0x0, 0x0⟩,
  ⟨0x110028, 1, 0x0, 1, 0, true, .ctr, 0x0, 0x0⟩,
  ⟨0x110030, 1, 0x0, 1, 0, true, .ctr, 0x0, 0x0⟩,
  ⟨0x110038, 1, 0x0, 1, 0, true, .ctr, 0x0, 0x0⟩]

/-- Registers of a Gabbro, part 3. -/
def gabbroRegs3 : List RegRow := [
  ⟨0x110040, 1, 0x0, 1, 0, true, .ctr, 0x0, 0x0⟩,
  ⟨0x110048, 1, 0x0, 1, 0, false, .ro, 0x0, 0x0⟩,
  ⟨0x11004c, 1, 0x0, 1, 0, false, .ro, 0x0, 0x0⟩,
  ⟨0x110050, 1, 0x0, 1, 0, false, .ro, 0x0, 0x0⟩,
  ⟨0x110060, 1, 0x0, 8, 4, false, .ro, 0x0, 0x0⟩,
  ⟨0x110080, 1, 0x0, 1, 0, false, .wo, 0x0, 0x0⟩,
  ⟨0x120000, 1, 0x0, 1, 0, false, .rw, 0x1, 0x1⟩,
  ⟨0x120004, 1, 0x0, 1, 0, false, .ro, 0x0, 0x0⟩,
  ⟨0x120008, 1, 0x0, 1, 0, true, .ctr, 0x0, 0x0⟩,
  ⟨0x120010, 1, 0x0, 1, 0, true, .ctr, 0x0, 0x0⟩,
  ⟨0x120018, 1, 0x0, 1, 0, true, .ctr, 0x0, 0x0⟩,
  ⟨0x120020, 1, 0x0, 1, 0, true, .ctr, 0x0, 0x0⟩,
  ⟨0x120028, 1, 0x0, 1, 0, true, .ctr, 0x0, 0x0⟩,
  ⟨0x120030, 1, 0x0, 1, 0, true, .ctr, 0x0, 0x0⟩,
  ⟨0x120038, 1, 0x0, 1, 0, false, .ro, 0x0, 0x0⟩,
  ⟨0x120040, 1, 0x0, 1, 0, false, .wo, 0x0, 0x0⟩,
  ⟨0x1120, 1, 0x0, 1, 0, true, .ctr, 0x0, 0x0⟩,
  ⟨0x1128, 1, 0x0, 1, 0, false, .wo, 0x0, 0x0⟩]

/-- Registers of a Shale, part 1. -/
def shaleRegs1 : List RegRow := [
  ⟨0x0, 1, 0x0, 1, 0, false, .ro, 0x0, 0x0⟩,
  ⟨0x4, 1, 0x0, 1, 0, false, .w1c, 0xf, 0x0⟩,
  ⟨0x8, 1, 0x0, 1, 0, false, .rw, 0x3f, 0x35⟩,
  ⟨0x10, 1, 0x0, 1, 0, true, .ctr, 0x0, 0x0⟩,
  ⟨0x18, 1, 0x0, 1, 0, true, .ctr, 0x0, 0x0⟩,
  ⟨0x20, 1, 0x0, 1, 0, true, .ro, 0x0, 0x0⟩,
  ⟨0x28, 1, 0x0, 1, 0, false, .ro, 0x0, 0x0⟩,
  ⟨0x30, 1, 0x0, 1, 0, true, .ctr, 0x0, 0x0⟩,
  ⟨0x38, 1, 0x0, 1, 0, true, .ctr, 0x0, 0x0⟩,
  ⟨0x40, 1, 0x0, 1, 0, false, .ro, 0x0, 0x0⟩,
  ⟨0x44, 1, 0x0, 1, 0, false, .ro, 0x0, 0x0⟩,
  ⟨0x48, 1, 0x0, 1, 0, false, .ro, 0x0, 0x0⟩,
  ⟨0x50, 1, 0x0, 1, 0, false, .wo, 0x0, 0x0⟩,
  ⟨0x100, 1, 0x0, 16, 4, false, .ro, 0x0, 0x0⟩]

/-- Registers of a Gneiss, part 1. -/
def gneissRegs1 : List RegRow := [
  ⟨0x20000, 1, 0x0, 1, 0, false, .rw, 0x7, 0x4⟩,
  ⟨0x20008, 1, 0x0, 1, 0, true, .ctr, 0x0, 0x0⟩,
  ⟨0x20010, 1, 0x0, 1, 0, true, .ctr, 0x0, 0x0⟩,
  ⟨0x20018, 1, 0x0, 1, 0, true, .ctr, 0x0, 0x0⟩,
  ⟨0x20020, 1, 0x0, 1, 0, false, .wo, 0x0, 0x0⟩]

/-- Registers of a Feldspar, part 1. -/
def feldsparRegs1 : List RegRow := [
  ⟨0x61000, 1, 0x0, 1, 0, true, .ctr, 0x0, 0x0⟩,
  ⟨0x61008, 1, 0x0, 1, 0, true, .ctr, 0x0, 0x0⟩,
  ⟨0x61010, 1, 0x0, 1, 0, true, .ctr, 0x0, 0x0⟩,
  ⟨0x61018, 1, 0x0, 1, 0, true, .ctr, 0x0, 0x0⟩,
  ⟨0x61020, 1, 0x0, 1, 0, true, .ctr, 0x0, 0x0⟩,
  ⟨0x61028, 1, 0x0, 1, 0, true, .ctr, 0x0, 0x0⟩,
  ⟨0x61030, 1, 0x0, 1, 0, false, .ro, 0x0, 0x0⟩,
  ⟨0x61034, 1, 0x0, 1, 0, false, .rw, 0x1, 0x1⟩,
  ⟨0x61038, 1, 0x0, 1, 0, false, .wo, 0x0, 0x0⟩,
  ⟨0x80000, 1, 0x0, 1, 0, false, .rw, 0x3, 0x3⟩,
  ⟨0x80004, 1, 0x0, 1, 0, false, .w1c, 0x3, 0x0⟩,
  ⟨0x80010, 1, 0x0, 4, 8, false, .ro, 0x0, 0x0⟩,
  ⟨0x80014, 1, 0x0, 4, 8, false, .ro, 0x0, 0x0⟩,
  ⟨0x80040, 1, 0x0, 4, 8, true, .ro, 0x0, 0x0⟩,
  ⟨0x80080, 1, 0x0, 1, 0, true, .ctr, 0x0, 0x0⟩,
  ⟨0x80088, 1, 0x0, 1, 0, true, .ctr, 0x0, 0x0⟩,
  ⟨0x80090, 1, 0x0, 1, 0, true, .ctr, 0x0, 0x0⟩,
  ⟨0x80098, 1, 0x0, 1, 0, true, .ctr, 0x0, 0x0⟩,
  ⟨0x800a0, 1, 0x0, 1, 0, true, .ctr, 0x0, 0x0⟩,
  ⟨0x800a8, 1, 0x0, 1, 0, true, .ctr, 0x0, 0x0⟩,
  ⟨0x800b0, 1, 0x0, 1, 0, true, .ctr, 0x0, 0x0⟩,
  ⟨0x800c0, 1, 0x0, 1, 0, false, .wo, 0x0, 0x0⟩,
  ⟨0x80100, 1, 0x0, 6, 4, false, .ro, 0x0, 0x0⟩,
  ⟨0x90000, 6, 0x100, 1, 0, false, .ro, 0x0, 0x0⟩,
  ⟨0x90004, 6, 0x100, 1, 0, false, .ro, 0x0, 0x0⟩,
  ⟨0x90008, 6, 0x100, 1, 0, false, .ro, 0x0, 0x0⟩,
  ⟨0x9000c, 6, 0x100, 1, 0, false, .w1c, 0x1f, 0x0⟩,
  ⟨0x90010, 6, 0x100, 1, 0, true, .ro, 0x0, 0x0⟩,
  ⟨0x90018, 6, 0x100, 1, 0, false, .ro, 0x0, 0x0⟩,
  ⟨0x90020, 6, 0x100, 1, 0, true, .ro, 0x0, 0x0⟩]

/-- Registers of a Feldspar, part 2. -/
def feldsparRegs2 : List RegRow := [
  ⟨0x90028, 6, 0x100, 1, 0, false, .ro, 0x0, 0x0⟩,
  ⟨0x9002c, 6, 0x100, 1, 0, false, .rw, 0x1, 0x1⟩,
  ⟨0x90040, 6, 0x100, 1, 0, true, .ctr, 0x0, 0x0⟩,
  ⟨0x90048, 6, 0x100, 1, 0, true, .ctr, 0x0, 0x0⟩,
  ⟨0x90050, 6, 0x100, 1, 0, true, .ctr, 0x0, 0x0⟩,
  ⟨0x90058, 6, 0x100, 1, 0, false, .ro, 0x0, 0x0⟩,
  ⟨0x9005c, 6, 0x100, 1, 0, false, .ro, 0x0, 0x0⟩,
  ⟨0x90060, 6, 0x100, 1, 0, false, .wo, 0x0, 0x0⟩]

/-- Registers of Feldspar Q0.L0 only, part 1. -/
def q0l0Regs1 : List RegRow := [
  ⟨0x60000, 8, 0x100, 1, 0, false, .ro, 0x0, 0x0⟩,
  ⟨0x60008, 8, 0x100, 1, 0, true, .ro, 0x0, 0x0⟩,
  ⟨0x60010, 8, 0x100, 4, 4, false, .ro, 0x0, 0x0⟩,
  ⟨0x60020, 8, 0x100, 1, 0, false, .ro, 0x0, 0x0⟩,
  ⟨0x60024, 8, 0x100, 1, 0, false, .ro, 0x0, 0x0⟩,
  ⟨0x60028, 8, 0x100, 1, 0, false, .ro, 0x0, 0x0⟩,
  ⟨0x6002c, 8, 0x100, 1, 0, false, .ro, 0x0, 0x0⟩,
  ⟨0x60f00, 1, 0x0, 1, 0, false, .rw, 0xffffffff, 0x186a0⟩,
  ⟨0xa0000, 1, 0x0, 1, 0, false, .ro, 0x0, 0x0⟩,
  ⟨0xa0004, 1, 0x0, 1, 0, false, .w1c, 0x1f, 0x0⟩,
  ⟨0xa0008, 1, 0x0, 1, 0, false, .rw, 0xff, 0x0⟩,
  ⟨0xa0100, 1, 0x0, 64, 4, false, .w1c, 0xffffffff, 0x0⟩]

/-- Registers of a Flint, part 1. -/
def flintRegs1 : List RegRow := [
  ⟨0x40040, 1, 0x0, 8, 4, false, .ro, 0x0, 0x0⟩,
  ⟨0x40060, 1, 0x0, 1, 0, true, .ro, 0x0, 0x0⟩,
  ⟨0x40068, 1, 0x0, 1, 0, false, .ro, 0x0, 0x0⟩,
  ⟨0x40070, 1, 0x0, 1, 0, true, .ctr, 0x0, 0x0⟩,
  ⟨0x50000, 1, 0x0, 1, 0, false, .rw, 0x1, 0x1⟩,
  ⟨0x50004, 1, 0x0, 1, 0, false, .ro, 0x0, 0x0⟩,
  ⟨0x50008, 1, 0x0, 1, 0, true, .ctr, 0x0, 0x0⟩,
  ⟨0x50010, 1, 0x0, 1, 0, true, .ctr, 0x0, 0x0⟩,
  ⟨0x50018, 1, 0x0, 1, 0, true, .ctr, 0x0, 0x0⟩,
  ⟨0x50020, 1, 0x0, 1, 0, true, .ctr, 0x0, 0x0⟩,
  ⟨0x50028, 1, 0x0, 1, 0, true, .ctr, 0x0, 0x0⟩,
  ⟨0x50030, 1, 0x0, 1, 0, true, .ctr, 0x0, 0x0⟩,
  ⟨0x50038, 1, 0x0, 1, 0, false, .ro, 0x0, 0x0⟩,
  ⟨0x5003c, 1, 0x0, 1, 0, false, .ro, 0x0, 0x0⟩,
  ⟨0x50040, 1, 0x0, 1, 0, false, .wo, 0x0, 0x0⟩,
  ⟨0x50050, 1, 0x0, 1, 0, false, .ro, 0x0, 0x0⟩,
  ⟨0x70000, 1, 0x0, 1, 0, false, .ro, 0x0, 0x0⟩,
  ⟨0x70004, 1, 0x0, 1, 0, false, .w1c, 0x7, 0x0⟩,
  ⟨0x70008, 1, 0x0, 1, 0, false, .rw, 0x1, 0x1⟩,
  ⟨0x70010, 1, 0x0, 1, 0, true, .ro, 0x0, 0x0⟩,
  ⟨0x70018, 1, 0x0, 1, 0, false, .ro, 0x0, 0x0⟩,
  ⟨0x7001c, 1, 0x0, 1, 0, false, .ro, 0x0, 0x0⟩,
  ⟨0x70020, 1, 0x0, 1, 0, true, .ctr, 0x0, 0x0⟩,
  ⟨0x70028, 1, 0x0, 1, 0, true, .ctr, 0x0, 0x0⟩,
  ⟨0x70030, 1, 0x0, 1, 0, true, .ctr, 0x0, 0x0⟩,
  ⟨0x70038, 1, 0x0, 1, 0, true, .ctr, 0x0, 0x0⟩,
  ⟨0x70040, 1, 0x0, 1, 0, false, .wo, 0x0, 0x0⟩,
  ⟨0x71000, 64, 0x60, 24, 4, false, .ro, 0x0, 0x0⟩]

/-- Registers of a Schist, part 1. -/
def schistRegs1 : List RegRow := [
  ⟨0x3000, 1, 0x0, 64, 4, false, .ro, 0x0, 0x0⟩,
  ⟨0x3100, 1, 0x0, 1, 0, true, .ro, 0x0, 0x0⟩,
  ⟨0x3108, 1, 0x0, 1, 0, true, .ro, 0x0, 0x0⟩,
  ⟨0x4000, 64, 0x40, 1, 0, true, .rwl, 0xffffffff, 0x0⟩,
  ⟨0x4008, 64, 0x40, 1, 0, true, .rwl, 0xffffffff, 0x0⟩,
  ⟨0x4010, 64, 0x40, 1, 0, false, .rw, 0x1f, 0x0⟩,
  ⟨0x4014, 64, 0x40, 1, 0, false, .ro, 0x0, 0x0⟩,
  ⟨0x4018, 64, 0x40, 1, 0, false, .ro, 0x0, 0x0⟩,
  ⟨0x401c, 64, 0x40, 1, 0, false, .w1c, 0x7, 0x0⟩,
  ⟨0x4020, 64, 0x40, 1, 0, false, .wo, 0x0, 0x0⟩,
  ⟨0x4024, 64, 0x40, 1, 0, false, .wo, 0x0, 0x0⟩,
  ⟨0x5000, 8, 0x40, 1, 0, false, .ro, 0x0, 0x0⟩,
  ⟨0x5004, 8, 0x40, 1, 0, false, .ro, 0x0, 0x0⟩,
  ⟨0x5008, 8, 0x40, 1, 0, false, .ro, 0x0, 0x0⟩,
  ⟨0x5010, 8, 0x40, 1, 0, true, .ctr, 0x0, 0x0⟩,
  ⟨0x5018, 8, 0x40, 1, 0, false, .ro, 0x0, 0x0⟩,
  ⟨0x5400, 1, 0x0, 1, 0, false, .w1c, 0x1, 0x0⟩,
  ⟨0x5404, 1, 0x0, 1, 0, false, .ro, 0x0, 0x0⟩,
  ⟨0x5408, 1, 0x0, 1, 0, false, .rw, 0xffffffff, 0x2710⟩,
  ⟨0x5410, 1, 0x0, 1, 0, true, .ctr, 0x0, 0x0⟩,
  ⟨0x5418, 1, 0x0, 1, 0, true, .ctr, 0x0, 0x0⟩,
  ⟨0x5420, 1, 0x0, 1, 0, true, .ctr, 0x0, 0x0⟩,
  ⟨0x5428, 1, 0x0, 1, 0, false, .rw, 0x1, 0x1⟩,
  ⟨0x542c, 1, 0x0, 1, 0, false, .wo, 0x0, 0x0⟩,
  ⟨0x6000, 1, 0x0, 1, 0, false, .ro, 0x0, 0x1000001⟩,
  ⟨0x6004, 1, 0x0, 1, 0, false, .w1c, 0x1f, 0x0⟩,
  ⟨0x6008, 1, 0x0, 1, 0, false, .ro, 0x0, 0x0⟩,
  ⟨0x600c, 1, 0x0, 1, 0, false, .ro, 0x0, 0x0⟩,
  ⟨0x6010, 1, 0x0, 1, 0, false, .ro, 0x0, 0x40000000⟩,
  ⟨0x6014, 1, 0x0, 1, 0, false, .ro, 0x0, 0x3c800000⟩]

/-- Registers of a Schist, part 2. -/
def schistRegs2 : List RegRow := [
  ⟨0x6018, 1, 0x0, 1, 0, true, .ro, 0x0, 0x0⟩,
  ⟨0x6030, 1, 0x0, 1, 0, true, .ro, 0x0, 0x0⟩,
  ⟨0x6038, 1, 0x0, 1, 0, true, .ro, 0x0, 0x0⟩,
  ⟨0x6040, 1, 0x0, 1, 0, true, .ro, 0x0, 0x0⟩,
  ⟨0x6048, 1, 0x0, 1, 0, true, .ro, 0x0, 0x0⟩,
  ⟨0x6050, 1, 0x0, 1, 0, true, .ro, 0x0, 0x0⟩,
  ⟨0x6060, 1, 0x0, 1, 0, true, .ctr, 0x0, 0x0⟩,
  ⟨0x6068, 1, 0x0, 1, 0, true, .ctr, 0x0, 0x0⟩,
  ⟨0x6070, 1, 0x0, 1, 0, true, .ctr, 0x0, 0x0⟩,
  ⟨0x6078, 1, 0x0, 1, 0, false, .rw, 0x1, 0x1⟩,
  ⟨0x607c, 1, 0x0, 1, 0, false, .wo, 0x0, 0x0⟩,
  ⟨0x6400, 1, 0x0, 256, 4, false, .ro, 0x0, 0x0⟩,
  ⟨0x6800, 1, 0x0, 1, 0, false, .ro, 0x0, 0x0⟩,
  ⟨0x6808, 1, 0x0, 1, 0, true, .ro, 0x0, 0x0⟩,
  ⟨0x6810, 1, 0x0, 1, 0, false, .ro, 0x0, 0x0⟩,
  ⟨0x6818, 1, 0x0, 1, 0, true, .ro, 0x0, 0x0⟩,
  ⟨0x6820, 1, 0x0, 1, 0, true, .ro, 0x0, 0x0⟩,
  ⟨0x6828, 1, 0x0, 1, 0, false, .ro, 0x0, 0x0⟩,
  ⟨0x682c, 1, 0x0, 1, 0, false, .ro, 0x0, 0x0⟩,
  ⟨0x6830, 1, 0x0, 1, 0, false, .ro, 0x0, 0x0⟩,
  ⟨0x7000, 1, 0x0, 1, 0, false, .ro, 0x0, 0x0⟩,
  ⟨0x7004, 1, 0x0, 1, 0, false, .w1c, 0x7f, 0x0⟩,
  ⟨0x7008, 1, 0x0, 1, 0, false, .rw, 0x1, 0x1⟩,
  ⟨0x700c, 1, 0x0, 1, 0, false, .ro, 0x0, 0x0⟩,
  ⟨0x7010, 1, 0x0, 1, 0, false, .ro, 0x0, 0x0⟩,
  ⟨0x7014, 1, 0x0, 1, 0, false, .ro, 0x0, 0x0⟩,
  ⟨0x7018, 1, 0x0, 1, 0, false, .ro, 0x0, 0x0⟩,
  ⟨0x701c, 1, 0x0, 1, 0, false, .ro, 0x0, 0x0⟩,
  ⟨0x7020, 1, 0x0, 1, 0, true, .ctr, 0x0, 0x0⟩,
  ⟨0x7028, 1, 0x0, 1, 0, true, .ctr, 0x0, 0x0⟩]

/-- Registers of a Schist, part 3. -/
def schistRegs3 : List RegRow := [
  ⟨0x7030, 1, 0x0, 1, 0, true, .ctr, 0x0, 0x0⟩,
  ⟨0x7038, 1, 0x0, 1, 0, false, .ro, 0x0, 0x0⟩,
  ⟨0x703c, 1, 0x0, 1, 0, false, .wo, 0x0, 0x0⟩,
  ⟨0x8000, 1, 0x0, 1, 0, false, .ro, 0x0, 0x0⟩,
  ⟨0x8004, 1, 0x0, 1, 0, false, .ro, 0x0, 0x0⟩,
  ⟨0x8008, 1, 0x0, 1, 0, false, .ro, 0x0, 0x0⟩,
  ⟨0x8010, 1, 0x0, 1, 0, false, .ro, 0x0, 0x0⟩,
  ⟨0x8014, 1, 0x0, 1, 0, false, .ro, 0x0, 0x0⟩,
  ⟨0x8018, 1, 0x0, 1, 0, false, .ro, 0x0, 0x0⟩,
  ⟨0x9000, 1, 0x0, 1, 0, false, .ro, 0x0, 0x0⟩,
  ⟨0x9004, 1, 0x0, 1, 0, false, .w1c, 0x7, 0x0⟩,
  ⟨0x9008, 1, 0x0, 1, 0, false, .rw, 0x1, 0x1⟩,
  ⟨0x9010, 1, 0x0, 1, 0, true, .ro, 0x0, 0x0⟩,
  ⟨0x9018, 1, 0x0, 1, 0, true, .ro, 0x0, 0x0⟩,
  ⟨0x9020, 1, 0x0, 1, 0, true, .rw, 0xffffffff, 0x0⟩,
  ⟨0x9028, 1, 0x0, 1, 0, false, .ro, 0x0, 0x0⟩,
  ⟨0x902c, 1, 0x0, 1, 0, false, .wo, 0x0, 0x0⟩,
  ⟨0x9030, 1, 0x0, 1, 0, false, .ro, 0x0, 0x0⟩,
  ⟨0x9038, 1, 0x0, 1, 0, true, .ctr, 0x0, 0x0⟩,
  ⟨0x9040, 1, 0x0, 1, 0, true, .ctr, 0x0, 0x0⟩,
  ⟨0x9048, 1, 0x0, 1, 0, true, .ctr, 0x0, 0x0⟩,
  ⟨0x9050, 1, 0x0, 1, 0, false, .wo, 0x0, 0x0⟩,
  ⟨0x9100, 1, 0x0, 64, 4, false, .ro, 0x0, 0x0⟩,
  ⟨0xa000, 1, 0x0, 1, 0, false, .ro, 0x0, 0x0⟩,
  ⟨0xa004, 1, 0x0, 1, 0, false, .w1c, 0xf, 0x0⟩,
  ⟨0xa008, 1, 0x0, 1, 0, false, .ro, 0x0, 0x0⟩,
  ⟨0xa00c, 1, 0x0, 1, 0, false, .ro, 0x0, 0x0⟩,
  ⟨0xa010, 1, 0x0, 1, 0, false, .ro, 0x0, 0x0⟩,
  ⟨0xa014, 1, 0x0, 1, 0, false, .ro, 0x0, 0x0⟩,
  ⟨0xa018, 1, 0x0, 1, 0, true, .ctr, 0x0, 0x0⟩]

/-- Registers of a Schist, part 4. -/
def schistRegs4 : List RegRow := [
  ⟨0xa020, 1, 0x0, 1, 0, false, .ro, 0x0, 0x0⟩,
  ⟨0xa028, 1, 0x0, 1, 0, true, .ro, 0x0, 0x0⟩,
  ⟨0xa040, 8, 0x20, 8, 4, false, .ro, 0x0, 0x0⟩,
  ⟨0xb000, 1, 0x0, 1, 0, false, .ro, 0x0, 0x0⟩,
  ⟨0xb004, 1, 0x0, 1, 0, false, .w1c, 0x1f, 0x0⟩]

/-- The register rows of a die. -/
def dieRegs (d : Nat) : List RegRow :=
  match dieKind d with
  | .gabbro => gabbroRegs1 ++ gabbroRegs2 ++ gabbroRegs3 ++ allRegs1 ++ notShaleRegs1 (seamCount .gabbro)
  | .shale => shaleRegs1 ++ allRegs1
  | .gneiss => gneissRegs1 ++ allRegs1 ++ notShaleRegs1 (seamCount .gneiss)
  | .feldspar => (if d = 10 then q0l0Regs1 else []) ++ feldsparRegs1 ++ feldsparRegs2 ++ allRegs1 ++ notShaleRegs1 (seamCount .feldspar)
  | .flint => flintRegs1 ++ allRegs1 ++ notShaleRegs1 (seamCount .flint)
  | .schist => schistRegs1 ++ schistRegs2 ++ schistRegs3 ++ schistRegs4 ++ allRegs1 ++ notShaleRegs1 (seamCount .schist)

/-- Whether an offset lies in a row, and if so on the low (false) or the high half (true) of a pair. -/
def rowHit (r : RegRow) (off : Nat) : Option Bool :=
  if off < r.off then none
  else
    let x := off - r.off
    let i := if r.s1 = 0 then 0 else x / r.s1
    let y := x - i * r.s1
    let j := if r.s2 = 0 then 0 else y / r.s2
    let z := y - j * r.s2
    if r.n1 ≤ i ∨ r.n2 ≤ j then none
    else if z = 0 then some false
    else if z = 4 ∧ r.wide then some true
    else none

/-- The row of a register, and which half, by search of the die's rows. -/
def findRow : List RegRow → Nat → Option (RegRow × Bool)
  | [], _ => none
  | r :: t, off => match rowHit r off with
    | some h => some (r, h)
    | none => findRow t off

/-- The row of offset `off` of die `d`. -/
def regRow (d off : Nat) : Option (RegRow × Bool) := if d < 64 then findRow (dieRegs d) off else none

/-- The physical frame that a logical frame of a Gabbro maps to (02:R39). -/
def physFrame (d f : Nat) : Nat := if f < (Config.disabledPhys d).val then f else f + 1

/-- Words whose reset value is a fuse or flash value, or the family code of a die (14:R324, R339-R340; 03:R56;
13:R312; 17:R414; 20:R469). Everything else takes the reset value of its row. (Open points: assumption 10, DESIGN CHOICE.) -/
def fuseReset (d off : Nat) : Option Word :=
  if off = 0x1000 then some (BitVec.ofNat 32 (d + (match dieKind d with
      | .gabbro => 0 | .shale => 1 | .gneiss => 2 | .feldspar => 3 | .flint => 4 | .schist => 5) * 256
      + (Config.dieRev d).toNat * 4096))
  else if 0x2000 ≤ off ∧ off < 0x2000 + 0x40 * seamCount (dieKind d) ∧ off % 0x40 = 4 then
    some (Config.seamMap d ((off - 0x2000) / 0x40))
  else match dieKind d with
  | .gabbro =>
    if off = 0x100000 then some (Config.frameMap d)
    else if 0x100040 ≤ off ∧ off < 0x100060 then some (Config.recipeDefault ((off - 0x100040) / 4))
    else none
  | .shale => if off = 0x48 then some (BitVec.ofNat 32 (Config.spareUsed d))
    else if off = 0 then some (BitVec.ofNat 32 (Config.spareMax d * 256)) else none
  | .feldspar => if 0x90000 ≤ off ∧ off < 0x90600 ∧ off % 0x100 = 0 then some 0x21#32 else none
  | .flint => if 0x40040 ≤ off ∧ off < 0x40060 then some (Config.recipeDefault ((off - 0x40040) / 4)) else none
  | .gneiss => none
  | .schist =>
    if 0xA040 ≤ off ∧ off < 0xA140 then
      some (BitVec.ofNat 32 (fieldLE (shippedDigest ((off - 0xA040) / 32 + 1)) ((off - 0xA040) % 32 / 4 * 4) 4))
    else if off = 0xA008 then some Config.shippedVersion
    else if off = 0xA00C then some Config.shippedSvn
    else if off = 0xA010 then some Config.shippedFloorSvn
    else if off = 0xA000 then some 0x40#32
    else none

/-- The reset value of a 32-bit register. (Open points: assumption 14, DESIGN CHOICE.) -/
def regReset (k : Nat) : Word :=
  match fuseReset (regDie k) (regOff k) with
  | some w => w
  | none => match regRow (regDie k) (regOff k) with
    | some (r, _) => r.reset
    | none => 0

/-- The reset value of a 64-bit pair, under the address of its low half. (Open points: assumption 14, DESIGN CHOICE.) -/
def ctrReset (k : Nat) : DWord :=
  let d := regDie k
  let off := regOff k
  if off = 0x1008 then Config.dieTrace d
  else if dieKind d = .schist ∧ off = 0x3100 then Config.moduleId
  else if dieKind d = .schist ∧ off = 0x3108 then Config.macBase
  else if dieKind d = .schist ∧ off = 0x9020 then 1
  else 0

/-! ### Register addresses. `d` is a die index, `f` a logical frame, `p` a local port, `s` a seam or session. -/

def R_GAB_FRAME_MAP (d : Nat) : Nat := regAt d (0x100000)
def R_GAB_FRAME_ENABLE (d : Nat) : Nat := regAt d (0x100004)
def R_GAB_FRM_CTRL (d f : Nat) : Nat := regAt d (0x101000 + f * 0x1000)
def R_GAB_FRM_STATUS (d f : Nat) : Nat := regAt d (0x101004 + f * 0x1000)
def R_GAB_FRM_ERR (d f : Nat) : Nat := regAt d (0x101008 + f * 0x1000)
def R_GAB_FRM_RESET (d f : Nat) : Nat := regAt d (0x10100c + f * 0x1000)
def R_GAB_FRM_RATE (d f : Nat) : Nat := regAt d (0x101010 + f * 0x1000)
def R_GAB_FRM_SLOT_H (d f : Nat) : Nat := regAt d (0x101014 + f * 0x1000)
def R_GAB_FRM_SLOT_E (d f : Nat) : Nat := regAt d (0x101018 + f * 0x1000)
def R_GAB_FRM_VALID_CYC (d f : Nat) : Nat := regAt d (0x101020 + f * 0x1000)
def R_GAB_FRM_DUMMY_CYC (d f : Nat) : Nat := regAt d (0x101028 + f * 0x1000)
def R_GAB_FRM_BUBBLE_CYC (d f : Nat) : Nat := regAt d (0x101030 + f * 0x1000)
def R_GAB_FRM_HOLD_CYC (d f : Nat) : Nat := regAt d (0x101038 + f * 0x1000)
def R_GAB_FRM_PASS_CNT (d f : Nat) : Nat := regAt d (0x101040 + f * 0x1000)
def R_GAB_FRM_LOAD_CNT (d f : Nat) : Nat := regAt d (0x101048 + f * 0x1000)
def R_GAB_FRM_CNT_CTRL (d f : Nat) : Nat := regAt d (0x101050 + f * 0x1000)
def R_GAB_FRM_ROWMASK_H (d f n : Nat) : Nat := regAt d (0x101100 + f * 0x1000 + n * 4)
def R_GAB_FRM_ROWMASK_E (d f n : Nat) : Nat := regAt d (0x101120 + f * 0x1000 + n * 4)
def R_GAB_FRM_COLMASK_H (d f n : Nat) : Nat := regAt d (0x101140 + f * 0x1000 + n * 4)
def R_GAB_FRM_COLMASK_E (d f n : Nat) : Nat := regAt d (0x101160 + f * 0x1000 + n * 4)
def R_GAB_RCP (d n : Nat) : Nat := regAt d (0x100040 + n * 4)
def R_GAB_RCP_SEED (d : Nat) : Nat := regAt d (0x100060)
def R_GAB_RCP_GEN (d : Nat) : Nat := regAt d (0x100068)
def R_FLT_RCP (d n : Nat) : Nat := regAt d (0x40040 + n * 4)
def R_FLT_RCP_SEED (d : Nat) : Nat := regAt d (0x40060)
def R_FLT_RCP_GEN (d : Nat) : Nat := regAt d (0x40068)
def R_FLT_CONV_SAT (d : Nat) : Nat := regAt d (0x40070)
def R_GAB_FRM_LONG_CHAIN (d f : Nat) : Nat := regAt d (0x101200 + f * 0x1000)
def R_GAB_FRM_PROD_FLUSH (d f : Nat) : Nat := regAt d (0x101208 + f * 0x1000)
def R_GAB_FRM_RANGE_OVF (d f : Nat) : Nat := regAt d (0x101210 + f * 0x1000)
def R_GAB_FRM_SATURATE (d f : Nat) : Nat := regAt d (0x101218 + f * 0x1000)
def R_GAB_FRM_NUM_CNT_CTRL (d f : Nat) : Nat := regAt d (0x101220 + f * 0x1000)
def R_GAB_BEAM_STATUS (d f : Nat) : Nat := regAt d (0x101300 + f * 0x1000)
def R_GAB_BEAM_ERR (d f : Nat) : Nat := regAt d (0x101304 + f * 0x1000)
def R_GAB_BEAM_NF_IN (d f : Nat) : Nat := regAt d (0x101310 + f * 0x1000)
def R_GAB_BEAM_NF_ACC (d f : Nat) : Nat := regAt d (0x101318 + f * 0x1000)
def R_GAB_BEAM_NF_OUT (d f : Nat) : Nat := regAt d (0x101320 + f * 0x1000)
def R_GAB_BEAM_ECC_CORR (d f : Nat) : Nat := regAt d (0x101328 + f * 0x1000)
def R_GAB_BEAM_DRAIN_ROWS (d f : Nat) : Nat := regAt d (0x101330 + f * 0x1000)
def R_GAB_BEAM_CNT_CTRL (d f : Nat) : Nat := regAt d (0x101340 + f * 0x1000)
def R_GAB_BEAM_TILE_CFG (d f n : Nat) : Nat := regAt d (0x101400 + f * 0x1000 + n * 16)
def R_GAB_BEAM_TILE_STATUS (d f n : Nat) : Nat := regAt d (0x101404 + f * 0x1000 + n * 16)
def R_GAB_BEAM_TILE_GROUPS (d f n : Nat) : Nat := regAt d (0x101408 + f * 0x1000 + n * 16)
def R_GAB_GNT_STATUS (d f : Nat) : Nat := regAt d (0x101800 + f * 0x1000)
def R_GAB_FRM_BWD_ERR (d f : Nat) : Nat := regAt d (0x101804 + f * 0x1000)
def R_GAB_GNT_LIVE (d f : Nat) : Nat := regAt d (0x101808 + f * 0x1000)
def R_GAB_GNT_ROWS (d f : Nat) : Nat := regAt d (0x101810 + f * 0x1000)
def R_GAB_GNT_NF (d f : Nat) : Nat := regAt d (0x101818 + f * 0x1000)
def R_GAB_GNT_EMPTY_ROW (d f : Nat) : Nat := regAt d (0x101820 + f * 0x1000)
def R_GAB_FRM_TURN_ROUND (d f : Nat) : Nat := regAt d (0x101828 + f * 0x1000)
def R_GAB_FRM_TURN_CNT (d f : Nat) : Nat := regAt d (0x101830 + f * 0x1000)
def R_GAB_GNT_ECC_CORR (d f : Nat) : Nat := regAt d (0x101838 + f * 0x1000)
def R_GAB_FRM_BWD_CNT_CTRL (d f : Nat) : Nat := regAt d (0x101840 + f * 0x1000)
def R_GAB_SCH_STATUS (d : Nat) : Nat := regAt d (0x110000)
def R_GAB_SCH_STALL_RUN_LIMIT (d : Nat) : Nat := regAt d (0x110004)
def R_GAB_SCH_STALL_SUM_LIMIT (d : Nat) : Nat := regAt d (0x110008)
def R_GAB_SCH_STEP (d : Nat) : Nat := regAt d (0x110010)
def R_GAB_SCH_RUN_CNT (d : Nat) : Nat := regAt d (0x110018)
def R_GAB_SCH_TOKENS (d : Nat) : Nat := regAt d (0x11001c)
def R_GAB_SCH_TIME (d : Nat) : Nat := regAt d (0x110020)
def R_GAB_SCH_PLAN_CYC (d : Nat) : Nat := regAt d (0x110024)
def R_GAB_SCH_STALL_CYC (d : Nat) : Nat := regAt d (0x110028)
def R_GAB_SCH_STALL_QUEUE (d : Nat) : Nat := regAt d (0x110030)
def R_GAB_SCH_STALL_ARRIVAL (d : Nat) : Nat := regAt d (0x110038)
def R_GAB_SCH_STALL_SLOT (d : Nat) : Nat := regAt d (0x110040)
def R_GAB_SCH_WIN_STALL (d : Nat) : Nat := regAt d (0x110048)
def R_GAB_SCH_WIN_RUN_MAX (d : Nat) : Nat := regAt d (0x11004c)
def R_GAB_SCH_STALE_XFER (d : Nat) : Nat := regAt d (0x110050)
def R_GAB_SCH_HASH (d n : Nat) : Nat := regAt d (0x110060 + n * 4)
def R_GAB_SCH_CNT_CTRL (d : Nat) : Nat := regAt d (0x110080)
def R_SHL_STATUS (d : Nat) : Nat := regAt d (0x0)
def R_SHL_ERR (d : Nat) : Nat := regAt d (0x4)
def R_SHL_CTRL (d : Nat) : Nat := regAt d (0x8)
def R_SHL_CE_CNT (d : Nat) : Nat := regAt d (0x10)
def R_SHL_UE_CNT (d : Nat) : Nat := regAt d (0x18)
def R_SHL_UE_ADDR (d : Nat) : Nat := regAt d (0x20)
def R_SHL_UE_SRC (d : Nat) : Nat := regAt d (0x28)
def R_SHL_WELL_WR (d : Nat) : Nat := regAt d (0x30)
def R_SHL_WELL_DISCARD (d : Nat) : Nat := regAt d (0x38)
def R_SHL_ARM_GEN (d : Nat) : Nat := regAt d (0x40)
def R_SHL_SCRUB_PASS (d : Nat) : Nat := regAt d (0x44)
def R_SHL_SPARE_USED (d : Nat) : Nat := regAt d (0x48)
def R_SHL_CNT_CTRL (d : Nat) : Nat := regAt d (0x50)
def R_SHL_RGN (d n : Nat) : Nat := regAt d (0x100 + n * 4)
def R_GAB_DIR_CTRL (d : Nat) : Nat := regAt d (0x120000)
def R_FLT_DIR_CTRL (d : Nat) : Nat := regAt d (0x50000)
def R_GAB_DIR_STATUS (d : Nat) : Nat := regAt d (0x120004)
def R_FLT_DIR_STATUS (d : Nat) : Nat := regAt d (0x50004)
def R_GAB_DIR_RECALL (d : Nat) : Nat := regAt d (0x120008)
def R_FLT_DIR_RECALL (d : Nat) : Nat := regAt d (0x50008)
def R_GAB_DIR_SNOOP (d : Nat) : Nat := regAt d (0x120010)
def R_FLT_DIR_SNOOP (d : Nat) : Nat := regAt d (0x50010)
def R_GAB_DIR_WB_CROSS (d : Nat) : Nat := regAt d (0x120018)
def R_FLT_DIR_WB_CROSS (d : Nat) : Nat := regAt d (0x50018)
def R_GAB_DIR_FAR_ATOMIC (d : Nat) : Nat := regAt d (0x120020)
def R_FLT_DIR_FAR_ATOMIC (d : Nat) : Nat := regAt d (0x50020)
def R_GAB_DIR_BARRIER (d : Nat) : Nat := regAt d (0x120028)
def R_FLT_DIR_BARRIER (d : Nat) : Nat := regAt d (0x50028)
def R_GAB_DIR_DROP (d : Nat) : Nat := regAt d (0x120030)
def R_FLT_DIR_DROP (d : Nat) : Nat := regAt d (0x50030)
def R_GAB_DIR_BARRIER_TMO (d : Nat) : Nat := regAt d (0x120038)
def R_FLT_DIR_BARRIER_TMO (d : Nat) : Nat := regAt d (0x50038)
def R_FLT_DIR_CE (d : Nat) : Nat := regAt d (0x5003c)
def R_GAB_DIR_CNT_CTRL (d : Nat) : Nat := regAt d (0x120040)
def R_FLT_DIR_CNT_CTRL (d : Nat) : Nat := regAt d (0x50040)
def R_FLT_INTLV (d : Nat) : Nat := regAt d (0x50050)
def R_GNS_ATOM_CTRL (d : Nat) : Nat := regAt d (0x20000)
def R_GNS_ATOM_NEAR (d : Nat) : Nat := regAt d (0x20008)
def R_GNS_ATOM_FAR (d : Nat) : Nat := regAt d (0x20010)
def R_GNS_ATOM_LLC (d : Nat) : Nat := regAt d (0x20018)
def R_GNS_ATOM_CNT_CTRL (d : Nat) : Nat := regAt d (0x20020)
def R_FLD_RING_STATUS (p : Nat) : Nat := regAt 10 (0x60000 + p * 0x100)
def R_FLD_RING_STEP (p : Nat) : Nat := regAt 10 (0x60008 + p * 0x100)
def R_FLD_RING_DIGEST (p n : Nat) : Nat := regAt 10 (0x60010 + p * 0x100 + n * 4)
def R_FLD_RING_CONTRIB (p : Nat) : Nat := regAt 10 (0x60020 + p * 0x100)
def R_FLD_RING_REPASS (p : Nat) : Nat := regAt 10 (0x60024 + p * 0x100)
def R_FLD_RING_RETRY (p : Nat) : Nat := regAt 10 (0x60028 + p * 0x100)
def R_FLD_RING_NF_BLOCKS (p : Nat) : Nat := regAt 10 (0x6002c + p * 0x100)
def R_FLD_RING_TIMEOUT : Nat := regAt 10 (0x60f00)
def R_FLD_RING_ADDS (d : Nat) : Nat := regAt d (0x61000)
def R_FLD_RING_NF (d : Nat) : Nat := regAt d (0x61008)
def R_FLD_RING_OVF (d : Nat) : Nat := regAt d (0x61010)
def R_FLD_RING_MISMATCH (d : Nat) : Nat := regAt d (0x61018)
def R_FLD_RING_SAMPLED (d : Nat) : Nat := regAt d (0x61020)
def R_FLD_RING_BEAD_RANGE (d : Nat) : Nat := regAt d (0x61028)
def R_FLD_RING_DROPPED (d : Nat) : Nat := regAt d (0x61030)
def R_FLD_RING_CTRL (d : Nat) : Nat := regAt d (0x61034)
def R_FLD_RING_CNT_CTRL (d : Nat) : Nat := regAt d (0x61038)
def R_FLT_UPD_STATUS (d : Nat) : Nat := regAt d (0x70000)
def R_FLT_UPD_ERR (d : Nat) : Nat := regAt d (0x70004)
def R_FLT_UPD_CTRL (d : Nat) : Nat := regAt d (0x70008)
def R_FLT_UPD_STEP (d : Nat) : Nat := regAt d (0x70010)
def R_FLT_UPD_DONE_BLOCKS (d : Nat) : Nat := regAt d (0x70018)
def R_FLT_UPD_COEF_GEN (d : Nat) : Nat := regAt d (0x7001c)
def R_FLT_UPD_PARAMS (d : Nat) : Nat := regAt d (0x70020)
def R_FLT_UPD_NF_IN (d : Nat) : Nat := regAt d (0x70028)
def R_FLT_UPD_NF_OUT (d : Nat) : Nat := regAt d (0x70030)
def R_FLT_UPD_ZERO_DEN (d : Nat) : Nat := regAt d (0x70038)
def R_FLT_UPD_CNT_CTRL (d : Nat) : Nat := regAt d (0x70040)
def R_FLT_UPD_COEF (d k n : Nat) : Nat := regAt d (0x71000 + k * 0x60 + n * 4)
def R_FLD_MICA_CTRL (d : Nat) : Nat := regAt d (0x80000)
def R_FLD_MICA_ERR (d : Nat) : Nat := regAt d (0x80004)
def R_FLD_MICA_EPOCH (d n : Nat) : Nat := regAt d (0x80010 + n * 8)
def R_FLD_MICA_REF (d n : Nat) : Nat := regAt d (0x80014 + n * 8)
def R_FLD_MICA_HASH (d n : Nat) : Nat := regAt d (0x80040 + n * 8)
def R_FLD_MICA_IN_BYTES (d : Nat) : Nat := regAt d (0x80080)
def R_FLD_MICA_WIRE_BYTES (d : Nat) : Nat := regAt d (0x80088)
def R_FLD_MICA_CODED (d : Nat) : Nat := regAt d (0x80090)
def R_FLD_MICA_RAW (d : Nat) : Nat := regAt d (0x80098)
def R_FLD_MICA_FALLBACK (d : Nat) : Nat := regAt d (0x800a0)
def R_FLD_MICA_LEN_MISMATCH (d : Nat) : Nat := regAt d (0x800a8)
def R_FLD_MICA_EPOCH_ABSENT (d : Nat) : Nat := regAt d (0x800b0)
def R_FLD_MICA_CNT_CTRL (d : Nat) : Nat := regAt d (0x800c0)
def R_FLD_MICA_PEER (d n : Nat) : Nat := regAt d (0x80100 + n * 4)
def R_FLD_PORT_CFG (d p : Nat) : Nat := regAt d (0x90000 + p * 0x100)
def R_FLD_PORT_STATUS (d p : Nat) : Nat := regAt d (0x90004 + p * 0x100)
def R_FLD_PORT_LANES (d p : Nat) : Nat := regAt d (0x90008 + p * 0x100)
def R_FLD_PORT_ERR (d p : Nat) : Nat := regAt d (0x9000c + p * 0x100)
def R_FLD_PORT_PEER_ID (d p : Nat) : Nat := regAt d (0x90010 + p * 0x100)
def R_FLD_PORT_PEER_INFO (d p : Nat) : Nat := regAt d (0x90018 + p * 0x100)
def R_FLD_PORT_EXPECT_ID (d p : Nat) : Nat := regAt d (0x90020 + p * 0x100)
def R_FLD_PORT_EXPECT_PORT (d p : Nat) : Nat := regAt d (0x90028 + p * 0x100)
def R_FLD_PORT_CTRL (d p : Nat) : Nat := regAt d (0x9002c + p * 0x100)
def R_FLD_PORT_FRAMES (d p : Nat) : Nat := regAt d (0x90040 + p * 0x100)
def R_FLD_PORT_RETRY (d p : Nat) : Nat := regAt d (0x90048 + p * 0x100)
def R_FLD_PORT_FEC_CORR (d p : Nat) : Nat := regAt d (0x90050 + p * 0x100)
def R_FLD_PORT_TRAINS (d p : Nat) : Nat := regAt d (0x90058 + p * 0x100)
def R_FLD_PORT_STALE_XFER (d p : Nat) : Nat := regAt d (0x9005c + p * 0x100)
def R_FLD_PORT_CNT_CTRL (d p : Nat) : Nat := regAt d (0x90060 + p * 0x100)
def R_FLD_PCIE_STATUS : Nat := regAt 10 (0xa0000)
def R_FLD_PCIE_ERR : Nat := regAt 10 (0xa0004)
def R_FLD_PCIE_MSI_HART : Nat := regAt 10 (0xa0008)
def R_FLD_PCIE_MSI_PEND (n : Nat) : Nat := regAt 10 (0xa0100 + n * 4)
def R_DIE_ID (d : Nat) : Nat := regAt d (0x1000)
def R_DIE_TRACE (d : Nat) : Nat := regAt d (0x1008)
def R_DIE_CTRL (d : Nat) : Nat := regAt d (0x1010)
def R_DIE_FENCE_DROP (d : Nat) : Nat := regAt d (0x1018)
def R_DIE_CNT_CTRL (d : Nat) : Nat := regAt d (0x1020)
def R_SEAM_STATUS (d q : Nat) : Nat := regAt d (0x2000 + q * 0x40)
def R_SEAM_MAP (d q : Nat) : Nat := regAt d (0x2004 + q * 0x40)
def R_SEAM_ERR (d q : Nat) : Nat := regAt d (0x2008 + q * 0x40)
def R_SEAM_PEND (d q : Nat) : Nat := regAt d (0x2010 + q * 0x40)
def R_SEAM_REPLAY (d q : Nat) : Nat := regAt d (0x2018 + q * 0x40)
def R_SEAM_LANE_ERR (d q : Nat) : Nat := regAt d (0x2020 + q * 0x40)
def R_SEAM_CNT_CTRL (d q : Nat) : Nat := regAt d (0x2028 + q * 0x40)
def R_SCH_DIE_STATE (n : Nat) : Nat := regAt 15 (0x3000 + n * 4)
def R_SCH_MODULE_ID : Nat := regAt 15 (0x3100)
def R_SCH_MAC_BASE : Nat := regAt 15 (0x3108)
def R_SCH_Q_CMD_BASE (q : Nat) : Nat := regAt 15 (0x4000 + q * 0x40)
def R_SCH_Q_RPL_BASE (q : Nat) : Nat := regAt 15 (0x4008 + q * 0x40)
def R_SCH_Q_CFG (q : Nat) : Nat := regAt 15 (0x4010 + q * 0x40)
def R_SCH_Q_IDX (q : Nat) : Nat := regAt 15 (0x4014 + q * 0x40)
def R_SCH_Q_RPL_IDX (q : Nat) : Nat := regAt 15 (0x4018 + q * 0x40)
def R_SCH_Q_ERR (q : Nat) : Nat := regAt 15 (0x401c + q * 0x40)
def R_SCH_Q_DOORBELL (q : Nat) : Nat := regAt 15 (0x4020 + q * 0x40)
def R_SCH_Q_RPL_DOORBELL (q : Nat) : Nat := regAt 15 (0x4024 + q * 0x40)
def R_SCH_SES_STATE (q : Nat) : Nat := regAt 15 (0x5000 + q * 0x40)
def R_SCH_SES_ID (q : Nat) : Nat := regAt 15 (0x5004 + q * 0x40)
def R_SCH_SES_LEASE (q : Nat) : Nat := regAt 15 (0x5008 + q * 0x40)
def R_SCH_SES_AUTH_FAIL (q : Nat) : Nat := regAt 15 (0x5010 + q * 0x40)
def R_SCH_SES_DETACH_CNT (q : Nat) : Nat := regAt 15 (0x5018 + q * 0x40)
def R_SCH_HOLD : Nat := regAt 15 (0x5400)
def R_SCH_POD_STATUS : Nat := regAt 15 (0x5404)
def R_SCH_POD_TIMEOUT : Nat := regAt 15 (0x5408)
def R_SCH_CMD_TAKEN : Nat := regAt 15 (0x5410)
def R_SCH_CMD_REFUSED : Nat := regAt 15 (0x5418)
def R_SCH_POD_LATE : Nat := regAt 15 (0x5420)
def R_SCH_CMD_CTRL : Nat := regAt 15 (0x5428)
def R_SCH_CMD_CNT_CTRL : Nat := regAt 15 (0x542c)
def R_SCH_HLT_CFG : Nat := regAt 15 (0x6000)
def R_SCH_HLT_ERR : Nat := regAt 15 (0x6004)
def R_SCH_HLT_LOSS : Nat := regAt 15 (0x6008)
def R_SCH_HLT_MEAN : Nat := regAt 15 (0x600c)
def R_SCH_HLT_RATIO : Nat := regAt 15 (0x6010)
def R_SCH_HLT_ALPHA : Nat := regAt 15 (0x6014)
def R_SCH_HLT_STEP : Nat := regAt 15 (0x6018)
def R_SCH_HLT_NF_BEAM : Nat := regAt 15 (0x6030)
def R_SCH_HLT_NF_GARNET : Nat := regAt 15 (0x6038)
def R_SCH_HLT_NF_RING : Nat := regAt 15 (0x6040)
def R_SCH_HLT_NF_UPD_IN : Nat := regAt 15 (0x6048)
def R_SCH_HLT_NF_UPD_OUT : Nat := regAt 15 (0x6050)
def R_SCH_HLT_NF_STEPS : Nat := regAt 15 (0x6060)
def R_SCH_HLT_SPIKES : Nat := regAt 15 (0x6068)
def R_SCH_HLT_MISSING : Nat := regAt 15 (0x6070)
def R_SCH_HLT_CTRL : Nat := regAt 15 (0x6078)
def R_SCH_HLT_CNT_CTRL : Nat := regAt 15 (0x607c)
def R_SCH_HLT_WATCH (n : Nat) : Nat := regAt 15 (0x6400 + n * 4)
def R_SCH_RPL_STATUS : Nat := regAt 15 (0x6800)
def R_SCH_RPL_BASE : Nat := regAt 15 (0x6808)
def R_SCH_RPL_SIZE : Nat := regAt 15 (0x6810)
def R_SCH_RPL_OFFSET : Nat := regAt 15 (0x6818)
def R_SCH_RPL_SEQ : Nat := regAt 15 (0x6820)
def R_SCH_RPL_WRAPS : Nat := regAt 15 (0x6828)
def R_SCH_RPL_DROP : Nat := regAt 15 (0x682c)
def R_SCH_RPL_WR_DISCARD : Nat := regAt 15 (0x6830)
def R_SCH_PWR_STATUS : Nat := regAt 15 (0x7000)
def R_SCH_PWR_ERR : Nat := regAt 15 (0x7004)
def R_SCH_PWR_CTRL : Nat := regAt 15 (0x7008)
def R_SCH_PWR_LIMIT : Nat := regAt 15 (0x700c)
def R_SCH_PWR_INPUT : Nat := regAt 15 (0x7010)
def R_SCH_PWR_PEAK : Nat := regAt 15 (0x7014)
def R_SCH_COOL_INLET : Nat := regAt 15 (0x7018)
def R_SCH_COOL_FLOW : Nat := regAt 15 (0x701c)
def R_SCH_PWR_CLAMP_CNT : Nat := regAt 15 (0x7020)
def R_SCH_PWR_STAGE_DOWN_CNT : Nat := regAt 15 (0x7028)
def R_SCH_PWR_PEAK_HIT_CNT : Nat := regAt 15 (0x7030)
def R_SCH_CLK_TAKEOVER : Nat := regAt 15 (0x7038)
def R_SCH_PWR_CNT_CTRL : Nat := regAt 15 (0x703c)
def R_PWR_GRANT (d : Nat) : Nat := regAt d (0x1100)
def R_PWR_DEMAND (d : Nat) : Nat := regAt d (0x1104)
def R_PWR_TEMP (d : Nat) : Nat := regAt d (0x1108)
def R_PWR_STATE (d : Nat) : Nat := regAt d (0x110c)
def R_PWR_WEAR (d : Nat) : Nat := regAt d (0x1110)
def R_GAB_PWR_DROOP (d : Nat) : Nat := regAt d (0x1120)
def R_PWR_CNT_CTRL (d : Nat) : Nat := regAt d (0x1128)
def R_SCH_RST_STATUS : Nat := regAt 15 (0x8000)
def R_SCH_STRAP : Nat := regAt 15 (0x8004)
def R_SCH_RST_WAKE : Nat := regAt 15 (0x8008)
def R_SCH_RST_COLD_CNT : Nat := regAt 15 (0x8010)
def R_SCH_RST_MODULE_CNT : Nat := regAt 15 (0x8014)
def R_SCH_RST_WARM_CNT : Nat := regAt 15 (0x8018)
def R_SCH_STRATA_STATUS : Nat := regAt 15 (0x9000)
def R_SCH_STRATA_ERR : Nat := regAt 15 (0x9004)
def R_SCH_STRATA_CTRL : Nat := regAt 15 (0x9008)
def R_SCH_STRATA_NEWEST : Nat := regAt 15 (0x9010)
def R_SCH_STRATA_OLDEST : Nat := regAt 15 (0x9018)
def R_SCH_STRATA_CURSOR : Nat := regAt 15 (0x9020)
def R_SCH_STRATA_GEN : Nat := regAt 15 (0x9028)
def R_SCH_STRATA_WIN_CTRL : Nat := regAt 15 (0x902c)
def R_SCH_STRATA_OP_MIN : Nat := regAt 15 (0x9030)
def R_SCH_STRATA_SUPPRESSED : Nat := regAt 15 (0x9038)
def R_SCH_STRATA_LOST : Nat := regAt 15 (0x9040)
def R_SCH_STRATA_WRITTEN : Nat := regAt 15 (0x9048)
def R_SCH_STRATA_CNT_CTRL : Nat := regAt 15 (0x9050)
def R_SCH_STRATA_WIN (n : Nat) : Nat := regAt 15 (0x9100 + n * 4)
def R_SCH_FW_STATUS : Nat := regAt 15 (0xa000)
def R_SCH_FW_ERR : Nat := regAt 15 (0xa004)
def R_SCH_FW_PKG_VERSION : Nat := regAt 15 (0xa008)
def R_SCH_FW_SVN : Nat := regAt 15 (0xa00c)
def R_SCH_FW_SVN_FLOOR : Nat := regAt 15 (0xa010)
def R_SCH_FW_STAGED_VERSION : Nat := regAt 15 (0xa014)
def R_SCH_FW_RX_BYTES : Nat := regAt 15 (0xa018)
def R_SCH_FW_ACT_CNT : Nat := regAt 15 (0xa020)
def R_SCH_FW_READY : Nat := regAt 15 (0xa028)
def R_SCH_FW_DIGEST (k n : Nat) : Nat := regAt 15 (0xa040 + k * 0x20 + n * 4)
def R_SCH_CONN_STATUS : Nat := regAt 15 (0xb000)
def R_SCH_CONN_ERR : Nat := regAt 15 (0xb004)

/-! ### Fields. -/

def F_GAB_FRAME_MAP_DISABLED_PHYS : Fld := ⟨0, 4⟩
def F_GAB_FRAME_MAP_SPARE_USED : Fld := ⟨4, 1⟩
def F_GAB_FRAME_ENABLE_EN : Fld := ⟨0, 8⟩
def F_GAB_FRM_CTRL_SMOOTH_EN : Fld := ⟨0, 1⟩
def F_GAB_FRM_CTRL_CNT_EN : Fld := ⟨1, 1⟩
def F_GAB_FRM_STATUS_HEAVEN_STATE : Fld := ⟨0, 2⟩
def F_GAB_FRM_STATUS_EARTH_STATE : Fld := ⟨2, 2⟩
def F_GAB_FRM_STATUS_LAST_S : Fld := ⟨4, 1⟩
def F_GAB_FRM_STATUS_IN_FLIGHT : Fld := ⟨5, 1⟩
def F_GAB_FRM_STATUS_HOLD : Fld := ⟨6, 1⟩
def F_GAB_FRM_STATUS_STARTED : Fld := ⟨7, 1⟩
def F_GAB_FRM_STATUS_START_PENDING : Fld := ⟨8, 1⟩
def F_GAB_FRM_STATUS_STOP_PENDING : Fld := ⟨9, 1⟩
def F_GAB_FRM_STATUS_RESET_BUSY : Fld := ⟨10, 1⟩
def F_GAB_FRM_ERR_SLOT_PARITY : Fld := ⟨0, 1⟩
def F_GAB_FRM_ERR_QUEUE_PARITY : Fld := ⟨1, 1⟩
def F_GAB_FRM_ERR_COLUMN_PARITY : Fld := ⟨2, 1⟩
def F_GAB_FRM_ERR_LOAD_PARITY : Fld := ⟨3, 1⟩
def F_GAB_FRM_ERR_DESC_FAULT : Fld := ⟨4, 1⟩
def F_GAB_FRM_RATE_ISSUE_PER_16 : Fld := ⟨0, 5⟩
def F_GAB_FRM_SLOT_STATE : Fld := ⟨0, 2⟩
def F_GAB_FRM_SLOT_FMT : Fld := ⟨2, 4⟩
def F_GAB_FRM_SLOT_SCALED : Fld := ⟨6, 1⟩
def F_GAB_FRM_SLOT_LOAD_SEQ : Fld := ⟨16, 16⟩
def F_GAB_FRM_CNT_CTRL_CLEAR : Fld := ⟨0, 1⟩
def F_GAB_BEAM_STATUS_IN_PROGRESS : Fld := ⟨0, 7⟩
def F_GAB_BEAM_STATUS_DRAINING : Fld := ⟨7, 1⟩
def F_GAB_BEAM_STATUS_DRAIN_ENTRY : Fld := ⟨8, 6⟩
def F_GAB_BEAM_ERR_STATE_FAULT : Fld := ⟨0, 1⟩
def F_GAB_BEAM_ERR_ROW_OVERRUN : Fld := ⟨1, 1⟩
def F_GAB_BEAM_ERR_DESC_FAULT : Fld := ⟨2, 1⟩
def F_GAB_BEAM_ERR_EXT_WRITE_DISCARD : Fld := ⟨3, 1⟩
def F_GAB_BEAM_ERR_STORE_UNCORR : Fld := ⟨4, 1⟩
def F_TILE_CFG_VALID : Fld := ⟨0, 1⟩
def F_TILE_CFG_ACC : Fld := ⟨1, 1⟩
def F_TILE_CFG_ROWS_LOG2 : Fld := ⟨2, 4⟩
def F_TILE_CFG_BASE_KIB : Fld := ⟨6, 12⟩
def F_TILE_STATUS_STATE : Fld := ⟨0, 2⟩
def F_TILE_STATUS_LONG_CHAIN : Fld := ⟨2, 1⟩
def F_TILE_STATUS_NONFINITE : Fld := ⟨3, 1⟩
def F_TILE_STATUS_SATURATED : Fld := ⟨4, 1⟩
def F_TILE_STATUS_ROW_OVERRUN : Fld := ⟨5, 1⟩
def F_TILE_STATUS_STATE_FAULT : Fld := ⟨6, 1⟩
def F_TILE_STATUS_ACTIVE_ROWS_M1 : Fld := ⟨8, 12⟩
def F_TILE_STATUS_DRAIN_CNT : Fld := ⟨20, 12⟩
def F_GAB_GNT_STATUS_BUSY : Fld := ⟨0, 1⟩
def F_GAB_GNT_STATUS_OP : Fld := ⟨1, 3⟩
def F_GAB_GNT_STATUS_PASS : Fld := ⟨4, 2⟩
def F_GAB_FRM_BWD_ERR_STAT_CONFLICT : Fld := ⟨0, 1⟩
def F_GAB_FRM_BWD_ERR_TAG_MISMATCH : Fld := ⟨1, 1⟩
def F_GAB_FRM_BWD_ERR_GNT_DESC_FAULT : Fld := ⟨2, 1⟩
def F_GAB_FRM_BWD_ERR_SIDE_UNCORR : Fld := ⟨3, 1⟩
def F_GAB_FRM_BWD_ERR_WELL_CONFLICT : Fld := ⟨4, 1⟩
def F_GAB_GNT_LIVE_LIVE : Fld := ⟨0, 17⟩
def F_GAB_FRM_BWD_CNT_CTRL_CLEAR : Fld := ⟨0, 1⟩
def F_GAB_SCH_STATUS_LOADED : Fld := ⟨0, 1⟩
def F_GAB_SCH_STATUS_WINDOW_OPEN : Fld := ⟨1, 1⟩
def F_GAB_SCH_STATUS_SECTION : Fld := ⟨2, 6⟩
def F_GAB_SCH_STATUS_CLASS : Fld := ⟨8, 4⟩
def F_GAB_SCH_STATUS_FAULT_PENDING : Fld := ⟨12, 1⟩
def F_GAB_SCH_STATUS_STALLING : Fld := ⟨13, 1⟩
def F_GAB_SCH_STATUS_STEP_FAILED : Fld := ⟨14, 1⟩
def F_GAB_SCH_STATUS_LAST_STATUS : Fld := ⟨16, 16⟩
def F_SHL_STATUS_WINDOW_OPEN : Fld := ⟨0, 1⟩
def F_SHL_STATUS_SCRUB_ACTIVE : Fld := ⟨1, 1⟩
def F_SHL_STATUS_REFRESH_2X : Fld := ⟨2, 1⟩
def F_SHL_STATUS_SPARE_COPY : Fld := ⟨3, 1⟩
def F_SHL_STATUS_SPARE_MAX : Fld := ⟨8, 7⟩
def F_SHL_ERR_UE_SEEN : Fld := ⟨0, 1⟩
def F_SHL_ERR_WELL_DISCARD : Fld := ⟨1, 1⟩
def F_SHL_ERR_SPARE_EXHAUSTED : Fld := ⟨2, 1⟩
def F_SHL_ERR_TAG_PARITY : Fld := ⟨3, 1⟩
def F_SHL_CTRL_SCRUB_EN : Fld := ⟨0, 1⟩
def F_SHL_CTRL_SCRUB_PERIOD : Fld := ⟨1, 3⟩
def F_SHL_CTRL_SPARE_EN : Fld := ⟨4, 1⟩
def F_SHL_CTRL_CNT_EN : Fld := ⟨5, 1⟩
def F_SHL_UE_SRC_REQUESTER : Fld := ⟨0, 8⟩
def F_SHL_UE_SRC_KIND : Fld := ⟨8, 4⟩
def F_SHL_SPARE_USED_USED : Fld := ⟨0, 16⟩
def F_SHL_RGN_BASE_MIB : Fld := ⟨0, 14⟩
def F_SHL_RGN_SIZE_MIB_M1 : Fld := ⟨16, 14⟩
def F_SHL_RGN_TYPE : Fld := ⟨30, 2⟩
def F_DIR_CTRL_CNT_EN : Fld := ⟨0, 1⟩
def F_DIR_STATUS_OCCUPANCY : Fld := ⟨0, 21⟩
def F_DIR_STATUS_BARRIER_BUSY : Fld := ⟨21, 1⟩
def F_DIR_CNT_CTRL_CLEAR : Fld := ⟨0, 1⟩
def F_FLT_INTLV_QUAD_INTLV : Fld := ⟨0, 4⟩
def F_GNS_ATOM_CTRL_MODE : Fld := ⟨0, 2⟩
def F_GNS_ATOM_CTRL_CNT_EN : Fld := ⟨2, 1⟩
def F_GNS_ATOM_CNT_CTRL_CLEAR : Fld := ⟨0, 1⟩
def F_FLD_RING_STATUS_CONFIGURED : Fld := ⟨0, 1⟩
def F_FLD_RING_STATUS_ACTIVE : Fld := ⟨1, 2⟩
def F_FLD_RING_STATUS_PHASE : Fld := ⟨3, 2⟩
def F_FLD_RING_STATUS_LEVEL : Fld := ⟨5, 2⟩
def F_FLD_RING_STATUS_EXP_BUF : Fld := ⟨7, 1⟩
def F_FLD_RING_STATUS_LAST_STATUS : Fld := ⟨16, 16⟩
def F_FLD_RING_CTRL_CNT_EN : Fld := ⟨0, 1⟩
def F_FLD_RING_CNT_CTRL_CLEAR : Fld := ⟨0, 1⟩
def F_FLT_UPD_STATUS_CONFIGURED : Fld := ⟨0, 1⟩
def F_FLT_UPD_STATUS_BUSY : Fld := ⟨1, 1⟩
def F_FLT_UPD_STATUS_PASS1 : Fld := ⟨2, 1⟩
def F_FLT_UPD_STATUS_LAST_STATUS : Fld := ⟨16, 16⟩
def F_FLT_UPD_ERR_UE : Fld := ⟨0, 1⟩
def F_FLT_UPD_ERR_ZERO_DEN : Fld := ⟨1, 1⟩
def F_FLT_UPD_ERR_NONFINITE : Fld := ⟨2, 1⟩
def F_FLT_UPD_CTRL_CNT_EN : Fld := ⟨0, 1⟩
def F_FLT_UPD_CNT_CTRL_CLEAR : Fld := ⟨0, 1⟩
def F_FLD_MICA_CTRL_CNT_EN : Fld := ⟨0, 1⟩
def F_FLD_MICA_CTRL_ENC_EN : Fld := ⟨1, 1⟩
def F_FLD_MICA_ERR_LEN_MISMATCH : Fld := ⟨0, 1⟩
def F_FLD_MICA_ERR_EPOCH_ABSENT : Fld := ⟨1, 1⟩
def F_FLD_MICA_EPOCH_STATE : Fld := ⟨0, 2⟩
def F_FLD_MICA_EPOCH_LOAD_SEQ : Fld := ⟨16, 16⟩
def F_FLD_MICA_PEER_USABLE : Fld := ⟨0, 4⟩
def F_FLD_MICA_PEER_PEER_RESIDENT : Fld := ⟨4, 4⟩
def F_FLD_MICA_CNT_CTRL_CLEAR : Fld := ⟨0, 1⟩
def F_FLD_PORT_CFG_MODE : Fld := ⟨0, 2⟩
def F_FLD_PORT_CFG_ETH_RATE : Fld := ⟨2, 3⟩
def F_FLD_PORT_CFG_AUTO_RETRAIN : Fld := ⟨5, 1⟩
def F_FLD_PORT_CFG_LOOPBACK_OK : Fld := ⟨6, 1⟩
def F_FLD_PORT_CFG_EXPECT_EN : Fld := ⟨7, 1⟩
def F_FLD_PORT_CFG_NET_TAG : Fld := ⟨16, 16⟩
def F_FLD_PORT_STATUS_STATE : Fld := ⟨0, 3⟩
def F_FLD_PORT_STATUS_ACT_MODE : Fld := ⟨3, 2⟩
def F_FLD_PORT_STATUS_WIDTH : Fld := ⟨5, 4⟩
def F_FLD_PORT_STATUS_REVERSED : Fld := ⟨9, 1⟩
def F_FLD_PORT_STATUS_LAST_STATUS : Fld := ⟨16, 16⟩
def F_FLD_PORT_LANES_IN_USE : Fld := ⟨0, 8⟩
def F_FLD_PORT_LANES_RETIRED : Fld := ⟨8, 8⟩
def F_FLD_PORT_LANES_INVERTED : Fld := ⟨16, 8⟩
def F_FLD_PORT_LANES_SHORTED : Fld := ⟨24, 8⟩
def F_FLD_PORT_ERR_PEER_REFUSED : Fld := ⟨0, 1⟩
def F_FLD_PORT_ERR_TRAIN_FAILED : Fld := ⟨1, 1⟩
def F_FLD_PORT_ERR_LANE_RETIRED : Fld := ⟨2, 1⟩
def F_FLD_PORT_ERR_RETRY_LIMIT : Fld := ⟨3, 1⟩
def F_FLD_PORT_ERR_DOWN : Fld := ⟨4, 1⟩
def F_FLD_PORT_PEER_INFO_PEER_PORT : Fld := ⟨0, 6⟩
def F_FLD_PORT_PEER_INFO_PEER_MODE : Fld := ⟨6, 2⟩
def F_FLD_PORT_PEER_INFO_PEER_TAG : Fld := ⟨16, 16⟩
def F_FLD_PCIE_STATUS_LINK_UP : Fld := ⟨0, 1⟩
def F_FLD_PCIE_STATUS_GEN : Fld := ⟨1, 3⟩
def F_FLD_PCIE_STATUS_WIDTH : Fld := ⟨4, 5⟩
def F_FLD_PCIE_ERR_UR : Fld := ⟨0, 1⟩
def F_FLD_PCIE_ERR_CA : Fld := ⟨1, 1⟩
def F_FLD_PCIE_ERR_CPL_TIMEOUT : Fld := ⟨2, 1⟩
def F_FLD_PCIE_ERR_AER_UNCORR : Fld := ⟨3, 1⟩
def F_FLD_PCIE_ERR_LINK_DOWN : Fld := ⟨4, 1⟩
def F_DIE_ID_INDEX : Fld := ⟨0, 8⟩
def F_DIE_ID_KIND : Fld := ⟨8, 4⟩
def F_DIE_ID_REV : Fld := ⟨12, 4⟩
def F_DIE_ID_FLOOR : Fld := ⟨16, 4⟩
def F_DIE_ID_SAFE : Fld := ⟨20, 1⟩
def F_DIE_ID_FUSE_OK : Fld := ⟨21, 1⟩
def F_SEAM_STATUS_STATE : Fld := ⟨0, 2⟩
def F_SEAM_STATUS_CLK_LANE : Fld := ⟨2, 1⟩
def F_SEAM_STATUS_SPARES_USED : Fld := ⟨3, 3⟩
def F_SEAM_STATUS_SWAP_PENDING : Fld := ⟨6, 1⟩
def F_SEAM_STATUS_HALF : Fld := ⟨7, 1⟩
def F_SEAM_STATUS_PEER : Fld := ⟨8, 8⟩
def F_SEAM_STATUS_PEER_SEAM : Fld := ⟨16, 4⟩
def F_SEAM_ERR_LANE_FAILING : Fld := ⟨0, 1⟩
def F_SEAM_ERR_SWAP_URGENT : Fld := ⟨1, 1⟩
def F_SEAM_ERR_NARROWED : Fld := ⟨2, 1⟩
def F_SEAM_ERR_FENCED : Fld := ⟨3, 1⟩
def F_SEAM_ERR_CLOCK_SWITCH : Fld := ⟨4, 1⟩
def F_SCH_DIE_STATE_STATE : Fld := ⟨0, 3⟩
def F_SCH_DIE_STATE_CAUSE : Fld := ⟨3, 4⟩
def F_SCH_DIE_STATE_FENCE_CNT : Fld := ⟨8, 8⟩
def F_SCH_DIE_STATE_LAST_STATUS : Fld := ⟨16, 16⟩
def F_SCH_Q_CFG_ENABLE : Fld := ⟨0, 1⟩
def F_SCH_Q_CFG_DEPTH_LOG2 : Fld := ⟨1, 4⟩
def F_SCH_Q_CFG_SESSION_OWNED : Fld := ⟨5, 1⟩
def F_SCH_Q_CFG_SESSION : Fld := ⟨6, 3⟩
def F_SCH_Q_CFG_PHASE : Fld := ⟨9, 1⟩
def F_SCH_Q_CFG_DRAINING : Fld := ⟨10, 1⟩
def F_SCH_Q_IDX_TAIL : Fld := ⟨0, 16⟩
def F_SCH_Q_IDX_HEAD : Fld := ⟨16, 16⟩
def F_SCH_Q_RPL_IDX_RPL_TAIL : Fld := ⟨0, 16⟩
def F_SCH_Q_RPL_IDX_RPL_HEAD : Fld := ⟨16, 16⟩
def F_SCH_Q_ERR_DB_OVERRUN : Fld := ⟨0, 1⟩
def F_SCH_Q_ERR_RPL_DB_BAD : Fld := ⟨1, 1⟩
def F_SCH_Q_ERR_PKT_UE : Fld := ⟨2, 1⟩
def F_SCH_SES_STATE_STATE : Fld := ⟨0, 2⟩
def F_SCH_SES_STATE_POLICY : Fld := ⟨2, 1⟩
def F_SCH_SES_STATE_KEY_SLOT : Fld := ⟨3, 3⟩
def F_SCH_SES_STATE_FIRST_QUEUE : Fld := ⟨6, 6⟩
def F_SCH_SES_STATE_QUEUES : Fld := ⟨12, 4⟩
def F_SCH_HOLD_HELD : Fld := ⟨0, 1⟩
def F_SCH_HOLD_ARMED : Fld := ⟨1, 1⟩
def F_SCH_POD_STATUS_MEMBER : Fld := ⟨0, 6⟩
def F_SCH_POD_STATUS_CONFIGURED : Fld := ⟨6, 1⟩
def F_SCH_POD_STATUS_ROOT : Fld := ⟨7, 1⟩
def F_SCH_POD_STATUS_DEPTH : Fld := ⟨8, 6⟩
def F_SCH_POD_STATUS_RELAY_PENDING : Fld := ⟨14, 8⟩
def F_SCH_CMD_CTRL_CNT_EN : Fld := ⟨0, 1⟩
def F_SCH_CMD_CNT_CTRL_CLEAR : Fld := ⟨0, 1⟩
def F_SCH_HLT_CFG_NF_EVT_EN : Fld := ⟨0, 1⟩
def F_SCH_HLT_CFG_LOSS_EN : Fld := ⟨1, 1⟩
def F_SCH_HLT_CFG_E_DEFINED : Fld := ⟨2, 1⟩
def F_SCH_HLT_CFG_SILENT_THR : Fld := ⟨16, 10⟩
def F_SCH_HLT_ERR_NONFINITE : Fld := ⟨0, 1⟩
def F_SCH_HLT_ERR_SPIKE : Fld := ⟨1, 1⟩
def F_SCH_HLT_ERR_MISSING : Fld := ⟨2, 1⟩
def F_SCH_HLT_ERR_SILENT : Fld := ⟨3, 1⟩
def F_SCH_HLT_ERR_WATCH_INVALID : Fld := ⟨4, 1⟩
def F_SCH_HLT_WATCH_RUN : Fld := ⟨0, 20⟩
def F_SCH_HLT_WATCH_ALARM : Fld := ⟨20, 1⟩
def F_SCH_HLT_WATCH_INVALID : Fld := ⟨21, 1⟩
def F_SCH_HLT_WATCH_CONFIGURED : Fld := ⟨22, 1⟩
def F_SCH_RPL_STATUS_RUNNING : Fld := ⟨0, 1⟩
def F_SCH_RPL_STATUS_STOP_WHEN_FULL : Fld := ⟨1, 1⟩
def F_SCH_RPL_STATUS_BEAD_DIGEST : Fld := ⟨2, 1⟩
def F_SCH_RPL_STATUS_STOP_CAUSE : Fld := ⟨3, 2⟩
def F_SCH_PWR_STATUS_CLASS : Fld := ⟨0, 2⟩
def F_SCH_PWR_STATUS_STAGE : Fld := ⟨2, 4⟩
def F_SCH_PWR_STATUS_EXCURSION : Fld := ⟨6, 1⟩
def F_SCH_PWR_STATUS_CLAMPED : Fld := ⟨7, 1⟩
def F_SCH_PWR_STATUS_COOL_FALLBACK : Fld := ⟨8, 1⟩
def F_SCH_PWR_STATUS_REF_HOLDOVER : Fld := ⟨9, 1⟩
def F_SCH_PWR_STATUS_REF_FREERUN : Fld := ⟨10, 1⟩
def F_SCH_PWR_STATUS_ROOT_OWNER : Fld := ⟨11, 2⟩
def F_SCH_PWR_STATUS_PLL_LOCKED : Fld := ⟨13, 4⟩
def F_SCH_PWR_ERR_CLAMP : Fld := ⟨0, 1⟩
def F_SCH_PWR_ERR_STAGE_DOWN : Fld := ⟨1, 1⟩
def F_SCH_PWR_ERR_SENSOR_FAULT : Fld := ⟨2, 1⟩
def F_SCH_PWR_ERR_REF_LOST : Fld := ⟨3, 1⟩
def F_SCH_PWR_ERR_TAKEOVER : Fld := ⟨4, 1⟩
def F_SCH_PWR_ERR_DIE_THROTTLE : Fld := ⟨5, 1⟩
def F_SCH_PWR_ERR_PEAK_HIT : Fld := ⟨6, 1⟩
def F_SCH_PWR_CTRL_CNT_EN : Fld := ⟨0, 1⟩
def F_SCH_PWR_LIMIT_LIMIT_W : Fld := ⟨0, 16⟩
def F_SCH_PWR_LIMIT_EFFECTIVE_W : Fld := ⟨16, 16⟩
def F_SCH_PWR_INPUT_INPUT_W : Fld := ⟨0, 16⟩
def F_SCH_PWR_INPUT_VOLT : Fld := ⟨16, 16⟩
def F_SCH_PWR_PEAK_ALLOW_US : Fld := ⟨0, 16⟩
def F_SCH_PWR_PEAK_USED_US : Fld := ⟨16, 16⟩
def F_SCH_COOL_INLET_INLET_A : Fld := ⟨0, 16⟩
def F_SCH_COOL_INLET_INLET_B : Fld := ⟨16, 16⟩
def F_SCH_COOL_FLOW_FLOW_A : Fld := ⟨0, 16⟩
def F_SCH_COOL_FLOW_FLOW_B : Fld := ⟨16, 16⟩
def F_PWR_TEMP_HOT : Fld := ⟨0, 16⟩
def F_PWR_TEMP_HOT_ATTACHED : Fld := ⟨16, 16⟩
def F_PWR_STATE_FALLBACK : Fld := ⟨0, 1⟩
def F_PWR_STATE_THROTTLE : Fld := ⟨1, 1⟩
def F_PWR_STATE_CAP_STEP : Fld := ⟨2, 4⟩
def F_PWR_STATE_SENSORS_FAILED : Fld := ⟨6, 1⟩
def F_SCH_RST_STATUS_STATE : Fld := ⟨0, 2⟩
def F_SCH_RST_STATUS_CHANGING : Fld := ⟨2, 1⟩
def F_SCH_RST_STATUS_READY : Fld := ⟨3, 1⟩
def F_SCH_RST_STATUS_LAST_RESET : Fld := ⟨4, 2⟩
def F_SCH_RST_STATUS_ALT_SLOT : Fld := ⟨6, 1⟩
def F_SCH_RST_STATUS_DEBUG_ON : Fld := ⟨7, 1⟩
def F_SCH_RST_STATUS_STRAP_DIFF : Fld := ⟨8, 1⟩
def F_SCH_STRAP_LATCHED : Fld := ⟨0, 8⟩
def F_SCH_STRAP_PINS : Fld := ⟨8, 8⟩
def F_SCH_RST_WAKE_CAUSE : Fld := ⟨0, 3⟩
def F_SCH_RST_WAKE_OPCODE : Fld := ⟨16, 16⟩
def F_SCH_STRATA_STATUS_FROZEN : Fld := ⟨0, 1⟩
def F_SCH_STRATA_STATUS_CURSOR_VALID : Fld := ⟨1, 1⟩
def F_SCH_STRATA_STATUS_WIN_BUSY : Fld := ⟨2, 1⟩
def F_SCH_STRATA_STATUS_WRITER : Fld := ⟨3, 2⟩
def F_SCH_STRATA_STATUS_FREEZE_LEFT : Fld := ⟨16, 16⟩
def F_SCH_STRATA_ERR_OVERFLOW : Fld := ⟨0, 1⟩
def F_SCH_STRATA_ERR_CRC_FOUND : Fld := ⟨1, 1⟩
def F_SCH_STRATA_ERR_AUTO_THAW : Fld := ⟨2, 1⟩
def F_SCH_STRATA_CTRL_CNT_EN : Fld := ⟨0, 1⟩
def F_SCH_STRATA_WIN_CTRL_NEXT : Fld := ⟨0, 1⟩
def F_SCH_STRATA_WIN_CTRL_PREV : Fld := ⟨1, 1⟩
def F_SCH_FW_STATUS_STATE : Fld := ⟨0, 3⟩
def F_SCH_FW_STATUS_RUN_SET : Fld := ⟨3, 1⟩
def F_SCH_FW_STATUS_ACTIVE_SET : Fld := ⟨4, 1⟩
def F_SCH_FW_STATUS_FALLBACK : Fld := ⟨5, 1⟩
def F_SCH_FW_STATUS_SET_A_VALID : Fld := ⟨6, 1⟩
def F_SCH_FW_STATUS_SET_B_VALID : Fld := ⟨7, 1⟩
def F_SCH_FW_STATUS_ARM_MODE : Fld := ⟨8, 1⟩
def F_SCH_FW_STATUS_KEY_FLOOR : Fld := ⟨9, 2⟩
def F_SCH_FW_STATUS_LAST_STATUS : Fld := ⟨16, 16⟩
def F_SCH_FW_ERR_BOOT_VERIFY_FAIL : Fld := ⟨0, 1⟩
def F_SCH_FW_ERR_OPEN_REFUSED : Fld := ⟨1, 1⟩
def F_SCH_FW_ERR_STAGE_FAILED : Fld := ⟨2, 1⟩
def F_SCH_FW_ERR_ACTIVATION_FAILED : Fld := ⟨3, 1⟩
def F_SCH_CONN_STATUS_HS_PRESENT : Fld := ⟨0, 4⟩
def F_SCH_CONN_STATUS_CBL_PWR_ON : Fld := ⟨4, 4⟩
def F_SCH_CONN_STATUS_PCIE_PRESENT : Fld := ⟨8, 1⟩
def F_SCH_CONN_STATUS_I3C_18V : Fld := ⟨9, 1⟩
def F_SCH_CONN_ERR_CBL_PWR_FAULT : Fld := ⟨0, 4⟩
def F_SCH_CONN_ERR_STRAP_PU_FAULT : Fld := ⟨4, 1⟩

end Sys2Proof.Machine
end

