-- ==== Sys2Proof/Machine/TypesDev.lean ====
section
/-! DEFINITION. The plain data of firmware and keys, links, rings, the update engine, codecs, power and connectors that
State is made of. -/
namespace Sys2Proof.Machine

/-! ### Firmware and keys (20). -/

/-- A copy of the security record (20:R451): its write sequence, and what it holds beside the identity key, which never changes.
Whether its tag for a Schist verifies is found at a boot. -/
structure SecRec where
  seq : Nat
  /-- ACTIVE_SET: 0 A, 1 B -/
  active : Nat
  validA : Bool
  validB : Bool
  svnFloor : Word
  keyFloor : Nat
  keys : Tab (List Byte)
deriving DecidableEq, Repr

/-- What the flash area and the update engine hold besides registers. -/
structure Fw where
  /-- header and manifest stored with each set, 5,184 bytes; a set not listed is the shipped package -/
  sets : Tab (List Byte)
  /-- image in each slot by set × 16 + KIND; a slot not listed holds the shipped image -/
  images : Tab (List Byte)
  /-- header and manifest of the package open, staged or armed -/
  pkg : List Byte
  /-- payload bytes accepted -/
  rx : List Byte
  /-- host keys by slot (20:R466) -/
  keys : Tab (List Byte)
  /-- copies A and B of the security record, and whether copy B is the one accepted -/
  recA : SecRec
  recB : SecRec
  useB : Bool
deriving DecidableEq, Repr

/-! ### Links and codecs (12, 13). -/

/-- A piece of a frame as it goes on the wire, and whether it is a Mica block; a Mica block also has its raw form on the
wire and the epoch that it is coded in (12:R274, R289). -/
structure WireBlock where
  wire : List Byte
  raw : List Byte
  epoch : Option Nat
  mica : Bool
deriving DecidableEq, Repr

/-- A frame in the retry buffer of a port (13:R303, R304): SEQ, kind, pieces, NAKs so far. -/
structure HeldFrame where
  seq : Nat
  kind : Nat
  blocks : List WireBlock
  naks : Nat
deriving DecidableEq, Repr

/-- What a cable port holds besides its registers. -/
structure PortX where
  /-- SEQ of the next frame sent, and of the next frame awaited -/
  txSeq : Nat
  rxSeq : Nat
  /-- the retry buffer, oldest first -/
  held : List HeldFrame
  /-- arithmetic cycle and number of recent retries -/
  retries : List (Nat × Nat)
  /-- the peer's latest advertisement: STATE and table hash of epochs 0-3; empty before the first -/
  ads : List (Nat × Nat)
  /-- epochs whose retirement at the peer this port has still to acknowledge (12:R290) -/
  owed : List Nat
  /-- lanes taking part in the training under way -/
  lanes : Nat
  /-- identity frames by lane (13:R301) -/
  idents : Tab (List Byte)
  /-- signal is lost on every lane -/
  dark : Bool
  /-- automatic retraining is disabled (13:R304) -/
  still : Bool
  /-- Mica blocks decoded from recent frames, by SEQ: how many in this reception of the frame, and of each block that it has
  given so far the bytes of its payload that were still to come (12:R283) -/
  blocks : Tab (Nat × List Nat)
deriving DecidableEq, Repr

/-- A port that has not trained. -/
def PortX.empty : PortX :=
  { txSeq := 0, rxSeq := 0, held := [], retries := [], ads := [], owed := [], lanes := 0, idents := [], dark := false,
    still := false, blocks := [] }

/-- The codec store (12:R288): tables and whole LOAD_SEQ by epoch, the last LOAD_SEQ given, epoch and port of each
retirement acknowledgement, blocks decoded by epoch. -/
structure Mica where
  tables : Tab (List Byte)
  seqs : Tab Nat
  last : Nat
  acks : List (Nat × Nat)
  decoded : Tab Nat
deriving DecidableEq, Repr

/-! ### Rings (10). -/

/-- A ring configuration: its record, DIGEST, contribution segments (address, blocks) and all-gather segments (elements,
scales, blocks), as RING_CFG read them (10:R220, R222). -/
structure RingCfg where
  record : List Byte
  digest : List Byte
  segs : List (Nat × Nat)
  ags : List (Nat × Nat × Nat)
deriving DecidableEq, Repr

/-- A hello of a cable peer (10:R222, R225): RING_ID, level, position, DIGEST, and STEP of a start hello. -/
structure Hello where
  ringId : Nat
  level : Nat
  pos : Nat
  digest : List Byte
  step : Nat
deriving DecidableEq, Repr

/-- A block under way (10:R223): words as 32-bit codes, whether they are Tally words, FLAGS, X, CONTRIB, HOPS, ABS as an
FP32 code, BEAD. -/
structure RBlk where
  words : List Nat
  tally : Bool
  flags : Nat
  x : Nat
  contrib : Nat
  hops : Nat
  abs : Nat
  bead : Int
deriving DecidableEq, Repr

/-- What a member gives to the verdict of 10:R239. -/
structure RingVerdict where
  flags : Nat
  nonfinite : Nat
  repassed : Nat
  retried : Nat
  /-- smallest and largest CONTRIB, once a block was seen -/
  low : Option Nat
  high : Nat
  /-- a block was repassed for SCALE_OVERFLOW -/
  scale : Bool
deriving DecidableEq, Repr

/-- A RING_RS or RING_AG under way on a slot. -/
structure RingRun where
  /-- the command -/
  id : Nat
  ag : Bool
  step : Nat
  /-- the windows that held its reads back have ended (10:R226) -/
  live : Bool
  /-- this member is dropped for the step (10:R227) -/
  dropped : Bool
  /-- agreed exponents by block; empty when no table is kept -/
  xs : List Nat
  /-- current level − 1, and PHASE of 10:R223 -/
  level : Nat
  phase : Nat
  /-- blocks and check copies still owed by PREV -/
  todo : List Nat
  copies : List Nat
  /-- results and check copies of sampled blocks that wait for each other -/
  mains : Tab RBlk
  checks : Tab RBlk
  /-- sampled blocks whose first copy failed its CRC -/
  torn : List Nat
  /-- own marks of the level, and in a repass the marks of the rod: block, bits (10:R236) -/
  marks : List (Nat × Nat)
  rod : List (Nat × Nat)
  /-- SEQ sent and awaited, by level × 16 + stripe -/
  seqTx : Tab Nat
  seqRx : Tab Nat
  /-- blocks that came before their level or phase began: port and bytes, oldest first -/
  early : List (Nat × List Byte)
  verdict : RingVerdict
  /-- blocks received, and blocks asked for again, by an all-gather -/
  got : Nat
  again : List Nat
  /-- ports whose peer has sent the start hello of this run: NEXT then grants credit (10:R225) -/
  greeted : List Nat
  /-- blocks held back from ports without credit, oldest first: port, PHASE, whether in Tally, header, payload -/
  kept : List (Nat × Nat × Bool × List Byte × List Byte)
  /-- by stripe, the blocks of the pass that have still to leave on NEXT, in order, and those that wait for their turn: stripe,
  block, content (10:R219) -/
  turn : Tab (List Nat)
  ready : List (Nat × Nat × RBlk)
  /-- CRC-32C of the level-1 contribution blocks as read, and B_R of the final-shard blocks modulo 2^128, by block (16:R389) -/
  crcs : Tab Nat
  beads : Tab Nat
deriving DecidableEq, Repr

/-- A ring slot: its configuration, the RING_CFG exchange under way (command, configuration, ports still to match), the run
under way, and STEP and status of its last RING_RS (11:R263), and the last RING_AG that ended, whose blocks a peer may ask for again
(10:R243). -/
structure RingSlot where
  cfg : Option RingCfg
  exch : Option (Nat × RingCfg × List Nat)
  run : Option RingRun
  lastRs : Option (Nat × Nat)
  lastAg : Option RingRun
deriving DecidableEq, Repr

/-- The update run under way: its command, and FLT_UPD_DONE_BLOCKS and FLT_UPD_STEP of each Flint before it, which a refusal of
the run restores (00:R9; 11:R262, R263). -/
structure UpdRun where
  id : Nat
  was : List (Word × DWord)
deriving DecidableEq, Repr

/-- What is watched while an update run goes on: its W40 words, tails, slots and statistics as ranges of addresses, and whether
a write has met them (11:R266). -/
structure UpdWatch where
  areas : List (Nat × Nat)
  hit : Bool
deriving DecidableEq, Repr

/-- The rings: slots, hellos kept by port (a start hello by port and RING_ID, a configuration hello with the microsecond of its arrival), and the update run that
waits for windows (10:R222, R225; 11:R262). -/
structure Rings where
  slots : Tab RingSlot
  cfgHellos : Tab (Nat × Hello)
  hellos : Tab Hello
  updRun : Option UpdRun
deriving DecidableEq, Repr

/-! ### The update engine (11). -/

/-- A tensor of a Flint's run (11:R250). -/
structure Tensor where
  first : Nat
  params : Nat
  group : Nat
  site : Nat
  rows : Nat
  cols : Nat
  fact : Nat
deriving DecidableEq, Repr

/-- A Flint's run (11:R248, R249). -/
structure UpdPart where
  first : Nat
  count : Nat
  wBase : Nat
  tailBase : Nat
  slots : List Nat
  table : Nat
  tensors : List Tensor
deriving DecidableEq, Repr

/-- An update configuration: ring slot and the twelve runs. -/
structure UpdCfg where
  slot : Nat
  parts : List UpdPart
deriving DecidableEq, Repr

/-! ### Ethernet and PCIe (13:R306-R309). -/

/-- A queue pair: its 64-byte record, producer index, next work request to start, work requests started and not yet
completed (index and 64 bytes), next completion, sending rate as a number over a power of two in percent of line rate,
whether an error stopped it, and its next packet sequence number. -/
structure Qp where
  record : List Byte
  producer : Nat
  next : Nat
  sent : List (Nat × List Byte)
  compl : Nat
  rate : Nat × Nat
  stopped : Bool
  psn : Nat
deriving DecidableEq, Repr

/-- An entry of the memory-region table (13:R307): read, write, tag, base, length. -/
structure MemReg where
  rd : Bool
  wr : Bool
  tag : Nat
  base : Nat
  length : Nat
deriving DecidableEq, Repr

/-- Ethernet and PCIe: queue pairs by port × 1,024 + QPN, the memory-region table, MAX_GEN and WIDTH of the root port. -/
structure Io where
  qps : Tab Qp
  mrs : Tab MemReg
  maxGen : Nat
  width : Nat
deriving DecidableEq, Repr

/-! ### Power (17). -/

/-- The module's supply and reset pin: running, held in reset by MOD_RESET_N, or off (18:R420, R423; 21:R474). -/
inductive Supply where
  | on | held | off
deriving DecidableEq, Repr

/-- Power state that no register holds. -/
structure Pwr where
  supply : Supply
  /-- E in tenths of a microsecond (17:R405) -/
  used : Nat
  /-- sum and number of the samples of the 1 ms interval and of the last 10 µs, and the excess over the last 10 µs in W -/
  sum : Nat
  num : Nat
  sum10 : Nat
  num10 : Nat
  excess : Nat
  /-- the last sample lay above the peak input limit -/
  peak : Bool
  /-- CLASS and LIMIT_W that wait for the next grant interval (17:R413) -/
  nextClass : Option Nat
  nextLimit : Option Nat
  /-- evaluations since the coolant first read clear (17:R408) -/
  clear : Option Nat
  /-- consecutive valid readings of inlet A and B and flow A and B, and whether a pair holds STAGE (17:R409) -/
  valid : List Nat
  holdInlet : Bool
  holdFlow : Bool
  /-- grants computed and not yet received, SEQ of the last budget message, by die (14:R336; 17:R400) -/
  grants : Tab Nat
  seqs : Tab Nat
  /-- a change has lowered L and the input has not yet fallen to it (17:R413) -/
  lowering : Bool
  /-- the issue rate that an aligned window of 16 cycles keeps after a fall, by Gabbro: window, ISSUE_PER_16 (17:R401) -/
  rateWas : Tab (Nat × Nat)
  /-- ISSUE_PER_16 that a Gabbro is raised to (17:R401) -/
  target : Tab Nat
  /-- arithmetic cycle at which the issue limit of a droop ends, by Gabbro (17:R402) -/
  droop : Tab Nat
  /-- wear count in microseconds, by die (17:R406) -/
  wear : Tab Nat
  /-- the thermal-trip output is active (17:R410) -/
  trip : Bool
  /-- the input is in range and MATE_N is connected (21:R472, R474) -/
  input : Bool
  /-- a boot that waits in step 3 for a reference: its kind, and what it finds (18:R424; 21:R489) -/
  waiting : Option (Nat × BootReport)
  /-- arithmetic cycle at which the operating minute in progress began (19:R435) -/
  minute : Nat
deriving DecidableEq, Repr

/-- Power state before a boot. -/
def Pwr.empty : Pwr :=
  { supply := .on, used := 0, sum := 0, num := 0, sum10 := 0, num10 := 0, excess := 0, peak := false, nextClass := none, nextLimit := none,
    clear := none, valid := [0, 0, 0, 0], holdInlet := false, holdFlow := false, grants := [], seqs := [], lowering := false, rateWas := [], target := [],
    droop := [], wear := [], trip := false, input := true, waiting := none, minute := 0 }

/-! ### Board management (21:R487). -/

/-- The I3C target: register pointer, dynamic address, and the arithmetic cycle of its last in-band interrupt. -/
structure Board where
  ptr : Byte
  dyn : Option (BitVec 7)
  ibi : Option Nat
deriving DecidableEq, Repr

end Sys2Proof.Machine
end

