-- ==== Sys2Proof/Machine/State.lean ====
section
/-! DEFINITION. The state of the block, its faults and refusals, and the state right after reset. Plain data only. A
register of a control block is held in `regs` (32 bits) or `ctrs` (64-bit pairs) under its address and reads as its
reset value until written; what the other fields hold is shown by the registers that the spec makes views of it. -/
namespace Sys2Proof.Machine

/-- Why the block stops with a fault. (Open points: assumption 73, DEDUCED.) -/
inductive Fault where
  /-- Raised by JTAG_INSTRUCTION alone: an instruction other than BYPASS and IDCODE while debug is enabled, whose effect
  the spec does not give (21:R488). Safe: no claim is made of what follows. -/
  | jtagInstruction
deriving DecidableEq, Repr

/-- Why a command is refused by the model. -/
inductive Refusal where
  /-- A command row without a meaning. Raised by Dispatch alone; safe. -/
  | notModelled (mnemonic : String)
deriving DecidableEq, Repr

/-- Shale logic that no register holds (08:R177-R180), keyed by addresses and by die × 512 + bank. -/
structure ShaleX where
  /-- spare rows taken in the field, by Shale die × 512 + bank -/
  spares : Tab Nat
  /-- rows remapped to a spare -/
  remapped : List Nat
  /-- sectors of a row that met correctable errors in this scrub period, by row address -/
  hist : Tab (List Nat)
  /-- rows whose spare copy is in progress -/
  copies : List Nat
  /-- next row offset of the scrubber, by die -/
  scrub : Tab Nat
  /-- rows refreshed, by die × 512 + bank -/
  refreshed : Tab Nat
  /-- vaults whose sensor reads above 85 °C, a mask by die (08:R177) -/
  hot : Tab Nat
deriving DecidableEq, Repr

/-- The recipe table and seed in force, and accepted changes waiting for a boundary (03:R56, R58). -/
structure Recipes where
  words : List Word
  seed : DWord
  gen : Word
  /-- KIND_MASK, SEED_VALID, words, SEED of each waiting RCP_SET -/
  staged : List (Nat × Bool × List Word × DWord)
deriving DecidableEq, Repr

/-- The coherence state (09:R194-R208): directory entries by line number, cache lines by Gneiss × 2^41 + line and
the levels that hold them, contention counters by cluster × 512 + index, and the last AMO of each cluster on a line. -/
structure Coher where
  dir : Tab DirEnt
  cache : Tab CacheLine
  lv : Tab LineAt
  pred : Tab Nat
  amoAt : Tab Nat
  bars : List PathBar
  /-- next allocation order -/
  seq : Nat
deriving DecidableEq, Repr

/-- Queues and commands in progress (15:R345-R349). -/
structure Cmds where
  taken : List Taken
  /-- last queue served by each Schist -/
  last : Tab Nat
  /-- next SEQ expected on each session queue, once one is known (15:R360) -/
  nextSeq : Tab Word
  /-- session rings: commands and replies by queue × 65,536 + slot -/
  sesCmd : Tab (List Byte)
  sesRpl : Tab (List Byte)
  /-- packets of the relay queue not yet taken (15:R368) -/
  relay : List RelayPkt
  /-- pod packets that have still to go to the children, held back while HELD is 1 (15:R364) -/
  unsent : List RelayPkt
deriving DecidableEq, Repr



/-- The state of the block. (Open points: assumption 1, DESIGN CHOICE.) -/
structure State where
  /-- arithmetic cycles since the last cold power-on (assumption 3) -/
  cyc : Nat
  /-- 32-bit registers written since reset, by address -/
  regs : Tab Word
  /-- 64-bit register pairs written since reset, by address of the low half -/
  ctrs : Tab DWord
  /-- latched high halves (02:R47) -/
  latch : Tab Word
  mem : Memory
  /-- stored errors by granule address: true is uncorrectable (08:R178, R181; 04:R94, R496) -/
  ecc : Tab Bool
  /-- tags of Shale rows by row address (08:R174) -/
  tags : Tab RowTag
  shl : ShaleX
  /-- logical frames by Gabbro ordinal × 8 + frame -/
  frames : Tab Frame
  /-- schedule state by Gabbro ordinal -/
  scheds : Tab Sched
  /-- accepted SCH_RUNs, in order (06:R148) -/
  runs : List Run
  /-- transfer data under way -/
  xfers : List Xfer
  /-- credit granted and not yet used -/
  credits : List Credit
  /-- kept cable stop notices: run number by port (07:R167) -/
  stops : Tab Nat
  /-- the step number (06:R129) and whether the step is marked failed -/
  step : DWord
  stepFailed : Bool
  rcp : Recipes
  coh : Coher
  /-- LPDDR6 interleave mode, one bit per quadrant (09:R190) -/
  intlv : Nat
  cmds : Cmds
  ses : Tab Ses
  half : List HalfOpen
  pod : Option Pod
  podCmds : List PodCmd
  hlt : Health
  rpl : Replay
  strata : Strata
  fw : Fw
  /-- cable ports by port number -/
  ports : Tab PortX
  io : Io
  mica : Mica
  rings : Rings
  upd : Option UpdCfg
  updWatch : UpdWatch
  pwr : Pwr
  brd : Board
  /-- forwarded-clock lanes that have failed, by die × 16 + seam (14:R322) -/
  clkBad : Tab Nat
  /-- spares of a seam's direction that failed its last training or since (14:R317): receiving die × 16 + seam to a mask -/
  spareBad : Tab Nat
  /-- the field replacements of a seam's direction in the Schist's flash area (14:R318): receiving die × 16 + seam to the four
  bytes that _SEAM_MAP shows of them -/
  seamFlash : Tab Nat
  /-- global address prefixes formed by the management ports (15:R354) -/
  prefixes : Tab (List Byte)
  /-- Gabbros from which a command excludes windows: command identifier, Gabbro ordinal (10:R226; 11:R262) -/
  excl : List (Nat × Nat)
  /-- Yoger ports in electrical idle (18:R426) -/
  asleep : List Nat
  /-- identifiers handed out to runs, commands and barriers (the model's own) -/
  nextId : Nat
  /-- free values drawn (assumption 4; the model's own) -/
  free : Nat
  /-- what the block sent, newest first (assumption 2; the model's own) -/
  outs : List Out
  /-- commands waiting, first in first out (assumption 1; the model's own) -/
  pending : List Instr
deriving DecidableEq, Repr

/-- Flash as shipped: set A and slot-0 host key, in both copies of the security record. (Open points: assumption 11, DESIGN CHOICE.) -/
def Fw.shipped : Fw :=
  let keys := [(0, Config.factoryKey)]
  let rec_ (seq : Nat) : SecRec := ⟨seq, 0, true, false, Config.shippedFloorSvn, 0, keys⟩
  ⟨[], [], [], [], keys, rec_ 1, rec_ 0, false⟩

/-- The block as its registers' Reset columns give it, before a boot: every field at the value the spec states, or at
the value the assumption log names. (Open points: assumption 11, DESIGN CHOICE; assumption 14, DESIGN CHOICE.) -/
def State.reset : State :=
  { cyc := 0, regs := [], ctrs := [], latch := [], mem := ⟨[], []⟩, ecc := [], tags := [],
    shl := ⟨[], [], [], [], [], [], []⟩, frames := [], scheds := [], runs := [], xfers := [], credits := [], stops := [],
    step := 0, stepFailed := false,
    rcp := ⟨(List.range 8).map Config.recipeDefault, 0, 0, []⟩,
    coh := ⟨[], [], [], [], [], [], 0⟩, intlv := 0, cmds := ⟨[], [], [], [], [], [], []⟩, ses := [], half := [],
    pod := none, podCmds := [],
    hlt := ⟨0, 32, 0, [], [], [], 0⟩, rpl := ⟨0, 0, 0, []⟩, strata := ⟨[], [], [], none, 0, 0, 0, false, [], []⟩,
    fw := Fw.shipped, ports := [], io := ⟨[], [], 6, 16⟩, mica := ⟨[], [], 0, [], []⟩,
    rings := ⟨[], [], [], none⟩, upd := none, updWatch := ⟨[], false⟩, pwr := Pwr.empty, brd := ⟨0, none, none⟩, clkBad := [], spareBad := [], seamFlash := [], prefixes := [], asleep := [], excl := [],
    nextId := 0, free := 0, outs := [], pending := [] }

end Sys2Proof.Machine
end

