-- ==== Sys2Proof/Machine/Ops.lean ====
section
/-! DEFINITION. The named operations over the state that every meaning is written with: dies and regions, registers
with their access codes and counters, memory with its error granules, wells and tags, the recorder's events, free values
and outputs. -/
namespace Sys2Proof.Machine

/-! ### Die indices (01:R11, R13, R14). -/

/-- Die index of Gabbro ordinal g. -/
def gabDie (g : Nat) : Nat := 16 * (g / 4) + g % 4
/-- Die index of the Shale of Gabbro ordinal g. -/
def shlDie (g : Nat) : Nat := gabDie g + 4
/-- Die index of Flint ordinal m. -/
def fltDie (m : Nat) : Nat := 16 * (m / 3) + 12 + m % 3
/-- Die index of Gneiss ordinal c. -/
def gnsDie (c : Nat) : Nat := 16 * (c / 2) + 8 + c % 2
/-- Die index of Feldspar ordinal l. -/
def fldDie (l : Nat) : Nat := 16 * (l / 2) + 10 + l % 2
/-- Die index of the Schist of quadrant q. -/
def schDie (q : Nat) : Nat := 16 * q + 15
/-- Gabbro ordinal of a Gabbro's die index. -/
def gabOrd (d : Nat) : Nat := 4 * (d / 16) + d % 16
/-- Gabbro ordinal of a Shale's die index. -/
def shlOrd (d : Nat) : Nat := 4 * (d / 16) + (d % 16 - 4)
/-- Feldspar ordinal of its die index. -/
def fldOrd (d : Nat) : Nat := 2 * (d / 16) + (d % 16 - 10)

/-! ### The address map (09:R188-R190). -/

/-- What stands at an address. -/
inductive Region where
  | lpddr (flint : Nat)
  | shale (g : Nat)
  | frame (g f : Nat)
  | beam (g f : Nat)
  | ctrl (d off : Nat)
  | pcie
  | mirror (a : Nat)
  | none
deriving DecidableEq, Repr

/-- Flint ordinal that holds an LPDDR6 address under the interleave bits (09:R190). -/
def lpddrFlint (intlv a : Nat) : Nat :=
  let q := a / 0x003000000000
  if bitOf intlv q then 3 * q + ((a % 0x003000000000) / 4096) % 3 else a / 0x001000000000

/-- The address map of 09:R188 below the barrier window. -/
def regionBelow (intlv a : Nat) : Region :=
  if a < 0x00C000000000 then .lpddr (lpddrFlint intlv a)
  else if 0x010000000000 ≤ a ∧ a < 0x014000000000 then .shale ((a - 0x010000000000) / 0x000400000000)
  else if 0x018000000000 ≤ a ∧ a < 0x018400000000 then
    let d := (a - 0x018000000000) / 0x10000000
    let o := (a - 0x018000000000) % 0x10000000
    if dieKind d = .gabbro then .frame (gabOrd d) (o / 0x02000000)
    else if dieKind d = .shale ∧ o < 0x02000000 then .beam (shlOrd d) (o / 0x00400000)
    else .none
  else if 0x01C000000000 ≤ a ∧ a < 0x01C100000000 then
    .ctrl ((a - 0x01C000000000) / 0x04000000) ((a - 0x01C000000000) % 0x04000000)
  else if 0x01F000000000 ≤ a ∧ a < 0x020000000000 then .pcie
  else .none

/-- Whether a region is memory. -/
def Region.isMem : Region → Bool
  | .lpddr _ => true
  | .shale _ => true
  | .frame _ _ => true
  | .beam _ _ => true
  | _ => false

/-- What stands at an address (09:R188). -/
def regionOf (s : State) (a : Nat) : Region :=
  if 0x800000000000 ≤ a ∧ a < 0x1000000000000 then
    (if (regionBelow s.intlv (a - 0x800000000000)).isMem then .mirror (a - 0x800000000000) else .none)
  else regionBelow s.intlv a

/-- The contiguous memory range of 09:R188 that an address lies in, as (first, one past last). -/
def memRange (a : Nat) : Option (Nat × Nat) :=
  if a < 0x00C000000000 then some (0, 0x00C000000000)
  else match regionBelow 0 a with
  | .shale g => some (0x010000000000 + g * 0x000400000000, 0x010000000000 + (g + 1) * 0x000400000000)
  | .frame g _ => some (0x018000000000 + gabDie g * 0x10000000, 0x018000000000 + gabDie g * 0x10000000 + 0x10000000)
  | .beam g _ => some (0x018000000000 + shlDie g * 0x10000000, 0x018000000000 + shlDie g * 0x10000000 + 0x02000000)
  | _ => none

/-- Whether `n` bytes from an address lie in one memory range. -/
def inOneRange (a n : Nat) : Bool :=
  match memRange a with
  | some (_, hi) => decide (a + n ≤ hi)
  | none => false

/-- Base of the Shale of Gabbro ordinal g. -/
def shaleBase (g : Nat) : Nat := 0x010000000000 + g * 0x000400000000
/-- Base of the frame store of a logical frame. -/
def frameBase (g f : Nat) : Nat := 0x018000000000 + gabDie g * 0x10000000 + f * 0x02000000
/-- Base of the beam store of a logical frame (04:R76). -/
def beamBase (g f : Nat) : Nat := 0x018000000000 + shlDie g * 0x10000000 + f * 0x00400000

/-- The die that is home to an address (09:R188), if it is memory. -/
def homeDie (s : State) (a : Nat) : Option Nat :=
  match regionOf s a with
  | .lpddr m => some (fltDie m)
  | .shale g => some (gabDie g)
  | .frame g _ => some (gabDie g)
  | .beam g _ => some (gabDie g)
  | _ => none

/-- The error granule of an address: first address and length (08:R181). -/
def granule (a : Nat) : Nat × Nat :=
  match regionBelow 0 a with
  | .frame _ _ => (a / 8 * 8, 8)
  | .beam _ _ => (a / 8 * 8, 8)
  | _ => (a / 128 * 128, 128)

/-! ### Registers (00:R5-R7; 02:R47). -/

/-- A stored 32-bit register. -/
def regGet (s : State) (k : Nat) : Word :=
  match tabFind s.regs k with
  | some w => w
  | none => regReset k
/-- Set a 32-bit register. -/
def regSet (s : State) (k : Nat) (w : Word) : State := { s with regs := tabPut s.regs k w }
/-- A field of a register. -/
def fld (s : State) (k : Nat) (f : Fld) : Nat := fldGet (regGet s k) f
/-- Set a field of a register. -/
def setFld (s : State) (k : Nat) (f : Fld) (v : Nat) : State := regSet s k (fldSet (regGet s k) f v)
/-- Whether a one-bit field is set. -/
def flag (s : State) (k : Nat) (f : Fld) : Bool := fld s k f == 1
/-- Set a one-bit field. -/
def raise (s : State) (k : Nat) (f : Fld) : State := setFld s k f 1
/-- Return the 32-bit registers at addresses lo to hi - 1 to their reset values. -/
def regRevert (s : State) (lo hi : Nat) : State :=
  { s with regs := tabDelIf s.regs fun k => decide (lo ≤ k) && decide (k < hi) }
/-- Advance a 32-bit count, wrapping. -/
def regInc (s : State) (k n : Nat) : State := regSet s k (regGet s k + BitVec.ofNat 32 n)

/-- A 64-bit pair. -/
def ctrGet (s : State) (k : Nat) : DWord :=
  match tabFind s.ctrs k with
  | some w => w
  | none => ctrReset k
/-- Set a 64-bit pair. -/
def ctrSet (s : State) (k : Nat) (w : DWord) : State := { s with ctrs := tabPut s.ctrs k w }

/-- The enable that gates a counter, if one does: 02:R47, 03:R75, 04:R93, 05:R122 (GAB_FRM_CTRL.CNT_EN), 08:R187,
09:R215, 10:R247, 11:R273, 12:R295, 13:R313, 14:R340, 15:R374, 16:R394, 17:R416, 19:R449. -/
def cntGate (k : Nat) : Option (Nat × Fld) :=
  let d := regDie k
  let off := regOff k
  if 0x1000 ≤ off ∧ off < 0x1128 then some (R_DIE_CTRL d, ⟨0, 1⟩)
  else if 0x2000 ≤ off ∧ off < 0x2400 ∧ dieKind d ≠ .shale then some (R_DIE_CTRL d, ⟨0, 1⟩)
  else match dieKind d with
  | .gabbro =>
    if 0x101000 ≤ off ∧ off < 0x109000 then some (R_GAB_FRM_CTRL d ((off - 0x101000) / 0x1000), F_GAB_FRM_CTRL_CNT_EN)
    else if 0x120000 ≤ off ∧ off < 0x120038 then some (R_GAB_DIR_CTRL d, F_DIR_CTRL_CNT_EN)
    else none
  | .shale => if off < 0x40 then some (R_SHL_CTRL d, F_SHL_CTRL_CNT_EN) else none
  | .gneiss => if 0x20000 ≤ off ∧ off < 0x20020 then some (R_GNS_ATOM_CTRL d, F_GNS_ATOM_CTRL_CNT_EN) else none
  | .feldspar =>
    if 0x61000 ≤ off ∧ off < 0x61030 then some (R_FLD_RING_CTRL d, F_FLD_RING_CTRL_CNT_EN)
    else if 0x80080 ≤ off ∧ off < 0x800C0 then some (R_FLD_MICA_CTRL d, F_FLD_MICA_CTRL_CNT_EN)
    else if 0x90000 ≤ off ∧ off < 0x90600 then some (R_FLD_PORT_CTRL d ((off - 0x90000) / 0x100), ⟨0, 1⟩)
    else none
  | .flint =>
    if 0x50000 ≤ off ∧ off < 0x50038 then some (R_FLT_DIR_CTRL d, F_DIR_CTRL_CNT_EN)
    else if 0x70020 ≤ off ∧ off < 0x70040 then some (R_FLT_UPD_CTRL d, F_FLT_UPD_CTRL_CNT_EN)
    else none
  | .schist =>
    if 0x5410 ≤ off ∧ off < 0x5428 then some (R_SCH_CMD_CTRL, F_SCH_CMD_CTRL_CNT_EN)
    else if 0x6060 ≤ off ∧ off < 0x6078 then some (R_SCH_HLT_CTRL, ⟨0, 1⟩)
    else if 0x7020 ≤ off ∧ off < 0x7038 then some (R_SCH_PWR_CTRL, F_SCH_PWR_CTRL_CNT_EN)
    else if 0x9038 ≤ off ∧ off < 0x9050 then some (R_SCH_STRATA_CTRL, F_SCH_STRATA_CTRL_CNT_EN)
    else none

/-- Whether a counter advances now. -/
def cntOn (s : State) (k : Nat) : Bool :=
  match cntGate k with
  | some (c, f) => flag s c f
  | none => true

/-- Advance a 64-bit counter by `n` if its enable lets it. -/
def count (s : State) (k n : Nat) : State :=
  if cntOn s k then ctrSet s k (ctrGet s k + BitVec.ofNat 64 n) else s

/-- Zero counters. -/
def ctrClear (s : State) (ks : List Nat) : State := ks.foldl (fun s k => ctrSet s k 0) s

/-! ### Free values, outputs, identifiers. -/

/-- Draw a fresh free value (assumption 4). -/
def drawFree (s : State) : DWord × State := (Config.freeValue s.free, { s with free := s.free + 1 })
/-- Put something out (assumption 2). -/
def emit (s : State) (o : Out) : State := { s with outs := o :: s.outs }
/-- Take a new identifier. -/
def newId (s : State) : Nat × State := (s.nextId, { s with nextId := s.nextId + 1 })

/-- Microseconds since the last cold power-on: 1,050 arithmetic cycles each (02; assumption 3). -/
def uptimeUs (s : State) : Nat := s.cyc / 1050

/-! ### Dies, fences and the Schists (14:R328, R332; 15:R345). -/

/-- STATE of a die. -/
def dieState (s : State) (d : Nat) : Nat := fld s (R_SCH_DIE_STATE d) F_SCH_DIE_STATE_STATE
/-- Whether a die is FENCED or still held while it resets or rejoins. -/
def dieFenced (s : State) (d : Nat) : Bool := dieState s d != 0 && dieState s d != 4
/-- Whether a die is RUNNING. -/
def dieRunning (s : State) (d : Nat) : Bool := dieState s d == 0
/-- Whether the package is in safe mode (14:R327). -/
def safeMode (s : State) : Bool := flag s (R_DIE_ID 15) F_DIE_ID_SAFE
/-- The quadrant whose Schist carries the functions of the Schist of quadrant q (14:R332). -/
def schServing (s : State) (q : Nat) : Nat :=
  ((List.range 4).map fun i => (q + i) % 4).find? (fun p => dieRunning s (schDie p)) |>.getD (q % 4)
/-- The die index of the Schist that serves queue 0: the health sampler and the recorder's writer (16:R375, 19:R439). -/
def writerDie (s : State) : Nat := schDie (schServing s 0)

/-! ### The recorder's events (19:R435, R438-R441, R444). -/

/-- Trigger of a unit byte (19:R441). -/
def unitTrigger (u : Nat) : Nat :=
  if 0x01 ≤ u ∧ u ≤ 0x04 then 0x01
  else if 0x10 ≤ u ∧ u ≤ 0x2F then 0x02
  else if u = 0x30 then 0x03
  else if u = 0x38 then 0x04
  else if u = 0x40 then 0x05
  else if u = 0x50 then 0x06
  else if u = 0x60 then 0x07
  else if 0x70 ≤ u ∧ u ≤ 0x78 then 0x08
  else if u = 0x90 ∨ u = 0x91 then 0x09
  else if 0xA0 ≤ u ∧ u ≤ 0xA3 then 0x0A
  else if 0xB0 ≤ u ∧ u ≤ 0xB6 then 0x0B
  else if u = 0xC0 ∨ u = 0xC1 then 0x0C
  else if 0xD0 ≤ u ∧ u ≤ 0xDF then 0x0D
  else if 0xE0 ≤ u ∧ u ≤ 0xEF then 0x0E
  else if u = 0xF0 ∨ u = 0xF1 then 0x0F
  else 0x10

end Sys2Proof.Machine
end

