-- ==== Sys2Proof/Machine/Route.lean ====
section
/-! DEFINITION. The seams of each die (01:R15, 14:R315, R316), the fixed routes (01:R16), and what a fence cuts
(14:R329-R331). -/
namespace Sys2Proof.Machine

/-- The peers of a die in the order of its seam numbers (14:R315). -/
def seamPeers (d : Nat) : List Nat :=
  let q := d / 16
  let c := d % 16
  let b := 16 * q
  match dieKind d with
  | .gabbro =>
    ((List.range 4).filter (· ≠ c)).map (b + ·) ++ ((List.range 4).filter (· ≠ q)).map (fun r => 16 * r + c)
      ++ [b + 10, b + 10, b + 11, b + 11, b + 12, b + 13, b + 14, b + 8, b + 9, b + 15]
  | .feldspar =>
    [b, b, b + 1, b + 1, b + 2, b + 2, b + 3, b + 3, b + 12, b + 13, b + 14, b + (21 - c), b + 8, b + 9, b + 15]
  | .gneiss =>
    [b, b + 1, b + 2, b + 3, b + 12, b + 13, b + 14, b + 10, b + 11, b + (17 - c),
      16 * ((q + 3) % 4) + c, 16 * ((q + 1) % 4) + c, b + 15]
  | .flint => [b, b + 1, b + 2, b + 3, b + 10, b + 11, b + 8, b + 9, b + 15]
  | .schist => [b, b + 1, b + 2, b + 3, b + 8, b + 9, b + 10, b + 11, b + 12, b + 13, b + 14]
  | .shale => []

/-- The die at the far end of a seam. -/
def seamPeer (d k : Nat) : Option Nat := (seamPeers d)[k]?

/-- The seams of die `a` that lead to die `b`. -/
def seamsTo (a b : Nat) : List Nat := (indexed (seamPeers a)).filterMap fun p => if p.2 = b then some p.1 else none

/-- The seam number at the far end of a seam (14:R316 for the pairs). -/
def seamFar (d k : Nat) : Option Nat :=
  match seamPeer d k with
  | none => none
  | some p =>
    let pos := ((seamsTo d p).findIdx? (· == k)).getD 0
    (seamsTo p d)[pos]?

/-- Whether a seam carries nothing: FENCED at either end. -/
def seamFenced (s : State) (d k : Nat) : Bool :=
  fld s (R_SEAM_STATUS d k) F_SEAM_STATUS_STATE == 3 ||
  (match seamPeer d k, seamFar d k with
   | some p, some j => fld s (R_SEAM_STATUS p j) F_SEAM_STATUS_STATE == 3
   | _, _ => true)

/-- A hop from one die to the next: `sel` picks the first or the second seam of a pair for a transfer (07:R162);
unscheduled traffic takes any. -/
def hopUp (s : State) (a b : Nat) (sel : Option Nat) : Bool :=
  match seamsTo a b, sel with
  | [x, y], some i => !(seamFenced s a (if i % 2 = 0 then x else y))
  | ks, _ => ks.any fun k => !(seamFenced s a k)

/-- The die whose seams serve a die: a Shale is reached through its Gabbro. -/
def seamDie (d : Nat) : Nat := if dieKind d = .shale then d - 4 else d

/-- Drop repeats of neighbours. -/
def dedupNext : List Nat → List Nat
  | [] => []
  | [x] => [x]
  | x :: y :: t => if x = y then dedupNext (y :: t) else x :: dedupNext (y :: t)

/-- The dies of the fixed route from `a` to `b`, both ends included (01:R16). -/
def routeDies (a b : Nat) : List Nat :=
  let a := seamDie a
  let b := seamDie b
  if a = b then [a]
  else if !(seamsTo a b).isEmpty then [a, b]
  else
    let n := if dieKind a = .gabbro then a % 16 else b % 16 % 4
    dedupNext [a, 16 * (a / 16) + n, 16 * (b / 16) + n, b]

/-- Whether every hop of a walk is up. -/
def walkUp (s : State) (sel : Option Nat) : List Nat → Bool
  | [] => true
  | [d] => !(dieFenced s d)
  | a :: b :: t => !(dieFenced s a) && hopUp s a b sel && walkUp s sel (b :: t)

/-- Whether the fixed route from `a` to `b` crosses no fenced seam and no fenced die (14:R330, R331). -/
def pathUp (s : State) (a b : Nat) : Bool := walkUp s none (routeDies a b)
/-- The same for a scheduled transfer, whose identifier picks the seam of a pair (07:R162). -/
def xferPathUp (s : State) (xferId a b : Nat) : Bool := walkUp s (some xferId) (routeDies a b)

/-- Whether a die reaches the home of an address. (Open points: assumption 48, DEDUCED.) -/
def homeUp (s : State) (a addr : Nat) : Bool :=
  match homeDie s addr with
  | some h => pathUp s a h
  | none => false

end Sys2Proof.Machine
end

