-- ==== Sys2Proof/Machine/Views.lean ====
section
/-! DEFINITION. What a register read shows: the stored word, with the fields that the spec makes views of other state
(02:R46, R56; 04:R97; 05:R121; 06:R153; 09:R214; 15:R373; 19:R442, R448), and the access codes of 00:R6. Reads here
have no side effect; the latching of 02:R47 is in the register commands. -/
namespace Sys2Proof.Machine

/-- A logical frame's unregistered state. -/
def frameGet (s : State) (g f : Nat) : Frame := tabGet s.frames (g * 8 + f) Frame.empty
/-- Set a logical frame's unregistered state. -/
def frameSet (s : State) (g f : Nat) (x : Frame) : State := { s with frames := tabPut s.frames (g * 8 + f) x }
/-- A Gabbro's unregistered schedule state. -/
def schedGet (s : State) (g : Nat) : Sched := tabGet s.scheds g ⟨none, none⟩
/-- Set a Gabbro's unregistered schedule state. -/
def schedSet (s : State) (g : Nat) (x : Sched) : State := { s with scheds := tabPut s.scheds g x }
/-- The open window of a Gabbro. -/
def winGet (s : State) (g : Nat) : Option Window := (schedGet s g).win
/-- Whether a window is open on a Gabbro. -/
def winOpen (s : State) (g : Nat) : Bool := (winGet s g).isSome
/-- Whether a window is open on any Gabbro. -/
def anyWindow (s : State) : Bool := (List.range 16).any (winOpen s)

/-- IN_PROGRESS of GAB_BEAM_STATUS: entries in ACCUM or DRAIN (04:R97). -/
def beamBusy (s : State) (d f : Nat) : Nat :=
  ((List.range 64).filter fun e =>
    let st := fld s (R_GAB_BEAM_TILE_STATUS d f e) F_TILE_STATUS_STATE
    st == 1 || st == 2).length

/-- LIVE of GAB_GNT_LIVE: non-empty side-memory records (05:R121). -/
def gntLive (s : State) (g f : Nat) : Nat := ((frameGet s g f).side.filter fun r => r.2.opf != 0).length

/-- Passes of an OP (05:R117). -/
def opPasses (op : Nat) : Nat := if op = 1 ∨ op = 3 then 3 else 2
/-- Chunks of a row of a GARNET descriptor. -/
def gntChunks (d : GarnetDesc) : Nat := ceilDiv d.len 256
/-- R × c: the cycles in which one pass reads. -/
def gntSpan (d : GarnetDesc) : Nat := d.rows * gntChunks d
/-- PASS of GAB_GNT_STATUS (05:R117, R121). (Open points: assumption 34, DEDUCED.) -/
def gntPass (r : GntRun) : Nat := Nat.min (opPasses r.desc.op) (r.t / (gntSpan r.desc + 12) + 1)

/-- Whether a wavefront, partial sum or load word is in the array (02:R46). -/
def inFlight (x : Frame) : Bool :=
  !x.passes.isEmpty || !x.loads.isEmpty || (match x.issue with | .pass _ _ _ _ => true | _ => false)

/-- Whether the beam and Garnet of a frame have no work left: no wavefront in the array, no accumulation in the pipeline, no drain
and no Garnet descriptor (06:R127). -/
def frameIdle (x : Frame) : Bool := x.passes.isEmpty && x.pipe.isEmpty && x.drains.isEmpty && x.gnt.isEmpty

/-! ### Power states (18:R426, R428, R433). -/

/-- Power state in force: 0 RUN, 1 IDLE, 2 HOLD, 3 REST. -/
def pwState (s : State) : Nat := fld s R_SCH_RST_STATUS F_SCH_RST_STATUS_STATE
/-- Whether a command of families 0x03-0x05 is in progress. -/
def memCmdBusy (s : State) : Bool := s.cmds.taken.any fun t => decide (3 ≤ t.op / 256) && decide (t.op / 256 ≤ 5)
/-- Whether a run waits for a window. -/
def anyPending (s : State) : Bool := s.runs.any fun r => r.parts.any fun p => p.2 == .waiting
/-- The first DEV_STATE_SET that waits. -/
def stateWait (s : State) : Option Taken := s.cmds.taken.find? fun t => match t.wait with | .state _ _ => true | _ => false
/-- The DEV_STATE_SET whose change is in progress: RUN and IDLE are left for HOLD and REST only without windows and
memory commands. -/
def stateEntry (s : State) : Option Taken :=
  (stateWait s).filter fun t => match t.wait with
    | .state st _ => !(decide (2 ≤ st) && decide (pwState s < 2) && (anyWindow s || anyPending s || memCmdBusy s))
    | _ => false
/-- Whether a state change is in progress. -/
def changing (s : State) : Bool := flag s R_SCH_RST_STATUS F_SCH_RST_STATUS_CHANGING || (stateEntry s).isSome

/-- Whether a DETACHED session with policy HOLD is armed (15:R364). -/
def holdArmed (s : State) : Bool :=
  (List.range 8).any fun i =>
    let w := regGet s (R_SCH_SES_STATE i)
    fldGet w F_SCH_SES_STATE_STATE == 2 && fldGet w F_SCH_SES_STATE_POLICY == 1 &&
      (match tabFind s.ses i with | some x => x.armed | none => false)

/-- Whether the input is in range and MATE_N connected: the standby rail, the I3C target and the output drivers run (21:R472, R485). (Open points: assumption 20, DEDUCED.) -/
def standby (s : State) : Bool := s.pwr.input

/-! ### The recorder's cursor and store (19:R436, R442). -/

/-- OLDEST from NEWEST: the smallest SEQ whose slot still holds its record (19:R436). -/
def strataOldest (newest : Nat) : Nat := Nat.max 1 (newest - newest % 1024 + 1024 - 1048576)
/-- NEWEST. -/
def strataNewest (s : State) : Nat := (ctrGet s R_SCH_STRATA_NEWEST).toNat
/-- The first SEQ from `q` on whose record was not cut short. -/
def seqUncut (torn : List Nat) : Nat → Nat → Nat
  | 0, q => q
  | f + 1, q => if torn.contains q then seqUncut torn f (q + 1) else q
/-- The SEQ of the next record: a slot whose write was cut short is not rewritten (19:R437). (Open points: assumption 67, DEDUCED.) -/
def strataNextSeq (s : State) : Nat := seqUncut s.strata.torn s.strata.torn.length (strataNewest s + 1)
/-- OLDEST in force: the block of a write that was cut short had been erased for it, and its slot holds no record (19:R436). -/
def strataFirst (s : State) : Nat := seqUncut s.strata.torn s.strata.torn.length (strataOldest (strataNextSeq s - 1))
/-- The cursor in force. -/
def strataCursor (s : State) : Nat := (ctrGet s R_SCH_STRATA_CURSOR).toNat
/-- Whether a SEQ lies in OLDEST to NEWEST. -/
def strataHeld (s : State) (q : Nat) : Bool :=
  decide (strataFirst s ≤ q) && decide (q ≤ strataNewest s)
/-- The 256 bytes of a record's slot as it is stored (19:R442); an erased slot reads 0xFF. -/
def strataSlot (s : State) (q : Nat) : List Byte :=
  tabGet s.strata.store (q % 1048576) (List.replicate 256 0xFF#8)
/-- Seconds left on the freeze (19:R448). -/
def freezeLeft (s : State) : Nat := ceilDiv (s.strata.freezeEnd - uptimeUs s) 1000000

/-! ### The directories (09:R214). -/

/-- Directory entries that a home holds. (Open points: assumption 44, DESIGN CHOICE.) -/
def dirOccupancy (s : State) (home : Nat) : Nat :=
  (s.coh.dir.filter fun e => homeDie s (e.1 * 128) == some home).length
/-- _DIR_STATUS of a home. -/
def dirStatus (s : State) (home : Nat) : Word :=
  fldSet (fldSet 0 F_DIR_STATUS_OCCUPANCY (dirOccupancy s home)) F_DIR_STATUS_BARRIER_BUSY
    (b2n (s.coh.bars.any fun b => b.home == home))

/-! ### The codec (12:R287, R289, R294). -/

/-- Blocks coded in an epoch that a port's retry buffer holds. -/
def portRefs (s : State) (p e : Nat) : Nat :=
  (((tabGet s.ports p PortX.empty).held.flatMap HeldFrame.blocks).filter fun b => b.epoch == some e).length
/-- Reference count of an epoch on a Feldspar. (Open points: assumption 54, DEDUCED.) -/
def micaRefs (s : State) (l e : Nat) : Nat := ((List.range 6).map fun i => portRefs s (6 * l + i) e).sum
/-- STATE of an epoch in the local store. -/
def micaState (s : State) (e : Nat) : Nat := fld s (R_FLD_MICA_EPOCH (fldDie 0) e) F_FLD_MICA_EPOCH_STATE
/-- Table hash of an epoch in the local store. (Open points: assumption 54, DEDUCED.) -/
def micaHash (s : State) (e : Nat) : Nat := (ctrGet s (R_FLD_MICA_HASH (fldDie 0) e)).toNat
/-- Whether an epoch is usable on a port. -/
def micaUsable (s : State) (p e : Nat) : Bool :=
  micaState s e == 1 &&
    match (tabGet s.ports p PortX.empty).ads[e]? with
    | some a => a.1 == 1 && a.2 == micaHash s e
    | none => false
/-- FLD_MICA_PEER of a port. -/
def micaPeer (s : State) (p : Nat) : Word :=
  let r := ofBits ((List.range 4).filter fun e =>
    match (tabGet s.ports p PortX.empty).ads[e]? with | some a => a.1 == 1 | none => false)
  fldSet (fldSet 0 F_FLD_MICA_PEER_USABLE (ofBits ((List.range 4).filter (micaUsable s p)))) F_FLD_MICA_PEER_PEER_RESIDENT r

/-! ### Views. -/

/-- The word that a 32-bit register of a Feldspar shows. (Open points: assumption 29, DESIGN CHOICE.) -/
def viewFeldspar (s : State) (d off : Nat) (w : Word) : Word :=
  let l := fldOrd d
  if 0x80010 ≤ off ∧ off < 0x80030 ∧ off % 8 = 4 then BitVec.ofNat 32 (micaRefs s l ((off - 0x80010) / 8))
  else if 0x80100 ≤ off ∧ off < 0x80118 then micaPeer s (6 * l + (off - 0x80100) / 4)
  else w

/-- The word that a 32-bit register of a Gabbro shows. (Open points: assumption 29, DESIGN CHOICE.) -/
def viewGabbro (s : State) (d off : Nat) (w : Word) : Word :=
  let g := gabOrd d
  if 0x101000 ≤ off ∧ off < 0x109000 then
    let f := (off - 0x101000) / 0x1000
    let o := (off - 0x101000) % 0x1000
    let x := frameGet s g f
    if o = 0x004 then fldSet w F_GAB_FRM_STATUS_IN_FLIGHT (b2n (inFlight x))
    else if o = 0x014 then
      fldSet w F_GAB_FRM_SLOT_STATE (fld s (R_GAB_FRM_STATUS d f) F_GAB_FRM_STATUS_HEAVEN_STATE)
    else if o = 0x018 then
      fldSet w F_GAB_FRM_SLOT_STATE (fld s (R_GAB_FRM_STATUS d f) F_GAB_FRM_STATUS_EARTH_STATE)
    else if o = 0x300 then fldSet w F_GAB_BEAM_STATUS_IN_PROGRESS (beamBusy s d f)
    else if o = 0x800 then
      match x.gnt.getLast? with
      | none => 0
      | some r => fldSet (fldSet (fldSet 0 F_GAB_GNT_STATUS_BUSY 1) F_GAB_GNT_STATUS_OP r.desc.op) F_GAB_GNT_STATUS_PASS (gntPass r)
    else if o = 0x808 then BitVec.ofNat 32 (gntLive s g f)
    else w
  else if 0x100040 ≤ off ∧ off < 0x100060 then (s.rcp.words[(off - 0x100040) / 4]?).getD 0
  else if off = 0x100068 then s.rcp.gen
  else if off = 0x120004 then dirStatus s d
  else if off = 0x110000 then fldSet w F_GAB_SCH_STATUS_STEP_FAILED (b2n s.stepFailed)
  else w

/-- The word that a 32-bit register of a Flint shows. (Open points: assumption 29, DESIGN CHOICE.) -/
def viewFlint (s : State) (d off : Nat) (w : Word) : Word :=
  if 0x40040 ≤ off ∧ off < 0x40060 then (s.rcp.words[(off - 0x40040) / 4]?).getD 0
  else if off = 0x40068 then s.rcp.gen
  else if off = 0x50004 then dirStatus s d
  else if regAt d off = R_FLT_INTLV d then BitVec.ofNat 32 s.intlv
  else w

/-- The word that a 32-bit register of a Schist shows. (Open points: assumption 29, DESIGN CHOICE.) -/
def viewSchist (s : State) (off : Nat) (w : Word) : Word :=
  if off = 0x9000 then
    fldSet (fldSet (fldSet w F_SCH_STRATA_STATUS_CURSOR_VALID (b2n (strataHeld s (strataCursor s))))
      F_SCH_STRATA_STATUS_WRITER (writerDie s / 16))
      F_SCH_STRATA_STATUS_FREEZE_LEFT (if flag s R_SCH_STRATA_STATUS F_SCH_STRATA_STATUS_FROZEN then freezeLeft s else 0)
  else if off = 0x8000 then fldSet w F_SCH_RST_STATUS_CHANGING (b2n (changing s))
  else if off = 0x5400 then fldSet w F_SCH_HOLD_ARMED (b2n (holdArmed s))
  else if regAt 15 off = R_SCH_POD_STATUS then fldSet w F_SCH_POD_STATUS_RELAY_PENDING (Nat.min 255 s.cmds.relay.length)
  else if 0x9100 ≤ off ∧ off < 0x9200 then
    if flag s R_SCH_STRATA_STATUS F_SCH_STRATA_STATUS_WIN_BUSY || !(strataHeld s (strataCursor s)) then 0 else w
  else w

/-- The value that a 64-bit pair shows. (Open points: assumption 29, DESIGN CHOICE.) -/
def viewPair (s : State) (d off : Nat) (w : DWord) : DWord :=
  match dieKind d with
  | .gabbro =>
    if regAt d off = R_GAB_SCH_STEP d then s.step
    else if regAt d off = R_GAB_RCP_SEED d then s.rcp.seed
    else w
  | .flint => if regAt d off = R_FLT_RCP_SEED d then s.rcp.seed else w
  | .schist => if off = 0x9018 then BitVec.ofNat 64 (strataFirst s) else w
  | _ => w

/-- The 64-bit value of a pair, under the address of its low half. -/
def rdPair (s : State) (k : Nat) : DWord := viewPair s (regDie k) (regOff k) (ctrGet s k)

/-- The word a read of a 32-bit location shows, without side effects: unmapped offsets and write-only registers read
zero (00:R6, R7); the high half of a latching counter shows its latch (02:R47). (Open points: assumption 28, DEDUCED.) -/
def rdWord (s : State) (d off : Nat) : Word :=
  match regRow d off with
  | none => 0
  | some (r, hi) =>
    if r.acc = .wo then 0
    else if r.wide then
      if hi then
        (if r.acc = .ctr then tabGet s.latch (regKey d (off - 4)) 0
         else BitVec.ofNat 32 ((rdPair s (regKey d (off - 4))).toNat / 4294967296))
      else if dieKind d = .schist ∧ off = 0x9020 then
        (match s.strata.staged with | some w => w | none => BitVec.ofNat 32 (rdPair s (regKey d off)).toNat)
      else BitVec.ofNat 32 (rdPair s (regKey d off)).toNat
    else
      let w := regGet s (regKey d off)
      match dieKind d with
      | .gabbro => viewGabbro s d off w
      | .flint => viewFlint s d off w
      | .feldspar => viewFeldspar s d off w
      | .schist => viewSchist s off w
      | _ => w

/-- The word at a register address. (Open points: assumption 28, DEDUCED.) -/
def rdAt (s : State) (k : Nat) : Word := rdWord s (regDie k) (regOff k)

end Sys2Proof.Machine
end

