-- ==== Sys2Proof/Machine/Strata.lean ====
section
/-! DEFINITION. The Strata recorder (19_strata_recorder.md): acceptance of an event with its snapshot (R435, R438, R439,
R441, R444), commitment to flash (R436, R437, R440), and the cursor (R442). -/
namespace Sys2Proof.Machine

/-- The snapshot registers of an event, by source die, unit byte, and the index of the port, slot, session, watch entry
or seam the event names (19:R441, 20:R468). -/
def snapKeys (die unit aux : Nat) : List Nat :=
  match unitTrigger unit with
  | 0x01 =>
    if dieKind die = .shale then
      [R_SHL_STATUS die, R_SHL_ERR die, R_SHL_UE_ADDR die, R_SHL_UE_ADDR die + 4, R_SHL_UE_SRC die, R_SHL_CE_CNT die,
        R_SHL_UE_CNT die, R_SHL_SPARE_USED die]
    else if dieKind die = .flint then [R_FLT_DIR_STATUS die, R_FLT_DIR_CE die, R_FLT_INTLV die, R_FLT_UPD_STATUS die]
    else []
  | 0x02 =>
    let f := unit % 8
    [R_GAB_FRM_STATUS die f, R_GAB_FRM_ERR die f, R_GAB_BEAM_STATUS die f, R_GAB_BEAM_ERR die f, R_GAB_FRM_BWD_ERR die f,
      R_GAB_GNT_STATUS die f, R_GAB_SCH_STATUS die, R_GAB_SCH_TIME die, R_GAB_SCH_RUN_CNT die, R_GAB_SCH_STEP die]
  | 0x03 =>
    [R_GAB_SCH_STATUS die, R_GAB_SCH_TIME die, R_GAB_SCH_PLAN_CYC die, R_GAB_SCH_RUN_CNT die, R_GAB_SCH_WIN_STALL die,
      R_GAB_SCH_WIN_RUN_MAX die, R_GAB_SCH_STALL_QUEUE die, R_GAB_SCH_STALL_ARRIVAL die, R_GAB_SCH_STALL_SLOT die]
      ++ (List.range 8).map (R_GAB_SCH_HASH die)
  | 0x04 =>
    if dieKind die = .flint then [R_FLT_DIR_STATUS die, R_FLT_DIR_BARRIER die, R_FLT_DIR_BARRIER_TMO die]
    else [R_GAB_DIR_STATUS die, R_GAB_DIR_BARRIER die, R_GAB_DIR_BARRIER_TMO die]
  | 0x05 =>
    [R_FLD_RING_STATUS aux, R_FLD_RING_STEP aux, R_FLD_RING_CONTRIB aux, R_FLD_RING_NF_BLOCKS aux, R_FLD_RING_NF die]
  | 0x06 =>
    [R_FLT_UPD_STATUS die, R_FLT_UPD_ERR die, R_FLT_UPD_STEP die, R_FLT_UPD_DONE_BLOCKS die, R_FLT_UPD_ZERO_DEN die]
  | 0x07 =>
    R_FLD_MICA_ERR die :: (List.range 4).map (R_FLD_MICA_EPOCH die)
      ++ [R_FLD_MICA_LEN_MISMATCH die, R_FLD_MICA_EPOCH_ABSENT die]
  | 0x08 =>
    if unit = 0x78 then [R_FLD_PCIE_STATUS, R_FLD_PCIE_ERR]
    else
      let p := unit - 0x70
      [R_FLD_PORT_STATUS die p, R_FLD_PORT_LANES die p, R_FLD_PORT_ERR die p, R_FLD_PORT_PEER_ID die p,
        R_FLD_PORT_PEER_ID die p + 4, R_FLD_PORT_PEER_INFO die p, R_FLD_PORT_RETRY die p, R_FLD_PORT_FEC_CORR die p,
        R_FLD_PORT_TRAINS die p]
  | 0x09 =>
    [R_SCH_SES_STATE aux, R_SCH_SES_ID aux, R_SCH_SES_LEASE aux, R_SCH_SES_AUTH_FAIL aux, R_SCH_SES_DETACH_CNT aux,
      R_SCH_HOLD]
  | 0x0A =>
    [R_SCH_HLT_ERR, R_SCH_HLT_NF_BEAM, R_SCH_HLT_NF_GARNET, R_SCH_HLT_NF_RING, R_SCH_HLT_NF_UPD_IN, R_SCH_HLT_NF_UPD_OUT,
      R_SCH_HLT_LOSS, R_SCH_HLT_MEAN, R_SCH_RPL_STATUS] ++ (if unit = 0xA2 then [R_SCH_HLT_WATCH aux] else [])
  | 0x0B =>
    [R_SCH_PWR_STATUS, R_SCH_PWR_ERR, R_SCH_PWR_LIMIT, R_SCH_PWR_INPUT, R_SCH_PWR_PEAK, R_SCH_COOL_INLET,
      R_SCH_COOL_FLOW, R_SCH_CLK_TAKEOVER] ++ (List.range 16).map fun g => R_PWR_TEMP (gabDie g)
  | 0x0C =>
    [R_SCH_RST_STATUS, R_SCH_STRAP, R_SCH_RST_WAKE, R_SCH_RST_COLD_CNT, R_SCH_RST_MODULE_CNT, R_SCH_RST_WARM_CNT]
  | 0x0D =>
    [R_SCH_FW_STATUS, R_SCH_FW_ERR, R_SCH_FW_PKG_VERSION, R_SCH_FW_SVN, R_SCH_FW_SVN_FLOOR, R_SCH_FW_STAGED_VERSION,
      R_SCH_FW_RX_BYTES, R_SCH_FW_READY, R_SCH_FW_READY + 4]
  | 0x0E =>
    let q := unit - 0xE0
    [R_SEAM_STATUS die q, R_SEAM_MAP die q, R_SEAM_ERR die q, R_SEAM_PEND die q, R_SEAM_PEND die q + 4,
      R_SEAM_REPLAY die q, R_SEAM_LANE_ERR die q]
  | 0x0F => [R_DIE_ID die, R_SCH_DIE_STATE die, R_SCH_PWR_STATUS]
  | _ => [R_SCH_STRATA_STATUS, R_SCH_STRATA_ERR, R_SCH_STRATA_LOST, R_SCH_STRATA_SUPPRESSED]

/-- Bytes 8 to 251 of a record (19:R435), with FLAGS zero. -/
def recordBody (s : State) (die unit status ctx supp : Nat) (snap : List Word) : List Byte :=
  leBytes 4 (regGet s R_SCH_STRATA_OP_MIN).toNat ++ leBytes 4 (regGet s R_SCH_RST_COLD_CNT).toNat
    ++ leBytes 8 (uptimeUs s) ++ [BitVec.ofNat 8 unit, BitVec.ofNat 8 die] ++ leBytes 2 (unitTrigger unit)
    ++ leBytes 2 status ++ [0#8, BitVec.ofNat 8 snap.length] ++ leBytes 4 supp ++ leBytes 4 s.step.toNat
    ++ leBytes 8 ctx ++ snap.flatMap (fun w => leBytes 4 w.toNat) ++ List.replicate (200 - 4 * snap.length) 0#8
    ++ List.replicate 4 0#8

/-- Whether the recorder is frozen. -/
def frozen (s : State) : Bool := flag s R_SCH_STRATA_STATUS F_SCH_STRATA_STATUS_FROZEN

/-- The events accepted while frozen (19:R444). -/
def freezeExempt (unit ctx : Nat) : Bool :=
  unit == 0xB0 || unit == 0xB4 || unit == 0xB5 || unit == 0xB6 || (unit == 0xF0 && (ctx == 2 || ctx == 4))

/-- The records a Schist's slice holds: those of the quadrant that serves the source's quadrant (19:R439; 14:R332). -/
def sliceCount (s : State) (q : Nat) : Nat :=
  (s.strata.slice.filter fun p => schServing s (p.source / 256 / 16) == schServing s q).length

/-- The rate state of a source: die and unit byte. -/
def rateOf (s : State) (src : Nat) : SrcRate := tabGet s.strata.rates src ⟨none, 0⟩
/-- Whether an event of a source is not accepted: within 1 ms of the last accepted one, or while the recorder is frozen
(19:R438, R444). -/
def eventHeld (s : State) (src unit ctx : Nat) : Bool :=
  (match (rateOf s src).last with | some l => decide (uptimeUs s < l + 1000) | none => false) ||
    (frozen s && !(freezeExempt unit ctx))
/-- An event that is not accepted is counted (19:R438, R444). -/
def eventSuppress (s : State) (src : Nat) : State :=
  let rates := tabPut s.strata.rates src ⟨(rateOf s src).last, Nat.min ((rateOf s src).suppressed + 1) 4294967295⟩
  count { s with strata := { s.strata with rates := rates, freezeSupp := s.strata.freezeSupp + b2n (frozen s) } }
    R_SCH_STRATA_SUPPRESSED 1
/-- An accepted event of a source in quadrant `q` that finds its slice full is lost (19:R439). -/
def eventLose (s : State) (q : Nat) : State :=
  let s := raise (count s R_SCH_STRATA_LOST 1) R_SCH_STRATA_ERR F_SCH_STRATA_ERR_OVERFLOW
  { s with strata := { s.strata with lostSince := s.strata.lostSince + 1, lostFlag := true, spilled := q :: s.strata.spilled.filter (· ≠ q) } }
/-- The source has an accepted event now. -/
def eventAccept (s : State) (src : Nat) : State :=
  { s with strata := { s.strata with rates := tabPut s.strata.rates src ⟨some (uptimeUs s), 0⟩ } }

/-- An event reaches the recorder: source die and unit, status, CONTEXT, index of what it names (19:R438, R439, R444). -/
def strataEvent (s : State) (die unit status ctx aux : Nat) : State :=
  let src := die * 256 + unit
  if eventHeld s src unit ctx then eventSuppress s src
  else if 256 ≤ sliceCount s (die / 16) then eventLose (eventAccept s src) (die / 16)
  else
    let body := recordBody s die unit status ctx (rateOf s src).suppressed ((snapKeys die unit aux).map (rdAt s))
    let p : PendRec := ⟨src, uptimeUs s, body, unit == 0xB6 || unit == 0xB4, unit == 0xB6⟩
    let s := eventAccept s src
    { s with strata := { s.strata with slice := s.strata.slice ++ [p] } }

/-- The pending record to commit next: a power fault or thermal trip first, then ascending UPTIME_US, then ascending
source (19:R437, R440). -/
def nextRecord : List PendRec → Option PendRec
  | [] => none
  | p :: t => match nextRecord t with
    | none => some p
    | some q =>
      if p.first && !q.first then some p
      else if q.first && !p.first then some q
      else if p.uptime < q.uptime then some p
      else if q.uptime < p.uptime then some q
      else if p.source ≤ q.source then some p else some q

/-- Remove the first entry equal to a record. -/
def dropRecord : List PendRec → PendRec → List PendRec
  | [], _ => []
  | p :: t, x => if p = x then t else p :: dropRecord t x

/-- The 256 bytes of a record as it is written (19:R435). (Open points: assumption 67, DEDUCED.) -/
def recordBytes (seq : Nat) (p : PendRec) (flags : Nat) : List Byte :=
  let body := leBytes 8 seq ++ p.bytes
  let body := body.take 30 ++ [BitVec.ofNat 8 flags] ++ body.drop 31
  body ++ leBytes 4 (crc32c body).toNat

/-- The slots after a block whose first record is to be written is erased (19:R436). -/
def strataErase (s : State) (seq : Nat) : Tab (List Byte) :=
  let slot := seq % 1048576
  if seq % 1024 = 0 then tabDelIf s.strata.store fun i => decide (slot ≤ i) && decide (i < slot + 1024) else s.strata.store

/-- Whether the slice of a quadrant's sources holds fewer than 128 records. -/
def drained (s : State) (q : Nat) : Bool := decide (sliceCount s q < 128)

/-- The writer's event of lost records; where it finds no place the number lost stands for the next one (19:R439). (Open points: assumption 67, DEDUCED.) -/
def lostReport (s : State) : State :=
  let n := s.strata.lostSince
  let d := writerDie s
  let found := !(eventHeld s (d * 256 + 0xF8) 0xF8 n) && decide (sliceCount s (d / 16) < 256)
  strataEvent (if found then { s with strata := { s.strata with lostSince := 0 } } else s) d 0xF8 0 n 0

/-- Commit one pending record; `hold` says that it is written on hold-up energy (19:R436, R437, R439, R440, R444). (Open points: assumption 67, DEDUCED.) -/
def strataCommit (s : State) (hold : Bool) : State :=
  match nextRecord s.strata.slice with
  | none => s
  | some p =>
    let seq := strataNextSeq s
    let flags := b2n (frozen s) + 2 * b2n s.strata.lostFlag + 4 * b2n (hold || p.holdup)
    let kept := dropRecord s.strata.slice p
    let cells := tabPut (strataErase s seq) (seq % 1048576) (recordBytes seq p flags)
    let s := { s with strata := { s.strata with store := cells, slice := kept, lostFlag := false } }
    let s := count (ctrSet s R_SCH_STRATA_NEWEST (BitVec.ofNat 64 seq)) R_SCH_STRATA_WRITTEN 1
    let s := if frozen s then regInc s R_SCH_STRATA_GEN 1 else s
    if s.strata.spilled.any (drained s) then lostReport { s with strata := { s.strata with spilled := s.strata.spilled.filter fun q => !(drained s q) } }
    else s

/-- Commit `n` records. -/
def strataCommitN : Nat → State → State
  | 0, s => s
  | n + 1, s => strataCommitN n (strataCommit s true)

/-- Whether bytes are what a write that was cut short leaves: a slot whose CRC fails (19:R437). -/
def tornSlot (bs : List Byte) : Bool := bs.length == 256 && fieldLE bs 252 4 != (crc32c (bs.take 252)).toNat

/-- The next record's write is cut short: its slot keeps what was written, and is not rewritten (19:R437, R442). (Open points: assumption 67, DEDUCED.) -/
def strataTear (s : State) (bs : List Byte) : State :=
  let seq := strataNextSeq s
  let cells := tabPut (strataErase s seq) (seq % 1048576) bs
  { s with strata := { s.strata with store := cells, torn := seq :: s.strata.torn } }

/-- The input left range: record the fault, commit it first and up to 63 further records, and lose the rest; the last write
may be cut short (19:R437, R440). (Open points: assumption 67, DEDUCED.) -/
def strataPowerFault (s : State) (torn : List Byte) : State :=
  let s := strataEvent s (writerDie s) 0xB6 0 (fld s R_SCH_PWR_INPUT F_SCH_PWR_INPUT_INPUT_W) 0
  let cutShort := decide (2 ≤ s.strata.slice.length) && tornSlot torn
  let s := strataCommitN (Nat.min 64 s.strata.slice.length - b2n cutShort) s
  let s := if cutShort then strataTear s torn else s
  let n := s.strata.slice.length
  if n = 0 then s
  else
    let s := count s R_SCH_STRATA_LOST n
    { s with strata := { s.strata with slice := [], lostSince := s.strata.lostSince + n, lostFlag := true } }

/-- Move the cursor: the window copies the record in its slot, and WIN_BUSY is set while it fills (19:R442). -/
def strataMove (s : State) (q : Nat) : State :=
  let s := ctrSet s R_SCH_STRATA_CURSOR (BitVec.ofNat 64 q)
  let bytes := strataSlot s q
  let s := { s with strata := { s.strata with staged := none } }
  let s := (List.range 64).foldl (fun s n => regSet s (R_SCH_STRATA_WIN n) (BitVec.ofNat 32 (fieldLE bytes (4 * n) 4))) s
  raise s R_SCH_STRATA_STATUS F_SCH_STRATA_STATUS_WIN_BUSY

end Sys2Proof.Machine
end

