-- ==== Sys2Proof/Machine/Access.lean ====
section
/-! DEFINITION. Memory as its readers and writers meet it: error granules, corrected and uncorrectable errors
(08:R178, R180-R182; 09:R191; 04:R94, R496), wells and their tags (05:R104, R108; 08:R174-R176), the busy tiles of the
beam store (04:R85), and the replay region (16:R385). -/
namespace Sys2Proof.Machine

/-! ### Regions of a Shale (08:R171, R174). -/

/-- TYPE of the region entry that covers an offset of a Shale, 0 if none does. -/
def rgnType (s : State) (g off : Nat) : Nat :=
  let mib := off / 1048576
  let hit := (List.range 16).find? fun n =>
    let w := regGet s (R_SHL_RGN (shlDie g) n)
    fldGet w F_SHL_RGN_TYPE != 0 && decide (fldGet w F_SHL_RGN_BASE_MIB ≤ mib) &&
      decide (mib ≤ fldGet w F_SHL_RGN_BASE_MIB + fldGet w F_SHL_RGN_SIZE_MIB_M1)
  match hit with
  | some n => fld s (R_SHL_RGN (shlDie g) n) F_SHL_RGN_TYPE
  | none => 0

/-- Whether an address lies in a gradient well. -/
def inWell (s : State) (a : Nat) : Bool :=
  match regionBelow 0 a with
  | .shale g => rgnType s g (a - shaleBase g) == 3
  | _ => false

/-- The row of a Shale address. -/
def rowOf (a : Nat) : Nat := a / 1024 * 1024
/-- The tag of a row. -/
def tagGet (s : State) (row : Nat) : RowTag := tabGet s.tags row ⟨false, 0, false, false⟩
/-- Set the tag of a row. -/
def tagSet (s : State) (row : Nat) (t : RowTag) : State := { s with tags := tabPut s.tags row t }

/-- Whether a row of a well reads as +0: WRITTEN is 0 and no parity error makes it read as written (05:R108, 08:R176). -/
def rowBlank (s : State) (row : Nat) : Bool := inWell s row && !(tagGet s row).written && !(tagGet s row).parity

/-! ### Sparing (08:R180, R187). -/

/-- Bank number of a Shale address: bank × 32 + vault (08:R168). (Open points: assumption 43, DEDUCED.) -/
def bankOf (g a : Nat) : Nat := (a - shaleBase g) / 1024 % 512

/-- Spare rows in use in a bank. -/
def bankUsed (s : State) (d b : Nat) : Nat := (Config.bankSpares d b).val + tabGet s.shl.spares (d * 512 + b) 0

/-- A bank has no free spare row (08:R180). -/
def spareExhausted (s : State) (d row : Nat) : State :=
  strataEvent (raise s (R_SHL_ERR d) F_SHL_ERR_SPARE_EXHAUSTED) d 0x03 0 row 0

/-- Remap a row of Shale `d` to a free spare of its bank. (Open points: assumption 43, DEDUCED.) -/
def spareTake (s : State) (g row : Nat) : State :=
  let d := shlDie g
  let b := bankOf g row
  if bankUsed s d b < 64 then
    let s := { s with shl := { s.shl with spares := tabPut s.shl.spares (d * 512 + b) (tabGet s.shl.spares (d * 512 + b) 0 + 1),
                                          remapped := row :: s.shl.remapped.filter (· ≠ row), hist := tabDel s.shl.hist row } }
    let s := setFld s (R_SHL_SPARE_USED d) F_SHL_SPARE_USED_USED (fld s (R_SHL_SPARE_USED d) F_SHL_SPARE_USED_USED + 1)
    setFld s (R_SHL_STATUS d) F_SHL_STATUS_SPARE_MAX (Nat.max (fld s (R_SHL_STATUS d) F_SHL_STATUS_SPARE_MAX) (bankUsed s d b))
  else spareExhausted s d row

/-- A sector of a row met a correctable error while SPARE_EN is 1: the third distinct sector within a scrub period starts a copy. (Open points: assumption 43, DEDUCED.) -/
def spareNote (s : State) (g a : Nat) : State :=
  let d := shlDie g
  let row := rowOf a
  let secs := tabGet s.shl.hist row []
  let sec := a % 1024 / 128
  if secs.contains sec || !(flag s (R_SHL_CTRL d) F_SHL_CTRL_SPARE_EN) then s
  else
    let s := { s with shl := { s.shl with hist := tabPut s.shl.hist row (sec :: secs) } }
    if secs.length + 1 < 3 || s.shl.copies.contains row then s
    else if bankUsed s d (bankOf g row) < 64 then
      raise { s with shl := { s.shl with copies := s.shl.copies ++ [row] } } (R_SHL_STATUS d) F_SHL_STATUS_SPARE_COPY
    else spareExhausted s d row

/-! ### Meeting an error (08:R178, R181, R182; 09:R191; 04:R94, R496). -/

/-! ### What has happened in the stores (09:R194; 08:R176, R178). -/

/-- The line of an address (09:R193). -/
def lineOf (a : Nat) : Nat := a / 128
/-- Key of a Gneiss's copy of a line. -/
def copyKey (c line : Nat) : Nat := c * 2199023255552 + line
/-- A Gneiss's copy of a line. -/
def copyGet (s : State) (c line : Nat) : Option CacheLine := tabFind s.coh.cache (copyKey c line)
/-- Set a Gneiss's copy. -/
def copySet (s : State) (c line : Nat) (x : CacheLine) : State :=
  { s with coh := { s.coh with cache := tabPut s.coh.cache (copyKey c line) x } }
/-- Drop a Gneiss's copy from every level. -/
def copyDel (s : State) (c line : Nat) : State :=
  { s with coh := { s.coh with cache := tabDel s.coh.cache (copyKey c line), lv := tabDel s.coh.lv (copyKey c line) } }

/-! ### The levels of a Gneiss, and the contention predictor (09:R193, R199). -/

/-- Where a Gneiss's copy of a line stands; until something else is said, in its last-level cache (09:R193). (Open points: assumption 44, DESIGN CHOICE.) -/
def lineAt (s : State) (c line : Nat) : LineAt := tabGet s.coh.lv (copyKey c line) ⟨0, true⟩
/-- Set the levels that hold a Gneiss's copy of a line: a line that the die does not hold is at none. -/
def lineAtSet (s : State) (c line : Nat) (x : LineAt) : State :=
  if (copyGet s c line).isSome then { s with coh := { s.coh with lv := tabPut s.coh.lv (copyKey c line) x } } else s

/-- Key of a predictor counter: L2 cluster and index bits [15:7]. (Open points: assumption 46, DEDUCED.) -/
def predKey (cluster line : Nat) : Nat := cluster * 512 + line % 512
/-- A snoop removes a line from the L2s of a Gneiss in `mask`: each that executed an AMO on it within 4,096 core cycles
(three to an arithmetic cycle) adds one. (Open points: assumption 46, DEDUCED.) -/
def predSnoop (s : State) (c line mask : Nat) : State :=
  (setBits 8 mask).foldl (fun s k =>
    let cl := c * 8 + k
    match tabFind s.coh.amoAt (copyKey cl line) with
    | none => s
    | some t =>
      let s' := { s with coh := { s.coh with amoAt := tabDel s.coh.amoAt (copyKey cl line) } }
      if (s.cyc - t) * 3 < 4096 then
        { s' with coh := { s'.coh with pred := tabMod s'.coh.pred (predKey cl line) 0 fun n => Nat.min 3 (n + 1) } }
      else s') s

/-- The L2 of cluster `k` of a Gneiss has a line that the die holds (09:R193). (Open points: assumption 44, DESIGN CHOICE.) -/
def l2Add (s : State) (c line k : Nat) : State :=
  let x := lineAt s c line
  lineAtSet s c line { x with l2 := x.l2 ||| 2 ^ k }
/-- The L2s of a Gneiss lose a line, but the one of cluster `k` has it: the die's snoop filter removes it from the others
(09:R193, R199). (Open points: assumption 46, DEDUCED.) -/
def l2Take (s : State) (c line : Nat) (k : Option Nat) : State :=
  let x := lineAt s c line
  let own := match k with | some k => 2 ^ k | none => 0
  lineAtSet (predSnoop s c line (x.l2 &&& (255 ^^^ own))) c line { x with l2 := own }
/-- The levels of a Gneiss that hold a line, as its caches have moved it; a line leaves the last of them by a command of
its own (09:R193, R194). (Open points: assumption 44, DESIGN CHOICE.) -/
def levelSet (s : State) (c a l2 : Nat) (llc : Bool) : State :=
  if l2 % 256 = 0 ∧ llc = false then s else lineAtSet s c (lineOf a) ⟨l2 % 256, llc⟩

/-- An error arises in storage. (Open points: assumption 77, DESIGN CHOICE.) -/
def upset (s : State) (a : Nat) (ue : Bool) : State :=
  if (regionBelow 0 a).isMem then
    let g := (granule a).1
    { s with ecc := tabPut s.ecc g (ue || tabGet s.ecc g false) }
  else s

/-- A write of `n` bytes by a hart, an engine or a window: one that meets what an update run in progress reads makes the
results of its step undefined (11:R266). (Open points: assumption 53, DEDUCED.) -/
def watchNote (s : State) (a n : Nat) : State :=
  if s.updWatch.areas.any fun r => decide (a < r.1 + r.2) && decide (r.1 < a + n) then { s with updWatch := { s.updWatch with hit := true } } else s

/-- A hart stores into a line that its Gneiss holds in E or M: the copy becomes M, its cluster's L2 alone has the line, and
no home hears of it (09:R193, R194). (Open points: assumption 45, DEDUCED.) -/
def silentStore (s : State) (hart a : Nat) (bs : List Byte) : State :=
  let c := hart / 32
  match copyGet s c (lineOf a) with
  | some x =>
    if (x.st = CState.e ∨ x.st = CState.m) ∧ a % 128 + bs.length ≤ 128 then
      l2Take (copySet (watchNote s a bs.length) c (lineOf a) ⟨.m, x.data.take (a % 128) ++ bs ++ x.data.drop (a % 128 + bs.length)⟩)
        c (lineOf a) (some (hart / 4 % 8))
    else s
  | none => s

/-- A Gneiss drops a line that it holds in S; its presence bit stays (09:R194, R195). (Open points: assumption 45, DEDUCED.) -/
def silentEvict (s : State) (c a : Nat) : State :=
  match copyGet s c (lineOf a) with
  | some x => if x.st = CState.s then copyDel s c (lineOf a) else s
  | none => s

/-- A parity error arises in the tag of a row of a well (08:R174, R176). (Open points: assumption 77, DESIGN CHOICE.) -/
def tagUpset (s : State) (a : Nat) : State :=
  if inWell s a then tagSet s (rowOf a) { tagGet s (rowOf a) with parity := true } else s

/-- One thing that has happened in the stores. (Open points: assumption 45, DEDUCED; assumption 77, DESIGN CHOICE.) -/
def before (s : State) : Before → State
  | .upset a ue => upset s a ue
  | .parity a => tagUpset s a
  | .store h a bs => silentStore s h a bs
  | .evict c a => silentEvict s c a
  | .level c a l2 llc => levelSet s c a l2.toNat llc
/-- What has happened in the stores before a command. -/
def upsets (s : State) (us : List Before) : State := us.foldl before s

/-- Correct a granule: data and storage are right again, and the correction is counted. -/
def corrected (s : State) (g : Nat) : State :=
  let s := { s with ecc := tabDel s.ecc g }
  match regionOf s g with
  | .shale o => spareNote (count s (R_SHL_CE_CNT (shlDie o)) 1) o g
  | .lpddr m => regInc s (R_FLT_DIR_CE (fltDie m)) 1
  | .frame o f => count s (R_GAB_BEAM_ECC_CORR (gabDie o) f) 1
  | .beam o f => count s (R_GAB_BEAM_ECC_CORR (gabDie o) f) 1
  | _ => s

/-- Read a granule's check bits: a correctable error is corrected; the answer says whether it is uncorrectable. (Open points: assumption 13, DEDUCED.) -/
def checkGranule (s : State) (g : Nat) : State × Bool :=
  match tabFind s.ecc g with
  | none => (s, false)
  | some true => (s, true)
  | some false => (corrected s g, false)

/-- Record an uncorrectable error met by a reader; `unit` is the Shale's unit byte (08:R182; 09:R191; assumption 13). -/
def noteUe (s : State) (ag : Agent) (unit g : Nat) : State :=
  match regionOf s g with
  | .shale o =>
    let d := shlDie o
    let s := count s (R_SHL_UE_CNT d) 1
    let s := if flag s (R_SHL_ERR d) F_SHL_ERR_UE_SEEN then s
      else
        let s := ctrSet s (R_SHL_UE_ADDR d) (BitVec.ofNat 64 g)
        let s := regSet s (R_SHL_UE_SRC d) (fldSet (fldSet 0 F_SHL_UE_SRC_REQUESTER ag.die) F_SHL_UE_SRC_KIND ag.kind)
        raise s (R_SHL_ERR d) F_SHL_ERR_UE_SEEN
    strataEvent s d unit 0x0301 g 0
  | .lpddr m => strataEvent s (fltDie m) 0x01 0x0301 g 0
  | .frame o _ => strataEvent s (gabDie o) 0x01 0x0301 g 0
  | .beam o _ => strataEvent s (gabDie o) 0x01 0x0301 g 0
  | _ => s

/-- A reader meets a granule. (Open points: assumption 13, DEDUCED.) -/
def meet (s : State) (ag : Agent) (unit g : Nat) : State × Bool :=
  let r := checkGranule s g
  if r.2 then (noteUe r.1 ag unit g, true) else r

/-- The granules that `n` bytes from an address touch. -/
def granulesOf (a n : Nat) : List Nat :=
  if n = 0 then []
  else
    let g := granule a
    (List.range ((a + n - 1 - g.1) / g.2 + 1)).map fun i => g.1 + i * g.2

/-! ### Reading. -/

/-- Whether an offset of a beam store lies in the storage of a tile configuration (04:R76, R77). -/
def tileSpan (c : Word) (off : Nat) : Bool :=
  decide (fldGet c F_TILE_CFG_BASE_KIB * 1024 ≤ off) &&
    decide (off < fldGet c F_TILE_CFG_BASE_KIB * 1024
      + 2 ^ fldGet c F_TILE_CFG_ROWS_LOG2 * (if fldGet c F_TILE_CFG_ACC = 1 then 2048 else 1024))

/-- Whether an address lies in storage of an entry in ACCUM or DRAIN, whose configuration meets a test (04:R85). -/
def busyTile (s : State) (g f a : Nat) (p : Word → Bool) : Bool :=
  (List.range 64).any fun e =>
    let c := regGet s (R_GAB_BEAM_TILE_CFG (gabDie g) f e)
    let st := fld s (R_GAB_BEAM_TILE_STATUS (gabDie g) f e) F_TILE_STATUS_STATE
    (st == 1 || st == 2) && p c && tileSpan c (a - beamBase g f)
/-- Whether an address lies in storage of an entry in ACCUM or DRAIN (04:R85). -/
def tileBusyAt (s : State) (g f a : Nat) : Bool := busyTile s g f a fun _ => true

/-- Whether an address is one of the two high bytes of a W48 container of a configured tile: it reads as zero and
ignores writes (04:R77). Where tiles overlap, a busy FP32 tile's bytes are its own, and otherwise any VALID W48 entry
makes them pad bytes. (Open points: assumption 84, DESIGN CHOICE.) -/
def w48Pad (s : State) (g f a : Nat) : Bool :=
  let off := a - beamBase g f
  off % 8 ≥ 6 && ((List.range 64).any fun e =>
    let c := regGet s (R_GAB_BEAM_TILE_CFG (gabDie g) f e)
    fldGet c F_TILE_CFG_VALID == 1 && fldGet c F_TILE_CFG_ACC == 1 && tileSpan c off)
    && !(busyTile s g f a fun c => fldGet c F_TILE_CFG_ACC == 0)

/-- One byte as a reader sees it. -/
def byteSeen (s : State) (a : Nat) : Byte :=
  match regionBelow 0 a with
  | .shale _ => if rowBlank s (rowOf a) then 0 else memGet s.mem a
  | .beam g f => if w48Pad s g f a then 0 else memGet s.mem a
  | _ => memGet s.mem a

/-- A read of a well row whose tag has a parity error flags it (08:R176). -/
def tagSeen (s : State) (g : Nat) : State :=
  match regionBelow 0 g with
  | .shale o => if inWell s g && (tagGet s (rowOf g)).parity then raise s (R_SHL_ERR (shlDie o)) F_SHL_ERR_TAG_PARITY else s
  | _ => s

/-- Read bytes from memory: the errors met are corrected or recorded, a tag parity error is flagged (08:R176), and the
last answer says whether an uncorrectable error was met. The bytes are the stored bytes in either case (08:R181). -/
def readMem (s : State) (ag : Agent) (unit a n : Nat) : State × List Byte × Bool :=
  let r := (granulesOf a n).foldl (fun (acc : State × Bool) g =>
    let s := acc.1
    if rowBlank s (rowOf g) then acc
    else
      let m := meet (tagSeen s g) ag unit g
      (m.1, acc.2 || m.2)) (s, false)
  (r.1, (List.range n).map fun i => byteSeen r.1 (a + i), r.2)

/-! ### Writing. -/

/-- Put bytes in storage, less those that a W48 container ignores. -/
def putBytes (s : State) : Nat → List Byte → State
  | _, [] => s
  | a, b :: t =>
    let s := match regionBelow 0 a with
      | .beam g f => if w48Pad s g f a then s else { s with mem := memSet s.mem a b }
      | _ => { s with mem := memSet s.mem a b }
    putBytes s (a + 1) t

/-- Cut bytes at granule boundaries (the fuel bounds the number of pieces). -/
def pieces : Nat → Nat → List Byte → List (Nat × List Byte)
  | 0, _, _ => []
  | f + 1, a, bs =>
    if bs.isEmpty then []
    else
      let g := granule a
      let k := g.1 + g.2 - a
      (a, bs.take k) :: pieces f (a + k) (bs.drop k)

/-- Write within one granule: a whole granule replaces data and check bits; a part is read, merged and written, and an
uncorrectable error leaves it unapplied (08:R178; 04:R496). -/
def writePiece (s : State) (ag : Agent) (unit a : Nat) (bs : List Byte) : State × Bool :=
  let g := granule a
  if a = g.1 ∧ bs.length = g.2 then (putBytes { s with ecc := tabDel s.ecc g.1 } a bs, true)
  else
    let m := meet s ag unit g.1
    if m.2 then (m.1, false) else (putBytes m.1 a bs, true)

/-- Rows of a Shale that a write covers whole and that hold an uncorrectable error are remapped (08:R180); `wells`
says whether the write applies to wells. -/
def remapCovered (s : State) (a n : Nat) (wells : Bool) : State :=
  match regionBelow 0 a with
  | .shale g =>
    let first := ceilDiv a 1024
    let rows := (List.range ((a + n) / 1024 - first)).map fun i => (first + i) * 1024
    rows.foldl (fun s row =>
      if flag s (R_SHL_CTRL (shlDie g)) F_SHL_CTRL_SPARE_EN && (wells || !(inWell s row)) && (s.ecc.any fun e => e.2 && e.1 / 1024 * 1024 == row)
      then spareTake s g row else s) s
  | _ => s

/-- Write bytes to memory, granule by granule; the answer says whether all of it was applied. -/
def writeMem (s : State) (ag : Agent) (unit a : Nat) (bs : List Byte) : State × Bool :=
  (pieces (bs.length + 1) a bs).foldl (fun (acc : State × Bool) p =>
    let r := writePiece acc.1 ag unit p.1 p.2
    (r.1, acc.2 && r.2)) (remapCovered s a bs.length true, true)

/-- Whether the log's region takes an address while the log runs (16:R385). (Open points: assumption 64, DEDUCED.) -/
def inReplay (s : State) (a : Nat) : Bool :=
  let b := (ctrGet s R_SCH_RPL_BASE).toNat
  flag s R_SCH_RPL_STATUS F_SCH_RPL_STATUS_RUNNING && decide (b ≤ a) &&
    decide (a < b + (regGet s R_SCH_RPL_SIZE).toNat * 1048576)

/-- One granule's part of a write from outside the beam pipeline, Garnet and the log: what the replay region, a well
or a busy tile discards is flagged and counted (16:R385; 05:R107; 04:R85). (Open points: assumption 13, DEDUCED.) -/
def extPiece (s : State) (ag : Agent) (unit a : Nat) (bs : List Byte) : State × Bool :=
  match regionOf s a with
  | .shale g =>
    if inWell s a then
      (raise s (R_SHL_ERR (shlDie g)) F_SHL_ERR_WELL_DISCARD, true)
    else writePiece s ag unit a bs
  | .beam g f =>
    if tileBusyAt s g f a then (raise s (R_GAB_BEAM_ERR (gabDie g) f) F_GAB_BEAM_ERR_EXT_WRITE_DISCARD, true)
    else writePiece s ag unit a bs
  | .lpddr _ =>
    if inReplay s a then (regInc s R_SCH_RPL_WR_DISCARD 1, true) else writePiece s ag unit a bs
  | .frame _ _ => writePiece s ag unit a bs
  | _ => (s, false)

/-- A write from outside the beam pipeline, Garnet and the log; SHL_WELL_DISCARD counts each well line it names. -/
def extWrite (s : State) (ag : Agent) (unit a : Nat) (bs : List Byte) : State × Bool :=
  let rows := dedupNext ((granulesOf a bs.length).map rowOf)
  let s := rows.foldl (fun s row => match regionBelow 0 row with
    | .shale g => if inWell s row then count s (R_SHL_WELL_DISCARD (shlDie g)) 1 else s
    | _ => s) (remapCovered s a bs.length false)
  (pieces (bs.length + 1) a bs).foldl (fun (acc : State × Bool) p =>
    let r := extPiece acc.1 ag unit p.1 p.2
    (r.1, acc.2 && r.2)) (s, true)

/-! ### Loss. -/

/-- Lose the contents of a range of storage; an uncorrectable error in it stays until a write covers it (08:R181). (Open points: assumption 6, DESIGN CHOICE.) -/
def loseRange (s : State) (lo hi : Nat) : State :=
  if lo < hi then
    let n := newId s
    { n.2 with mem := memLose n.2.mem lo hi n.1 }
  else s
/-- Storage that loses its power: its check bits go with its contents. (Open points: assumption 6, DESIGN CHOICE.) -/
def losePower (s : State) (lo hi : Nat) : State :=
  let s := loseRange s lo hi
  { s with ecc := tabDelIf s.ecc fun a => decide (lo ≤ a) && decide (a < hi) }

/-- Bytes that nothing constrains: what a refused read leaves (14:R330). (Open points: assumption 4, DESIGN CHOICE.) -/
def freeBytes (s : State) (n : Nat) : State × List Byte :=
  ({ s with free := s.free + n }, (List.range n).map fun i => BitVec.ofNat 8 (Config.freeValue (s.free + i)).toNat)

end Sys2Proof.Machine
end

