-- ==== Sys2Proof/Machine/Coherence.lean ====
section
/-! DEFINITION. Caches, directories and homes (09:R194-R203, R207, R208): the home's action on each request, atomics
and the contention predictor, path barriers, and the cached side of a window. -/
namespace Sys2Proof.Machine

/-! ### Cache lines and directory entries. -/

/-- The directory entry of a line. -/
def dirGet (s : State) (line : Nat) : Option DirEnt := tabFind s.coh.dir line
/-- Remove a directory entry: the line is UNCACHED. -/
def dirDel (s : State) (line : Nat) : State := { s with coh := { s.coh with dir := tabDel s.coh.dir line } }
/-- The Gneisses that an entry lists. -/
def holders (e : DirEnt) : List Nat := match e.owner with | some o => [o] | none => setBits 8 e.mask

/-- A directory register of a home. -/
def dirReg (home : Nat) (gab flt : Nat → Nat) : Nat := if dieKind home = .flint then flt home else gab home
/-- Count snoops and invalidations that a home sends. -/
def countSnoops (s : State) (line n : Nat) : State :=
  match homeDie s (line * 128) with
  | some h => count s (dirReg h R_GAB_DIR_SNOOP R_FLT_DIR_SNOOP) n
  | none => s

/-- Invalidate one Gneiss's copy; the answer is its data if it was dirty. -/
def invalidate (s : State) (c line : Nat) : State × Option (List Byte) :=
  let s := emit (countSnoops s line 1) (.snoop c line true)
  match copyGet s c line with
  | none => (s, none)
  | some x => (copyDel (predSnoop s c line (lineAt s c line).l2) c line, if x.st = CState.m then some x.data else none)

/-- Invalidate every holder of a line but one; the answer is the dirty data found. -/
def invalidateBut (s : State) (line : Nat) (keep : Option Nat) : State × Option (List Byte) :=
  match dirGet s line with
  | none => (s, none)
  | some e =>
    (holders e).foldl (fun (acc : State × Option (List Byte)) c =>
      if some c = keep then acc
      else
        let r := invalidate acc.1 c line
        (r.1, match r.2 with | some d => some d | none => acc.2)) (s, none)

/-- The agent of a Gneiss's line fill or write-back. (Open points: assumption 79, DESIGN CHOICE.) -/
def coreAgent (c : Nat) : Agent := ⟨1, gnsDie c⟩

/-- Record an entry, recalling the earliest entry of a full set first (09:R195). (Open points: assumption 44, DESIGN CHOICE.) -/
def dirPut (s : State) (line : Nat) (e : DirEnt) : State :=
  match dirGet s line with
  | some old => { s with coh := { s.coh with dir := tabPut s.coh.dir line { e with seq := old.seq } } }
  | none =>
    let home := homeDie s (line * 128)
    let mates := s.coh.dir.filter fun x => homeDie s (x.1 * 128) == home && Config.dirSet x.1 == Config.dirSet line
    let s :=
      if mates.length < 16 then s
      else
        match mates.foldl (fun (b : Option (Nat × DirEnt)) x => match b with
            | none => some x
            | some y => if x.2.seq < y.2.seq then some x else some y) none with
        | none => s
        | some v =>
          let r := invalidateBut s v.1 none
          let s := match r.2 with
            | some d => (extWrite r.1 (coreAgent (v.2.owner.getD 0)) 0x01 (v.1 * 128) d).1
            | none => r.1
          let s := match home with
            | some h => count s (dirReg h R_GAB_DIR_RECALL R_FLT_DIR_RECALL) 1
            | none => s
          dirDel s v.1
    { s with coh := { s.coh with dir := tabPut s.coh.dir line { e with seq := s.coh.seq }, seq := s.coh.seq + 1 } }

/-- The line is owned by a Gneiss. -/
def dirOwn (s : State) (line c : Nat) : State := dirPut s line ⟨some c, 0, none, 0⟩
/-- The line is shared. -/
def dirShare (s : State) (line mask : Nat) (fwd : Option Nat) : State := dirPut s line ⟨none, mask, fwd, 0⟩

/-- The owner's copy of a line. (Open points: assumption 45, DEDUCED.) -/
def ownerCopy (s : State) (o line : Nat) : CacheLine :=
  (copyGet s o line).getD ⟨.e, (List.range 128).map fun i => byteSeen s (line * 128 + i)⟩

/-! ### RdS, RdO, Upgrade, WB, CleanEvict (09:R196-R198). -/

/-- Deliver a line to a Gneiss in a state. -/
def deliver (s : State) (c line : Nat) (st : CState) (d : List Byte) : State :=
  emit (copySet s c line ⟨st, d⟩) (.line c (some st) d)

/-- Whether a Gneiss may ask a home for a line; otherwise its hart takes an access fault (09:R189, 14:R331). -/
def lineAsk (s : State) (c a : Nat) : Bool := (regionOf s a).isMem && homeUp s (gnsDie c) a

/-- The hart whose access a request serves, and the kind of the access. -/
structure Asker where
  hart : Nat
  kind : HartAccess
/-- Its access fault (09:R189). -/
def Asker.fault (w : Asker) (s : State) : State := emit s (.hartFault w.hart w.kind)

/-- A line fill from memory: an uncorrectable error faults the hart and fills no cache (08:R181). -/
def fillFrom (s : State) (c line : Nat) (w : Asker) (k : State → List Byte → State) : State :=
  let r := readMem s (coreAgent c) 0x01 (line * 128) 128
  if r.2.2 then w.fault r.1 else k r.1 r.2.1

/-- RdS. `late` says that the forwarder's CleanEvict is still on its way: it is the answer to the home's snoop (09:R197). (Open points: assumption 45, DEDUCED.) -/
def homeRdS (s : State) (c line : Nat) (late : Bool) (w : Asker) : State :=
  match dirGet s line with
  | none => fillFrom s c line w fun s d => dirOwn (deliver s c line .e d) line c
  | some e =>
    match e.owner with
    | some o =>
      if o = c then deliver s c line (ownerCopy s o line).st (ownerCopy s o line).data
      else
        let x := ownerCopy s o line
        let s := emit (countSnoops s line 1) (.snoop o line false)
        let s := if x.st = CState.m then (extWrite s (coreAgent o) 0x01 (line * 128) x.data).1 else s
        let s := copySet s o line ⟨.s, x.data⟩
        dirShare (deliver s c line .f x.data) line (2 ^ o ||| 2 ^ c) (some c)
    | none =>
      match e.fwd with
      | some p =>
        if late then
          let s := copyDel (emit (countSnoops s line 1) (.snoop p line false)) p line
          fillFrom s c line w fun s d => dirShare (deliver s c line .f d) line ((e.mask &&& (255 ^^^ 2 ^ p)) ||| 2 ^ c) (some c)
        else
          match copyGet s p line with
          | some x =>
            let s := emit (countSnoops s line 1) (.snoop p line false)
            let s := if p = c then s else copySet s p line ⟨.s, x.data⟩
            dirShare (deliver s c line .f x.data) line (e.mask ||| 2 ^ c) (some c)
          | none => fillFrom s c line w fun s d => dirShare (deliver s c line .f d) line (e.mask ||| 2 ^ c) (some c)
      | none => fillFrom s c line w fun s d => dirShare (deliver s c line .f d) line (e.mask ||| 2 ^ c) (some c)

/-- RdO. (Open points: assumption 45, DEDUCED.) -/
def homeRdO (s : State) (c line : Nat) (late : Bool) (w : Asker) : State :=
  match dirGet s line with
  | none => fillFrom s c line w fun s d => dirOwn (deliver s c line .e d) line c
  | some e =>
    match e.owner with
    | some o =>
      if o = c then deliver s c line (ownerCopy s o line).st (ownerCopy s o line).data
      else
        let x := ownerCopy s o line
        let s := (invalidate s o line).1
        dirOwn (deliver s c line (if x.st = CState.m then .m else .e) x.data) line c
    | none =>
      let src := match e.fwd with | some p => if late then none else copyGet s p line | none => none
      match src with
      | some x => dirOwn (deliver (invalidateBut s line (some c)).1 c line .e x.data) line c
      | none => fillFrom s c line w fun s d => dirOwn (deliver (invalidateBut s line (some c)).1 c line .e d) line c

/-- Upgrade; one whose bit is no longer set is carried out as an RdO (09:R197). (Open points: assumption 45, DEDUCED.) -/
def homeUpgrade (s : State) (c line : Nat) (late : Bool) (w : Asker) : State :=
  match dirGet s line with
  | some e =>
    if e.owner.isNone && bitOf e.mask c then
      match copyGet s c line with
      | some x =>
        let s := (invalidateBut s line (some c)).1
        dirOwn (emit (copySet s c line ⟨.e, x.data⟩) (.line c (some .e) [])) line c
      | none => homeRdO s c line late w
    else homeRdO s c line late w
  | none => homeRdO s c line late w

/-- CleanEvict. -/
def homeCleanEvict (s : State) (c line : Nat) : State :=
  match dirGet s line with
  | some e =>
    if e.owner = some c then dirDel (copyDel s c line) line
    else if e.fwd = some c then
      dirShare (copyDel s c line) line (e.mask &&& (255 ^^^ 2 ^ c)) none
    else s
  | none => s

/-! ### NcRd, NcWr, FarAtomic (09:R196, R201). -/

/-- One line's part of an NcRd: data from an owner, else from memory; the last answer says that memory met an
uncorrectable error. -/
def ncReadLine (s : State) (ag : Agent) (a n : Nat) : State × List Byte × Bool :=
  let line := lineOf a
  match (dirGet s line).bind (·.owner) with
  | some o =>
    let x := ownerCopy s o line
    (emit (countSnoops s line 1) (.snoop o line false), (x.data.drop (a % 128)).take n, false)
  | none => readMem s ag 0x01 a n

/-- Cut a range at line boundaries: address and length of each part. -/
def lineParts : Nat → Nat → Nat → List (Nat × Nat)
  | 0, _, _ => []
  | f + 1, a, n => if n = 0 then [] else
    let k := Nat.min n (128 - a % 128)
    (a, k) :: lineParts f (a + k) (n - k)

/-- NcRd of any range of one memory range. -/
def ncRead (s : State) (ag : Agent) (a n : Nat) : State × List Byte × Bool :=
  (lineParts (n + 1) a n).foldl (fun (acc : State × List Byte × Bool) p =>
    let r := ncReadLine acc.1 ag p.1 p.2
    (r.1, acc.2.1 ++ r.2.1, acc.2.2 || r.2.2)) (s, [], false)

/-- One line's part of an NcWr: every holder is invalidated, an owner's dirty data merge into a partial write, and
memory is written; the answer says whether the write was applied. -/
def ncWriteLine (s : State) (ag : Agent) (a : Nat) (bs : List Byte) : State × Bool :=
  let line := lineOf a
  let dirty := match (dirGet s line).bind (·.owner) with
    | some o => let x := ownerCopy s o line; if x.st = CState.m then some x.data else none
    | none => none
  let s := watchNote (dirDel (invalidateBut s line none).1 line) a bs.length
  match dirty with
  | some d =>
    if bs.length < 128 then
      extWrite s ag 0x01 (line * 128) (d.take (a % 128) ++ bs ++ d.drop (a % 128 + bs.length))
    else extWrite s ag 0x01 a bs
  | none => extWrite s ag 0x01 a bs

/-- Whether `n` bytes from an address are a range that a non-caching request may name. -/
def ncRange (s : State) (a n : Nat) : Bool := (regionOf s a).isMem && decide (0 < n) && inOneRange a n

/-- NcWr of bytes that lie in one memory range; rows that it covers whole are remapped first (08:R180). -/
def ncWrite (s : State) (ag : Agent) (a : Nat) (bs : List Byte) : State × Bool :=
  (lineParts (bs.length + 1) a bs.length).foldl (fun (acc : State × Bool) p =>
    let r := ncWriteLine acc.1 ag p.1 ((bs.drop (p.1 - a)).take p.2)
    (r.1, acc.2 && r.2)) (remapCovered s a bs.length false, true)

/-- A posted write of an engine of die `d`: one toward a fenced die is discarded and counted (14:R331). (Open points: assumption 48, DEDUCED.) -/
def postWrite (s : State) (d : Nat) (ag : Agent) (a : Nat) (bs : List Byte) : State × Bool :=
  if homeUp s d a then ncWrite s ag a bs else (count s (R_DIE_FENCE_DROP d) 1, false)

/-- The result of an AMO on an old value, in 32 or 64 bits (RISC-V A; 09:R201). -/
def amoApply (op : AmoOp) (wide : Bool) (old x : Nat) : Nat :=
  let n := if wide then 64 else 32
  let x := x % 2 ^ n
  match op with
  | .swap => x
  | .add => (old + x) % 2 ^ n
  | .xor => old ^^^ x
  | .and => old &&& x
  | .or => old ||| x
  | .min => if signedOf n old ≤ signedOf n x then old else x
  | .max => if signedOf n old ≤ signedOf n x then x else old
  | .minu => Nat.min old x
  | .maxu => Nat.max old x

/-- Execute an AMO on bytes at an offset; the answer is the old value. -/
def amoOnBytes (d : List Byte) (i : Nat) (op : AmoOp) (wide : Bool) (x : Nat) : List Byte × Nat :=
  let w := if wide then 8 else 4
  let old := fieldLE d i w
  (d.take i ++ leBytes w (amoApply op wide old x) ++ d.drop (i + w), old)

/-- FarAtomic at the home: as NcWr, then the atomic beside memory. The answers are the old value and whether it ran. (Open points: assumption 46, DEDUCED.) -/
def homeFarAtomic (s : State) (c a : Nat) (op : AmoOp) (wide : Bool) (x : Nat) (w : Asker) :
    State × Nat × Bool :=
  let line := lineOf a
  let n := if wide then 8 else 4
  let dirty := match (dirGet s line).bind (·.owner) with
    | some o => let y := ownerCopy s o line; if y.st = CState.m then some y.data else none
    | none => none
  let s := watchNote (dirDel (invalidateBut s line none).1 line) a n
  let s := match dirty with
    | some d => (extWrite s (coreAgent c) 0x01 (line * 128) d).1
    | none => s
  let ag : Agent := match regionOf s a with | .shale g => ⟨5, shlDie g⟩ | _ => coreAgent c
  let r := readMem s ag 0x04 a n
  if r.2.2 then (w.fault r.1, 0, false)
  else
    let old := leNat r.2.1
    let s := (extWrite r.1 ag 0x04 a (leBytes n (amoApply op wide old x))).1
    let s := match homeDie s a with
      | some h => count s (dirReg h R_GAB_DIR_FAR_ATOMIC R_FLT_DIR_FAR_ATOMIC) 1
      | none => s
    (s, old, true)

/-- A hart of a Gneiss die by its core number (01:R14). (Open points: assumption 79, DESIGN CHOICE.) -/
def hartOf (die : Fin 64) (core : Fin 32) : Nat := 32 * (2 * (die.val / 16) + die.val % 2) + core.val

/-- The data of an NcRd go to its reader: a hart, or an engine with the status it meets (09:R196; 08:R181). (Open points: assumption 79, DESIGN CHOICE.) -/
def ncAnswer (s : State) (w : Asker) (core : Bool) (d : List Byte) (status : Nat) : State :=
  if core then (if status = 0 then emit s (.hart w.hart (leNat d)) else w.fault s) else emit s (.io status d)

/-- WB. `crossed` names the request that the home had snooped for when the write-back crossed its snoop (09:R198): the
snoop is counted, memory is written, and the same data serve the request as if the line had been UNCACHED. -/
def homeWB (s : State) (c line : Nat) (d : List Byte) (crossed : Option Crossing) : State :=
  match dirGet s line with
  | some e =>
    if e.owner = some c then
      let s := (extWrite (copyDel s c line) (coreAgent c) 0x01 (line * 128) d).1
      match crossed with
      | none => dirDel s line
      | some req =>
        let s := dirDel (emit (countSnoops s line 1) (.snoop c line true)) line
        let s := match homeDie s (line * 128) with
          | some h => count s (dirReg h R_GAB_DIR_WB_CROSS R_FLT_DIR_WB_CROSS) 1
          | none => s
        match req with
        | .line q core => dirOwn (l2Add (deliver s q line .e d) q line (core.val / 4)) line q
        | .write die _ agent a bs => if ncRange s a bs.length then (ncWrite s ⟨agent.toNat, die⟩ a bs).1 else s
        | .read die core agent a n =>
          ncAnswer s ⟨hartOf die core, .load⟩ (agent.toNat == 1) ((d.drop (a % 128)).take n) 0
        | .atomic q core a op wide x =>
          let w : Asker := ⟨32 * q.val + core.val, .store⟩
          let r := homeFarAtomic s q a op wide x.toNat w
          if r.2.2 then emit r.1 (.hart w.hart r.2.1) else r.1
    else s
  | none => s

/-! ### A window's side (09:R202, R203). -/

/-- Invalidate every copy of the lines of a range; dirty data in them are dropped, each counted in _DIR_DROP when
`counted`. (Open points: assumption 45, DEDUCED.) -/
def dropCopies (s : State) (p : Nat → Bool) (counted : Bool) : State :=
  (s.coh.dir.filter fun e => p (e.1 * 128)).foldl (fun s e =>
    let r := invalidateBut s e.1 none
    let s := match r.2, homeDie r.1 (e.1 * 128) with
      | some _, some h => if counted then count r.1 (dirReg h R_GAB_DIR_DROP R_FLT_DIR_DROP) 1 else r.1
      | _, _ => r.1
    dirDel s e.1) s

/-! ### Path barriers (09:R207, R208). -/

/-- Start a path barrier at the home of an address. (Open points: assumption 47, DEDUCED.) -/
def barrierStart (s : State) (home a : Nat) (hart cmd : Option Nat) : State :=
  let n := newId s
  let missing := (List.range 64).filter fun d => !(pathUp n.2 d home)
  { n.2 with coh := { n.2.coh with bars := n.2.coh.bars ++ [⟨n.1, home, a, hart, cmd, missing⟩] } }

/-- The barrier word. -/
def barrierWord (s : State) (home status : Nat) : Nat :=
  let n := (ctrGet s (dirReg home R_GAB_DIR_BARRIER R_FLT_DIR_BARRIER)).toNat % 4294967296
  status + home * 65536 + n * 4294967296

/-- A barrier completes: the counter advances, and a hart has its word. -/
def barrierEnd (s : State) (b : PathBar) (status : Nat) : State :=
  let s := { s with coh := { s.coh with bars := s.coh.bars.filter fun x => x.id != b.id } }
  let s := count s (dirReg b.home R_GAB_DIR_BARRIER R_FLT_DIR_BARRIER) 1
  let s := if status = 0x0302 then
      strataEvent (regInc s (dirReg b.home R_GAB_DIR_BARRIER_TMO R_FLT_DIR_BARRIER_TMO) 1) b.home 0x38 0x0302 b.addr 0
    else s
  match b.hart with
  | some h => emit s (.hart h (barrierWord s b.home status))
  | none => s

end Sys2Proof.Machine
end

