-- ==== Sys2Proof/Machine/Window.lean ====
section
/-! DEFINITION. What the units of a frame group share: schedule time, pending faults, and reads and writes of a window
(06:R124-R127, R130; 08:R172, R181; 09:R202; 05:R105, R106). -/
namespace Sys2Proof.Machine

/-- Change the open window of a Gabbro, if one is open. -/
def winMod (s : State) (g : Nat) (f : Window → Window) : State :=
  match winGet s g with
  | some w => schedSet s g { schedGet s g with win := some (f w) }
  | none => s

/-- Schedule time of a Gabbro's open window. -/
def schTime (s : State) (g : Nat) : Nat := (regGet s (R_GAB_SCH_TIME (gabDie g))).toNat

/-- A fault becomes pending in the open window of a Gabbro: the first one gives the window's status (06:R127, R128). -/
def winFault (s : State) (g status : Nat) : State :=
  match winGet s g with
  | none => s
  | some w =>
    raise (schedSet s g { schedGet s g with win := some { w with fault := some (w.fault.getD status) } })
      (R_GAB_SCH_STATUS (gabDie g)) F_GAB_SCH_STATUS_FAULT_PENDING

/-- Change a frame's unregistered state. -/
def frameMod (s : State) (g f : Nat) (h : Frame → Frame) : State := frameSet s g f (h (frameGet s g f))

/-- Whether a deadline of R134 has been reached with data missing: the frame group holds. -/
def lateXfer (w : Window) (t : Nat) : Bool :=
  (w.sends.any fun x => !x.read && decide (x.time + x.desc.hold ≤ t)) ||
  (w.recvs.any fun r => !r.complete && decide (r.time + r.desc.slack ≤ t)) ||
  (w.moves.any fun m => !m.complete && decide (m.time + m.desc.doneIn ≤ t))

/-! ### Slots and holds (02:R24, R25, R30, R32, R33). -/

/-- The slot state field. -/
def slotFld (slot : Nat) : Fld := if slot = 0 then F_GAB_FRM_STATUS_HEAVEN_STATE else F_GAB_FRM_STATUS_EARTH_STATE
/-- State of a slot: 0 EMPTY, 1 LOADING, 2 HELD, 3 ACTIVE (02:R24). -/
def slotState (s : State) (g f slot : Nat) : Nat := fld s (R_GAB_FRM_STATUS (gabDie g) f) (slotFld slot)

/-- The frames of a Gabbro that are started, ascending. -/
def groupFrames (s : State) (g : Nat) : List Nat :=
  (List.range 8).filter fun f => (tabFind s.frames (g * 8 + f)).isSome &&
    flag s (R_GAB_FRM_STATUS (gabDie g) f) F_GAB_FRM_STATUS_STARTED

/-- The descriptor at the head of stream `i` whose AT has come (06:R124). -/
def dueHead (s : State) (g i : Nat) : Option Desc :=
  match winGet s g with
  | none => none
  | some w => match w.streams.getD i [] with
    | [] => none
    | d :: _ => if d.time ≤ schTime s g then some d else none

/-- Whether a window has stopped, so that no descriptor acts any more. -/
def winStopping (s : State) (g : Nat) : Bool := match winGet s g with | some w => w.stop.isSome | none => false

/-- Whether a started frame waits for a slot: its LOAD names a slot that is LOADING or ACTIVE or stands behind another
load, or its PASS names a slot that is LOADING (02:R25, R32). -/
def slotBlocked (s : State) (g f : Nat) : Bool :=
  match (if winStopping s g then none else dueHead s g f) with
  | some ⟨_, _, .load d⟩ =>
    (frameGet s g f).loads.any (fun l => !l.held) || slotState s g f d.slot == 1 || slotState s g f d.slot == 3
  | some ⟨_, _, .pass d⟩ => slotState s g f d.slot == 1
  | _ => false

/-- Whether a row word is absent from its queue in the cycle in which its row issues it (02:R30). -/
def rowAbsent (x : Frame) : Bool := x.absent.any fun e => decide (e.2 ≤ x.age)

/-- The stall causes of a group: a row word absent, a late transfer or a FINAL wait, a wait for a slot (06:R136). -/
structure Stall where
  queue : Bool
  arrival : Bool
  slot : Bool
deriving DecidableEq, Repr

/-- The stall causes present now. (Open points: assumption 34, DEDUCED.) -/
def stallNow (s : State) (g : Nat) : Stall :=
  let fs := groupFrames s g
  ⟨fs.any fun f => rowAbsent (frameGet s g f),
   match winGet s g with | some w => lateXfer w (schTime s g) || w.finalWait | none => false,
   fs.any fun f => slotBlocked s g f⟩

/-- Whether any cause is present: the group holds. -/
def Stall.any (c : Stall) : Bool := c.queue || c.arrival || c.slot

/-- The rate in force in this window of 16 cycles: GAB_FRM_RATE, or what it was before it fell in this window. (Open points: assumption 65, DEDUCED.) -/
def rateUsed (s : State) (d f : Nat) : Nat :=
  match tabFind s.pwr.rateWas d with
  | some x => if x.1 = s.cyc / 16 then x.2 else fld s (R_GAB_FRM_RATE d f) F_GAB_FRM_RATE_ISSUE_PER_16
  | none => fld s (R_GAB_FRM_RATE d f) F_GAB_FRM_RATE_ISSUE_PER_16

/-- The issue limit of a Gabbro's frame in an aligned window of 16 cycles: the rate in force, 12 in fallback, 8 in a droop. -/
def issueLimit (s : State) (g f : Nat) : Nat :=
  let d := gabDie g
  let r := rateUsed s d f
  let r := if flag s (R_PWR_STATE d) F_PWR_STATE_FALLBACK then Nat.min r 12 else r
  match tabFind s.pwr.droop g with
  | some e => if s.cyc < e then Nat.min r 8 else r
  | none => r

/-- Issue cycles that a frame has used in the present aligned window of 16 cycles (02:R33). -/
def usedNow (s : State) (x : Frame) : Nat := if x.used16.1 = s.cyc / 16 then x.used16.2 else 0

/-- Whether the issue-rate limit holds the group: a frame has used its issue cycles of this aligned window of 16. (Open points: assumption 34, DEDUCED.) -/
def rateHold (s : State) (g : Nat) : Bool :=
  (groupFrames s g).any fun f => decide (issueLimit s g f ≤ usedNow s (frameGet s g f))

/-- The descriptor that stream `i` of a Gabbro's open window acts on next: its AT has come, no cause holds the group, for a
hold freezes every stream, and the window is not stopping (06:R124, R128). -/
def streamHead (s : State) (g i : Nat) : Option Desc :=
  if (stallNow s g).any || rateHold s g || winStopping s g then none else dueHead s g i

/-- Take the head off stream `i`. -/
def streamPop (s : State) (g i : Nat) : State :=
  winMod s g fun w => { w with streams := w.streams.set i ((w.streams.getD i []).drop 1) }

/-- Whether a stream holds any descriptor other than BARRIER (06:R125). -/
def streamNeeds (l : List Desc) : Bool := l.any fun d => match d.body with | .barrier _ => false | _ => true

/-- The variant of a section and class. -/
def variantOf (im : Image) (sec cls : Nat) : Variant := im.variants.getD (sec * im.classes + cls) ⟨[], 0⟩

/-- The smallest class of an image that holds a token count (06:R148). -/
def classOf (im : Image) (tokens : Nat) : Option Nat := im.classTokens.findIdx? fun t => decide (tokens ≤ t)

/-- Whether a run waits on a Gabbro. -/
def runWaits (r : Run) (g : Nat) : Bool :=
  match tabFind r.parts g with | some .waiting => true | _ => false

/-- Whether a run needs a frame of a Gabbro (06:R125). -/
def runNeeds (s : State) (r : Run) (g f : Nat) : Bool :=
  match (schedGet s g).image with
  | some im => streamNeeds ((variantOf im r.section_ ((classOf im r.tokens).getD 0)).streams.getD f [])
  | none => false

/-- Whether an open window or a held run needs a frame (06:R125). -/
def frameNeeded (s : State) (g f : Nat) : Bool :=
  (match winGet s g with | some w => streamNeeds (w.all.getD f []) | none => false) ||
  s.runs.any fun r => runWaits r g && runNeeds s r g f

/-- Whether a window is open or a run pending on a Gabbro. -/
def winOrPending (s : State) (g : Nat) : Bool := winOpen s g || s.runs.any fun r => runWaits r g

/-- The agent of a window's readers on a Gabbro (08:R186). -/
def winAgent (g : Nat) : Agent := ⟨0, gabDie g⟩

/-- A read by a window: the banks directly; an uncorrectable error makes a fault pending, and the stored bits are used
(08:R181; 09:R202). A read that would cross a fenced seam is refused, and what it would have given is undefined
(14:R330). -/
def winRead (s : State) (g a n : Nat) : State × List Byte :=
  if homeUp s (gabDie g) a then
    let r := readMem s (winAgent g) 0x01 a n
    (if r.2.2 then winFault r.1 g 0x0301 else r.1, r.2.1)
  else freeBytes (winFault s g 0x0105) n

/-- A well write: one FP32 row into one line (05:R105, R106; 08:R176, R181, R182). `tagErr` says that the line's tag
meets a parity error. (Open points: assumption 77, DESIGN CHOICE.) -/
def wellWrite (s : State) (g f line : Nat) (row : List Word) (tagErr : Bool) : State :=
  match regionBelow 0 line with
  | .shale o =>
    let d := shlDie o
    let t := { tagGet s line with parity := (tagGet s line).parity || tagErr }
    if o ≠ g ∨ (t.written ∧ ¬ t.parity ∧ t.writer ≠ f) then
      let s := tagSet s line t
      let s := raise s (R_GAB_FRM_BWD_ERR (gabDie g) f) F_GAB_FRM_BWD_ERR_WELL_CONFLICT
      winFault (strataEvent s (gabDie g) (0x20 + f) 0x0208 f 0) g 0x0208
    else if t.parity then
      let s := raise (tagSet s line t) (R_SHL_ERR d) F_SHL_ERR_TAG_PARITY
      winFault (noteUe s (winAgent g) 0x04 line) g 0x0301
    else
      let old := if t.written then readMem s (winAgent g) 0x04 line 1024 else (s, [], false)
      if old.2.2 then winFault old.1 g 0x0301
      else
        let sum := (indexed row).map fun p =>
          fp32Of (valAdd (if t.written then codeVal 23 (fieldLE old.2.1 (4 * p.1) 4) else .fin false 0 0) (fp32Val p.2))
        let s := (writeMem old.1 (winAgent g) 0x04 line (sum.flatMap fun w => leBytes 4 w.toNat)).1
        let nz := sum.any fun w => w != 0 && w != 0x80000000#32
        count (tagSet s line ⟨true, f, nz, false⟩) (R_SHL_WELL_WR d) 1
  | _ => s

/-- A write of bytes by a unit of a frame, granule by granule. One by a Garnet, which stands outside the beam pipeline, is
discarded where it meets storage of an entry in ACCUM or DRAIN (04:R85). (Open points: assumption 92, DESIGN CHOICE.) -/
def unitPieces (s : State) (ag : Agent) (garnet : Bool) (a : Nat) (bs : List Byte) : State × Bool :=
  (pieces (bs.length + 1) a bs).foldl (fun (acc : State × Bool) p =>
    match regionBelow 0 p.1 with
    | .beam g f =>
      if garnet && tileBusyAt acc.1 g f p.1 then
        (raise acc.1 (R_GAB_BEAM_ERR (gabDie g) f) F_GAB_BEAM_ERR_EXT_WRITE_DISCARD, acc.2)
      else
        let r := writePiece acc.1 ag 0x01 p.1 p.2
        (r.1, acc.2 && r.2)
    | _ =>
      let r := writePiece acc.1 ag 0x01 p.1 p.2
      (r.1, acc.2 && r.2)) (remapCovered s a bs.length true, true)

/-- Cycles from the issue of a beam or Garnet write to the first read that sees it (06:R130). (Open points: assumption 35, DEDUCED.) -/
def writeLag (s : State) (a : Nat) : Nat :=
  if inWell s a then 64 else match regionBelow 0 a with | .shale _ => 48 | _ => 8

/-- A beam or Garnet write issues in the open window of a Gabbro. (Open points: assumption 35, DEDUCED.) -/
def writeIssued (s : State) (g a : Nat) : State :=
  winMod s g fun w => { w with readable := Nat.max w.readable (writeLag s a) }

/-- A beam or Garnet write of bytes on a frame of a Gabbro: well lines through the tally unit, other storage of the
window directly; a write to SHARED Shale then invalidates every cached copy (09:R202). A write that would cross a fenced seam
is refused, and its destination is undefined (14:R330). (Open points: assumption 35, DEDUCED; assumption 45, DEDUCED; assumption 92, DESIGN CHOICE.) -/
def unitWrite (s : State) (g f : Nat) (garnet : Bool) (a : Nat) (bs : List Byte) : State :=
  if !(homeUp s (gabDie g) a) then loseRange (winFault s g 0x0105) a (a + bs.length)
  else if inWell s a then
    writeIssued ((chunks 1024 (bs.length / 1024) bs).zipIdx.foldl (fun s c =>
      wellWrite s g f (a + 1024 * c.2) ((List.range 256).map fun i => BitVec.ofNat 32 (fieldLE c.1 (4 * i) 4)) false) s) g a
  else
    let r := unitPieces (writeIssued s g a) (winAgent g) garnet a bs
    let s := if r.2 then r.1 else winFault r.1 g 0x0301
    match regionBelow 0 a with
    | .shale o =>
      if rgnType s o (a - shaleBase o) = 2 then s
      else dropCopies s (fun x => decide (lineOf a * 128 ≤ x) && decide (x < a + bs.length)) false
    | _ => s

/-- Whether a destination of rows breaks the well rules of 05:R107: `rows` rows from `dst` at `stride`, of `bytes` bytes
in format `fmt`. -/
def wellBroken (s : State) (dst stride rows bytes fmt : Nat) : Bool :=
  ((List.range rows).any fun r => inWell s (dst + r * stride) || inWell s (dst + r * stride + (bytes - 1))) &&
    (fmt != 8 || dst % 1024 != 0 || stride % 1024 != 0 || bytes != 1024)

end Sys2Proof.Machine
end

