-- ==== Sys2Proof/Machine/Fetch.lean ====
section
/-! DEFINITION. Operand fetch of a frame's LOADs and PASSes (02:R30, R31, R36; 05:R98-R103; 06:R130): each word is read in the
cycle that the latency table gives it, before and while its descriptor issues. -/
namespace Sys2Proof.Machine

/-! ### Reading operands. -/

/-- The frame meets granules of memory as it fetches: an uncorrectable error makes a fault pending (08:R181). -/
def meetGranules (s : State) (g : Nat) (grs : List Nat) : State :=
  let r := grs.foldl (fun (acc : State × Bool) q =>
    if rowBlank acc.1 (rowOf q) then acc
    else
      let m := meet (tagSeen acc.1 q) (winAgent g) 0x01 q
      (m.1, acc.2 || m.2)) (s, false)
  if r.2 then winFault r.1 g 0x0301 else r.1

/-- Fetch bytes [lo, hi] of memory; `seen` is the last byte of the same vector that was fetched before, whose granule the
frame has met. -/
def fetchBytes (s : State) (g lo hi : Nat) (seen : Option Nat) : State × Nat :=
  let grs := dedupNext [(granule lo).1, (granule hi).1]
  let s := meetGranules s g (grs.filter fun q => some q != seen.map fun a => (granule a).1)
  (s, leNat ((List.range (hi + 1 - lo)).map fun i => byteSeen s (lo + i)))

/-- DATA of row `i` of a packed vector at `a` (02:R27): its element or pair. `prev` is the row fetched before it. -/
def fetchData (s : State) (g a fmt i : Nat) (prev : Option Nat) : State × Nat :=
  let b := (fmtInfo fmt).width * perRow fmt
  let hi (i : Nat) : Nat := a + ((i + 1) * b - 1) / 8
  let r := fetchBytes s g (a + i * b / 8) (hi i) (prev.map fun q => if q < i then hi q else a + q * b / 8)
  (r.1, bitsOf r.2 (i * b % 8) b)

/-- A scale byte of a vector, the bytes being fetched upward or downward; `first` says that none of its vector is fetched before
it. -/
def fetchScale (s : State) (g a : Nat) (up first : Bool) : State × Nat :=
  let q := granule a
  fetchBytes s g a a (if first || a == (if up then q.1 else q.1 + q.2 - 1) then none else some a)

/-- Read a packed vector of 256 rows of K elements; a masked row is never fetched (02:R36). -/
def readVec (s : State) (g a fmt mask : Nat) : State × List Nat :=
  let b := (fmtInfo fmt).width * perRow fmt
  let rows := (List.range 256).filter fun i => bitOf mask i
  let s := meetGranules s g (dedupNext (rows.flatMap fun i => [(granule (a + i * b / 8)).1, (granule (a + ((i + 1) * b - 1) / 8)).1]))
  (s, unpackCodes fmt (256 * perRow fmt) ((List.range (256 * b / 8)).map fun i => byteSeen s (a + i)))

/-- Read the scale bytes of one vector. -/
def readScales (s : State) (g a n : Nat) : State × List Nat :=
  let s := meetGranules s g (granulesOf a n)
  (s, (List.range n).map fun i => (byteSeen s (a + i)).toNat)

/-! ### Words. -/

/-- Whether row `i` is a group's last row. -/
def lastRow (fmt i : Nat) : Bool := i % groupRows fmt == groupRows fmt - 1

/-- The row next to `i` on the side fetched before, if it is unmasked. -/
def rowBefore (mask i : Nat) (up : Bool) : Option Nat :=
  if up then (if i ≠ 0 ∧ bitOf mask (i - 1) then some (i - 1) else none) else (if bitOf mask (i + 1) then some (i + 1) else none)

/-- The address of the scale byte of group `n` of wavefront k (06:R142). -/
def passScaleAddr (d : PassDesc) (k n : Nat) : Nat :=
  if d.splitScale then
    (if n < 8 then d.scaleAddr + k * 8 + n else d.scaleAddr + (d.w + 1) * 8 + k * 8 + (n - 8))
  else d.scaleAddr + k * groupCount d.fmt + n

/-- What the feeder of row `i` fetches for wavefront `k` of an unturned PASS: DATA in bits [15:0], XS in [31:24]; a masked row's
DATA is never fetched, its group's scale is (02:R27, R36). -/
def passWord (g : Nat) (d : PassDesc) (mask : Nat) (s : State) (k i : Nat) : State × Word :=
  let v := if bitOf mask i then fetchData s g (d.addr + k * d.stride) d.fmt i (rowBefore mask i true) else (s, 0)
  let n := i / groupRows d.fmt
  let z := if d.scaled && lastRow d.fmt i then fetchScale v.1 g (passScaleAddr d k n) true (n % 8 == 0) else (v.1, 0)
  (z.1, BitVec.ofNat 32 (v.2 + z.2 * 2 ^ 24))

/-- A load word (02:R31): DATA, the destination row, and the stationary scale of a group's last row. -/
def loadWordOf (data i xs : Nat) : Word := BitVec.ofNat 32 (data % 65536 + i * 2 ^ 16 + (xs % 256) * 2 ^ 24)

/-- Word `k` of column `j` of an unturned LOAD, for row 255 - k; masked rows and columns are skipped (02:R31, R36). -/
def loadWord (g : Nat) (d : LoadDesc) (s : State) (j k : Nat) : State × Word :=
  let i := 255 - k
  if !(bitOf d.colMask j) then (s, loadWordOf 0 i 0)
  else
    let v := if bitOf d.rowMask i then
        fetchData s g (d.addr + j * fmtBytes d.fmt (256 * perRow d.fmt)) d.fmt i (rowBefore d.rowMask i false) else (s, 0)
    let n := i / groupRows d.fmt
    let z := if d.scaled && lastRow d.fmt i then
        fetchScale v.1 g (d.scaleAddr + j * groupCount d.fmt + n) false (n % 8 == 7) else (v.1, 0)
    (z.1, loadWordOf v.2 i z.2)

/-! ### Lanes. -/

/-- Cycles by which the fetch of a word precedes its issue: frame store 32, Shale 64. SRC says which (06:R130). (Open points:
assumption 91, DESIGN CHOICE.) -/
def fetchLag (src : Nat) : Nat := if src = 1 then 64 else 32

/-- Words of lane `n` that have been fetched by the age `now`: word m of it issues at start + n × h + m (02:R29, R31). -/
def wordsDue (h start now lag n : Nat) : Nat := Nat.min 256 (now + lag + 1 - (start + n * h))

/-- Lanes of `total` that have begun by the age `now`. -/
def lanesDue (h total start now lag : Nat) : Nat := if now + lag < start then 0 else Nat.min total ((now + lag - start) / h + 1)

/-- Fetch the words of one lane up to the number `n`. -/
def fillLane (word : State → Nat → State × Word) (n : Nat) (s : State) (lane : List Word) : State × List Word :=
  (List.range' lane.length (n - lane.length)).foldl (fun acc k => let r := word acc.1 k; (r.1, acc.2 ++ [r.2])) (s, lane)

/-- Fetch the words of every lane, from number `n` on, up to its number. -/
def fillLanes (word : State → Nat → Nat → State × Word) (due : Nat → Nat) : Nat → State → List (List Word) → State × List (List Word)
  | _, s, [] => (s, [])
  | n, s, l :: ls =>
    let r := fillLane (fun s k => word s n k) (due n) s l
    let t := fillLanes word due (n + 1) r.1 ls
    (t.1, r.2 :: t.2)

/-! ### Turned operands (05:R99-R103). -/

/-- Stored vectors that stand in a transpose buffer at the age `now`: the fill begins 160 cycles (frame store) or 320 (Shale)
before the start and moves 1,024 or 512 bytes a cycle, vector after vector (06:R130). (Open points: assumption 91, DESIGN CHOICE.) -/
def srcCount (src fmt start now : Nat) : Nat :=
  let lead := if src = 1 then 320 else 160
  let bytes := if src = 1 then 512 else 1024
  if now + lead < start then 0 else Nat.min 256 ((now + lead + 1 - start) * (bytes / fmtBytes fmt 256))

/-- Fetch the stored vectors of a turned operand up to the number `n`, those of masked indices excepted. (Open points: assumption 22, DESIGN CHOICE.) -/
def fillSrc (g addr stride scaleAddr fmt : Nat) (scaled : Bool) (outer inner n : Nat) (s : State) (src : List (List Nat × List Nat)) :
    State × List (List Nat × List Nat) :=
  (List.range' src.length (n - src.length)).foldl (fun acc i =>
    if bitOf outer i then
      let v := readVec acc.1 g (addr + i * stride) fmt inner
      let z := if scaled then readScales v.1 g (scaleAddr + i * 8) 8 else (v.1, [])
      (z.1, acc.2 ++ [(v.2, z.2)])
    else (acc.1, acc.2 ++ [([], [])])) (s, src)

/-- One K-vector of a turned operand: element i from stored vector i at position j, requantised when block-scaled
(05:R99-R101). (Open points: assumption 22, DESIGN CHOICE.) -/
def turnVector (fmt : Nat) (scaled : Bool) (src : List (List Nat × List Nat)) (mask j : Nat) : List Nat × List Nat × Nat :=
  let codes := src.map fun v => v.1.getD j 0
  if scaled then
    turnColumn fmt codes (src.map fun v => v.2.getD (j / 32) 0) ((List.range 256).map fun i => bitOf mask i)
  else (codes, [], 0)

/-- XS of row `i` of a turned vector. -/
def turnScale (fmt : Nat) (scaled : Bool) (v : List Nat × List Nat × Nat) (i : Nat) : Nat :=
  if scaled && lastRow fmt i then v.2.1.getD (i / 32) 0 else 0

/-- The lanes of a turned LOAD out of its transpose buffer, and the elements that changed. (Open points: assumption 22, DESIGN CHOICE.) -/
def turnedLoad (d : LoadDesc) (src : List (List Nat × List Nat)) : List (List Word) × Nat :=
  (List.range 256).foldl (fun acc j =>
    if bitOf d.colMask j then
      let v := turnVector d.fmt d.scaled src d.rowMask j
      (acc.1 ++ [(List.range 256).map fun k =>
        loadWordOf (if bitOf d.rowMask (255 - k) then v.1.getD (255 - k) 0 else 0) (255 - k) (turnScale d.fmt d.scaled v (255 - k))],
       acc.2 + v.2.2)
    else (acc.1 ++ [(List.range 256).map fun k => loadWordOf 0 (255 - k) 0], acc.2)) ([], 0)

/-- The lanes of a turned PASS out of its transpose buffer, and the elements that changed. (Open points: assumption 22, DESIGN CHOICE.) -/
def turnedPass (d : PassDesc) (mask : Nat) (src : List (List Nat × List Nat)) : List (List Word) × Nat :=
  let vs := (List.range (d.w + 1)).map fun k => turnVector d.fmt d.scaled src mask k
  (vs.map fun v => (List.range 256).map fun i =>
      BitVec.ofNat 32 ((if bitOf mask i then v.1.getD i 0 else 0) + turnScale d.fmt d.scaled v i * 2 ^ 24),
   (vs.map fun v => v.2.2).sum)

/-! ### A cycle of fetching. -/

/-- What has been fetched of a LOAD by the age `now`; a turned one's words are formed once it acts. The last answer is the
elements that turning changed. -/
def fetchLoad (g : Nat) (d : LoadDesc) (start now : Nat) (acts : Bool) (s : State) (x : Fetch) : State × Fetch × Nat :=
  if d.turn then
    let r := fillSrc g d.addr (fmtBytes d.fmt 256) d.scaleAddr d.fmt d.scaled d.rowMask d.colMask (srcCount d.src d.fmt start now) s x.src
    if acts && x.lanes.isEmpty then (let t := turnedLoad d r.2; (r.1, ⟨t.1, r.2⟩, t.2)) else (r.1, { x with src := r.2 }, 0)
  else
    let lag := fetchLag d.src
    let r := fillLanes (loadWord g d) (wordsDue 1 start now lag) 0 s
      (x.lanes ++ List.replicate (lanesDue 1 256 start now lag - x.lanes.length) [])
    (r.1, { x with lanes := r.2 }, 0)

/-- What has been fetched of a PASS by the age `now`, in the same way; its first lane is that of wavefront `gone`. -/
def fetchPass (g : Nat) (d : PassDesc) (mask start now gone : Nat) (acts : Bool) (s : State) (x : Fetch) : State × Fetch × Nat :=
  if d.turn then
    let r := fillSrc g d.addr d.stride d.scaleAddr d.fmt d.scaled mask (2 ^ (d.w + 1) - 1) (srcCount d.src d.fmt start now) s x.src
    if acts && x.lanes.isEmpty then (let t := turnedPass d mask r.2; (r.1, ⟨t.1, r.2⟩, t.2)) else (r.1, { x with src := r.2 }, 0)
  else
    let h := issueCycles d.fmt
    let lag := fetchLag d.src
    let r := fillLanes (passWord g d mask) (wordsDue h start now lag) gone s
      (x.lanes ++ List.replicate (lanesDue h (d.w + 1) start now lag - (gone + x.lanes.length)) [])
    (r.1, { x with lanes := r.2 }, 0)

/-- Whether all of a PASS has been fetched. -/
def passFetched (p : PassRec) : Bool :=
  decide (p.desc.w + 1 ≤ tabGet p.done 255 0 + p.got.lanes.length) &&
    (match p.got.lanes.getLast? with | some l => decide (256 ≤ l.length) | none => true)

/-- The row mask registers of a slot. -/
def rowMaskReg (d f slot n : Nat) : Nat := if slot = 0 then R_GAB_FRM_ROWMASK_H d f n else R_GAB_FRM_ROWMASK_E d f n
/-- Read a 256-bit mask. -/
def getMask (s : State) (r : Nat → Nat) : Nat :=
  ((List.range 8).map fun n => (regGet s (r n)).toNat * 2 ^ (32 * n)).sum

/-- The LOADs and PASSes of a stream with the ages in which they are to begin, as far as is known now: the age of their AT, and
not before the pass or gap, or the load, that stands before them is over. (Open points: assumption 91, DESIGN CHOICE.) -/
def planFrom (now t : Nat) : Nat → Nat → List Desc → List (DescBody × Nat)
  | _, _, [] => []
  | free, lfree, d :: ds =>
    let begins := now + (d.time - t)
    match d.body with
    | .load _ => (d.body, Nat.max begins lfree) :: planFrom now t free (Nat.max begins lfree + 256) ds
    | .pass p => (d.body, Nat.max begins free) :: planFrom now t (Nat.max begins free + (p.w + 1) * issueCycles p.fmt) lfree ds
    | .gap x => planFrom now t (Nat.max begins free + x.g) lfree ds
    | _ => planFrom now t free lfree ds

/-- Issue cycles left of what a frame is issuing. -/
def issueLeft : Issue → Nat
  | .idle => 0
  | .pass _ n _ _ => n
  | .gap n _ => n

/-- The LOADs and PASSes of a frame's stream that come within the longest lead of the latency table. -/
def fetchPlan (s : State) (g f : Nat) (x : Frame) : List (DescBody × Nat) :=
  match winGet s g with
  | none => []
  | some w =>
    if w.stop.isSome then []
    else
      let t := schTime s g
      planFrom x.age t (x.age + issueLeft x.issue) (x.loads.foldl (fun a l => Nat.max a (l.start + 256)) x.age)
        ((w.streams.getD f []).takeWhile fun d => decide (d.time ≤ t + 320))

/-- Match what has been fetched with the plan, in stream order. -/
def planMatch (run : Nat) : List (DescBody × Nat) → List Ahead → List (Nat × Ahead)
  | [], _ => []
  | p :: ps, a :: as =>
    if a.run = run ∧ a.body = p.1 then (p.2, a) :: planMatch run ps as else (p.2, ⟨run, p.1, .empty⟩) :: planMatch run ps []
  | p :: ps, [] => (p.2, ⟨run, p.1, .empty⟩) :: planMatch run ps []

/-- What has been fetched for a descriptor as it acts, and what stays for the others. -/
def takeAhead (run : Nat) (b : DescBody) : List Ahead → Fetch × List Ahead
  | a :: t => if a.run = run ∧ a.body = b then (a.got, t) else (.empty, [])
  | [] => (.empty, [])

/-- Fetch ahead for one descriptor. -/
def fetchAhead (g f now start : Nat) (s : State) (a : Ahead) : State × Ahead :=
  match a.body with
  | .load d => (let r := fetchLoad g d start now false s a.got; (r.1, { a with got := r.2.1 }))
  | .pass d => (let r := fetchPass g d (getMask s (rowMaskReg (gabDie g) f d.slot)) start now 0 false s a.got; (r.1, { a with got := r.2.1 }))
  | _ => (s, a)

/-- What a frame fetches in one cycle: for its loads, for its passes, and for the descriptors to come. The elements changed by
turning are counted (05:R101). (Open points: assumption 7, DESIGN CHOICE.) -/
def fetchCycle (s : State) (g f : Nat) : State :=
  let x := frameGet s g f
  let ls := x.loads.foldl (fun (acc : State × List LoadRec × Nat) l =>
    if l.got.lanes.length = 256 ∧ (l.desc.turn ∨ l.start + 510 < x.age + fetchLag l.desc.src) then (acc.1, acc.2.1 ++ [l], acc.2.2)
    else
      let r := fetchLoad g l.desc l.start x.age true acc.1 l.got
      (r.1, acc.2.1 ++ [{ l with got := r.2.1 }], acc.2.2 + r.2.2)) (s, [], 0)
  let ps := x.passes.foldl (fun (acc : State × List PassRec × Nat) p =>
    if passFetched p then (acc.1, acc.2.1 ++ [p], acc.2.2)
    else
      let r := fetchPass g p.desc p.rowMask p.start x.age (tabGet p.done 255 0) true acc.1 p.got
      (r.1, acc.2.1 ++ [{ p with got := r.2.1 }], acc.2.2 + r.2.2)) (ls.1, [], ls.2.2)
  let run := (regGet s (R_GAB_SCH_RUN_CNT (gabDie g))).toNat
  let as := (planMatch run (fetchPlan s g f x) x.ahead).foldl (fun (acc : State × List Ahead) a =>
    let r := fetchAhead g f x.age a.1 acc.1 a.2
    (r.1, acc.2 ++ [r.2])) (ps.1, [])
  let s := count as.1 (R_GAB_FRM_TURN_ROUND (gabDie g) f) ps.2.2
  frameMod s g f fun y => { y with loads := ls.2.1, passes := ps.2.1, ahead := as.2 }

end Sys2Proof.Machine
end

