-- ==== Sys2Proof/Machine/Frame.lean ====
section
/-! DEFINITION. The bead frame's commands (02_bead_frame.md, with the turned operands of 05:R98-R103): loads, passes,
gaps, row words, parity errors, starts, stops and frame resets. -/
namespace Sys2Proof.Machine

/-! ### Slots. -/

/-- The slot information register. -/
def slotReg (d f slot : Nat) : Nat := if slot = 0 then R_GAB_FRM_SLOT_H d f else R_GAB_FRM_SLOT_E d f
/-- Set the state of a slot. -/
def setSlot (s : State) (g f slot v : Nat) : State := setFld s (R_GAB_FRM_STATUS (gabDie g) f) (slotFld slot) v

/-- Store a 256-bit mask in eight registers. -/
def setMask (s : State) (r : Nat → Nat) (m : Nat) : State :=
  (List.range 8).foldl (fun s n => regSet s (r n) (BitVec.ofNat 32 (bitsOf m (32 * n) 32))) s
/-- The column mask registers of a slot. -/
def colMaskReg (d f slot n : Nat) : Nat := if slot = 0 then R_GAB_FRM_COLMASK_H d f n else R_GAB_FRM_COLMASK_E d f n

/-! ### Faults. -/

/-- A LOAD or PASS is faulty (02:R38). -/
def descFault (s : State) (g f : Nat) : State :=
  winFault (raise s (R_GAB_FRM_ERR (gabDie g) f) F_GAB_FRM_ERR_DESC_FAULT) g 0x0204

/-! ### Slots' columns. -/

/-- Merge new codes into a column that keeps the stale contents of its masked rows (02:R36). -/
def mergeColumn (k mask : Nat) (stale new : List Nat) : List Nat :=
  (List.range (256 * k)).map fun x => if bitOf mask (x / k) then new.getD x 0 else stale.getD x 0

/-- Set one of a slot's 256 columns. -/
def setColumn (t : List (List Nat)) (j : Nat) (v : List Nat) : List (List Nat) :=
  (List.range 256).map fun i => if i = j then v else t.getD i []

/-- The codes and group scales that the load words of a column carry: word k is row 255 - k (02:R31). -/
def loadColumn (fmt : Nat) (lane : List Word) : List Nat × List Nat :=
  let n := (fmtInfo fmt).width
  let word (i : Nat) : Nat := (lane.getD (255 - i) 0).toNat
  ((List.range 256).flatMap fun i => if isPair fmt then [bitsOf (word i) 0 n, bitsOf (word i) n n] else [bitsOf (word i) 0 n],
   (List.range (groupCount fmt)).map fun g => bitsOf (word (g * groupRows fmt + groupRows fmt - 1)) 24 8)

/-- Column `j` of a load latches in its slot; a masked column keeps its contents (02:R26, R31, R36). -/
def latchColumn (l : LoadRec) (j : Nat) (x : Frame) : Frame :=
  let d := l.desc
  if !(bitOf d.colMask j) then x
  else
    let c := loadColumn d.fmt (l.got.lanes.getD j [])
    let col (t : List (List Nat)) := setColumn t j (mergeColumn (perRow d.fmt) d.rowMask (t.getD j []) c.1)
    let scl (t : List (List Nat)) := if d.scaled then setColumn t j c.2 else t
    if d.slot = 0 then { x with tileH := col x.tileH, tsclH := scl x.tsclH } else { x with tileE := col x.tileE, tsclE := scl x.tsclE }

/-- What latches at the end of a frame's cycle: of each load, the column whose cycle L + 255 + j it is; a load leaves once its last
column has latched (02:R26, R31). -/
def latchLoads (x : Frame) : Frame :=
  let y := x.loads.foldl (fun y l => if l.start + 255 ≤ x.age ∧ x.age ≤ l.start + 510 then latchColumn l (x.age - (l.start + 255)) y else y) x
  { y with loads := x.loads.filter fun l => decide (x.age < l.start + 510) }

/-! ### LOAD (02:R25, R31, R32, R36-R38; 03:R64; 05:R99, R102). -/

/-- Whether a LOAD is a descriptor fault. -/
def loadFaulty (d : LoadDesc) : Bool :=
  d.fmt == 0 || decide (8 ≤ d.fmt) || (isPair d.fmt && !d.scaled) || (d.turn && isPair d.fmt)

/-- A LOAD begins: its words go on to be fetched, and the masks and the slot's information are those of the descriptor. -/
def beginLoad (s : State) (g f : Nat) (d : LoadDesc) (got : Fetch) : State :=
  let die := gabDie g
  let s := frameMod s g f fun x => { x with loads := x.loads ++ [⟨d, x.age, false, got⟩] }
  let s := setMask (setMask s (rowMaskReg die f d.slot) d.rowMask) (colMaskReg die f d.slot) d.colMask
  let w := fldSet (fldSet (fldSet 0 F_GAB_FRM_SLOT_FMT d.fmt) F_GAB_FRM_SLOT_SCALED (b2n d.scaled))
    F_GAB_FRM_SLOT_LOAD_SEQ ((ctrGet s (R_GAB_FRM_LOAD_CNT die f)).toNat % 65536)
  setSlot (regSet s (slotReg die f d.slot) w) g f d.slot 1

/-- Take what has been fetched for the LOAD or PASS at the head of a frame's stream. -/
def takeFetched (s : State) (g f : Nat) (b : DescBody) : State × Fetch :=
  let r := takeAhead (regGet s (R_GAB_SCH_RUN_CNT (gabDie g))).toNat b (frameGet s g f).ahead
  (frameMod s g f fun x => { x with ahead := r.2 }, r.1)

/-- LOAD_DESCRIPTOR: a faulty load is skipped. A load on a busy slot, or behind another load, holds the group and does
not act (`slotBlocked`). -/
def loadDescriptor (s : State) (g f : Nat) : State :=
  match streamHead s g f with
  | some ⟨_, _, .load d⟩ =>
    let r := takeFetched (streamPop s g f) g f (.load d)
    if loadFaulty d then descFault r.1 g f else beginLoad r.1 g f d r.2
  | _ => s

/-- The meaning of LOAD_DESCRIPTOR. -/
def execLoadDescriptor (g : Fin 16) (f : Fin 8) (ups : List Before) (s : State) : Host.Outcome State Fault Refusal :=
  .next (loadDescriptor (upsets s ups) g f)

/-- LOAD_COMPLETE: 256 cycles after it began, the tile is HELD (02:R24, R26). -/
def loadComplete (s : State) (g f : Nat) : State :=
  let x := frameGet s g f
  match (indexed x.loads).find? fun l => !l.2.held && decide (l.2.start + 256 ≤ x.age) with
  | some (i, l) =>
    let s := frameMod s g f fun x => { x with loads := x.loads.set i { l with held := true } }
    let s := count (setSlot s g f l.desc.slot 2) (R_GAB_FRM_LOAD_CNT (gabDie g) f) 1
    if l.desc.turn then count s (R_GAB_FRM_TURN_CNT (gabDie g) f) 1 else s
  | none => s

/-- The meaning of LOAD_COMPLETE. -/
def execLoadComplete (g : Fin 16) (f : Fin 8) (s : State) : Host.Outcome State Fault Refusal := .next (loadComplete s g f)

/-! ### PASS (02:R25, R27-R30, R36-R38; 03:R63; 05:R100-R102; 06:R142). -/

/-- Whether a PASS is a descriptor fault, given its slot's registers. -/
def passFaulty (s : State) (g f : Nat) (d : PassDesc) : Bool :=
  let w := regGet s (slotReg (gabDie g) f d.slot)
  slotState s g f d.slot == 0 ||
  !(pairAccepted (fldGet w F_GAB_FRM_SLOT_FMT) d.fmt (fldGet w F_GAB_FRM_SLOT_SCALED == 1) d.scaled) ||
  (d.turn && (isPair d.fmt || decide (255 < d.w))) ||
  (d.splitScale && (!(isPair d.fmt) || d.turn))

/-- A PASS begins to issue: its words go on to be fetched. -/
def beginPass (s : State) (g f : Nat) (d : PassDesc) (absent : List (Nat × Fin 256)) (got : Fetch) : State :=
  let die := gabDie g
  let stat := fldGet (regGet s (slotReg die f d.slot)) F_GAB_FRM_SLOT_FMT
  let n := (d.w + 1) * issueCycles stat
  let s := frameMod s g f fun x =>
    let p : PassRec :=
      { desc := d, statFmt := stat, rowMask := getMask s (rowMaskReg die f d.slot), colMask := getMask s (colMaskReg die f d.slot),
        start := x.age, got := got, done := [], verdicts := [] }
    { x with passes := x.passes ++ [p], issue := .pass d.slot n n d.turn,
             absent := x.absent ++ absent.map fun e => (e.2.val, x.age + e.1 + e.2.val) }
  setFld (setSlot s g f d.slot 3) (R_GAB_FRM_STATUS die f) F_GAB_FRM_STATUS_LAST_S d.slot

/-- PASS_DESCRIPTOR: a faulty pass is skipped; one on a slot that is LOADING holds the group and does not act. `absent`
names the row words that will miss their issue cycle: issue cycle of the pass, and row (02:R30). -/
def passDescriptor (s : State) (g f : Nat) (absent : List (Nat × Fin 256)) : State :=
  match streamHead s g f with
  | some ⟨_, _, .pass d⟩ =>
    match (frameGet s g f).issue with
    | .idle =>
      let r := takeFetched (streamPop s g f) g f (.pass d)
      if passFaulty r.1 g f d then descFault r.1 g f else beginPass r.1 g f d absent r.2
    | _ => s
  | _ => s

/-- The meaning of PASS_DESCRIPTOR. -/
def execPassDescriptor (g : Fin 16) (f : Fin 8) (absent : List (Nat × Fin 256)) (ups : List Before) (s : State) :
    Host.Outcome State Fault Refusal := .next (passDescriptor (upsets s ups) g f absent)

/-- PASS_COMPLETE: the cycle after the pass's last wavefront issued (02:R24). -/
def passComplete (s : State) (g f : Nat) : State :=
  match (frameGet s g f).issue with
  | .pass slot 0 _ turn =>
    let s := frameMod s g f fun x => { x with issue := .idle }
    let s := count (setSlot s g f slot 2) (R_GAB_FRM_PASS_CNT (gabDie g) f) 1
    if turn then count s (R_GAB_FRM_TURN_CNT (gabDie g) f) 1 else s
  | _ => s

/-- The meaning of PASS_COMPLETE. -/
def execPassComplete (g : Fin 16) (f : Fin 8) (s : State) : Host.Outcome State Fault Refusal := .next (passComplete s g f)

/-- GAP_DESCRIPTOR: a run of bubbles, or of dummies when smoothed (02:R34). SMOOTH_EN is sampled as the gap begins. (Open points:
assumption 91, DESIGN CHOICE.) -/
def gapDescriptor (s : State) (g f : Nat) : State :=
  match streamHead s g f with
  | some ⟨_, _, .gap d⟩ =>
    match (frameGet s g f).issue with
    | .idle =>
      let smooth := flag s (R_GAB_FRM_CTRL (gabDie g) f) F_GAB_FRM_CTRL_SMOOTH_EN && d.smooth && decide (d.g ≤ 63)
      frameMod (streamPop s g f) g f fun x => { x with issue := .gap d.g smooth }
    | _ => s
  | _ => s

/-- The meaning of GAP_DESCRIPTOR. -/
def execGapDescriptor (g : Fin 16) (f : Fin 8) (s : State) : Host.Outcome State Fault Refusal := .next (gapDescriptor s g f)

/-- The absent words of a frame once the earliest of a row has reached its queue. -/
def rowArrive (row : Nat) : List (Nat × Nat) → List (Nat × Nat)
  | [] => []
  | e :: t => if e.1 = row then t else e :: rowArrive row t

/-- The meaning of ROW_WORD_ARRIVAL: the row word that a row's queue lacks reaches it, which ends a hold that waited for it
(02:R30). -/
def execRowWordArrival (g : Fin 16) (f : Fin 8) (row : Fin 256) (s : State) : Host.Outcome State Fault Refusal :=
  .next (frameMod s g f fun x => { x with absent := rowArrive row x.absent })

/-! ### Row words and the sideband (02:R27-R30, R34-R36). -/

/-- The sign bit of every element of a row's DATA. -/
def rowSigns (fmt : Nat) : Nat :=
  let n := (fmtInfo fmt).width
  if isPair fmt then 2 ^ (n - 1) + 2 ^ (2 * n - 1) else 2 ^ (n - 1)

/-- The operand of a row's next dummy: its last DATA, with the sign of every element inverted on alternate dummies. -/
def dummyData (r : RowReg) : Nat := if r.flip then r.data ^^^ rowSigns r.fmt else r.data

/-- A 32-bit row word from its fields DATA, V, S, D, H, XS. -/
def rowWordOf (data : Nat) (v : Bool) (sl : Nat) (d h : Bool) (xs : Nat) : Word :=
  BitVec.ofNat 32 (data % 65536 + b2n v * 2 ^ 16 + (sl % 2) * 2 ^ 17 + b2n d * 2 ^ 18 + b2n h * 2 ^ 19 + (xs % 256) * 2 ^ 24)

/-- The row word that row `i` issues for an issue slot; `w` is what the feeder fetched for the slot's wavefront. -/
def rowWord (sl : IssueSlot) (i : Nat) (r : RowReg) (w : Word) : Word :=
  match sl with
  | .bubble => rowWordOf 0 false r.s false false 0
  | .dummy => rowWordOf (dummyData r) false r.s true false 0
  | .wave v =>
    if bitOf v.rowMask i then rowWordOf (bitsOf w.toNat 0 16) true v.slot false v.half (bitsOf w.toNat 24 8)
    else rowWordOf (if v.smooth then dummyData { r with s := v.slot } else 0) false v.slot v.smooth v.half (bitsOf w.toNat 24 8)

/-- What row `i` keeps after the word of an issue slot. The first dummy after DATA is plain, the next one inverted, and so on;
a masked row's dummies alternate with the gap's. (Open points: assumption 91, DESIGN CHOICE.) -/
def rowNext (sl : IssueSlot) (i : Nat) (r : RowReg) (w : Word) : RowReg :=
  match sl with
  | .bubble => r
  | .dummy => { r with flip := !r.flip }
  | .wave v =>
    if bitOf v.rowMask i then ⟨v.fmt, bitsOf w.toNat 0 16, v.slot, false⟩
    else { r with s := v.slot, flip := if v.smooth then !r.flip else r.flip }

/-- What the feeder of row `i` has fetched for an issue slot. -/
def slotWord (x : Frame) (i : Nat) (sl : IssueSlot) : Word :=
  match sl with
  | .wave v => match x.passes.find? fun p => p.start == v.start with
    | some p => (waveLane p v.k).getD i 0
    | none => 0
  | _ => 0

/-- The 16-bit wavefront sideband of an issue slot (02:R28). -/
def sideband (sl : IssueSlot) : Half :=
  match sl with
  | .wave w => BitVec.ofNat 16 (w.outTag % 256 + 2 ^ 8 + b2n w.first * 2 ^ 9 + b2n w.last * 2 ^ 10 + b2n w.half * 2 ^ 11)
  | _ => 0

/-- The issue slot that a frame's feeders form `n` cycles from now out of the descriptor in issue. -/
def slotAhead (s : State) (g f : Nat) (x : Frame) (n : Nat) : IssueSlot :=
  match x.issue with
  | .pass slot left total _ =>
    if n < left then
      match x.passes.getLast? with
      | some p =>
        let c := issueCycles p.statFmt
        let at_ := total - left + n
        .wave { start := p.start, k := at_ / c, slot := slot, fmt := p.desc.fmt, half := decide (at_ % c = 1), first := decide (at_ < c),
                last := decide (total ≤ at_ + c), outTag := p.desc.outTag, rowMask := p.rowMask,
                smooth := p.desc.maskSmooth && flag s (R_GAB_FRM_CTRL (gabDie g) f) F_GAB_FRM_CTRL_SMOOTH_EN }
      | none => .bubble
    else .bubble
  | .gap left dummy => if n < left && dummy then .dummy else .bubble
  | .idle => .bubble

/-- The words that stand in row `i`'s queue: those fetched for wavefronts that the row has yet to issue, of the passes in the array
and of the ones to come, in the order in which they issue (02:R30). -/
def rowQueue (x : Frame) (i : Nat) : List Word :=
  (x.passes.flatMap fun p => (indexed p.got.lanes).filterMap fun l =>
      if p.start + (tabGet p.done 255 0 + l.1 + 1) * issueCycles p.statFmt + i ≤ x.age then none else l.2[i]?) ++
    x.ahead.flatMap fun a => match a.body with | .pass _ => a.got.lanes.filterMap (·[i]?) | _ => []

/-- Every row takes in the word of its issue slot: row i that of the slot i places back (02:R29). -/
def rowsNext (x : Frame) : Nat → List IssueSlot → List RowReg → List RowReg
  | _, [], rs => rs
  | i, sl :: t, [] => rowNext sl i .zero (slotWord x i sl) :: rowsNext x (i + 1) t []
  | i, sl :: t, r :: rs => rowNext sl i r (slotWord x i sl) :: rowsNext x (i + 1) t rs

/-- The feeders and the load lanes of a frame move by one cycle (02:R26, R29, R31): each row issues its word, columns latch, and the
descriptor in issue has one issue cycle less. -/
def feed (s : State) (g f : Nat) (x : Frame) : Frame :=
  let trail := (slotAhead s g f x 0 :: x.trail).take 256
  let issue := match x.issue with
    | .pass slot n total turn => .pass slot (n - 1) total turn
    | .gap n dummy => if n ≤ 1 then .idle else .gap (n - 1) dummy
    | .idle => .idle
  { latchLoads x with issue := issue, trail := trail, rows := rowsNext x 0 trail x.rows, age := x.age + 1 }

/-- FRAME_PARITY_ERROR: `kind` is the error's bit in GAB_FRM_ERR (02:R41). (Open points: assumption 77, DESIGN CHOICE.) -/
def frameParity (s : State) (g f kind : Nat) : State :=
  let s := raise s (R_GAB_FRM_ERR (gabDie g) f) ⟨kind, 1⟩
  winFault (strataEvent s (gabDie g) (0x10 + f) 0x0203 f 0) g 0x0203

/-- The meaning of FRAME_PARITY_ERROR. -/
def execFrameParityError (g : Fin 16) (f : Fin 8) (kind : Fin 4) (s : State) : Host.Outcome State Fault Refusal :=
  .next (frameParity s g f kind)

/-! ### Frame reset, start and stop (02:R42, R43; 04:R95; 05:R119; 06:R125; 17:R403; 18:R422). -/

/-- Return the slots, masks, arrays, tile entries and side memory of a frame to their reset state; the frame is neither
started nor stopping, and its pending start is `pend`. -/
def frameClear (s : State) (g f : Nat) (pend : Bool) : State :=
  let d := gabDie g
  let s := { s with frames := tabDel s.frames (g * 8 + f) }
  let s := regSet s (R_GAB_FRM_STATUS d f) (fldSet 0 F_GAB_FRM_STATUS_START_PENDING (b2n pend))
  let s := regRevert s (R_GAB_FRM_SLOT_H d f) (R_GAB_FRM_VALID_CYC d f)
  let s := regRevert s (R_GAB_FRM_ROWMASK_H d f 0) (R_GAB_FRM_COLMASK_E d f 8)
  let s := regRevert s (R_GAB_BEAM_STATUS d f) (R_GAB_BEAM_ERR d f)
  regRevert s (R_GAB_BEAM_TILE_CFG d f 0) (R_GAB_BEAM_TILE_CFG d f 64)

/-- Reset one logical frame; a started frame waits to start again, as its EN bit says. -/
def frameReset (s : State) (g f : Nat) : State :=
  let d := gabDie g
  let s := frameClear s g f (bitOf (regGet s (R_GAB_FRAME_ENABLE d)).toNat f)
  regSet (regSet (regSet s (R_GAB_FRM_ERR d f) 0) (R_GAB_BEAM_ERR d f) 0) (R_GAB_FRM_BWD_ERR d f) 0

/-- Reset the logical frames of a Gabbro that a mask names. -/
def resetFrames (s : State) (g mask : Nat) : State := (setBits 8 mask).foldl (fun s f => frameReset s g f) s

/-- The meaning of FRM_RESET_WRITE: discarded while a window is open or pending (18:R422). -/
def execFrmResetWrite (g : Fin 16) (f : Fin 8) (s : State) : Host.Outcome State Fault Refusal :=
  .next (if winOrPending s g then s else frameReset s g f)

/-- Request a start. -/
def frameStart (s : State) (g f : Nat) : State :=
  let d := gabDie g
  let s := regSet s (R_GAB_FRAME_ENABLE d) (regGet s (R_GAB_FRAME_ENABLE d) ||| BitVec.ofNat 32 (2 ^ f))
  let s := setFld s (R_GAB_FRM_STATUS d f) F_GAB_FRM_STATUS_STOP_PENDING 0
  if flag s (R_GAB_FRM_STATUS d f) F_GAB_FRM_STATUS_STARTED then s
  else raise s (R_GAB_FRM_STATUS d f) F_GAB_FRM_STATUS_START_PENDING

/-- Request a stop. -/
def frameStop (s : State) (g f : Nat) : State :=
  let d := gabDie g
  let s := regSet s (R_GAB_FRAME_ENABLE d) (regGet s (R_GAB_FRAME_ENABLE d) &&& ~~~(BitVec.ofNat 32 (2 ^ f)))
  let s := setFld s (R_GAB_FRM_STATUS d f) F_GAB_FRM_STATUS_START_PENDING 0
  if flag s (R_GAB_FRM_STATUS d f) F_GAB_FRM_STATUS_STARTED then
    raise s (R_GAB_FRM_STATUS d f) F_GAB_FRM_STATUS_STOP_PENDING
  else s

/-- The meaning of FRAME_ENABLE_START. -/
def execFrameEnableStart (g : Fin 16) (f : Fin 8) (s : State) : Host.Outcome State Fault Refusal := .next (frameStart s g f)
/-- The meaning of FRAME_ENABLE_STOP. -/
def execFrameEnableStop (g : Fin 16) (f : Fin 8) (s : State) : Host.Outcome State Fault Refusal := .next (frameStop s g f)

/-- A write of GAB_FRAME_ENABLE: each bit starts or stops its frame (02:R43). -/
def frameEnableWrite (s : State) (g : Nat) (w : Word) : State :=
  (List.range 8).foldl (fun s f =>
    let was := bitOf (regGet s (R_GAB_FRAME_ENABLE (gabDie g))).toNat f
    if bitOf w.toNat f then (if was then s else frameStart s g f) else (if was then frameStop s g f else s)) s

/-- Whether a frame may start now: the power state has not turned the frames off (18:R425), and no pending start stands before it
in the package's order (17:R403). -/
def startTurn (s : State) (g f : Nat) : Bool :=
  decide (pwState s < 2) && (List.range (g * 8 + f)).all fun i =>
    !(flag s (R_GAB_FRM_STATUS (gabDie (i / 8)) (i % 8)) F_GAB_FRM_STATUS_START_PENDING)

/-- FRAME_STARTED: a pending start takes effect, with both slots EMPTY (02:R24, R43). -/
def frameStarted (s : State) (g f : Nat) : State :=
  let k := R_GAB_FRM_STATUS (gabDie g) f
  if flag s k F_GAB_FRM_STATUS_START_PENDING && startTurn s g f then
    let s := setSlot (setSlot (frameSet s g f (frameGet s g f)) g f 0 0) g f 1 0
    raise (setFld s k F_GAB_FRM_STATUS_START_PENDING 0) k F_GAB_FRM_STATUS_STARTED
  else s

/-- The meaning of FRAME_STARTED. -/
def execFrameStarted (g : Fin 16) (f : Fin 8) (s : State) : Host.Outcome State Fault Refusal := .next (frameStarted s g f)

/-- FRAME_STOPPED: a pending stop takes effect once nothing is in issue or in the array and nothing needs the frame. -/
def frameStopped (s : State) (g f : Nat) : State :=
  let k := R_GAB_FRM_STATUS (gabDie g) f
  let x := frameGet s g f
  if flag s k F_GAB_FRM_STATUS_STOP_PENDING && !(inFlight x) && x.issue == .idle && !(frameNeeded s g f) then
    setFld (setFld s k F_GAB_FRM_STATUS_STOP_PENDING 0) k F_GAB_FRM_STATUS_STARTED 0
  else s

/-- The meaning of FRAME_STOPPED. -/
def execFrameStopped (g : Fin 16) (f : Fin 8) (s : State) : Host.Outcome State Fault Refusal := .next (frameStopped s g f)

end Sys2Proof.Machine
end

