-- ==== Sys2Proof/Machine/Beam.lean ====
section
/-! DEFINITION. The beam's commands (04_beam_accumulators.md): tiles, deliveries, output programs and drains. -/
namespace Sys2Proof.Machine

/-! ### Tile entries. -/

/-- CFG of an entry. -/
def tileCfg (s : State) (g f e : Nat) : Word := regGet s (R_GAB_BEAM_TILE_CFG (gabDie g) f e)
/-- A field of an entry's configuration. -/
def cfgFld (s : State) (g f e : Nat) (x : Fld) : Nat := fldGet (tileCfg s g f e) x
/-- STATE of an entry: 0 FREE, 1 ACCUM, 2 DRAIN, 3 DONE (04:R81). -/
def tileState (s : State) (g f e : Nat) : Nat := fld s (R_GAB_BEAM_TILE_STATUS (gabDie g) f e) F_TILE_STATUS_STATE
/-- Set a field of an entry's status. -/
def setTile (s : State) (g f e : Nat) (x : Fld) (v : Nat) : State := setFld s (R_GAB_BEAM_TILE_STATUS (gabDie g) f e) x v
/-- ROWS of an entry. -/
def tileRows (s : State) (g f e : Nat) : Nat := 2 ^ cfgFld s g f e F_TILE_CFG_ROWS_LOG2
/-- ACTIVE_ROWS of an entry. -/
def activeRows (s : State) (g f e : Nat) : Nat :=
  fld s (R_GAB_BEAM_TILE_STATUS (gabDie g) f e) F_TILE_STATUS_ACTIVE_ROWS_M1 + 1
/-- Bytes of a row in an accumulator format (04:R77). -/
def accRowBytes (acc : Nat) : Nat := if acc = 1 then 2048 else 1024
/-- The storage of a configuration word: first offset and one past the last. -/
def cfgSpan (c : Word) : Nat × Nat :=
  let b := fldGet c F_TILE_CFG_BASE_KIB * 1024
  (b, b + 2 ^ fldGet c F_TILE_CFG_ROWS_LOG2 * accRowBytes (fldGet c F_TILE_CFG_ACC))
/-- Whether storage overlaps that of another entry in ACCUM or DRAIN. -/
def overlapsBusy (s : State) (g f e : Nat) (span : Nat × Nat) : Bool :=
  (List.range 64).any fun x =>
    x != e && (tileState s g f x == 1 || tileState s g f x == 2) &&
      decide (span.1 < (cfgSpan (tileCfg s g f x)).2) && decide ((cfgSpan (tileCfg s g f x)).1 < span.2)

/-- A beam descriptor fault (04:R87). -/
def beamFault (s : State) (g f : Nat) : State :=
  winFault (raise s (R_GAB_BEAM_ERR (gabDie g) f) F_GAB_BEAM_ERR_DESC_FAULT) g 0x0205

/-! ### TILE and OUTPUT (04:R86, R87; 05:R107). -/

/-- TILE_DESCRIPTOR. -/
def tileDescriptor (s : State) (g f : Nat) : State :=
  match streamHead s g f with
  | some ⟨_, _, .tile d⟩ =>
    let s := streamPop s g f
    let c := fldSet (fldSet (fldSet (fldSet 0 F_TILE_CFG_VALID 1) F_TILE_CFG_ACC d.acc) F_TILE_CFG_ROWS_LOG2 d.rowsLog2)
      F_TILE_CFG_BASE_KIB d.baseKib
    let st := tileState s g f d.entry
    if st == 1 || st == 2 || d.rowsLog2 < 5 || 12 < d.rowsLog2 || 4194304 < (cfgSpan c).2 ||
        overlapsBusy s g f d.entry (cfgSpan c) then beamFault s g f
    else
      let s := regSet s (R_GAB_BEAM_TILE_CFG (gabDie g) f d.entry) c
      let s := regSet s (R_GAB_BEAM_TILE_STATUS (gabDie g) f d.entry) 0
      let s := regSet s (R_GAB_BEAM_TILE_GROUPS (gabDie g) f d.entry) 0
      frameMod s g f fun x => { x with progs := tabDel x.progs d.entry, touched := tabDel x.touched d.entry }
  | _ => s

/-- The meaning of TILE_DESCRIPTOR. -/
def execTileDescriptor (g : Fin 16) (f : Fin 8) (s : State) : Host.Outcome State Fault Refusal := .next (tileDescriptor s g f)

/-- Whether an activation code is defined (04:R89). -/
def actDefined (c : Nat) : Bool := c != 7 && decide (c < 14)

/-- The recipe word in force for a kind (03:R56). -/
def recipe (s : State) (kind : Nat) : Word := s.rcp.words.getD kind 0

/-- Bytes of `n` elements written under a recipe word. -/
def recipeBytes (w : Word) (n : Nat) : Nat := fmtBytes (rcpFmt w) n

/-- Whether an OUTPUT is a beam descriptor fault when it is consumed. -/
def outputFaulty (s : State) (g f : Nat) (d : OutputDesc) : Bool :=
  let rows := if cfgFld s g f d.entry F_TILE_CFG_VALID = 1 then tileRows s g f d.entry else 1
  let k := recipe s d.kind
  let z := recipe s d.stashKind
  d.outMode == 3 ||
  (d.outMode == 1 && (d.topkK == 0 || decide (8 < d.topkK))) ||
  !(actDefined d.act) || !(actDefined d.auxFn) ||
  (d.auxAddr != 0 && d.auxFmt != 8 && d.auxFmt != 7 && d.auxFmt != 6) ||
  (d.outMode == 0 && decide (d.dstStride < recipeBytes k 256)) ||
  (d.stashDst != 0 && decide (d.stashStride < recipeBytes z 256)) ||
  (d.outMode == 0 && wellBroken s d.dst d.dstStride rows (recipeBytes k 256) (rcpFmt k)) ||
  (d.outMode == 1 && wellBroken s d.dst 64 rows 64 0) ||
  (d.stashDst != 0 && wellBroken s d.stashDst d.stashStride rows (recipeBytes z 256) (rcpFmt z))

/-- The OUTPUTs of an entry that may still be its next program, once another is consumed at an age: those up to the first
that lies 512 cycles back, which no later cycle D can find too late (04:R87). (Open points: assumption 82, DEDUCED.) -/
def progKeep (now : Nat) : List (OutputDesc × Nat) → List (OutputDesc × Nat)
  | [] => []
  | p :: t => if p.2 + 512 ≤ now then [p] else p :: progKeep now t

/-- OUTPUT_DESCRIPTOR: the program of the entry's next drain. -/
def outputDescriptor (s : State) (g f : Nat) : State :=
  match streamHead s g f with
  | some ⟨_, _, .output d⟩ =>
    let s := streamPop s g f
    if outputFaulty s g f d then beamFault s g f
    else frameMod s g f fun x =>
        { x with progs := tabPut x.progs d.entry ((d, x.age) :: progKeep x.age (tabGet x.progs d.entry [])) }
  | _ => s

/-- The meaning of OUTPUT_DESCRIPTOR. -/
def execOutputDescriptor (g : Fin 16) (f : Fin 8) (s : State) : Host.Outcome State Fault Refusal :=
  .next (outputDescriptor s g f)

/-! ### Deliveries (04:R79-R84, R93, R94; 03:R69, R70, R72). -/

/-- ENTRY of an OUT_TAG. -/
def tagEntry (t : Nat) : Nat := t % 64
/-- Whether an OUT_TAG starts its tile. -/
def tagStarts (t : Nat) : Bool := bitOf t 6
/-- Whether an OUT_TAG drains its tile. -/
def tagDrains (t : Nat) : Bool := bitOf t 7

/-- The beam's decision on wavefront k of a pass as its column 0 enters (04:R80, R82). A START pass whose FIRST was refused
and a later wavefront of which finds the entry FREE or DONE goes on from there: that wavefront is taken, and those after it
find ACCUM, which their pass did not begin, and are refused. (Open points: assumption 15, DEDUCED; assumption 81, DEDUCED.) -/
def verdict (s : State) (g f : Nat) (p : PassRec) (k : Nat) : Verdict :=
  let e := tagEntry p.desc.outTag
  let st := tileState s g f e
  let own := decide (0 < k) && p.verdicts.head? != some .refused
  let start := tagStarts p.desc.outTag
  let bound :=
    if start then tileRows s g f e
    else if st == 0 then tileRows s g f e
    else activeRows s g f e
  if cfgFld s g f e F_TILE_CFG_VALID = 0 || st == 2 || (start && st == 1 && !own) ||
      ((st == 0 || st == 3) && overlapsBusy s g f e (cfgSpan (tileCfg s g f e))) then .refused
  else if bound ≤ k then .overrun
  else .taken

/-- The group count of an entry grows; passing 2^20 for the first time sets LONG_CHAIN and counts (03:R72). -/
def addGroups (s : State) (g f e n : Nat) : State :=
  let k := R_GAB_BEAM_TILE_GROUPS (gabDie g) f e
  let old := (regGet s k).toNat
  let new := Nat.min (old + n) 4294967295
  let s := regSet s k (BitVec.ofNat 32 new)
  if old ≤ 1048576 ∧ 1048576 < new then
    count (setTile s g f e F_TILE_STATUS_LONG_CHAIN 1) (R_GAB_FRM_LONG_CHAIN (gabDie g) f) 1
  else s

/-- A fresh accumulation begins on an entry: the flags of its status, the group count and the touched mask are cleared,
and ACTIVE_ROWS is set. -/
def freshTile (s : State) (g f e rows : Nat) : State :=
  let k := R_GAB_BEAM_TILE_STATUS (gabDie g) f e
  let w := regGet s k
  let w := fldSet (fldSet (fldSet (fldSet (fldSet w F_TILE_STATUS_LONG_CHAIN 0) F_TILE_STATUS_NONFINITE 0)
    F_TILE_STATUS_SATURATED 0) F_TILE_STATUS_ROW_OVERRUN 0) F_TILE_STATUS_STATE_FAULT 0
  let s := regSet (regSet s k (fldSet w F_TILE_STATUS_ACTIVE_ROWS_M1 (rows - 1))) (R_GAB_BEAM_TILE_GROUPS (gabDie g) f e) 0
  frameMod s g f fun x => { x with touched := tabDel x.touched e }

/-- Column 0 of wavefront k enters: decide, set the flags and states, and count groups at FIRST (04:R80-R84). An ADD
delivery that finds FREE begins an accumulation whichever wavefront it is (04:R81). (Open points: assumption 81, DEDUCED.) -/
def enterWave (s : State) (g f : Nat) (p : PassRec) (k : Nat) : State × Verdict :=
  let e := tagEntry p.desc.outTag
  let v := verdict s g f p k
  let d := gabDie g
  match v with
  | .refused =>
    let s := raise (setTile s g f e F_TILE_STATUS_STATE_FAULT 1) (R_GAB_BEAM_ERR d f) F_GAB_BEAM_ERR_STATE_FAULT
    (winFault s g 0x0205, v)
  | .overrun =>
    let s := raise (setTile s g f e F_TILE_STATUS_ROW_OVERRUN 1) (R_GAB_BEAM_ERR d f) F_GAB_BEAM_ERR_ROW_OVERRUN
    (winFault s g 0x0205, v)
  | .taken =>
    let st := tileState s g f e
    let s :=
      if tagStarts p.desc.outTag then (if k = 0 then freshTile s g f e (Nat.min (p.desc.w + 1) (tileRows s g f e)) else s)
      else if st = 0 then freshTile s g f e (tileRows s g f e) else s
    let s := if k = 0 then addGroups s g f e (groupCount p.statFmt) else s
    (setTile s g f e F_TILE_STATUS_STATE 1, v)

/-- Address of an element of a tile (04:R77). -/
def elemAddr (s : State) (g f e r j : Nat) : Nat :=
  let acc := cfgFld s g f e F_TILE_CFG_ACC
  beamBase g f + cfgFld s g f e F_TILE_CFG_BASE_KIB * 1024 + r * accRowBytes acc + j * (accRowBytes acc / 256)

/-- The beam pipeline reads the word that holds an element: an uncorrectable error sets STORE_UNCORR, is recorded, and
makes a fault pending (04:R94). -/
def beamReadWord (s : State) (g f a : Nat) : State × Bool :=
  let m := checkGranule s (granule a).1
  if m.2 then
    let s := raise m.1 (R_GAB_BEAM_ERR (gabDie g) f) F_GAB_BEAM_ERR_STORE_UNCORR
    (winFault (strataEvent s (gabDie g) (0x18 + f) 0x0206 f 0) g 0x0206, true)
  else m

/-- The accumulator value of an element. -/
def accValue (s : State) (g f e r j : Nat) : Val :=
  let a := elemAddr s g f e r j
  if cfgFld s g f e F_TILE_CFG_ACC = 1 then codeVal 39 (leNat (memRead s.mem a 6)) else codeVal 23 (leNat (memRead s.mem a 4))

/-- The accumulator code that the pipeline still holds for an address, the latest one (04:R83). -/
def pipeCode (x : Frame) (a : Nat) : Option Nat := (x.pipe.reverse.find? fun c => c.addr == a).map (·.code)

/-- A result of the pipeline is written. A word whose read failed keeps its error unless the write covers it whole (04:R94). -/
def pipeWrite (s : State) (c : Accum) : State :=
  if c.wide then { s with mem := memWrite s.mem c.addr (leBytes 8 c.code), ecc := tabDel s.ecc (granule c.addr).1 }
  else if c.lost then s else { s with mem := memWrite s.mem c.addr (leBytes 4 c.code) }

/-- The results that the pipeline has had for six cycles are written, oldest first (04:R83). (Open points: assumption 7, DESIGN CHOICE.) -/
def pipeOut (s : State) (g f : Nat) : State :=
  let x := frameGet s g f
  if x.pipe.isEmpty then s
  else
    let t := (x.pipe.filter fun c => decide (c.due ≤ x.age)).foldl pipeWrite s
    frameMod t g f fun y => { y with pipe := y.pipe.filter fun c => decide (x.age < c.due) }

/-- A taken delivery adds into its element, as memory holds it or as the pipeline's latest result for it; its own result is written
at the end of the sixth cycle (03:R69, R70; 04:R83, R84, R93, R94). -/
def accumulate (s : State) (g f e k j : Nat) (start : Bool) (v : Val) : State :=
  let d := gabDie g
  let acc := cfgFld s g f e F_TILE_CFG_ACC
  let a := elemAddr s g f e k j
  let m := beamReadWord s g f a
  let s := m.1
  let x := frameGet s g f
  let old := if start then Val.fin false 0 0
    else match pipeCode x a with
      | some c => if acc = 1 then codeVal 39 c else codeVal 23 c
      | none => accValue s g f e k j
  let sum := valAdd old v
  let code := if acc = 1 then valCode 39 sum else valCode 23 sum
  let new := if acc = 1 then codeVal 39 code else codeVal 23 code
  let s := frameMod s g f fun x =>
    { x with touched := tabPut x.touched e (tabGet x.touched e 0 ||| 2 ^ j), pipe := x.pipe ++ [⟨x.age + 6, a, code, acc == 1, m.2⟩] }
  let bad := valFinite old && valFinite v && !(valFinite new)
  let s := if bad then count s (R_GAB_BEAM_NF_ACC d f) 1 else s
  let s := if valFinite v then s else count s (R_GAB_BEAM_NF_IN d f) 1
  if bad || !(valFinite v) then setTile s g f e F_TILE_STATUS_NONFINITE 1 else s

/-- The pass that delivers next in column `j`, with its place in the array and the wavefront. Column j of a wavefront
enters 256 + j cycles after the wavefront's last issue cycle, column 0 first (02:R29; 04:R83). -/
def nextDelivery (x : Frame) (j : Nat) : Option (Nat × PassRec × Nat) :=
  match (indexed x.passes).find? fun q => decide (tabGet q.2.done j 0 < q.2.desc.w + 1) with
  | none => none
  | some (i, p) =>
    let k := tabGet p.done j 0
    if p.start + (k + 1) * issueCycles p.statFmt + 255 + j ≤ x.age ∧ (j = 0 ∨ k < tabGet p.done (j - 1) 0) then some (i, p, k)
    else none

/-- Every column of a pass has delivered: it leaves the array, and a draining pass's tile waits for its cycle D, six
cycles after the last entry (04:R79, R92). A pass whose LAST wavefront was refused drains nothing (assumption 15). -/
def retirePass (s : State) (g f i : Nat) (p : PassRec) : State :=
  let e := tagEntry p.desc.outTag
  let s := frameMod s g f fun x => { x with passes := x.passes.eraseIdx i }
  if tagDrains p.desc.outTag && p.verdicts.getLast? != some .refused then
    let rows := activeRows s g f e
    let d := p.start + (p.desc.w + 1) * issueCycles p.statFmt + 516
    frameMod s g f fun x => { x with drains := x.drains ++ [⟨e, rows, d, false, none, [], [], 0, [], []⟩] }
  else s

/-- What column `j` of a frame delivers for wavefront `k` of a pass: its value, and the products flushed and overflowed. -/
def deliverySum (x : Frame) (p : PassRec) (k j : Nat) : Val × Nat × Nat :=
  let t := if p.desc.slot = 0 then (x.tileH, x.tsclH) else (x.tileE, x.tsclE)
  columnSum p (t.1.getD j []) (t.2.getD j []) k

/-- BEAM_DELIVERY: the next column sum of column `j` enters the beam, once the results due are written. The column's elements and
scales are those that its slot holds, as the beads read them (02:R26, R29). A column's products count as its sum enters the
beam. (Open points: assumption 41, DEDUCED.) -/
def beamDelivery (s : State) (g f j : Nat) : State :=
  let s := pipeOut s g f
  match nextDelivery (frameGet s g f) j with
  | none => s
  | some (i, p, k) =>
    let r := if j = 0 then enterWave s g f p k else (s, p.verdicts.getD k .refused)
    let s := r.1
    let c := deliverySum (frameGet s g f) p k j
    let p := { p with done := tabPut p.done j (k + 1), verdicts := if j = 0 then p.verdicts ++ [r.2] else p.verdicts,
                      got := if j = 255 then { p.got with lanes := p.got.lanes.drop 1 } else p.got }
    let s := frameMod s g f fun x => { x with passes := x.passes.set i p }
    let s :=
      if bitOf p.colMask j then
        let s := count s (R_GAB_FRM_PROD_FLUSH (gabDie g) f) c.2.1
        let s := count s (R_GAB_FRM_RANGE_OVF (gabDie g) f) c.2.2
        match r.2 with
        | .taken => accumulate s g f (tagEntry p.desc.outTag) k j (tagStarts p.desc.outTag) c.1
        | _ => s
      else s
    if j = 255 ∧ k + 1 = (p.desc.w + 1) then retirePass s g f i p else s

/-- The meaning of BEAM_DELIVERY. -/
def execBeamDelivery (g : Fin 16) (f : Fin 8) (j : Fin 256) (ups : List Before) (s : State) :
    Host.Outcome State Fault Refusal := .next (beamDelivery (upsets s ups) g f j)

/-! ### The output pipeline (04:R88-R93). -/

/-- An activation function (04:R89) on an FP32 value. (Open points: assumption 33, DESIGN CHOICE.) -/
def actFn (code : Nat) (x : Val) : Val :=
  let pos := match x with | .fin n m _ => !n && m != 0 | .inf n => !n | .nan => false
  match x with
  | .nan => .nan
  | .inf n =>
    (match code with
     | 0 => x
     | 1 => if n then .fin false 0 0 else x
     | 2 => if n then .fin false 0 0 else x
     | 3 => if n then .fin false 0 0 else .fin false 1 0
     | 4 => .fin n 1 0
     | 5 => if n then .fin true 0 0 else x
     | 6 => if n then .fin true 0 0 else x
     | 8 => if n then .fin false 0 0 else .fin false 1 0
     | 9 => if n then .fin false 0 0 else x
     | 10 => .fin false 0 0
     | 11 => .fin false 0 0
     | _ => if n then .fin true 0 0 else .fin false 1 0)
  | .fin n m e =>
    (match code with
     | 0 => x
     | 1 => if pos then x else .fin false 0 0
     | 2 => if pos then fp32Round (valMul x x) else .fin false 0 0
     | 8 => if pos then .fin false 1 0 else .fin false 0 0
     | 9 => if pos then fp32Round (valMul x (.fin false 2 0)) else .fin false 0 0
     | _ => actBound code n m e)

/-- The rounding of element `i` of a conversion under a recipe word (03:R61). -/
def siteRounding (s : State) (w : Word) (kind site i : Nat) : Rounding :=
  if rcpRound w = 1 then .stoch (srBits s.rcp.seed kind s.step site i) else .nearest

/-- Whether an output element counts as non-finite: its code, or its block's scale 0xFF (04:R93). -/
def outNonFinite (fmt code scale : Nat) : Bool := scale == 255 || !(valFinite (fmtVal fmt code))

/-- Convert and write one row of a drain under a recipe kind: the row at `dst`, its scale bytes at `sc`. The answers are the
state, the non-finite elements and the saturations (04:R90). -/
def writeRow (s : State) (g f kind site dst sc index : Nat) (vs : List Val) : State × Nat × Nat :=
  let w := recipe s kind
  let c := convRow w (fun i => siteRounding s w kind site (index + i)) vs
  let s := unitWrite s g f false dst (packCodes (rcpFmt w) c.1)
  let s := if rcpBlock w = 0 then s else unitWrite s g f false sc (c.2.1.map (BitVec.ofNat 8))
  let nf := (indexed c.1).filter fun p => outNonFinite (rcpFmt w) p.2 (c.2.1.getD (p.1 / 32) 0)
  (s, nf.length, c.2.2)

/-- Rank of two top-k entries: descending by value, NaN first, the lower column first among equals (04:R91). -/
def rankBefore (a b : Nat × Val) : Bool :=
  match a.2, b.2 with
  | .nan, .nan => decide (a.1 < b.1)
  | .nan, _ => true
  | _, .nan => false
  | x, y => valLt y x || (valEq x y && decide (a.1 < b.1))

/-- Insert into a ranked list. -/
def rankInsert (a : Nat × Val) : List (Nat × Val) → List (Nat × Val)
  | [] => [a]
  | b :: t => if rankBefore a b then a :: b :: t else b :: rankInsert a t

/-- The top-k record of a row (04:R91). -/
def topkRecord (k colBase touched : Nat) (zs : List Val) : List Byte × Bool :=
  let all := (indexed zs).filter fun p => bitOf touched p.1
  let top := (all.foldl (fun l p => rankInsert p l) []).take k
  let val i := match top[i]? with | some p => (fp32Of p.2).toNat | none => 0xFF800000
  let pos i := match top[i]? with | some p => (colBase + p.1) % 65536 | none => 0xFFFF
  ((List.range 8).flatMap (fun i => leBytes 4 (val i)) ++ (List.range 8).flatMap (fun i => leBytes 2 (pos i))
    ++ List.replicate 16 0#8, top.any fun p => !(valFinite p.2))

/-- Element bytes of an auxiliary format. -/
def auxBytes (fmt : Nat) : Nat := if fmt = 8 then 4 else 2

/-- Read a vector of `n` elements of a wide format. -/
def readWide (s : State) (g a fmt n : Nat) : State × List Val :=
  let b := if fmt = 8 then 4 else 2
  let r := winRead s g a (n * b)
  (r.1, (List.range n).map fun i => fmtVal fmt (fieldLE r.2 (i * b) b))

/-- Read the accumulators of row r, each 64-bit word once through the beam pipeline (04:R92, R94). (Open points: assumption 13, DEDUCED.) -/
def readRow (s : State) (g f e r : Nat) : State × List Val :=
  let words := dedupNext ((List.range 256).map fun j => elemAddr s g f e r j / 8 * 8)
  let t := words.foldl (fun s a => (beamReadWord s g f a).1) s
  (t, (List.range 256).map fun j => accValue t g f e r j)

/-- Whether a drain reads the tile: not under NONE without a stash, and not without a program (04:R86, R92). (Open points: assumption 82, DEDUCED.) -/
def drainReads (q : Drain) : Bool :=
  match q.prog with | some p => !(p.outMode == 2 && p.stashDst == 0) | none => false

/-- Cycles from D until the tile is DONE (04:R92). -/
def drainLength (q : Drain) : Nat :=
  match q.prog with
  | some p => if p.outMode = 1 then q.rows + 32 else if drainReads q then q.rows + 24 else 1
  | none => 1

/-- Rows r's outputs: y, z and the product with the auxiliary row, and the writes of the main output under CONVERT and of
the stash; under TOPK the record is kept for its own cycle (04:R88, R90-R93). Under NONE nothing takes z, so the auxiliary
tile is not read. (Open points: assumption 82, DEDUCED.) -/
def drainRow (s : State) (g f : Nat) (q : Drain) (d : OutputDesc) (r : Nat) (vs : List Val) :
    State × Option (Nat × List Byte × Bool) :=
  let die := gabDie g
  let e := q.entry
  let touched := tabGet (frameGet s g f).touched e 0
  let ys := (indexed vs).map fun p =>
    if bitOf touched p.1 then
      let m := valMul p.2 (q.sv.getD p.1 (.fin false 0 0))
      fp32Round (if d.biasAddr != 0 then valAdd m (q.bias.getD p.1 (.fin false 0 0)) else m)
    else .fin false 0 0
  let zs := (indexed ys).map fun p => if bitOf touched p.1 then actFn d.act p.2 else .fin false 0 0
  let az := if d.auxAddr = 0 ∨ d.outMode = 2 then (s, zs)
    else
      let a := readWide s g (d.auxAddr + r * d.auxStride) d.auxFmt 256
      (a.1, (indexed zs).map fun p =>
        if bitOf touched p.1 then fp32Round (valMul p.2 (actFn d.auxFn (a.2.getD p.1 (.fin false 0 0)))) else .fin false 0 0)
  let main := if d.outMode = 0 then writeRow az.1 g f d.kind d.site (d.dst + r * d.dstStride) (d.dstScale + r * 8) (r * 256) az.2
    else (az.1, 0, 0)
  let stash := if d.stashDst = 0 then (main.1, 0, 0)
    else writeRow main.1 g f d.stashKind d.stashSite (d.stashDst + r * d.stashStride) (d.stashScale + r * 8) (r * 256) ys
  let s := count stash.1 (R_GAB_BEAM_NF_OUT die f) (main.2.1 + stash.2.1)
  let s := count s (R_GAB_FRM_SATURATE die f) (main.2.2 + stash.2.2)
  let s := if main.2.1 + stash.2.1 = 0 then s else setTile s g f e F_TILE_STATUS_NONFINITE 1
  let s := if main.2.2 + stash.2.2 = 0 then s else setTile s g f e F_TILE_STATUS_SATURATED 1
  (s, if d.outMode = 1 then (let t := topkRecord d.topkK d.colBase touched az.2; some (r, t.1, t.2)) else none)

/-- A top-k record is written (04:R91-R93). -/
def topkWrite (s : State) (g f e : Nat) (d : OutputDesc) (t : Nat × List Byte × Bool) : State :=
  let s := unitWrite s g f false (d.dst + t.1 * 64) t.2.1
  if t.2.2 then setTile (count s (R_GAB_BEAM_NF_OUT (gabDie g) f) 1) g f e F_TILE_STATUS_NONFINITE 1 else s

/-- The program that runs at cycle D: each OUTPUT consumed fewer than 512 cycles before it is a fault and takes no effect, and
the latest that is not is the program. A program stays that of the entry's later drains until another OUTPUT or a TILE
(04:R86, R87). (Open points: assumption 82, DEDUCED.) -/
def drainProg (s : State) (g f e d : Nat) : State × Option OutputDesc :=
  let ps := tabGet (frameGet s g f).progs e []
  let late := ps.takeWhile fun p => decide (d < p.2 + 512)
  let good := ps.dropWhile fun p => decide (d < p.2 + 512)
  let s := late.foldl (fun s _ => beamFault s g f) s
  let s := if late.isEmpty then s else frameMod s g f fun x => { x with progs := tabPut x.progs e good }
  (s, good.head?.map Prod.fst)

/-- s[j] and b[j] of a drain's program (04:R88). (Open points: assumption 82, DEDUCED.) -/
def drainVectors (s : State) (g : Nat) (d : OutputDesc) : State × List Val × List Val :=
  let c := if d.colscaleAddr = 0 then (s, List.replicate 256 (Val.fin false 1 0)) else readWide s g d.colscaleAddr 8 256
  let b := if d.biasAddr = 0 then (c.1, []) else readWide c.1 g d.biasAddr 8 256
  (b.1, c.2.map fun x => fp32Round (valMul (fp32Val d.scaleT) x), b.2)

/-- DRAIN_START: the first waiting tile drains once its D has come, no earlier than the cycle after the last read of the
drain before it, nor in the cycle of one that reads nothing (04:R81, R92). DRAIN_ENTRY names the drain that started last.
(Open points: assumption 82, DEDUCED.) -/
def drainStart (s : State) (g f : Nat) : State :=
  let x := frameGet s g f
  match (indexed x.drains).find? fun q => !q.2.started with
  | some (i, q) =>
    let d := Nat.max q.d x.readEnd
    if x.age < d then s
    else
      let r := drainProg s g f q.entry d
      let v := match r.2 with
        | some p => if p.outMode = 2 ∧ p.stashDst = 0 then (r.1, [], []) else drainVectors r.1 g p
        | none => (r.1, [], [])
      let q := { q with d := d, started := true, prog := r.2, sv := v.2.1, bias := v.2.2 }
      let s := frameMod v.1 g f fun x =>
        { x with drains := x.drains.set i q, readEnd := if drainReads q then d + q.rows else d + 1 }
      let s := setTile s g f q.entry F_TILE_STATUS_STATE 2
      let s := setFld s (R_GAB_BEAM_STATUS (gabDie g) f) F_GAB_BEAM_STATUS_DRAIN_ENTRY q.entry
      raise s (R_GAB_BEAM_STATUS (gabDie g) f) F_GAB_BEAM_STATUS_DRAINING
  | none => s

/-- The meaning of DRAIN_START. -/
def execDrainStart (g : Fin 16) (f : Fin 8) (ups : List Before) (s : State) : Host.Outcome State Fault Refusal :=
  .next (drainStart (upsets s ups) g f)

/-- One cycle of a drain, the `t`-th from its D (04:R92): row t is read, row t - 24 is written, the record of row t - 32 is
written. -/
def drainCycle (s : State) (g f i : Nat) : State :=
  match (frameGet s g f).drains[i]? with
  | none => s
  | some q =>
    if !q.started || decide ((frameGet s g f).age < q.d + q.t) || decide (drainLength q ≤ q.t) then s
    else
      match q.prog with
      | none => frameMod s g f fun x => { x with drains := x.drains.set i { q with t := q.t + 1 } }
      | some p =>
        let rd := if drainReads q && decide (q.t < q.rows) then
            let r := readRow s g f q.entry q.t
            (count r.1 (R_GAB_BEAM_DRAIN_ROWS (gabDie g) f) 1, q.held ++ [(q.t, r.2)])
          else (s, q.held)
        let wr := match rd.2 with
          | h :: t => if h.1 + 24 = q.t then (let w := drainRow rd.1 g f q p h.1 h.2; (w.1, t, q.recs ++ w.2.toList)) else (rd.1, rd.2, q.recs)
          | [] => (rd.1, [], q.recs)
        let tk := match wr.2.2 with
          | h :: t => if h.1 + 32 = q.t then (topkWrite wr.1 g f q.entry p h, t) else (wr.1, wr.2.2)
          | [] => (wr.1, [])
        frameMod tk.1 g f fun x =>
          { x with drains := x.drains.set i { q with t := q.t + 1, held := wr.2.1, recs := tk.2 } }

/-- DRAIN_COMPLETE: a tile is DONE the cycle after its drain's last write issued, unless a second drain of its entry waits or reads
behind it: the entry then stays in DRAIN until that one ends. DRAIN_ENTRY names the drain that started last of those that run.
(Open points: assumption 9, DESIGN CHOICE; assumption 82, DEDUCED.) -/
def drainComplete (s : State) (g f : Nat) : State :=
  let x := frameGet s g f
  match (indexed x.drains).find? fun q => q.2.started && decide (drainLength q.2 ≤ q.2.t) && decide (q.2.d + drainLength q.2 ≤ x.age) with
  | some (i, q) =>
    let e := q.entry
    let rest := x.drains.eraseIdx i
    let s := frameMod s g f fun x => { x with drains := rest }
    let s := if rest.any fun r => r.entry == e then s else setTile s g f e F_TILE_STATUS_STATE 3
    let s := setTile s g f e F_TILE_STATUS_DRAIN_CNT
      (fld s (R_GAB_BEAM_TILE_STATUS (gabDie g) f e) F_TILE_STATUS_DRAIN_CNT + 1)
    match (rest.filter (·.started)).getLast? with
    | some r => setFld s (R_GAB_BEAM_STATUS (gabDie g) f) F_GAB_BEAM_STATUS_DRAIN_ENTRY r.entry
    | none => setFld s (R_GAB_BEAM_STATUS (gabDie g) f) F_GAB_BEAM_STATUS_DRAINING 0
  | none => s

/-- The meaning of DRAIN_COMPLETE. -/
def execDrainComplete (g : Fin 16) (f : Fin 8) (s : State) : Host.Outcome State Fault Refusal := .next (drainComplete s g f)

/-- What a frame's beam does in one cycle: the results due are written, drains start, so that a delivery of cycle D finds DRAIN, the
column sums enter, and the drains run (04:R81, R83, R92). -/
def beamCycle (s : State) (g f : Nat) : State :=
  let s := pipeOut s g f
  let n := (frameGet s g f).drains.length
  let s := (List.range n).foldl (fun s _ => drainStart s g f) s
  let s := if (frameGet s g f).passes.isEmpty then s else (List.range 256).foldl (fun s j => beamDelivery s g f j) s
  (List.range n).foldl (fun s i => drainCycle s g f i) s

end Sys2Proof.Machine
end

