-- ==== Sys2Proof/Machine/Operands.lean ====
section
/-! DEFINITION. The operand fields of the commands: which parameter bits each opcode's table defines (15:R342, R352,
R371; 03:R72; 06:R148-R152; 08:R184; 09:R211; 10:R244; 11:R270; 12:R292; 13:R311; 14:R338; 16:R384, R390; 17:R413;
18:R431; 19:R446; 20:R468), and how a field is read. -/
namespace Sys2Proof.Machine

/-- The fields that an opcode's table defines: first bit and length in bits, in the 48 parameter bytes. An opcode with an
OP byte has the fields of every OP. None for an opcode that 15:R352 does not list. (Open points: assumption 30, DEDUCED.) -/
def parFields (op : Nat) : Option (List (Nat × Nat)) :=
  match op with
  | 0x0101 => some []
  | 0x0102 => some []
  | 0x0103 => some [(0, 8)]
  | 0x0110 => some [(0, 9), (32, 256), (288, 64)]
  | 0x0120 => some [(0, 8)]
  | 0x0121 => some [(0, 8)]
  | 0x0130 => some []
  | 0x0131 => some [(0, 16)]
  | 0x0132 => some [(0, 8)]
  | 0x0140 => some [(0, 1), (64, 64)]
  | 0x0201 => some [(0, 8), (64, 96)]
  | 0x0202 => some [(0, 8)]
  | 0x0203 => some [(0, 24), (32, 48), (128, 64)]
  | 0x0204 => some [(0, 8), (64, 64)]
  | 0x0205 => some [(0, 16)]
  | 0x0310 => some [(0, 16), (32, 32)]
  | 0x0311 => some [(0, 8), (16, 16)]
  | 0x0312 => some [(0, 8), (64, 128)]
  | 0x0313 => some [(0, 8), (64, 72)]
  | 0x0320 => some [(0, 4), (8, 4)]
  | 0x0321 => some [(64, 64)]
  | 0x0401 => some [(0, 8), (64, 64)]
  | 0x0402 => some [(0, 8), (64, 64)]
  | 0x0403 => some [(0, 8), (64, 64)]
  | 0x0404 => some [(0, 8)]
  | 0x0501 => some [(64, 64)]
  | 0x0502 => some [(0, 128)]
  | 0x0503 => some [(64, 64)]
  | 0x0601 => some [(0, 8), (64, 64)]
  | 0x0602 => some [(0, 8)]
  | 0x0701 => some []
  | 0x0702 => some [(0, 16)]
  | 0x0703 => some []
  | 0x0704 => some [(0, 8), (64, 80), (192, 64)]
  | 0x0710 => some [(0, 10), (64, 256)]
  | 0x0720 => some [(0, 5), (16, 192), (256, 80)]
  | 0x0801 => some [(64, 64)]
  | 0x0802 => some [(0, 160)]
  | 0x0803 => some [(0, 8)]
  | 0x0804 => some [(0, 8)]
  | 0x0805 => some []
  | 0x0901 => some [(0, 8)]
  | 0x0902 => some [(32, 32)]
  | 0x0903 => some [(32, 72)]
  | 0x0910 => some [(0, 16), (64, 256)]
  | 0x0911 => some [(0, 321)]
  | 0x0A01 => some []
  | 0x0A02 => some [(0, 8)]
  | 0x0A03 => some [(0, 16)]
  | 0x0B01 => some [(0, 67), (80, 16), (128, 72)]
  | 0x0B02 => some [(0, 48)]
  | 0x0B03 => some [(0, 48)]
  | 0x0B04 => some [(0, 8)]
  | 0x0B10 => some [(0, 16)]
  | 0x0B11 => some []
  | 0x0B20 => some [(0, 8), (16, 16), (64, 64)]
  | 0x0B21 => some [(0, 10), (16, 8), (64, 128)]
  | _ => none

/-- The mask of the parameter bits that an opcode's table defines. -/
def parMask (op : Nat) : Nat :=
  ((parFields op).getD []).foldl (fun a f => a ||| ((2 ^ f.2 - 1) <<< f.1)) 0

/-- Whether a parameter bit that the opcode's table does not define is non-zero (15:R342). (Open points: assumption 30, DEDUCED.) -/
def parsUndefined (op : Nat) (par : List Byte) : Bool := leNat par ||| parMask op != parMask op

/-- A parameter byte. -/
def parByte (par : List Byte) (i : Nat) : Byte := BitVec.ofNat 8 (fieldLE par i 1)
/-- Two parameter bytes. -/
def parHalf (par : List Byte) (i : Nat) : Half := BitVec.ofNat 16 (fieldLE par i 2)
/-- Four parameter bytes. -/
def parWord (par : List Byte) (i : Nat) : Word := BitVec.ofNat 32 (fieldLE par i 4)
/-- Eight parameter bytes. -/
def parDWord (par : List Byte) (i : Nat) : DWord := BitVec.ofNat 64 (fieldLE par i 8)

end Sys2Proof.Machine
end

