-- ==== Sys2Proof/Machine/Ports.lean ====
section
/-! DEFINITION. Cable ports by their package-wide numbers (01:R14; 13:R296, R297), what goes out on them, and the
management ports (15:R354, R355, R357). -/
namespace Sys2Proof.Machine

/-- The Feldspar of a port number. -/
def portDie (p : Nat) : Nat := fldDie (p / 6)
/-- The local port of a port number. -/
def portLoc (p : Nat) : Nat := p % 6
/-- STATE of a port: 4 is UP. -/
def portState (s : State) (p : Nat) : Nat := fld s (R_FLD_PORT_STATUS (portDie p) (portLoc p)) F_FLD_PORT_STATUS_STATE
/-- ACT_MODE of a port: 1 Yoger-3, 2 Yoger-2, 3 Ethernet. -/
def portMode (s : State) (p : Nat) : Nat := fld s (R_FLD_PORT_STATUS (portDie p) (portLoc p)) F_FLD_PORT_STATUS_ACT_MODE
/-- Whether a port is UP. -/
def portUp (s : State) (p : Nat) : Bool := portState s p == 4
/-- Whether a port is UP in a Yoger mode. -/
def portYoger (s : State) (p : Nat) : Bool := portUp s p && (portMode s p == 1 || portMode s p == 2)
/-- MODULE_ID of a port's cable peer. -/
def portPeer (s : State) (p : Nat) : Nat := (ctrGet s (R_FLD_PORT_PEER_ID (portDie p) (portLoc p))).toNat
/-- This module's MODULE_ID. -/
def moduleId (s : State) : Nat := (ctrGet s R_SCH_MODULE_ID).toNat

/-- The link-local IPv6 address formed from a MAC address, most significant byte first (13:R311; 15:R354): FE80::/64 and the
modified EUI-64 of the MAC. (Open points: assumption 90, PRESUMED.) -/
def linkLocal (mac : Nat) : Nat :=
  0xFE80 * 2 ^ 112 + ((mac / 2 ^ 24 % 2 ^ 24) ^^^ 0x020000) * 2 ^ 40 + 0xFFFE * 2 ^ 24 + mac % 2 ^ 24
/-- MAC address of a cable port in Ethernet mode (13:R305). -/
def portMac (s : State) (p : Nat) : Nat := (ctrGet s R_SCH_MAC_BASE).toNat + p
/-- MAC address of a management port (15:R354). -/
def mgmtMac (s : State) (k : Nat) : Nat := (ctrGet s R_SCH_MAC_BASE).toNat + 48 + k
/-- A number in network byte order. -/
def netBytes (n x : Nat) : List Byte := (leBytes n x).reverse

/-- Kinds of control frame on a cable (13:R303). -/
def frCredit : Nat := 1
/-- Cable stop notice. -/
def frStop : Nat := 2
/-- Mica advertisement. -/
def frMicaAd : Nat := 3
/-- Mica retirement acknowledgement. -/
def frMicaAck : Nat := 4
/-- Ring configuration hello. (Open points: assumption 50, DESIGN CHOICE.) -/
def frRingCfgHello : Nat := 6
/-- Ring start hello. -/
def frRingHello : Nat := 7
/-- Ring abort token. -/
def frRingAbort : Nat := 8
/-- Ring map of the repass phase, and of the closing phase. (Open points: assumption 50, DESIGN CHOICE.) -/
def frRingMap : Nat := 9
/-- Pod relay. (Open points: assumption 27, DESIGN CHOICE.) -/
def frPodRelay : Nat := 10
/-- Pod report. -/
def frPodReport : Nat := 11
/-- Lane retirement. -/
def frLane : Nat := 12
/-- Transfer data. (Open points: assumption 39, DEDUCED.) -/
def frData : Nat := 16
/-- Ring block. -/
def frRingBlock : Nat := 17
/-- NAK. -/
def frNak : Nat := 18
/-- Identity frame. -/
def frIdentity : Nat := 20
/-- Request for a ring block again. -/
def frRingAgain : Nat := 21

/-- What a port holds besides its registers. -/
def portGet (s : State) (p : Nat) : PortX := tabGet s.ports p PortX.empty
/-- Set it. -/
def portSet (s : State) (p : Nat) (x : PortX) : State := { s with ports := tabPut s.ports p x }
/-- A piece of a frame that is no Mica block. -/
def plainBlock (b : List Byte) : WireBlock := ⟨b, b, none, false⟩
/-- The payload of a frame on the wire. -/
def frameBytes (f : HeldFrame) : List Byte := f.blocks.flatMap WireBlock.wire
/-- ACK of a port's frames: the last SEQ accepted in order (13:R303). (Open points: assumption 89, DESIGN CHOICE.) -/
def portAckSeq (s : State) (p : Nat) : Nat := ((portGet s p).rxSeq + 65535) % 65536
/-- A link frame on the wire: the 16-byte header with SEQ, ACK and TYPE, the payload, CRC-32C (13:R303). (Open points: assumption 89, DESIGN CHOICE.) -/
def linkFrame (kind seq ack : Nat) (pay : List Byte) : List Byte :=
  let f := leBytes 2 seq ++ leBytes 2 ack ++ leBytes 1 kind ++ List.replicate 11 0#8 ++ pay
  f ++ leBytes 4 (crc32c f).toNat
/-- Put a frame on a cable, with the acknowledgement that is due. (Open points: assumption 89, DESIGN CHOICE.) -/
def frameOut (s : State) (p kind seq : Nat) (pay : List Byte) : State :=
  emit s (.frame p kind seq (linkFrame kind seq (portAckSeq s p) pay))
/-- Send a frame: it takes the next SEQ and stays in the retry buffer until it is acknowledged (13:R303). A port in
electrical idle wakes first (18:R426). -/
def sendBlocks (s : State) (p kind : Nat) (bs : List WireBlock) : State :=
  let x := portGet s p
  let f : HeldFrame := ⟨x.txSeq, kind, bs, 0⟩
  let s := { s with asleep := s.asleep.filter (· ≠ p) }
  frameOut (portSet s p { x with txSeq := (x.txSeq + 1) % 65536, held := x.held ++ [f] }) p kind x.txSeq (frameBytes f)
/-- Send a frame that carries no Mica block. -/
def sendFrame (s : State) (p kind : Nat) (bytes : List Byte) : State := sendBlocks s p kind [plainBlock bytes]

/-- Send bytes in frames of at most `n`. -/
def sendLong (s : State) (p kind n : Nat) (bytes : List Byte) : State :=
  (chunks n (bytes.length + 1) bytes).foldl (fun s b => sendFrame s p kind b) s

/-! ### The management ports. -/

/-- The Schist that serves a management port, if one of its pair runs (15:R354). -/
def mgmtSchist (s : State) (k : Nat) : Option Nat :=
  [schDie (2 * k), schDie (2 * k + 1)].find? (dieRunning s ·)

/-- The header of a vendor message (15:R355). -/
def msgHeader (ty session counter queue : Nat) (body : List Byte) : List Byte :=
  leBytes 2 0x4B57 ++ [1#8, BitVec.ofNat 8 ty] ++ leBytes 4 session ++ leBytes 8 counter ++ leBytes 2 body.length
    ++ leBytes 2 queue ++ List.replicate 12 0#8
/-- The TAG of a message (15:R357). -/
def msgTag (key hdrBody : List Byte) : List Byte := kmac256 key hdrBody "WK-MSG" 16
/-- A whole message. -/
def msgBytes (key : List Byte) (ty session counter queue : Nat) (body : List Byte) : List Byte :=
  let m := msgHeader ty session counter queue body ++ body
  m ++ msgTag key m
/-- Put a message out on a management port, if its link is up. -/
def mgmtOut (s : State) (k : Nat) (m : List Byte) : State :=
  if (mgmtSchist s k).isSome then emit s (.mgmt k m) else s

/-- A session's unregistered state. -/
def sesGet (s : State) (i : Nat) : Ses := tabGet s.ses i ⟨[], 0, [], 0, 0, 0, [], false⟩
/-- Set it. -/
def sesSet (s : State) (i : Nat) (x : Ses) : State := { s with ses := tabPut s.ses i x }
/-- STATE of a session index: 0 FREE, 1 ATTACHED, 2 DETACHED, 3 CLOSING. -/
def sesState (s : State) (i : Nat) : Nat := fld s (R_SCH_SES_STATE i) F_SCH_SES_STATE_STATE
/-- Send a message of a session under its Ks. -/
def sesSend (s : State) (i ty queue : Nat) (body : List Byte) : State :=
  let x := sesGet s i
  if (mgmtSchist s x.port).isSome then
    let m := msgBytes x.ks ty (regGet s (R_SCH_SES_ID i)).toNat (x.tx + 1) queue body
    emit (sesSet s i { x with tx := x.tx + 1 }) (.mgmt x.port m)
  else s

end Sys2Proof.Machine
end

