-- ==== Sys2Proof/Machine/Replay.lean ====
section
/-! DEFINITION. The replay log (16:R385-R387): how a record reaches the region, wraps, stops and is lost. -/
namespace Sys2Proof.Machine

/-- Whether the log runs. -/
def rplRunning (s : State) : Bool := flag s R_SCH_RPL_STATUS F_SCH_RPL_STATUS_RUNNING
/-- Whether Shale and LPDDR6 are in self-refresh (18:R425). -/
def memAsleep (s : State) : Bool := decide (2 ≤ pwState s)

/-- The log stops. (Open points: assumption 64, DEDUCED.) -/
def rplStop (s : State) (cause : Nat) : State :=
  setFld (setFld s R_SCH_RPL_STATUS F_SCH_RPL_STATUS_RUNNING 0) R_SCH_RPL_STATUS F_SCH_RPL_STATUS_STOP_CAUSE cause

/-- A record is lost. -/
def rplLose (s : State) : State :=
  { regInc s R_SCH_RPL_DROP 1 with rpl := { s.rpl with lost := s.rpl.lost + 1 } }

/-- Bytes of a record: header, content, zeros up to `len` bytes (16:R386). -/
def rplBytes (ty len seq : Nat) (step : Nat) (content : List Byte) : List Byte :=
  let head := leBytes 2 ty ++ leBytes 2 0 ++ leBytes 4 len ++ leBytes 8 seq ++ leBytes 8 step
  let tail := leBytes 4 0 ++ content ++ List.replicate (len - 32 - content.length) 0#8
  head ++ leBytes 4 (crc32c (head ++ leBytes 4 0 ++ tail)).toNat ++ tail

/-- Whether the logger's Schist reaches the home of every line of a range. -/
def rplReach (s : State) (a n : Nat) : Bool :=
  (List.range ((n + 127) / 128)).all fun i => homeUp s (writerDie s) (a + 128 * i)

/-- Write one record at the next offset; the answer says whether it could be written. (Open points: assumption 64, DEDUCED.) -/
def rplTry (s : State) (ty len : Nat) (content : List Byte) : State × Bool :=
  let off := (ctrGet s R_SCH_RPL_OFFSET).toNat
  let a := (ctrGet s R_SCH_RPL_BASE).toNat + off
  let seq := (ctrGet s R_SCH_RPL_SEQ).toNat + 1
  if rplReach s a len then
    let s := dropCopies s (fun x => decide (lineOf a * 128 ≤ x) && decide (x < a + len)) false
    let w := writeMem s ⟨2, writerDie s⟩ 0x01 a (rplBytes ty len seq s.step.toNat content)
    (if w.2 then ctrSet (ctrSet w.1 R_SCH_RPL_SEQ (BitVec.ofNat 64 seq)) R_SCH_RPL_OFFSET (BitVec.ofNat 64 (off + len)) else w.1, w.2)
  else (s, false)

/-- Write one record; one that cannot be written is lost (16:R385). (Open points: assumption 64, DEDUCED.) -/
def rplPut (s : State) (ty len : Nat) (content : List Byte) : State :=
  let r := rplTry s ty len content
  if r.2 then r.1 else rplLose r.1

/-- Make room for a record of `len` bytes: PAD and wrap, or stop when full (16:R386). The answer says whether the log
still runs. (Open points: assumption 64, DEDUCED.) -/
def rplRoom (s : State) (len : Nat) : State × Bool :=
  let size := (regGet s R_SCH_RPL_SIZE).toNat * 1048576
  let off := (ctrGet s R_SCH_RPL_OFFSET).toNat
  if off + len ≤ size then (s, true)
  else if flag s R_SCH_RPL_STATUS F_SCH_RPL_STATUS_STOP_WHEN_FULL then
    (strataEvent (rplStop s 1) (writerDie s) 0xA3 0 0 0, false)
  else if size < len then (s, false)
  else
    let s := if off < size then rplPut s 0x00 (size - off) [] else s
    (regInc (ctrSet s R_SCH_RPL_OFFSET 0) R_SCH_RPL_WRAPS 1, true)

/-- Write the LOST record that is owed before the next record, when it can be written (16:R385). (Open points: assumption 64, DEDUCED.) -/
def rplLost (s : State) : State :=
  if s.rpl.lost = 0 then s
  else
    let r := rplRoom s 64
    if r.2 then
      let q := rplTry r.1 0x08 64 (leBytes 8 r.1.rpl.lost)
      if q.2 then { q.1 with rpl := { q.1.rpl with lost := 0 } } else q.1
    else r.1

/-- Write a record, with its LOST record first when one is owed. (Open points: assumption 25, DEDUCED.) -/
def rplRecord (s : State) (ty : Nat) (content : List Byte) : State :=
  let len := 32 + 32 * ceilDiv content.length 32
  let s := rplLost s
  if rplRunning s then
    let r := rplRoom s len
    if r.2 then rplPut r.1 ty len content else rplLose r.1
  else rplLose s

/-- Whether records are produced: the log runs, or it stopped because its region was full and counts them as lost (16:R386). (Open points: assumption 25, DEDUCED.) -/
def rplLogs (s : State) : Bool := rplRunning s || fld s R_SCH_RPL_STATUS F_SCH_RPL_STATUS_STOP_CAUSE == 1

/-- A record is produced: written while the log runs, held while LPDDR6 is in self-refresh (16:R385), counted as lost
after the log stopped because its region was full (16:R386). -/
def rplWrite (s : State) (ty : Nat) (content : List Byte) : State :=
  if rplRunning s then
    if memAsleep s then
      if s.rpl.held.length < 1024 then { s with rpl := { s.rpl with held := s.rpl.held ++ [(ty, content)] } }
      else rplLose s
    else rplRecord s ty content
  else if fld s R_SCH_RPL_STATUS F_SCH_RPL_STATUS_STOP_CAUSE = 1 then rplLose s
  else s

/-- At the return to RUN the held records are written in order. -/
def rplFlush (s : State) : State :=
  s.rpl.held.foldl (fun s r => rplWrite s r.1 r.2) { s with rpl := { s.rpl with held := [] } }

end Sys2Proof.Machine
end

