-- ==== Sys2Proof/Machine/Reply.lean ====
section
/-! DEFINITION. How a command ends (15:R343, R346, R347, R361, R366-R370; 16:R387): the reply and its ring, the COMMAND
record, pod reports, and sessions that close. -/
namespace Sys2Proof.Machine

/-- How a command ends: status, DATA, whether it was refused (00:R9), and the parameter block it read (16:R388). -/
structure Reply where
  status : Nat
  data : List Byte
  refused : Bool
  app : List Byte
deriving DecidableEq, Repr

/-- Completion with OK and DATA. -/
def Reply.ok (data : List Byte) : Reply := ⟨0, data, false, []⟩
/-- Refusal with a status. -/
def Reply.no (status : Nat) : Reply := ⟨status, [], true, []⟩
/-- Completion with a status and DATA. -/
def Reply.done (status : Nat) (data : List Byte) : Reply := ⟨status, data, false, []⟩

/-! ### Queues. -/

/-- Configuration fields of a queue. -/
def qFld (s : State) (q : Nat) (f : Fld) : Nat := fld s (R_SCH_Q_CFG q) f
/-- TAIL. -/
def qTail (s : State) (q : Nat) : Nat := fld s (R_SCH_Q_IDX q) F_SCH_Q_IDX_TAIL
/-- HEAD. -/
def qHead (s : State) (q : Nat) : Nat := fld s (R_SCH_Q_IDX q) F_SCH_Q_IDX_HEAD
/-- RPL_TAIL. -/
def qRplTail (s : State) (q : Nat) : Nat := fld s (R_SCH_Q_RPL_IDX q) F_SCH_Q_RPL_IDX_RPL_TAIL
/-- RPL_HEAD. -/
def qRplHead (s : State) (q : Nat) : Nat := fld s (R_SCH_Q_RPL_IDX q) F_SCH_Q_RPL_IDX_RPL_HEAD
/-- Entries of each ring of a queue; session rings have 256 (15:R345). -/
def qDepth (s : State) (q : Nat) : Nat :=
  if 32 ≤ q then 256 else if qFld s q F_SCH_Q_CFG_DEPTH_LOG2 = 0 then 0 else 2 ^ qFld s q F_SCH_Q_CFG_DEPTH_LOG2
/-- Difference of two indices modulo 65,536. -/
def idxDiff (a b : Nat) : Nat := (a + 65536 - b) % 65536
/-- The session that owns a queue. -/
def qSession (s : State) (q : Nat) : Option Nat :=
  if qFld s q F_SCH_Q_CFG_SESSION_OWNED = 1 then some (qFld s q F_SCH_Q_CFG_SESSION) else none
/-- The die of the Schist that serves a queue (15:R345). -/
def qSchist (s : State) (q : Nat) : Nat := schDie (schServing s (q % 4))
/-- The die of the Schist that has a taken command: the one that took it, and after its fence the one that serves its queue. -/
def tSchist (s : State) (t : Taken) : Nat := if dieRunning s t.schist then t.schist else qSchist s (t.src.queue.val % 64)
/-- Whether packets taken from a queue still owe a reply; a pod root's packet owes its summary, whatever its own command does. (Open points: assumption 26, DEDUCED.) -/
def qOwes (s : State) (q : Nat) : Bool :=
  (s.cmds.taken.any fun t => t.src.queue.val == q && !t.pod) ||
    s.podCmds.any fun p => match p.root with | some t => t.src.queue.val == q | none => false

/-! ### Sessions that close (15:R366). -/

/-- The queues of a session index. -/
def sesQueues (s : State) (i : Nat) : List Nat :=
  (List.range (fld s (R_SCH_SES_STATE i) F_SCH_SES_STATE_QUEUES)).map (fld s (R_SCH_SES_STATE i) F_SCH_SES_STATE_FIRST_QUEUE + ·)

/-- A CLOSING session whose commands have ended is FREE, and so are its queues. (Open points: assumption 18, DEDUCED.) -/
def sesRelease (s : State) (i : Nat) : State :=
  if sesState s i = 3 && (sesQueues s i).all fun q => !(qOwes s q) then
    let s := (sesQueues s i).foldl (fun s q =>
      let s := regSet (regSet (regSet s (R_SCH_Q_CFG q) 0) (R_SCH_Q_IDX q) 0) (R_SCH_Q_RPL_IDX q) 0
      { s with cmds := { s.cmds with nextSeq := tabDel s.cmds.nextSeq q } }) s
    let s := regSet (regSet (regSet s (R_SCH_SES_STATE i) 0) (R_SCH_SES_ID i) 0) (R_SCH_SES_LEASE i) 0
    { s with ses := tabDel s.ses i }
  else s

/-! ### The reply ring. -/

/-- The 32 bytes of a reply (15:R343). -/
def replyBytes (status op seq phase summary q : Nat) (data : List Byte) : List Byte :=
  leBytes 2 status ++ leBytes 2 op ++ leBytes 4 seq ++ [BitVec.ofNat 8 (phase + 2 * summary), BitVec.ofNat 8 q]
    ++ leBytes 2 0 ++ sliceZ data 0 20

/-- Replies of a session queue from slot number `i` on, `n` of them. -/
def sesReplies (s : State) (q i n : Nat) : List Byte :=
  (List.range n).flatMap fun k => tabGet s.cmds.sesRpl (q * 65536 + (i + k) % 65536 % 256) []

/-- Send replies of a queue to its session in REPLY messages of at most 32 (15:R356, R361). -/
def sesSendReplies (s : State) (i q from_ n : Nat) : State :=
  (List.range ((n + 31) / 32)).foldl (fun s k =>
    sesSend s i 0x12 q (sesReplies s q (from_ + 32 * k) (Nat.min 32 (n - 32 * k)))) s

/-- RPL_TAIL advances; PHASE alternates at the end of the ring, and draining ends with the last reply (15:R346, R347). -/
def replyAdvance (s : State) (q : Nat) : State :=
  let t := (qRplTail s q + 1) % 65536
  let s := setFld s (R_SCH_Q_RPL_IDX q) F_SCH_Q_RPL_IDX_RPL_TAIL t
  let s := if qDepth s q ≠ 0 && t % qDepth s q == 0 then
      setFld s (R_SCH_Q_CFG q) F_SCH_Q_CFG_PHASE (1 - qFld s q F_SCH_Q_CFG_PHASE)
    else s
  if qOwes s q then s else setFld s (R_SCH_Q_CFG q) F_SCH_Q_CFG_DRAINING 0

/-- Write a reply at RPL_TAIL of a queue, and send it to an ATTACHED session. -/
def putReply (s : State) (q : Nat) (bytes : List Byte) : State :=
  match qSession s q with
  | some i =>
    if sesState s i = 3 then sesRelease s i
    else
      let t := qRplTail s q
      let s := { s with cmds := { s.cmds with sesRpl := tabPut s.cmds.sesRpl (q * 65536 + t % 256) bytes } }
      let s := replyAdvance (emit s (.reply q bytes)) q
      if sesState s i = 1 then sesSendReplies s i q t 1 else s
  | none =>
    let s := if q < 32 ∧ qDepth s q ≠ 0 then
        let a := (ctrGet s (R_SCH_Q_RPL_BASE q)).toNat + qRplTail s q % qDepth s q * 32
        (postWrite s (qSchist s q) ⟨2, qSchist s q⟩ a bytes).1
      else s
    replyAdvance (emit s (.reply q bytes)) q

/-- The COMMAND record of a packet taken since START (16:R387, R388). (Open points: assumption 25, DEDUCED.) -/
def commandRecord (s : State) (t : Taken) (status : Nat) (reply : List Byte) : State :=
  if t.take ≤ s.rpl.first then s
  else rplWrite s 0x02 (leBytes 8 (t.take - s.rpl.first) ++ [if t.src.queue.val = 64 then 0xFF#8 else BitVec.ofNat 8 t.src.queue.val, 0#8]
    ++ leBytes 2 status ++ List.replicate 20 0#8 ++ sliceZ t.pkt 0 64 ++ reply ++ t.app)

/-- Whether the replies of a queue are written: those of a CLOSING session are discarded (15:R366). -/
def replyKept (s : State) (q : Nat) : Bool := match qSession s q with | some i => sesState s i != 3 | none => true

/-- Answer a packet: its reply, and its COMMAND record where a reply is written. -/
def answer (s : State) (t : Taken) (summary status : Nat) (data : List Byte) : State :=
  let q := t.src.queue.val
  if q = 64 then
    commandRecord s t status (replyBytes status t.op t.src.seq.toNat 0 summary 0xFF data)
  else
    let b := replyBytes status t.op t.src.seq.toNat (qFld s q F_SCH_Q_CFG_PHASE) summary q data
    if replyKept s q then commandRecord (putReply s q b) t status b else putReply s q b

/-! ### Pod reports (15:R367-R370). -/

/-- The members of the subtree of a member. -/
def podSubtree (es : List (Nat × Nat)) (c : Nat) : List Nat :=
  (indexed es).foldl (fun acc e => if e.1 = c || acc.contains e.2.2 then acc ++ [e.1] else acc) []
/-- The children of this member. -/
def podChildren (p : Pod) : List Nat := (indexed p.entries).filterMap fun e => if e.2.2 = p.me ∧ e.1 ≠ 0 then some e.1 else none
/-- The lowest-numbered Yoger port whose peer is a member (15:R367). -/
def podPort (s : State) (p : Pod) (m : Nat) : Option Nat :=
  (List.range 48).find? fun k => portYoger s k && portPeer s k == (p.entries.getD m (0, 0)).1
/-- The report of a subtree of which nothing is heard. -/
def podMissing (p : Pod) (c : Nat) : PodRep := ⟨ofBits (podSubtree p.entries c), 0x0109, c, 0⟩
/-- Join two reports: the lower failing member speaks. -/
def podJoin (a b : PodRep) : PodRep :=
  let f := if a.failMask = 0 then b else if b.failMask = 0 then a else if a.index ≤ b.index then a else b
  ⟨a.failMask ||| b.failMask, f.status, f.index, a.ok + b.ok⟩
/-- The report of one member's own status. -/
def podOwnRep (me : Nat) (own : Option Nat) : PodRep :=
  match own with
  | some 0 => ⟨0, 0, 0, 1⟩
  | some st => ⟨2 ^ me, st, me, 0⟩
  | none => ⟨2 ^ me, 0x0109, me, 0⟩
/-- The report of a packet: own status and children's reports, missing ones marked. -/
def podReport (c : PodCmd) : PodRep :=
  (podChildren c.pod).foldl (fun r k => podJoin r (tabGet c.reps k (podMissing c.pod k))) (podOwnRep c.pod.me c.own)
/-- The DATA bytes of a summary, which a report frame carries too (15:R370). -/
def podData (r : PodRep) : List Byte :=
  leBytes 8 r.failMask ++ leBytes 2 r.status ++ [BitVec.ofNat 8 r.index, BitVec.ofNat 8 r.ok]

/-- Report a packet if everything is in, or at once when forced: the root replies, another member tells its parent. -/
def podSettle (s : State) (id : Nat) (force : Bool) : State :=
  match s.podCmds.find? (·.id == id) with
  | some c =>
    if force || (c.own.isSome && (podChildren c.pod).all fun k => (tabFind c.reps k).isSome) then
      let r := podReport c
      let s := { s with podCmds := s.podCmds.filter fun x => x.id != id }
      match c.root with
      | some t => answer s t 1 (if r.failMask = 0 then 0 else 0x0108) (podData r)
      | none =>
        match podPort s c.pod (c.pod.entries.getD c.pod.me (0, 0)).2 with
        | some k => sendFrame s k frPodReport (podData r)
        | none => s
    else s
  | none => s

/-- This member's own status of a packet is known. -/
def podOwn (s : State) (id status : Nat) : State :=
  podSettle { s with podCmds := s.podCmds.map fun c => if c.id = id then { c with own := some status } else c } id false

/-- The reports of a packet, with the subtrees of children that no port reaches marked missing. -/
def podMark (s : State) (c : PodCmd) : PodCmd :=
  { c with reps := (podChildren c.pod).foldl (fun t k =>
      if (tabFind t k).isSome || (podPort s c.pod k).isSome then t else tabPut t k (podMissing c.pod k)) c.reps }

/-- Children that no port reaches any more: their subtrees are reported missing at once (15:R370). -/
def podLost (s : State) : State :=
  let s' := { s with podCmds := s.podCmds.map (podMark s) }
  s'.podCmds.foldl (fun s c => podSettle s c.id false) s'

/-- Send a pod packet to the children; a child that no port reaches is reported missing at once. (Open points: assumption 26, DEDUCED.) -/
def podRelay (s : State) (r : RelayPkt) : State :=
  let s := (podChildren r.pod).foldl (fun s k =>
    match podPort s r.pod k with
    | some port => sendFrame s port frPodRelay (leBytes 4 r.timeout ++ sliceZ r.pkt 0 64)
    | none => s) s
  podSettle { s with podCmds := s.podCmds.map fun (x : PodCmd) => if x.id = r.id then podMark s x else x } r.id false

/-! ### The end of a command. -/

/-- A taken command ends. -/
def finish (s : State) (t : Taken) (r : Reply) : State :=
  let t := if r.app.isEmpty then t else { t with app := r.app }
  let s := { s with cmds := { s.cmds with taken := s.cmds.taken.filter fun x => x.id != t.id } }
  let s := if r.refused then count s R_SCH_CMD_REFUSED 1 else s
  if t.pod then
    let s := if t.src.queue.val = 64 then answer s t 0 r.status r.data else s
    podOwn { s with podCmds := s.podCmds.map fun (c : PodCmd) =>
      if c.id = t.id then { c with root := c.root.map fun (u : Taken) => { u with app := t.app } } else c } t.id r.status
  else answer s t 0 r.status r.data

/-- The command waits: its reply comes later. -/
def defer (s : State) (t : Taken) (w : Wait) : State :=
  { s with cmds := { s.cmds with taken := s.cmds.taken ++ [{ t with wait := w }] } }

/-! ### The hold (15:R364). -/

/-- Whether the queues are held. -/
def held (s : State) : Bool := flag s R_SCH_HOLD F_SCH_HOLD_HELD

/-- The hold is cleared: pod packets that waited for it go to the children. (Open points: assumption 26, DEDUCED.) -/
def holdOff (s : State) : State :=
  if held s then
    let s := setFld s R_SCH_HOLD F_SCH_HOLD_HELD 0
    s.cmds.unsent.foldl podRelay { s with cmds := { s.cmds with unsent := [] } }
  else s

/-- The hold ends when no DETACHED session with policy HOLD remains. -/
def holdCheck (s : State) : State :=
  if (List.range 8).any fun i => sesState s i == 2 && flag s (R_SCH_SES_STATE i) F_SCH_SES_STATE_POLICY then s
  else holdOff s

end Sys2Proof.Machine
end

