-- ==== Sys2Proof/Machine/PowerState.lean ====
section
/-! DEFINITION. The power states (18:R425-R429): entry, exit, and the return to RUN. -/
namespace Sys2Proof.Machine

/-- Lose frame store and beam store of a Gabbro. -/
def loseFrameStores (s : State) (g : Nat) : State :=
  losePower (losePower s (frameBase g 0) (frameBase g 8)) (beamBase g 0) (beamBase g 8)

/-- Whether an address lies in frame store or beam store of a Gabbro. -/
def isFrameStore (g a : Nat) : Bool :=
  match regionBelow 0 a with
  | .frame o _ => o == g
  | .beam o _ => o == g
  | _ => false

/-- Registers of a frame that its power takes with it: status, slots, masks, tile entries. -/
def isFrameReg (k : Nat) : Bool :=
  let off := regOff k
  let o := (off - 0x101000) % 0x1000
  dieKind (regDie k) = .gabbro && decide (0x101000 ≤ off) && decide (off < 0x109000) &&
    (o == 0x004 || o == 0x014 || o == 0x018 || (decide (0x100 ≤ o) && decide (o < 0x180)) || o == 0x300 ||
      (decide (0x400 ≤ o) && decide (o < 0x800)))

/-- The frames are powered off: their state and stores are lost; GAB_FRAME_ENABLE is kept (18:R426). -/
def framesOff (s : State) : State :=
  let s := (List.range 16).foldl (fun s g => loseFrameStores (dropCopies s (isFrameStore g) true) g) s
  { s with frames := [], regs := tabDelIf s.regs isFrameReg }

/-- Every frame whose EN bit is 1 is to start, in the state that a frame reset leaves. -/
def framesOn (s : State) : State :=
  (List.range 16).foldl (fun s g =>
    (setBits 8 (regGet s (R_GAB_FRAME_ENABLE (gabDie g))).toNat).foldl (fun s f =>
      raise s (R_GAB_FRM_STATUS (gabDie g) f) F_GAB_FRM_STATUS_START_PENDING) s) s

/-- The block changes to a power state; each change is recorded. -/
def enterState (s : State) (st : Nat) : State :=
  let old := pwState s
  if st = old then s
  else
    let s := if 2 ≤ st ∧ old < 2 then framesOff s else s
    let s := setFld (setFld s R_SCH_RST_STATUS F_SCH_RST_STATUS_STATE st) R_SCH_RST_STATUS F_SCH_RST_STATUS_CHANGING 0
    let s := { s with asleep := if st = 3 then (List.range 48).filter (portYoger s) else [] }
    let s := if 2 ≤ old ∧ st < 2 then framesOn (rplFlush s) else s
    strataEvent s (writerDie s) 0xC1 0 st 0

/-- The cause of a return to RUN (18:R433). -/
def wakeCause (s : State) (cause opcode : Nat) : State :=
  regSet s R_SCH_RST_WAKE (fldSet (fldSet 0 F_SCH_RST_WAKE_CAUSE cause) F_SCH_RST_WAKE_OPCODE opcode)

/-- An exit follows the entry in progress at once (18:R428). (Open points: assumption 21, DEDUCED.) -/
def entryBack (s : State) (t : Taken) : State :=
  { s with cmds := { s.cmds with taken := s.cmds.taken.map fun (x : Taken) =>
      if x.id = t.id then { x with wait := match x.wait with | .state st _ => .state st true | w => w } else x } }

/-- The entry in progress is complete: the block is in its state, and its command is answered. -/
def entryDone (s : State) (t : Taken) (st : Nat) : State := finish (enterState s st) t (.ok [BitVec.ofNat 8 st])

/-- Return to RUN, for the cause given. An entry in progress completes first, and what caused the return goes on when the exit is
complete; in RUN nothing happens (18:R427, R428). (Open points: assumption 21, DEDUCED.) -/
def goRun (s : State) (cause opcode : Nat) : State :=
  let s := match stateEntry s with
    | some t => (match t.wait with
      | .state st _ => if st = 0 then s else entryDone s t st
      | _ => s)
    | none => s
  if pwState s = 0 then s else enterState (wakeCause s cause opcode) 0

/-- An access to memory that is powered off or in self-refresh returns the block to RUN and then proceeds (18:R427). (Open points: assumption 21, DEDUCED.) -/
def wakeAccess (s : State) (cause : Nat) : State := if memAsleep s then goRun s cause 0 else s

end Sys2Proof.Machine
end

