-- ==== Sys2Proof/Machine/Cmd.lean ====
section
/-! DEFINITION. How a command packet becomes a command (15:R341, R342, R350; 14:R327; 18:R427): its parameters, the
checks before its own, and its end. -/
namespace Sys2Proof.Machine

/-- A command's own part: a taken command and a state give the new state and the reply, or none when the reply comes
later. -/
abbrev CmdFn := Taken → State → State × Option Reply

/-- Refuse. -/
def refuse (s : State) (status : Nat) : State × Option Reply := (s, some (.no status))
/-- Complete with OK. -/
def okay (s : State) (data : List Byte) : State × Option Reply := (s, some (.ok data))
/-- The command has read a parameter block: a reply, now or later, carries it to the COMMAND record (16:R388). (Open points: assumption 25, DEDUCED.) -/
def withApp (t : Taken) (block : List Byte) (r : State × Option Reply) : State × Option Reply :=
  match r.2 with
  | some x => (r.1, some { x with app := block })
  | none => ({ r.1 with cmds := { r.1.cmds with taken := r.1.cmds.taken.map fun (u : Taken) =>
      if u.id = t.id then { u with app := block } else u } }, none)
/-- Refuse when a condition holds, else go on. -/
def refuseIf (c : Bool) (status : Nat) (s : State) (k : State × Option Reply) : State × Option Reply :=
  if c then refuse s status else k

/-- The 48 parameter bytes that hold fields (offset, length, value). -/
def parBytes (fs : List (Nat × Nat × Nat)) : List Byte :=
  leBytes 48 (fs.foldl (fun a f => a ||| ((f.2.2 % 2 ^ (8 * f.2.1)) <<< (8 * f.1))) 0)

/-- The packet of a command given directly. (Open points: assumption 23, DEDUCED.) -/
def packetOf (op : Nat) (src : Src) (params : List Byte) : List Byte :=
  leBytes 2 op ++ leBytes 2 0 ++ leBytes 4 src.seq.toNat ++ leBytes 2 48 ++ List.replicate 6 0#8 ++ sliceZ params 0 48

/-- Parameter bytes of a packet: those from LENGTH on read as zero (15:R342). -/
def parsOf (pkt : List Byte) : List Byte :=
  let n := fieldLE pkt 8 2
  sliceZ ((sliceZ pkt 16 48).take n) 0 48

/-- Whether a command reads or writes device memory among families 0x07 and 0x09 (14:R327). -/
def touchesMem (op : Nat) (par : List Byte) : Bool :=
  op == 0x0710 || op == 0x0720 || op == 0x0911 || (op == 0x0704 && fieldLE par 16 2 != 0)

/-- Whether safe mode refuses a command (14:R327). (Open points: assumption 24, DEDUCED.) -/
def safeRefused (op : Nat) (par : List Byte) : Bool :=
  if op / 256 = 7 ∨ op / 256 = 9 then touchesMem op par
  else !(op == 0x0101 || op == 0x0102 || op == 0x0103)

/-- Whether a command needs a unit that a state other than RUN stops (18:R427). (Open points: assumption 21, DEDUCED.) -/
def needsUnits (op : Nat) (par : List Byte) : Bool :=
  if op / 256 = 7 ∨ op / 256 = 9 ∨ op / 256 = 10 then touchesMem op par
  else !(op == 0x0101 || op == 0x0102 || op == 0x0103 || op == 0x0132 || op == 0x0B04)

/-- A packet is taken: it is counted, and numbered while records are produced (15:R374; 16:R386, R387). (Open points: assumption 25, DEDUCED.) -/
def takeCount (s : State) : State × Nat :=
  let s := count s R_SCH_CMD_TAKEN 1
  if rplLogs s then ({ s with rpl := { s.rpl with take := s.rpl.take + 1 } }, s.rpl.take + 1) else (s, 0)

/-- Run a taken command: its undefined parameters, safe mode, the return to RUN, then its own part (15:R350). (Open points: assumption 23, DEDUCED; assumption 24, DEDUCED.) -/
def runTaken (t : Taken) (f : CmdFn) (s : State) : State :=
  let par := parsOf t.pkt
  if parsUndefined t.op par then finish s t (.no 0x0102)
  else if safeMode s && safeRefused t.op par then finish s t (.no 0x0104)
  else
    let s := if needsUnits t.op par then goRun s 1 t.op else s
    let r := f t s
    match r.2 with
    | some x => finish r.1 t x
    | none => r.1

/-- Run a command given directly: the packet that carries it is taken in this step. (Open points: assumption 23, DEDUCED.) -/
def runCmd (op : Nat) (src : Src) (params : List Byte) (f : CmdFn) (s : State) : State :=
  let n := newId s
  let c := takeCount n.2
  runTaken ⟨n.1, src, op, packetOf op src params, [], false, c.2, qSchist s (src.queue.val % 64), .upd⟩ f c.1

/-- Whether a die has the kind given. -/
def isKind (die : Byte) (k : DieKind) : Bool := decide (die.toNat < 64) && dieKind die.toNat = k

/-- The agent of a command's reads and writes (08:R186): the Schist that has the packet. -/
def cmdAgent (s : State) (t : Taken) : Agent := ⟨2, tSchist s t⟩

/-- Read a block of memory for a command; none when it meets an uncorrectable error (08:R181). (Open points: assumption 13, DEDUCED.) -/
def cmdRead (s : State) (t : Taken) (a n : Nat) : State × Option (List Byte) :=
  let r := ncRead s (cmdAgent s t) a n
  (r.1, if r.2.2 then none else some r.2.1)

/-- Whether the Schist that has a packet reaches the homes of a range (14:R331). -/
def cmdReach (s : State) (t : Taken) (a n : Nat) : Bool :=
  (List.range (n / 4096 + 2)).all fun i =>
    let x := if a + 4096 * i < a + n then a + 4096 * i else a + n - 1
    homeUp s (tSchist s t) x

end Sys2Proof.Machine
end

