-- ==== Sys2Proof/Machine/Mica.lean ====
section
/-! DEFINITION. Mica (12_mica_codec.md): tables, encoding, decoding, the epoch store, advertisements and retirement. A
block is encoded as its frame is built and decoded as it arrives, so the retry buffers alone hold references. -/
namespace Sys2Proof.Machine

/-! ### Formats and tables (12:R275, R277-R279). -/

/-- Width of the exponent field. -/
def micaEw (f : Nat) : Nat := if f = 4 then 4 else if f = 5 ∨ f = 6 then 5 else 8
/-- Width of the fraction. -/
def micaFw (f : Nat) : Nat := (fmtInfo f).width - 1 - micaEw f
/-- Bytes of a raw block of 64 elements. -/
def micaRaw (f : Nat) : Nat := 8 * (fmtInfo f).width
/-- Whether a format code is one of the five coded formats. -/
def micaFmtOk (f : Nat) : Bool := decide (4 ≤ f) && decide (f ≤ 8)
/-- KIND of a symbol byte. -/
def symKind (b : Byte) : Nat := b.toNat / 64
/-- DELTA of a symbol byte. -/
def symDelta (b : Byte) : Int := signedOf 6 b.toNat
/-- The map of a format in an image. -/
def micaMap (image : List Byte) (f : Nat) : List Byte := sliceZ image (8 * (f - 4)) 8
/-- Whether a map is valid. -/
def micaMapOk (m : List Byte) : Bool :=
  (m.filter fun b => symKind b == 1).length == 1 && (m.filter fun b => symKind b == 2).length == 1 &&
    (m.filter fun b => symKind b == 0).length == 6 && ((m.filter fun b => symKind b == 0).eraseDups).length == 6 &&
    m.all fun b => symKind b == 0 || b.toNat % 64 == 0
/-- Whether an image is valid. -/
def micaImageOk (image : List Byte) : Bool :=
  ((List.range 5).all fun i => micaMapOk (micaMap image (4 + i))) && (sliceZ image 40 24).all (· == 0#8)
/-- The table hash of an image. -/
def micaHashOf (image : List Byte) : Nat := leNat (shake256 image 8)

/-! ### Blocks (12:R274, R276, R280-R282). -/

/-- Sign, exponent field and fraction of a code. -/
def micaSplit (f c : Nat) : Nat × Nat × Nat :=
  (bitsOf c (micaEw f + micaFw f) 1, bitsOf c (micaFw f) (micaEw f), bitsOf c 0 (micaFw f))
/-- Position of the first symbol byte that meets a test, 0 if none does. -/
def symFind (m : List Byte) (p : Byte → Bool) : Nat := (m.findIdx? p).getD 0
/-- The symbol of a code. -/
def micaSymbol (m : List Byte) (f base c : Nat) : Nat :=
  let e := (micaSplit f c).2.1
  if c = 0 then symFind m fun b => symKind b == 1
  else match (if e = 0 then none else m.findIdx? fun b => symKind b == 0 && symDelta b == (e : Int) - base) with
    | some i => i
    | none => symFind m fun b => symKind b == 2
/-- Fields of a bit stream, value and width, from bit 0 up. -/
def packBits (fs : List (Nat × Nat)) : Nat × Nat :=
  fs.foldl (fun a f => (a.1 ||| ((f.1 % 2 ^ f.2) <<< a.2), a.2 + f.2)) (0, 0)
/-- The header of a block. -/
def micaHeader (len epoch raw fmt base : Nat) : List Byte :=
  leBytes 4 (len + epoch * 512 + raw * 2048 + fmt * 4096 + base * 65536)
/-- A raw block. -/
def micaRawBlock (f : Nat) (bs : List Byte) : List Byte := micaHeader bs.length 0 1 f 0 ++ bs
/-- BASE of a block. -/
def micaBase (f : Nat) (cs : List Nat) : Nat := cs.foldl (fun a c => Nat.max a (micaSplit f c).2.1) 0
/-- The coded form of a block of 64 codes in a map and epoch. -/
def micaCoded (m : List Byte) (f epoch : Nat) (cs : List Nat) : List Byte :=
  let base := micaBase f cs
  let syms := cs.map (micaSymbol m f base)
  let kind (i : Nat) := symKind (m.getD i 0x40#8)
  let secB := (cs.zip syms).filterMap fun p => if kind p.2 = 2 then some ((micaSplit f p.1).2.1, micaEw f) else none
  let secC := (cs.zip syms).filterMap fun p =>
    if kind p.2 = 1 then none
    else some ((micaSplit f p.1).1 * 2 ^ micaFw f + (micaSplit f p.1).2.2, micaFw f + 1)
  let w := packBits (syms.map (fun i => (i, 3)) ++ secB ++ secC)
  let len := ceilDiv w.2 8
  micaHeader len epoch 0 f base ++ leBytes len w.1

/-- The symbols of a coded payload. -/
def micaSymbols (pay : List Byte) : List Nat := (List.range 64).map fun i => bitsOf (leNat (sliceZ pay 0 24)) (3 * i) 3
/-- LEN that the symbols of a coded payload give. -/
def micaLen (m : List Byte) (f : Nat) (syms : List Nat) : Nat :=
  let kind (i : Nat) := symKind (m.getD i 0x40#8)
  ceilDiv (192 + (syms.filter fun i => kind i == 2).length * micaEw f + (syms.filter fun i => kind i != 1).length * (micaFw f + 1)) 8
/-- Rebuild the elements from their symbols: the codes, and whether every DELTA gave an exponent in range. -/
def micaElems (m : List Byte) (f base bits : Nat) : List Nat → Nat → Nat → List Nat × Bool
  | [], _, _ => ([], true)
  | i :: t, pb, pc =>
    let b := m.getD i 0x40#8
    let c := bitsOf bits pc (micaFw f + 1)
    let code (e : Nat) := bitsOf c (micaFw f) 1 * 2 ^ (micaEw f + micaFw f) + e * 2 ^ micaFw f + bitsOf c 0 (micaFw f)
    if symKind b = 1 then
      let r := micaElems m f base bits t pb pc
      (0 :: r.1, r.2)
    else if symKind b = 2 then
      let r := micaElems m f base bits t (pb + micaEw f) (pc + micaFw f + 1)
      (code (bitsOf bits pb (micaEw f)) :: r.1, r.2)
    else
      let e := (base : Int) + symDelta b
      let r := micaElems m f base bits t pb (pc + micaFw f + 1)
      (code e.toNat :: r.1, r.2 && decide (1 ≤ e) && decide (e < (2 ^ micaEw f : Nat)))

/-- What a received block gives. -/
inductive MicaGot where
  | ok (bytes : List Byte) (epoch : Option Nat)
  | bad
  | absent
deriving DecidableEq, Repr

/-- Decode a block of a transfer or ring payload in a format with `left` bytes still to come (12:R282-R284). (Open points: assumption 54, DEDUCED.) -/
def micaDecode (s : State) (fmt left : Nat) (block : List Byte) : MicaGot :=
  let h := fieldLE block 0 4
  let len := bitsOf h 0 9
  let pay := sliceZ block 4 len
  let f := bitsOf h 12 4
  if bitsOf h 24 8 ≠ 0 || !(micaFmtOk f) || f != fmt then .bad
  else if bitOf h 11 then
    if len = Nat.min left (micaRaw f) then .ok pay none else .bad
  else if left < micaRaw f then .bad
  else
    let e := bitsOf h 9 2
    match tabFind s.mica.tables e with
    | none => .absent
    | some image =>
      let m := micaMap image f
      let syms := micaSymbols pay
      let nEsc := (syms.filter fun i => symKind (m.getD i 0x40#8) == 2).length
      let r := micaElems m f (bitsOf h 16 8) (leNat pay) syms 192 (192 + nEsc * micaEw f)
      if micaLen m f syms = len ∧ r.2 then .ok (packCodes f r.1) (some e) else .bad

/-! ### Sending (12:R281, R286, R295). -/

/-- Encode one block of a port: `epoch` is the usable epoch to code in; `fall` says that a named epoch was not usable. (Open points: assumption 54, DEDUCED.) -/
def micaOne (s : State) (p f : Nat) (epoch : Option Nat) (fall : Bool) (bs : List Byte) : State × WireBlock :=
  let d := portDie p
  let raw := micaRawBlock f bs
  let coded := match epoch with
    | some e =>
      match tabFind s.mica.tables e with
      | some image =>
        if flag s (R_FLD_MICA_CTRL d) F_FLD_MICA_CTRL_ENC_EN && bs.length == micaRaw f then
          let c := micaCoded (micaMap image f) f e (unpackCodes f 64 bs)
          if c.length < raw.length then some (c, e) else none
        else none
      | none => none
    | none => none
  let s := count s (R_FLD_MICA_IN_BYTES d) bs.length
  let s := if fall then count s (R_FLD_MICA_FALLBACK d) 1 else s
  match coded with
  | some c => (count (count s (R_FLD_MICA_WIRE_BYTES d) c.1.length) (R_FLD_MICA_CODED d) 1, ⟨c.1, raw, some c.2, true⟩)
  | none => (count (count s (R_FLD_MICA_WIRE_BYTES d) raw.length) (R_FLD_MICA_RAW d) 1, ⟨raw, raw, none, true⟩)

/-- Encode bytes block by block. (Open points: assumption 54, DEDUCED.) -/
def micaBlocks (s : State) (p f : Nat) (epoch : Option Nat) (fall : Bool) (bs : List Byte) : State × List WireBlock :=
  (chunks (micaRaw f) (bs.length + 1) bs).foldl (fun (a : State × List WireBlock) b =>
    let r := micaOne a.1 p f epoch fall b
    (r.1, a.2 ++ [r.2])) (s, [])

/-- Send wire blocks in frames that hold them whole when each is raw. -/
def sendCut (s : State) (p kind rawLen : Nat) (bs : List WireBlock) : State :=
  (chunks (2092 / (rawLen + 4)) (bs.length + 1) bs).foldl (fun s c => sendBlocks s p kind c) s

/-- Send bytes of a payload that Mica takes. -/
def micaSend (s : State) (p kind f : Nat) (epoch : Option Nat) (fall : Bool) (bs : List Byte) : State :=
  let r := micaBlocks s p f epoch fall bs
  sendCut r.1 p kind (micaRaw f) r.2

/-- The epoch in which the ring codes on a port: the usable one with the highest LOAD_SEQ (12:R287). -/
def micaRingEpoch (s : State) (p : Nat) : Option Nat :=
  ((List.range 4).filter (micaUsable s p)).foldl (fun (a : Option Nat) e =>
    match a with
    | none => some e
    | some b => if tabGet s.mica.seqs b 0 < tabGet s.mica.seqs e 0 then some e else some b) none

/-! ### The epoch store (12:R287-R292). -/

/-- Send a port's advertisement. -/
def micaAdvertise (s : State) (p : Nat) : State :=
  sendFrame s p frMicaAd ((List.range 4).flatMap fun e => BitVec.ofNat 8 (micaState s e) :: leBytes 8 (micaHash s e))
/-- Send every port's advertisement. -/
def micaAdvertiseAll (s : State) : State := ((List.range 48).filter (portYoger s)).foldl micaAdvertise s
/-- Set an epoch on all eight Feldspars. -/
def micaSet (s : State) (e st seq hash : Nat) : State :=
  (List.range 8).foldl (fun s l =>
    let s := regSet s (R_FLD_MICA_EPOCH (fldDie l) e)
      (fldSet (fldSet 0 F_FLD_MICA_EPOCH_STATE st) F_FLD_MICA_EPOCH_LOAD_SEQ seq)
    ctrSet s (R_FLD_MICA_HASH (fldDie l) e) (BitVec.ofNat 64 hash)) s
/-- A table is held in an epoch under a LOAD_SEQ. -/
def micaHold (s : State) (e seq : Nat) (image : List Byte) : State :=
  micaSet { s with mica := { s.mica with tables := tabPut s.mica.tables e image, seqs := tabPut s.mica.seqs e seq, last := seq,
                                         acks := s.mica.acks.filter (·.1 ≠ e), decoded := tabPut s.mica.decoded e 0 } }
    e 1 seq (micaHashOf image)
/-- The store as a reset that loads a default table leaves it (12:R279). -/
def micaBoot (s : State) (image : List Byte) : State :=
  micaHold ([1, 2, 3].foldl (fun s e => micaSet s e 0 0 0) { s with mica := ⟨[], [], 0, [], []⟩ }) 0 0 image

/-- MICA_TABLE_LOAD. -/
def cmdMicaTableLoad (epoch : Byte) (addr : DWord) : CmdFn := fun t s =>
  let e := epoch.toNat
  let a := addr.toNat
  refuseIf (decide (3 < e) || a % 64 != 0 || !(regionOf s a).isMem) 0x0102 s
  <| if !(cmdReach s t a 64) then (s, some (.done 0x0105 []))
  else
    match cmdRead s t a 64 with
    | (s, none) => (s, some (.done 0x0301 []))
    | (s, some bs) =>
      withApp t bs
      <| refuseIf (!(micaImageOk bs)) 0x0102 s
      <| refuseIf (micaState s e != 0) 0x0603 s
      <| let q := (s.mica.last + 1) % 4294967296
         let s := micaAdvertiseAll (micaHold s e q bs)
         okay s (leBytes 4 q ++ leBytes 4 0 ++ leBytes 8 (micaHash s e))

/-- The meaning of MICA_TABLE_LOAD. -/
def execMicaTableLoad (src : Src) (epoch : Byte) (addr : DWord) (s : State) : Host.Outcome State Fault Refusal :=
  .next (runCmd 0x0601 src (parBytes [(0, 1, epoch.toNat), (8, 8, addr.toNat)]) (cmdMicaTableLoad epoch addr) s)

/-- MICA_TABLE_RETIRE. -/
def cmdMicaTableRetire (epoch : Byte) : CmdFn := fun t s =>
  let e := epoch.toNat
  refuseIf (decide (3 < e)) 0x0102 s
  <| refuseIf (micaState s e == 0) 0x0602 s
  <| refuseIf (micaState s e == 2) 0x0603 s
  <| (defer (micaAdvertiseAll (micaSet s e 2 (tabGet s.mica.seqs e 0) (micaHash s e))) t (.micaRetire e), none)

/-- The meaning of MICA_TABLE_RETIRE. -/
def execMicaTableRetire (src : Src) (epoch : Byte) (s : State) : Host.Outcome State Fault Refusal :=
  .next (runCmd 0x0602 src (parBytes [(0, 1, epoch.toNat)]) (cmdMicaTableRetire epoch) s)

/-- MICA_RETIRE_COMPLETE: every port that is up has acknowledged and no reference is left. (Open points: assumption 55, DEDUCED.) -/
def micaRetireComplete (s : State) (e : Nat) : State :=
  if micaState s e = 2 && ((List.range 48).all fun p => !(portYoger s p) || s.mica.acks.contains (e, p)) &&
      (List.range 8).all fun l => micaRefs s l e == 0 then
    let n := tabGet s.mica.decoded e 0
    let s := { s with mica := { s.mica with tables := tabDel s.mica.tables e, seqs := tabDel s.mica.seqs e,
                                            acks := s.mica.acks.filter (·.1 ≠ e), decoded := tabDel s.mica.decoded e } }
    let s := micaAdvertiseAll (micaSet s e 0 0 0)
    match s.cmds.taken.find? fun t => t.wait == .micaRetire e with
    | some t => finish s t (.ok (leBytes 8 n))
    | none => s
  else s

/-- The meaning of MICA_RETIRE_COMPLETE. -/
def execMicaRetireComplete (epoch : Fin 4) (s : State) : Host.Outcome State Fault Refusal := .next (micaRetireComplete s epoch)

/-- Acknowledge the retirements that a peer waits for, once this port holds no block in the epoch (12:R290). (Open points: assumption 55, DEDUCED.) -/
def micaAcknowledge (s : State) (p : Nat) : State :=
  let x := portGet s p
  let go := x.owed.filter fun e => portRefs s p e == 0
  go.foldl (fun s e => sendFrame s p frMicaAck [BitVec.ofNat 8 e])
    (portSet s p { x with owed := x.owed.filter fun e => portRefs s p e != 0 })

/-- MICA_ADVERTISEMENT: STATE and hash of the peer's four epochs. -/
def micaAdvertised (s : State) (p : Nat) (ads : List (Nat × Nat)) : State :=
  if portYoger s p then
    let x := portGet s p
    let new := (indexed ads).filterMap fun a =>
      if a.2.1 == 2 && decide (a.1 < 4) && (match x.ads[a.1]? with | some o => o.1 != 2 | none => true) then some a.1 else none
    micaAcknowledge (portSet s p { x with ads := ads.take 4, owed := x.owed.filter (fun e => !(new.contains e)) ++ new }) p
  else s

/-- The meaning of MICA_ADVERTISEMENT. -/
def execMicaAdvertisement (port : Fin 48) (states : List (Fin 3 × DWord)) (s : State) : Host.Outcome State Fault Refusal :=
  .next (micaAdvertised s port (states.map fun a => (a.1.val, a.2.toNat)))

/-- A port counts as having acknowledged a retirement (12:R290). (Open points: assumption 55, DEDUCED.) -/
def micaAcked (s : State) (p e : Nat) : State :=
  if micaState s e == 2 && !(s.mica.acks.contains (e, p)) then
    { s with mica := { s.mica with acks := s.mica.acks ++ [(e, p)] } }
  else s

/-- The meaning of MICA_RETIRE_ACK. -/
def execMicaRetireAck (port : Fin 48) (epoch : Fin 4) (s : State) : Host.Outcome State Fault Refusal :=
  .next (if portYoger s port then micaAcked s port epoch else s)

/-- How far a SEQ lies before the next one awaited on a port: 1 for the last frame taken, none for a frame not yet taken. -/
def seqBack (s : State) (p seq : Nat) : Option Nat :=
  let n := ((portGet s p).rxSeq + 65536 - seq) % 65536
  if 0 < n ∧ n < 32768 then some n else none
/-- A frame that carried a refused block is awaited again, and so is every later one, which the sender sends again behind it; the
blocks that they gave have been taken (12:R283; 13:R303). (Open points: assumption 54, DEDUCED.) -/
def micaRewind (s : State) (p seq : Nat) : State :=
  match seqBack s p seq with
  | none => s
  | some n =>
    let x := portGet s p
    let again (q : Nat) : Bool := decide ((x.rxSeq + 65536 - q) % 65536 ≤ n) && q != x.rxSeq
    portSet s p { x with rxSeq := seq, blocks := x.blocks.map fun e => if again e.1 then (e.1, 0, e.2.2) else e }
/-- The bytes that were still to come when an earlier reception of a frame gave the block that is next in it, if one did. (Open points: assumption 54, DEDUCED.) -/
def micaGiven (s : State) (p seq : Nat) : Option Nat :=
  let e := tabGet (portGet s p).blocks seq (0, [])
  e.2[e.1]?
/-- The next block of a frame is decoded, with `left` bytes of its payload still to come. -/
def micaTaken (s : State) (p seq left : Nat) : State :=
  let x := portGet s p
  let e := tabGet x.blocks seq (0, [])
  portSet s p { x with blocks := tabPut x.blocks seq (e.1 + 1, if e.1 < e.2.length then e.2 else e.2 ++ [left]) }

/-- A codec error: flag, counter, record, and a NAK of the frame that carried the block (12:R283, R284). -/
def micaError (s : State) (p seq : Nat) (cnt status : Nat) (bit : Fld) : State :=
  let d := portDie p
  let s := raise (count s cnt 1) (R_FLD_MICA_ERR d) bit
  frameOut (micaRewind (strataEvent s d 0x60 status (portLoc p) 0) p seq) p frNak seq []

end Sys2Proof.Machine
end

