-- ==== Sys2Proof/Machine/Firmware.lean ====
section
/-! DEFINITION. Firmware sets and packages, staging and activation (20:R452-R463), attestation (20:R464, R465) and host
keys (20:R466, R467). -/
namespace Sys2Proof.Machine

/-! ### Sets and images (20:R451-R455). -/

/-- Set a field of SCH_FW_STATUS. -/
def fwSet (s : State) (f : Fld) (v : Nat) : State := setFld s R_SCH_FW_STATUS f v
/-- A field of SCH_FW_STATUS. -/
def fwFld (s : State) (f : Fld) : Nat := fld s R_SCH_FW_STATUS f
/-- STATE: 0 IDLE, 1 RECEIVING, 2 STAGED, 3 ARMED, 4 ACTIVATING. -/
def fwState (s : State) : Nat := fwFld s F_SCH_FW_STATUS_STATE
/-- The set being run. -/
def fwRun (s : State) : Nat := fwFld s F_SCH_FW_STATUS_RUN_SET
/-- The SET_VALID bit of a set. -/
def fwValidFld (set : Nat) : Fld := if set = 0 then F_SCH_FW_STATUS_SET_A_VALID else F_SCH_FW_STATUS_SET_B_VALID

/-! ### The security record (20:R451). -/

/-- The copy of the record that the Schists accepted. -/
def secUsed (f : Fw) : SecRec := if f.useB then f.recB else f.recA
/-- The record as the block now has it, under the sequence of the copy accepted. -/
def secNow (s : State) : SecRec :=
  ⟨(secUsed s.fw).seq, fwFld s F_SCH_FW_STATUS_ACTIVE_SET, fwFld s F_SCH_FW_STATUS_SET_A_VALID == 1, fwFld s F_SCH_FW_STATUS_SET_B_VALID == 1,
    regGet s R_SCH_FW_SVN_FLOOR, fwFld s F_SCH_FW_STATUS_KEY_FLOOR, s.fw.keys⟩
/-- A changed record is written to the other copy under the next sequence, and that copy is in force. (Open points: assumption 11, DESIGN CHOICE.) -/
def secWrite (s : State) : State :=
  let r := secNow s
  if r = secUsed s.fw then s
  else
    let w := { r with seq := Nat.max s.fw.recA.seq s.fw.recB.seq + 1 }
    if s.fw.useB then { s with fw := { s.fw with recA := w, useB := false } } else { s with fw := { s.fw with recB := w, useB := true } }
/-- Take over what a copy of the record says. (Open points: assumption 11, DESIGN CHOICE.) -/
def secLoad (s : State) (useB : Bool) : State :=
  let r := if useB then s.fw.recB else s.fw.recA
  let s := fwSet (fwSet s F_SCH_FW_STATUS_ACTIVE_SET r.active) F_SCH_FW_STATUS_KEY_FLOOR r.keyFloor
  let s := fwSet (fwSet s F_SCH_FW_STATUS_SET_A_VALID (b2n r.validA)) F_SCH_FW_STATUS_SET_B_VALID (b2n r.validB)
  { regSet s R_SCH_FW_SVN_FLOOR r.svnFloor with fw := { s.fw with useB := useB, keys := r.keys } }

/-! ### Images, headers, manifests (20:R452-R455). -/

/-- Header and manifest of a set. (Open points: assumption 11, DESIGN CHOICE.) -/
def fwMeta (s : State) (set : Nat) : List Byte := tabGet s.fw.sets set shippedMeta

/-- The image of a KIND in a set. (Open points: assumption 11, DESIGN CHOICE.) -/
def fwImage (s : State) (set kind : Nat) : List Byte :=
  match tabFind s.fw.images (set * 16 + kind) with
  | some b => b
  | none => shippedImage kind

/-- A manifest entry, by its place. -/
def manEntry (pkg : List Byte) (i : Nat) : List Byte := sliceZ pkg (4160 + 128 * i) 128
/-- KIND of an entry. -/
def meKind (e : List Byte) : Nat := fieldLE e 0 1
/-- METHOD. -/
def meMethod (e : List Byte) : Nat := fieldLE e 1 1
/-- VERSION. -/
def meVersion (e : List Byte) : Nat := fieldLE e 4 4
/-- IMAGE_BYTES. -/
def meBytes (e : List Byte) : Nat := fieldLE e 8 4
/-- PAYLOAD_OFFSET. -/
def meOff (e : List Byte) : Nat := fieldLE e 16 8
/-- LENGTH. -/
def meLen (e : List Byte) : Nat := fieldLE e 24 8
/-- The eight entries. -/
def manEntries (pkg : List Byte) : List (List Byte) := (List.range 8).map (manEntry pkg)
/-- The entry of a KIND. -/
def manOf (pkg : List Byte) (kind : Nat) : List Byte := ((manEntries pkg).find? fun e => meKind e == kind).getD []
/-- The running digest of a KIND. -/
def fwDigest (s : State) (kind : Nat) : List Byte :=
  (List.range 8).flatMap fun n => leBytes 4 (regGet s (R_SCH_FW_DIGEST (kind - 1) n)).toNat

/-! ### Acceptance of a package (20:R456). -/

/-- Check 1. (Open points: assumption 69, DEDUCED.) -/
def pkgForm (s : State) (p : List Byte) : Bool :=
  let z (i n : Nat) := (sliceZ p i n).all (· == 0#8)
  fieldLE p 0 4 == 0x574B4657 && fieldLE p 4 2 == 1 && fieldLE p 24 4 == 1088 && z 21 3 && z 36 28 && z 1857 63 && z 3200 896 &&
    z 4100 60 && ((manEntries p).all fun e => (sliceZ e 2 2 ++ sliceZ e 12 4 ++ sliceZ e 96 32).all (· == 0#8)) &&
    decide (fieldLE p 6 1 ≤ 3) && decide (fieldLE p 16 4 ≤ fieldLE p 12 4) && decide (fieldLE p 20 1 ≤ fieldLE p 6 1) &&
    decide (fieldLE p 7 1 ≤ fld s (R_DIE_ID 15) F_DIE_ID_FLOOR)
/-- Check 2. -/
def pkgKey (s : State) (p : List Byte) : Bool :=
  let k := fieldLE p 6 1
  shake256 (sliceZ p 64 1793) 32 == fkDigest (Fin.ofNat 4 k) && decide (fwFld s F_SCH_FW_STATUS_KEY_FLOOR ≤ k)
/-- Check 3; the shipped package carries a signature that verifies. (Open points: assumption 12, PRESUMED.) -/
def pkgSigned (p : List Byte) : Bool :=
  Config.falconVerify (sliceZ p 64 1793) (sliceZ p 0 1920 ++ sliceZ p 4096 1088) (sliceZ p 1920 1280) || p == shippedMeta
/-- Payload spans in order, without overlap, within a bound. (Open points: assumption 69, DEDUCED.) -/
def spansOk (hi : Nat) : Nat → List (Nat × Nat) → Bool
  | _, [] => true
  | lo, x :: t => decide (lo ≤ x.1) && decide (x.1 + x.2 ≤ hi) && spansOk hi (x.1 + x.2) t
/-- Check 4. -/
def pkgManifest (p : List Byte) : Bool :=
  let es := manEntries p
  fieldLE p 4096 4 == 8 && ((List.range 8).all fun k => (es.filter fun e => meKind e == k + 1).length == 1) &&
    (es.all fun e => decide (meMethod e ≤ 2) && decide (1 ≤ meBytes e) && decide (meBytes e ≤ slotBytes (meKind e))) &&
    spansOk (fieldLE p 28 8) 0 ((es.filter fun e => meMethod e != 0).map fun e => (meOff e, meLen e))
/-- Check 5. -/
def pkgBase (s : State) (p : List Byte) : Bool :=
  (manEntries p).all fun e =>
    let r := manOf (fwMeta s (fwRun s)) (meKind e)
    if meMethod e = 2 then sliceZ e 32 32 == fwDigest s (meKind e)
    else if meMethod e = 0 then
      sliceZ e 64 32 == fwDigest s (meKind e) && meVersion e == meVersion r && meBytes e == meBytes r
    else true
/-- Check 6. -/
def pkgNewer (s : State) (p : List Byte) : Bool :=
  decide ((regGet s R_SCH_FW_PKG_VERSION).toNat < fieldLE p 8 4) && decide ((regGet s R_SCH_FW_SVN_FLOOR).toNat ≤ fieldLE p 12 4) &&
    (manEntries p).all fun e => decide (meVersion (manOf (fwMeta s (fwRun s)) (meKind e)) ≤ meVersion e)

/-- The first check of R456 that fails, with its status. (Open points: assumption 69, DEDUCED.) -/
def pkgCheck (s : State) (p : List Byte) : Option (Nat × Nat) :=
  if !(pkgForm s p) then some (1, 0x0801)
  else if !(pkgKey s p) then some (2, 0x0801)
  else if !(pkgSigned p) then some (3, 0x0801)
  else if !(pkgManifest p) then some (4, 0x0803)
  else if !(pkgBase s p) then some (5, 0x0801)
  else if !(pkgNewer s p) then some (6, 0x0802)
  else none

/-! ### Deltas and parts (20:R457). -/

/-- How the operations of a delta stand: more bytes are due, END after so many bytes, or malformed. -/
inductive Delta where
  | more
  | done (used : Nat) (image : List Byte)
  | bad
deriving DecidableEq, Repr

/-- Run the operations on what has arrived of a delta (the fuel bounds their number; `most` bounds the image). -/
def deltaRun (base : List Byte) (most : Nat) : Nat → List Byte → Nat → List Byte → Delta
  | 0, _, _, _ => .more
  | f + 1, bs, used, img =>
    match bs with
    | [] => .more
    | c :: rest =>
      if c = 0#8 then .done (used + 1) img
      else if c = 1#8 then
        if rest.length < 8 then .more
        else
          let o := fieldLE rest 0 4
          let n := fieldLE rest 4 4
          if base.length < o + n ∨ most < img.length + n then .bad
          else deltaRun base most f (rest.drop 8) (used + 9) (img ++ sliceZ base o n)
      else if c = 2#8 then
        if rest.length < 4 then .more
        else
          let n := fieldLE rest 0 4
          if most < img.length + n then .bad
          else if rest.length < 4 + n then .more
          else deltaRun base most f (rest.drop (4 + n)) (used + 5 + n) (img ++ (rest.drop 4).take n)
      else .bad

/-- Whether an image is the one an entry names, and passes its KIND's own rules. -/
def imageOk (e img : List Byte) : Bool :=
  img.length == meBytes e && shake256 img 32 == sliceZ e 64 32 &&
    (meKind e != 7 || micaImageOk img) &&
    (meKind e != 8 || (List.range 8).all fun k => rcpValid k (BitVec.ofNat 32 (fieldLE img (4 * k) 4)))

/-- How a part stands on `n` payload bytes: none while it is incomplete, else its image if it is right. -/
def partState (s : State) (e rx : List Byte) (n : Nat) : Option (Option (List Byte)) :=
  let have_ := Nat.min (meLen e) (n - meOff e)
  let bs := (rx.drop (meOff e)).take have_
  let full := have_ == meLen e
  if meMethod e = 1 then if full then some (if imageOk e bs then some bs else none) else none
  else if meMethod e = 2 then
    match deltaRun (fwImage s (fwRun s) (meKind e)) (meBytes e) (bs.length + 1) bs 0 [] with
    | .more => if full then some none else none
    | .bad => some none
    | .done used img => some (if used == meLen e && imageOk e img then some img else none)
  else none

/-! ### Commands of the update engine (20:R458, R459, R463). -/

/-- End a firmware command: LAST_STATUS shows its status, but for a refusal, which changes no state (00:R9). (Open points:
assumption 69, DEDUCED.) -/
def fwReply (r : State × Option Reply) : State × Option Reply :=
  match r.2 with
  | some x => (if x.refused then r.1 else fwSet r.1 F_SCH_FW_STATUS_LAST_STATUS x.status, r.2)
  | none => r
/-- End a firmware command that waited. -/
def fwFinish (s : State) (t : Taken) (r : Reply) : State := finish (fwSet s F_SCH_FW_STATUS_LAST_STATUS r.status) t r
/-- A firmware record of the serving Schist (20:R468). -/
def fwRecord (s : State) (unit status ctx : Nat) : State := strataEvent s (writerDie s) unit status ctx 0
/-- READY by die. -/
def fwReady (s : State) : Nat := (ctrGet s R_SCH_FW_READY).toNat
/-- Dies READY. -/
def fwReadyCount (s : State) : Nat := (setBits 64 (fwReady s)).length
/-- The first die not READY, or 0xFF. -/
def fwFirst (s : State) : Nat := ((List.range 64).find? fun d => !(bitOf (fwReady s) d)).getD 255
/-- Set READY of a die. -/
def fwReadySet (s : State) (d : Nat) (on : Bool) : State :=
  ctrSet s R_SCH_FW_READY (BitVec.ofNat 64 (ofBits ((setBits 64 (fwReady s)).filter (· ≠ d)) + (if on then 2 ^ d else 0)))
/-- Return to IDLE without a package. -/
def fwIdle (s : State) : State :=
  let s := { s with fw := { s.fw with pkg := [], rx := [] } }
  fwSet (regSet (ctrSet s R_SCH_FW_READY 0) R_SCH_FW_STAGED_VERSION 0) F_SCH_FW_STATUS_STATE 0

/-- The COMMIT that waits for its dies, if there is one. -/
def fwCommitting (s : State) : Option Taken := s.cmds.taken.find? fun t => t.wait == .fwCommit
/-- A firmware command runs at once, or waits for its turn behind a COMMIT that waits (20:R458). (Open points: assumption 70, DEDUCED; assumption 69, DEDUCED.) -/
def fwTurn (c : FwCall) (f : CmdFn) : CmdFn := fun t s => if (fwCommitting s).isSome then (defer s t (.fwTurn c), none) else f t s

/-- FW_OPEN. -/
def cmdFwOpen (addr : DWord) : CmdFn := fun t s =>
  let a := addr.toNat
  fwReply
  <| refuseIf (a % 4096 != 0 || !(inOneRange a 5184)) 0x0102 s
  <| if !(cmdReach s t a 5184) then (s, some (.done 0x0105 []))
  else
    match cmdRead s t a 5184 with
    | (s, none) => (s, some (.done 0x0301 []))
    | (s, some p) =>
      match pkgCheck s p with
      | some (i, st) => refuse (raise (fwRecord s 0xD3 st i) R_SCH_FW_ERR F_SCH_FW_ERR_OPEN_REFUSED) st
      | none =>
        refuseIf (fwState s != 0) 0x0806 s
        <| let s := secWrite (fwSet s (fwValidFld (1 - fwRun s)) 0)
           let s := { s with fw := { s.fw with pkg := p, rx := [] } }
           let s := regSet (ctrSet (ctrSet s R_SCH_FW_RX_BYTES 0) R_SCH_FW_READY 0) R_SCH_FW_STAGED_VERSION (BitVec.ofNat 32 (fieldLE p 8 4))
           okay (fwSet s F_SCH_FW_STATUS_STATE 1) (sliceZ p 8 4 ++ sliceZ p 28 8)

/-- The meaning of FW_OPEN. -/
def execFwOpen (src : Src) (addr : DWord) (s : State) : Host.Outcome State Fault Refusal :=
  .next (runCmd 0x0801 src (parBytes [(8, 8, addr.toNat)]) (fwTurn (.opn addr) (cmdFwOpen addr)) s)

/-- Staging fails on a part. -/
def stageFail (s : State) (kind : Nat) : State :=
  fwIdle (fwRecord (raise s R_SCH_FW_ERR F_SCH_FW_ERR_STAGE_FAILED) 0xD4 0x0804 kind)

/-- The first entry that fails once `n` payload bytes are in and was not complete on `n0`. (Open points: assumption 69, DEDUCED.) -/
def partFailed (s : State) (n0 n : Nat) : Option Nat :=
  ((manEntries s.fw.pkg).find? fun e =>
    (partState s e s.fw.rx n0).isNone && (match partState s e s.fw.rx n with | some none => true | _ => false)).map meKind

/-- FW_DATA. (Open points: assumption 69, DEDUCED.) -/
def cmdFwData (offset addr : DWord) (len : Word) : CmdFn := fun t s =>
  let a := addr.toNat
  let n := len.toNat
  fwReply
  <| refuseIf (n == 0 || decide (16777216 < n) || fwState s != 1 || offset.toNat != s.fw.rx.length ||
      decide (fieldLE s.fw.pkg 28 8 < offset.toNat + n) || !(inOneRange a n)) 0x0102 s
  <| if !(cmdReach s t a n) then (s, some (.done 0x0105 []))
  else
    match cmdRead s t a n with
    | (s, none) => refuse s 0x0301
    | (s, some bs) =>
      let n0 := s.fw.rx.length
      let s := { s with fw := { s.fw with rx := s.fw.rx ++ bs } }
      let s := ctrSet s R_SCH_FW_RX_BYTES (BitVec.ofNat 64 (n0 + n))
      match partFailed s n0 (n0 + n) with
      | some k => (stageFail s k, some (.done 0x0804 []))
      | none => okay s (leBytes 8 (n0 + n))

/-- The meaning of FW_DATA. -/
def execFwData (src : Src) (offset addr : DWord) (len : Word) (s : State) : Host.Outcome State Fault Refusal :=
  .next (runCmd 0x0802 src (parBytes [(0, 8, offset.toNat), (8, 8, addr.toNat), (16, 4, len.toNat)]) (fwTurn (.data offset addr len) (cmdFwData offset addr len)) s)

/-- Whether every RUNNING die is READY. -/
def fwAllReady (s : State) : Bool := (List.range 64).all fun d => !(dieRunning s d) || bitOf (fwReady s) d

/-- Whether dies are sent the staged package: it is STAGED or ARMED, or its COMMIT waits for them. -/
def fwStaging (s : State) : Bool := fwState s == 2 || fwState s == 3 || (fwCommitting s).isSome

/-- A die starts or rejoins while a package is staged: it is preloaded; a Gneiss is READY with its flash copy. -/
def fwPreload (s : State) (d : Nat) : State := if fwStaging s then fwReadySet s d (decide (dieKind d = .gneiss)) else s

/-- The image that COMMIT gives an entry; `bad` lists the KINDs whose NONE copy fails its digest. -/
def fwStored (s : State) (bad : List (Fin 9)) (e : List Byte) : Option (List Byte) :=
  if meMethod e = 0 then (if bad.any fun k => k.val == meKind e then none else some (fwImage s (fwRun s) (meKind e)))
  else (partState s e s.fw.rx s.fw.rx.length).join

/-- COMMIT completes: the state is STAGED. (Open points: assumption 70, DEDUCED.) -/
def fwStaged (s : State) : State :=
  fwRecord (fwSet { s with fw := { s.fw with rx := [] } } F_SCH_FW_STATUS_STATE 2) 0xD5 0 (fieldLE s.fw.pkg 8 4)

/-- FW_CLOSE COMMIT: every image is stored and the set is valid, and each RUNNING die is preloaded; until every one is READY the
command waits. (Open points: assumption 69, DEDUCED.) -/
def cmdFwCommit (bad : List (Fin 9)) : CmdFn := fun t s =>
  let es := manEntries s.fw.pkg
  fwReply
  <| refuseIf (fwState s != 1) 0x0102 s
  <| refuseIf (s.fw.rx.length != fieldLE s.fw.pkg 28 8) 0x0803 s
  <| match es.find? fun e => (fwStored s bad e).isNone with
     | some e => (stageFail s (meKind e), some (.done 0x0804 []))
     | none =>
       let set := 1 - fwRun s
       let images := es.foldl (fun t e => match fwStored s bad e with | some b => tabPut t (set * 16 + meKind e) b | none => t) s.fw.images
       let s := { s with fw := { s.fw with images := images, sets := tabPut s.fw.sets set s.fw.pkg } }
       let s := secWrite (fwSet s (fwValidFld set) 1)
       let s := ((List.range 64).filter (dieRunning s)).foldl (fun s d => fwReadySet s d (decide (dieKind d = .gneiss))) s
       if fwAllReady s then okay (fwStaged s) [BitVec.ofNat 8 (fwReadyCount s)] else (defer s t .fwCommit, none)

/-- The meaning of FW_CLOSE_COMMIT. -/
def execFwCloseCommit (src : Src) (bad : List (Fin 9)) (s : State) : Host.Outcome State Fault Refusal :=
  .next (runCmd 0x0803 src [] (fwTurn (.commit bad) (cmdFwCommit bad)) s)

/-- The FW_ACTIVATE that waits, if there is one. -/
def fwArmed (s : State) : Option Taken :=
  s.cmds.taken.find? fun t => match t.wait with | .fwStep => true | .fwNow _ => true | _ => false

/-- DATA of an FW_ACTIVATE reply: the running PKG_VERSION and the first die not READY. -/
def fwActData (s : State) (first : Nat) : List Byte := leBytes 4 (regGet s R_SCH_FW_PKG_VERSION).toNat ++ [BitVec.ofNat 8 first]

/-- FW_CLOSE ABORT. (Open points: assumption 70, DEDUCED.) -/
def cmdFwAbort : CmdFn := fun _ s =>
  let st := fwState s
  let n := [BitVec.ofNat 8 (fwReadyCount s)]
  fwReply
  <| refuseIf (st == 0 || st == 4) 0x0102 s
  <| if st = 3 then
       let s := match fwArmed s with
         | some t => fwFinish s t (.done 0x0107 (fwActData s (fwFirst s)))
         | none => s
       okay (fwSet s F_SCH_FW_STATUS_STATE 2) n
     else okay (fwIdle (secWrite (fwSet s (fwValidFld (1 - fwRun s)) 0))) n

/-- The meaning of FW_CLOSE_ABORT. -/
def execFwCloseAbort (src : Src) (s : State) : Host.Outcome State Fault Refusal :=
  .next (runCmd 0x0803 src (parBytes [(0, 1, 1)]) (fwTurn .abort cmdFwAbort) s)

/-- FW_ACTIVATE. -/
def cmdFwActivate (mode : Byte) : CmdFn := fun t s =>
  let st := fwState s
  fwReply
  <| refuseIf (decide (1 < mode.toNat) || decide (st < 2)) 0x0102 s
  <| refuseIf (decide (2 < st)) 0x0806 s
  <| let s := fwSet (fwSet s F_SCH_FW_STATUS_STATE 3) F_SCH_FW_STATUS_ARM_MODE mode.toNat
     (defer s t (if mode.toNat = 0 then .fwStep else .fwNow (s.runs.map Run.id)), none)

/-- The meaning of FW_ACTIVATE. -/
def execFwActivate (src : Src) (mode : Byte) (s : State) : Host.Outcome State Fault Refusal :=
  .next (runCmd 0x0804 src (parBytes [(0, 1, mode.toNat)]) (fwTurn (.activate mode) (cmdFwActivate mode)) s)

/-- An activation fails with a status: the state is STAGED again. -/
def fwActFail (s : State) (t : Taken) (status : Nat) : State :=
  let first := fwFirst s
  let s := raise (fwSet s F_SCH_FW_STATUS_STATE 2) R_SCH_FW_ERR F_SCH_FW_ERR_ACTIVATION_FAILED
  fwFinish (fwRecord s 0xD7 status first) t (.done status (fwActData s first))

/-- Set the registers of the running set from its header and manifest. -/
def fwRunRegs (s : State) (set : Nat) : State :=
  let m := fwMeta s set
  let s := fwSet s F_SCH_FW_STATUS_RUN_SET set
  let s := regSet (regSet s R_SCH_FW_PKG_VERSION (BitVec.ofNat 32 (fieldLE m 8 4))) R_SCH_FW_SVN (BitVec.ofNat 32 (fieldLE m 12 4))
  (List.range 8).foldl (fun s k => (List.range 8).foldl (fun s n =>
    regSet s (R_SCH_FW_DIGEST k n) (BitVec.ofNat 32 (fieldLE (manOf m (k + 1)) (64 + 4 * n) 4))) s) s

/-- The activation point of a waiting FW_ACTIVATE (20:R461); `written`: the record write of the commit point succeeds. (Open points: assumption 70, DEDUCED.) -/
def fwActivateNow (s : State) (t : Taken) (written : Bool) : State :=
  let s := fwSet s F_SCH_FW_STATUS_STATE 4
  if !((List.range 64).all fun d => dieRunning s d && bitOf (fwReady s) d) || !written then fwActFail s t 0x0805
  else
    let set := 1 - fwRun s
    let p := s.fw.pkg
    let oldFloor := (regGet s R_SCH_FW_SVN_FLOOR).toNat
    let oldKey := fwFld s F_SCH_FW_STATUS_KEY_FLOOR
    let newFloor := Nat.max oldFloor (fieldLE p 16 4)
    let newKey := Nat.max oldKey (fieldLE p 20 1)
    let s := fwSet (regSet s R_SCH_FW_SVN_FLOOR (BitVec.ofNat 32 newFloor)) F_SCH_FW_STATUS_KEY_FLOOR newKey
    let s := secWrite (fwSet s F_SCH_FW_STATUS_ACTIVE_SET set)
    let s := regInc (fwRunRegs s set) R_SCH_FW_ACT_CNT 1
    let s := fwRecord (fwIdle s) 0xD6 0 (fieldLE p 8 4)
    let s := if oldFloor < newFloor ∨ oldKey < newKey then fwRecord s 0xD8 0 (newFloor + 4294967296 * newKey) else s
    fwFinish s t (.ok (fwActData s 255))

/-- FW_STATUS. -/
def cmdFwStatus : CmdFn := fun _ s =>
  fwReply (okay s ([BitVec.ofNat 8 (fwState s), BitVec.ofNat 8 (bitsOf (regGet s R_SCH_FW_STATUS).toNat 3 5),
    BitVec.ofNat 8 (fwFld s F_SCH_FW_STATUS_KEY_FLOOR), 0#8] ++ leBytes 4 (regGet s R_SCH_FW_PKG_VERSION).toNat
    ++ leBytes 4 (regGet s R_SCH_FW_SVN_FLOOR).toNat
    ++ leBytes 4 (if fwState s = 2 ∨ fwState s = 3 then (regGet s R_SCH_FW_STAGED_VERSION).toNat else 0)
    ++ [BitVec.ofNat 8 (fwReadyCount s), BitVec.ofNat 8 (fwFirst s)]))

/-- The meaning of FW_STATUS. -/
def execFwStatus (src : Src) (s : State) : Host.Outcome State Fault Refusal := .next (runCmd 0x0805 src [] (fwTurn .status cmdFwStatus) s)

/-! ### Turns of the firmware commands (20:R458). -/

/-- What a waiting firmware command does. -/
def fwCall : FwCall → CmdFn
  | .opn addr => cmdFwOpen addr
  | .data offset addr len => cmdFwData offset addr len
  | .commit bad => cmdFwCommit bad
  | .abort => cmdFwAbort
  | .activate mode => cmdFwActivate mode
  | .status => cmdFwStatus

/-- The firmware commands whose turn it is run, in the order in which they were accepted (the fuel bounds their number). (Open points:
assumption 70, DEDUCED.) -/
def fwTurns : Nat → State → State
  | 0, s => s
  | n + 1, s =>
    if (fwCommitting s).isSome then s
    else
      match s.cmds.taken.find? fun t => match t.wait with | .fwTurn _ => true | _ => false with
      | none => s
      | some t =>
        match t.wait with
        | .fwTurn c =>
          let r := fwCall c t { s with cmds := { s.cmds with taken := s.cmds.taken.filter fun x => x.id != t.id } }
          fwTurns n (match r.2 with | some y => finish r.1 t y | none => r.1)
        | _ => s

/-- A COMMIT that waits ends once every RUNNING die is READY, and the commands behind it run. (Open points: assumption 70, DEDUCED.) -/
def fwSettle (s : State) : State :=
  match fwCommitting s with
  | some t => if fwAllReady s then (let u := fwFinish (fwStaged s) t (.ok [BitVec.ofNat 8 (fwReadyCount s)]); fwTurns u.cmds.taken.length u) else s
  | none => s

/-- DIE_PRELOAD_READY: the shadow copy of a RUNNING die verifies. -/
def preloadReady (s : State) (d : Nat) : State :=
  if fwStaging s && dieRunning s d then fwSettle (fwReadySet s d true) else s

/-- The meaning of DIE_PRELOAD_READY. -/
def execDiePreloadReady (die : Fin 64) (s : State) : Host.Outcome State Fault Refusal := .next (preloadReady s die)

/-! ### Host keys (20:R466, R467). -/

/-- The mask of non-empty slots. -/
def keyMask (s : State) : Nat := ofBits ((s.fw.keys.map Prod.fst).filter (· < 8))

/-- The key that a SET installs: X from a local queue, a key derived under the session's own from a session queue. -/
def newKey (s : State) (q : Nat) (x : List Byte) : List Byte :=
  match (if q < 64 then qSession s q else none) with
  | some i => kmac256 ((tabFind s.fw.keys (fld s (R_SCH_SES_STATE i) F_SCH_SES_STATE_KEY_SLOT)).getD []) x "WK-KEYSET" 32
  | none => x

/-- SEC_KEY_SET SET. -/
def cmdSecKeySet (slot : Byte) (x : BitVec 256) : CmdFn := fun t s =>
  let q := t.src.queue.val
  refuseIf (q == 64 || decide (7 < slot.toNat)) 0x0102 s
  <| let k := newKey s q (leBytes 32 x.toNat)
     let s := secWrite { s with fw := { s.fw with keys := tabPut s.fw.keys slot.toNat k } }
     okay (fwRecord s 0xD9 0 slot.toNat) [BitVec.ofNat 8 (keyMask s)]

/-- The meaning of SEC_KEY_SET. -/
def execSecKeySet (src : Src) (slot : Byte) (x : BitVec 256) (s : State) : Host.Outcome State Fault Refusal :=
  .next (runCmd 0x0910 src (parBytes [(0, 1, slot.toNat), (8, 32, x.toNat)]) (cmdSecKeySet slot x) s)

/-- SEC_KEY_SET CLEAR. -/
def cmdSecKeyClear (slot : Byte) : CmdFn := fun t s =>
  let keys := tabDel s.fw.keys slot.toNat
  refuseIf (t.src.queue.val == 64 || decide (7 < slot.toNat) || keys.isEmpty) 0x0102 s
  <| let s := secWrite { s with fw := { s.fw with keys := keys } }
     okay (fwRecord s 0xD9 0 (slot.toNat + 256)) [BitVec.ofNat 8 (keyMask s)]

/-- The meaning of SEC_KEY_CLEAR. -/
def execSecKeyClear (src : Src) (slot : Byte) (s : State) : Host.Outcome State Fault Refusal :=
  .next (runCmd 0x0910 src (parBytes [(0, 1, slot.toNat), (1, 1, 1)]) (cmdSecKeyClear slot) s)

/-! ### Attestation (20:R464, R465). -/

/-- The identity certificate. -/
def identCert (s : State) : List Byte :=
  let b := (List.range 4096).map Config.certByte
  let b := spliceBytes (spliceBytes b 0 (leBytes 4 0x54444957)) 4 (leBytes 8 (moduleId s))
  let b := spliceBytes b 12 (BitVec.ofNat 8 Config.caIndex.val :: List.replicate 3 0#8)
  spliceBytes (spliceBytes b 1809 (List.replicate 47 0#8)) 3136 (List.replicate 960 0#8)

/-- Bytes 0-511 of a report. -/
def attestBody (s : State) (nonce : List Byte) : List Byte :=
  let m := fwMeta s (fwRun s)
  let st := fwState s
  let rst := R_SCH_RST_STATUS
  let flags := fld s rst F_SCH_RST_STATUS_DEBUG_ON + 2 * b2n (safeMode s) + 4 * fwFld s F_SCH_FW_STATUS_FALLBACK
    + 8 * b2n (st == 2 || st == 3) + 16 * fld s rst F_SCH_RST_STATUS_ALT_SLOT
  let keys := (List.range 8).flatMap fun i => match tabFind s.fw.keys i with
    | some k => shake256 k 32
    | none => List.replicate 32 0#8
  leBytes 4 0x54534557 ++ leBytes 2 1 ++ [BitVec.ofNat 8 (fld s (R_DIE_ID 15) F_DIE_ID_FLOOR), BitVec.ofNat 8 flags]
    ++ leBytes 8 (moduleId s) ++ nonce ++ leBytes 4 (regGet s R_SCH_FW_PKG_VERSION).toNat ++ leBytes 4 (regGet s R_SCH_FW_SVN).toNat
    ++ leBytes 4 (regGet s R_SCH_FW_SVN_FLOOR).toNat
    ++ [BitVec.ofNat 8 (fwFld s F_SCH_FW_STATUS_KEY_FLOOR), BitVec.ofNat 8 (fwRun s), 0#8, 0#8]
    ++ shake256 (sliceZ m 0 1920 ++ sliceZ m 4096 1088) 32 ++ (List.range 8).flatMap (fun k => fwDigest s (k + 1))
    ++ shake256 keys 32 ++ leBytes 8 s.step.toNat ++ leBytes 4 (regGet s R_SCH_RST_COLD_CNT).toNat
    ++ leBytes 4 (if st = 2 ∨ st = 3 then (regGet s R_SCH_FW_STAGED_VERSION).toNat else 0) ++ List.replicate 112 0#8

/-- The padded signature of a report under the identity key; what it draws is free. (Open points: assumption 12, PRESUMED.) -/
def attestSig (r : DWord) (body : List Byte) : List Byte := (List.range 1280).map (Config.falconSignByte Config.identityKey r body)

/-- SEC_ATTEST. -/
def cmdSecAttest (dest : DWord) (nonce : BitVec 256) (cert : Bool) : CmdFn := fun t s =>
  let a := dest.toNat
  let n := if cert then 6144 else 1792
  refuseIf (t.src.queue.val == 64 || a % 4096 != 0 || !(inOneRange a n)) 0x0102 s
  <| if !(cmdReach s t a n) then (s, some (.done 0x0105 []))
  else
    let body := attestBody s (leBytes 32 nonce.toNat)
    let r := drawFree s
    let report := body ++ attestSig r.1 body
    let w := postWrite r.2 (cmdAgent s t).die (cmdAgent s t) a report
    let w := if cert then postWrite w.1 (cmdAgent s t).die (cmdAgent s t) (a + 2048) (identCert s) else w
    okay w.1 (leBytes 4 n)

/-- The meaning of SEC_ATTEST. -/
def execSecAttest (src : Src) (dest : DWord) (nonce : BitVec 256) (cert : Bool) (s : State) : Host.Outcome State Fault Refusal :=
  .next (runCmd 0x0911 src (parBytes [(0, 8, dest.toNat), (8, 32, nonce.toNat), (40, 1, b2n cert)]) (cmdSecAttest dest nonce cert) s)

end Sys2Proof.Machine
end

