-- ==== Sys2Proof/Machine/Recorder.lean ====
section
/-! DEFINITION. The recorder's commands and events (19:R435, R439, R442-R446). -/
namespace Sys2Proof.Machine

/-- Records held: those of OLDEST to NEWEST whose write was not cut short. -/
def strataKept (s : State) : Nat := strataNewest s + 1 - strataFirst s - (s.strata.torn.filter (strataHeld s)).length

/-- STRATA_INFO. -/
def cmdStrataInfo : CmdFn := fun _ s =>
  let n := strataNewest s
  okay s (leBytes 8 n ++ leBytes 4 (strataKept s) ++ leBytes 4 (regGet s R_SCH_STRATA_GEN).toNat
    ++ [BitVec.ofNat 8 (b2n (frozen s) + 2 * (writerDie s / 16)), 0#8]
    ++ leBytes 2 (if frozen s then freezeLeft s else 0))

/-- The meaning of STRATA_INFO. -/
def execStrataInfo (src : Src) (s : State) : Host.Outcome State Fault Refusal := .next (runCmd 0x0701 src [] cmdStrataInfo s)

/-- STRATA_FREEZE. -/
def cmdStrataFreeze (seconds : Half) : CmdFn := fun _ s =>
  let n := if seconds.toNat = 0 then 60 else seconds.toNat
  refuseIf (decide (3600 < n)) 0x0102 s
  <| refuseIf (frozen s) 0x0701 s
  <| let s := raise s R_SCH_STRATA_STATUS F_SCH_STRATA_STATUS_FROZEN
     let s := { s with strata := { s.strata with freezeEnd := uptimeUs s + 1000000 * n, freezeSupp := 0 } }
     okay s (leBytes 8 (strataNewest s) ++ leBytes 4 0 ++ leBytes 4 (regGet s R_SCH_STRATA_GEN).toNat)

/-- The meaning of STRATA_FREEZE. -/
def execStrataFreeze (src : Src) (seconds : Half) (s : State) : Host.Outcome State Fault Refusal :=
  .next (runCmd 0x0702 src (parBytes [(0, 2, seconds.toNat)]) (cmdStrataFreeze seconds) s)

/-- The freeze ends. -/
def strataThaw (s : State) : State := setFld s R_SCH_STRATA_STATUS F_SCH_STRATA_STATUS_FROZEN 0

/-- STRATA_THAW. -/
def cmdStrataThaw : CmdFn := fun _ s =>
  let n := if frozen s then s.strata.freezeSupp else 0
  let s := strataThaw s
  okay s (leBytes 4 n ++ leBytes 8 0 ++ leBytes 4 (regGet s R_SCH_STRATA_GEN).toNat)

/-- The meaning of STRATA_THAW. -/
def execStrataThaw (src : Src) (s : State) : Host.Outcome State Fault Refusal := .next (runCmd 0x0703 src [] cmdStrataThaw s)

/-- The 256 bytes that a SEQ gives a reader: its slot as it is stored, zeros outside OLDEST to NEWEST (19:R442). -/
def strataCopy (s : State) (q : Nat) : List Byte :=
  if strataHeld s q then strataSlot s q else List.replicate 256 0#8

/-- Copy `n` records from SEQ `q` on to memory. -/
def strataCopies (s : State) (ag : Agent) (d dest q : Nat) (n : Nat) : State :=
  (List.range n).foldl (fun s i => (postWrite s d ag (dest + 256 * i) (strataCopy s (q + i))).1) s

/-- Whether every byte of a range is memory (09:R188). -/
def rangeIsMem (s : State) (a n : Nat) : Bool :=
  (List.range (n / 4096 + 2)).all fun i => (regionOf s (if a + 4096 * i < a + n then a + 4096 * i else a + n - 1)).isMem

/-- STRATA_SEEK. -/
def cmdStrataSeek (mode : Byte) (seq : DWord) (count_ : Half) (dest : DWord) : CmdFn := fun t s =>
  let n := count_.toNat
  let a := dest.toNat
  refuseIf (decide (3 < mode.toNat) || decide (4096 < n) || (n != 0 && (a % 256 != 0 || !(rangeIsMem s a (256 * n))))) 0x0102 s
  <| refuseIf (mode == 0#8 && !(strataHeld s seq.toNat)) 0x0702 s
  <| let q := if mode = 0#8 then seq.toNat else if mode = 1#8 then strataFirst s
       else if mode = 2#8 then strataNewest s else strataCursor s
     if n ≠ 0 && !(cmdReach s t a (256 * n)) then (s, some (.done 0x0105 []))
     else
       let k := Nat.min n (strataNewest s + 1 - q)
       let s := if mode = 3#8 ∧ k = 0 then s else strataMove s (q + k)
       let s := strataCopies s (cmdAgent s t) (cmdAgent s t).die a q k
       okay s (leBytes 8 q ++ leBytes 4 k ++ leBytes 4 (regGet s R_SCH_STRATA_GEN).toNat)

/-- The meaning of STRATA_SEEK. -/
def execStrataSeek (src : Src) (mode : Byte) (seq : DWord) (count : Half) (dest : DWord) (s : State) :
    Host.Outcome State Fault Refusal :=
  .next (runCmd 0x0704 src (parBytes [(0, 1, mode.toNat), (8, 8, seq.toNat), (16, 2, count.toNat), (24, 8, dest.toNat)])
    (cmdStrataSeek mode seq count dest) s)

/-- A write to SCH_STRATA_CURSOR_LO stages a low half. -/
def cursorLo (s : State) (w : Word) : State := { s with strata := { s.strata with staged := some w } }

/-- The meaning of STRATA_CURSOR_LO_WRITE. -/
def execStrataCursorLoWrite (word : Word) (s : State) : Host.Outcome State Fault Refusal := .next (cursorLo s word)

/-- A write to SCH_STRATA_CURSOR_HI moves the cursor. -/
def cursorHi (s : State) (w : Word) : State :=
  let lo := match s.strata.staged with | some x => x.toNat | none => strataCursor s % 4294967296
  strataMove s (w.toNat * 4294967296 + lo)

/-- The meaning of STRATA_CURSOR_HI_WRITE. -/
def execStrataCursorHiWrite (word : Word) (s : State) : Host.Outcome State Fault Refusal := .next (cursorHi s word)

/-- NEXT. -/
def strataNext (s : State) : State :=
  if strataCursor s = strataNewest s then s else strataMove s (strataCursor s + 1)

/-- The meaning of STRATA_NEXT. -/
def execStrataNext (s : State) : Host.Outcome State Fault Refusal := .next (strataNext s)

/-- PREV. -/
def strataPrev (s : State) : State :=
  if strataCursor s = strataFirst s ∨ strataCursor s = 0 then s else strataMove s (strataCursor s - 1)

/-- The meaning of STRATA_PREV. -/
def execStrataPrev (s : State) : Host.Outcome State Fault Refusal := .next (strataPrev s)

/-- The window is filled. (Open points: assumption 9, DESIGN CHOICE.) -/
def windowFilled (s : State) : State := setFld s R_SCH_STRATA_STATUS F_SCH_STRATA_STATUS_WIN_BUSY 0

/-- The meaning of STRATA_WINDOW_FILL. -/
def execStrataWindowFill (s : State) : Host.Outcome State Fault Refusal := .next (windowFilled s)

/-- The meaning of STRATA_COMMIT. -/
def execStrataCommit (s : State) : Host.Outcome State Fault Refusal := .next (strataCommit s false)

/-- A freeze whose time has run out ends, and one event is recorded. (Open points: assumption 9, DESIGN CHOICE.) -/
def strataAutoThaw (s : State) : State :=
  if frozen s && decide (s.strata.freezeEnd ≤ uptimeUs s) then
    strataEvent (raise (strataThaw s) R_SCH_STRATA_ERR F_SCH_STRATA_ERR_AUTO_THAW) (writerDie s) 0xF8 0 0 0
  else s

/-- The meaning of STRATA_AUTO_THAW. -/
def execStrataAutoThaw (s : State) : Host.Outcome State Fault Refusal := .next (strataAutoThaw s)

/-- Arithmetic cycles of 60 s (17:R397). -/
def minuteCycles : Nat := 63000000000

/-- OPERATING_MINUTE: when 60 s with the input in range have passed since the last one, the count advances and is kept in flash; a
minute in progress is lost with the input (19:R435). (Open points: assumption 9, DESIGN CHOICE.) -/
def operatingMinute (s : State) : State :=
  if standby s && decide (s.pwr.minute + minuteCycles ≤ s.cyc) then
    regInc { s with pwr := { s.pwr with minute := s.pwr.minute + minuteCycles } } R_SCH_STRATA_OP_MIN 1
  else s
/-- The meaning of OPERATING_MINUTE. -/
def execOperatingMinute (s : State) : Host.Outcome State Fault Refusal := .next (operatingMinute s)

end Sys2Proof.Machine
end

