-- ==== Sys2Proof/Machine/Garnet.lean ====
section
/-! DEFINITION. Garnet (05:R111-R119) and the well write (05:R104-R108). -/
namespace Sys2Proof.Machine

/-! ### Well writes. -/

/-- The meaning of WELL_WRITE: an FP32 row of a frame reaches a well line; an address outside the wells takes nothing, and well
writes are issued only inside a window (08:R176). -/
def execWellWrite (g : Fin 16) (f : Fin 8) (addr : Nat) (row : List Word) (ups : List Before) (tagErr : Bool) (s : State) :
    Host.Outcome State Fault Refusal :=
  .next (if inWell s addr && winOpen s g then wellWrite (upsets s ups) g f (rowOf addr) ((List.range 256).map fun i => row.getD i 0) tagErr
    else s)

/-! ### Row arithmetic (05:R113-R115). Every rounding is to FP32. -/

/-- The exact sum of values. -/
def sumVals (vs : List Val) : Val := vs.foldl valAdd (.fin false 0 0)
/-- A natural number as a value. -/
def natVal (n : Nat) : Val := .fin false n 0
/-- EXP (05:R113, R115); what it returns for +∞ stands in no rule and is free. (Open points: assumption 33, DESIGN CHOICE.) -/
def expVal : Val → Val
  | .nan => .nan
  | .inf true => .fin false 0 0
  | .fin n m e => expBound n m e
  | .inf false => fp32Val (Config.expFn (fp32Of (.inf false)))
/-- RSQRT (05:R113); what it returns for a zero, a negative number or an infinity stands in no rule and is free. (Open points:
assumption 33, DESIGN CHOICE.) -/
def rsqrtVal : Val → Val
  | .nan => .nan
  | .fin n m e => if m = 0 ∨ n then fp32Val (Config.rsqrtFn (fp32Of (.fin n m e))) else rsqrtBound m e
  | x => fp32Val (Config.rsqrtFn (fp32Of x))
/-- The larger of two values; NaN wins. -/
def maxVal (a b : Val) : Val :=
  match a, b with
  | .nan, _ => .nan
  | _, .nan => .nan
  | a, b => if valLt a b then b else a
/-- NaN or +∞. -/
def nanOrPos : Val → Bool
  | .nan => true
  | .inf n => !n
  | _ => false

/-- t_i of softmax; an input of −∞ counts below every number whatever τ is, so that its e_i is +0 (05:R113, R115). (Open points: assumption 40, DEDUCED.) -/
def softT (tau x : Val) : Val := if x = .inf true then .inf true else fp32Round (valMul tau x)
/-- e_i of softmax from the recorded maximum (05:R113, R115). -/
def softE (tau m x : Val) : Val :=
  if x = .inf true then .fin false 0 0 else expVal (fp32Round (valAdd (softT tau x) (valNeg m)))

/-- m of a softmax row over its included inputs. (Open points: assumption 40, DEDUCED.) -/
def softMax (tau : Val) (xs : List Val) : Val := (xs.map (softT tau)).foldl maxVal (.inf true)
/-- s of a softmax row over its included inputs. -/
def softSum (tau m : Val) (xs : List Val) : Val := fp32Round (sumVals (xs.map (softE tau m)))

/-- μ of a row: +0 for RMS. -/
def normMean (rms : Bool) (xs : List Val) : Val :=
  if rms then .fin false 0 0 else fp32Round (valDiv (sumVals xs) (natVal xs.length))
/-- r of a normalised row. -/
def normScale (rms : Bool) (eps mu : Val) (xs : List Val) : Val :=
  let sq := xs.map fun x => let y := if rms then x else valAdd x (valNeg mu); valMul y y
  rsqrtVal (fp32Round (valAdd (fp32Round (valDiv (sumVals sq) (natVal xs.length))) eps))

/-- n_i of a normalised row. -/
def normN (rms : Bool) (st : Val × Val) (x : Val) : Val :=
  fp32Round (valMul (if rms then x else valAdd x (valNeg st.1)) st.2)

/-- p_i of a softmax row from its statistics. -/
def softP (tau : Val) (st : Val × Val) (x : Val) : Val := fp32Round (valDiv (softE tau st.1 x) st.2)
/-- D of a softmax row. -/
def softD (ps dps : List Val) : Val := fp32Round (sumVals (List.zipWith valMul ps dps))
/-- dx_i of a softmax row. -/
def softDx (tau d p dp : Val) : Val := fp32Round (valMul tau (fp32Round (valMul p (fp32Round (valAdd dp (valNeg d))))))

/-- a and b of a normalised row; a is +0 for RMS. -/
def normAB (rms : Bool) (ns gs : List Val) : Val × Val :=
  let n := natVal gs.length
  (if rms then .fin false 0 0 else fp32Round (valDiv (sumVals gs) n), fp32Round (valDiv (sumVals (List.zipWith valMul gs ns)) n))
/-- dx_i of a normalised row. -/
def normDx (rms : Bool) (r : Val) (ab : Val × Val) (g n : Val) : Val :=
  let t := if rms then g else valAdd g (valNeg ab.1)
  fp32Round (valMul r (valAdd t (valNeg (valMul n ab.2))))

/-! ### Descriptors. -/

/-- Whether an OP is a backward one. -/
def opBack (op : Nat) : Bool := op == 2 || op == 4 || op == 6
/-- OPF of the records of an OP: 1 softmax, 2 layer normalisation, 3 RMS normalisation (05:R112). -/
def opRecord (op : Nat) : Nat := (op + 1) / 2
/-- R, L and the padded length of a descriptor. -/
def gntLen (d : GarnetDesc) : Nat := ceilDiv d.len 32 * 32

/-- Whether a GARNET descriptor is a Garnet fault (05:R107, R118). -/
def garnetFaulty (s : State) (d : GarnetDesc) : Bool :=
  let w := recipe s d.kind
  let bytes := recipeBytes w (gntLen d)
  d.op == 0 || d.op == 7 || (d.causal && decide (2 < d.op)) || decide (65535 < d.statBase + d.rows - 1) ||
  !(d.xFmt == 8 || d.xFmt == 7 || d.xFmt == 6) || (opBack d.op && !(d.gFmt == 8 || d.gFmt == 7 || d.gFmt == 6)) ||
  decide (d.dstStride < bytes) || wellBroken s d.dst d.dstStride d.rows bytes (rcpFmt w) ||
  ((d.op == 4 || d.op == 6) && d.pgradDst != 0 &&
    wellBroken s d.pgradDst 1024 ((if d.op = 4 then 2 else 1) * ceilDiv d.len 256) 1024 8)

/-- A Garnet fault, flagged in GAB_FRM_BWD_ERR, recorded, and pending (05:R118). -/
def garnetFault (s : State) (g f : Nat) (bit : Fld) : State :=
  let s := raise s (R_GAB_FRM_BWD_ERR (gabDie g) f) bit
  winFault (strataEvent s (gabDie g) (0x20 + f) 0x0207 f 0) g 0x0207

/-- Use record `i`, two 64-bit words: a corrected error counts, an uncorrectable one is a Garnet fault (05:R112, R118). -/
def sideUse (s : State) (g f i : Nat) : State × Bool :=
  let word (s : State) (w : Nat) : State × Bool :=
    match tabFind (frameGet s g f).sideErr w with
    | none => (s, false)
    | some false =>
      (count (frameMod s g f fun x => { x with sideErr := tabDel x.sideErr w }) (R_GAB_GNT_ECC_CORR (gabDie g) f) 1, false)
    | some true => (s, true)
  let a := word s (2 * i)
  let b := word a.1 (2 * i + 1)
  if a.2 || b.2 then (garnetFault b.1 g f F_GAB_FRM_BWD_ERR_SIDE_UNCORR, true) else (b.1, false)

/-- An error arises in a side-memory word; one that is uncorrectable already stays so. (Open points: assumption 77, DESIGN CHOICE.) -/
def sideUpset (t : Tab Bool) (e : Nat × Bool) : Tab Bool :=
  tabPut t (e.1 % 131072) (e.2 || tabGet t (e.1 % 131072) false)

/-- First cycle of a descriptor's last pass, from its start (05:R117). -/
def gntLast (d : GarnetDesc) : Nat := (opPasses d.op - 1) * (gntSpan d + 12)

/-- Whether element `i` of row `r` is included (05:R111). -/
def gntIncl (d : GarnetDesc) (r i : Nat) : Bool := !(d.causal && decide ((r : Int) + d.maskOff < (i : Int)))

/-- The included elements of a row. -/
def gntIns (d : GarnetDesc) (r : Nat) (xs : List Val) : List Val := ((indexed xs).filter fun p => gntIncl d r p.1).map Prod.snd

/-- Whether an OP normalises. -/
def opNorm (op : Nat) : Bool := decide (2 < op)
/-- Whether an OP is of RMS normalisation. -/
def opRms (op : Nat) : Bool := op == 5 || op == 6

/-- What a forward row knows once pass `p`, which is not its last, has read it (05:R113, R115). (Open points: assumption 40, DEDUCED.) -/
def forwardPass (q : GntRun) (r p : Nat) (w : GntRow) (xs : List Val) : GntRow :=
  let d := q.desc
  let st :=
    if d.op = 1 then (let tau := fp32Val d.tau
      if p = 1 then (softMax tau (gntIns d r xs), w.st.2) else (w.st.1, softSum tau w.st.1 (gntIns d r xs)))
    else (let rms := opRms d.op
      let mu := if p = 1 then normMean rms xs else w.st.1
      (mu, if p = 1 ∧ !rms then w.st.2 else normScale rms (fp32Val d.eps) mu xs))
  let empty := w.empty || (d.op == 1 && ((gntIns d r xs).isEmpty || st.1 == .inf true))
  let bad := if d.op = 1 then xs.any nanOrPos || nanOrPos st.1 || nanOrPos st.2
    else !(xs.all valFinite && q.gamma.all valFinite && q.beta.all valFinite && valFinite st.1 && valFinite st.2)
  { w with st := if empty then (.inf true, .fin false 0 0) else st, empty := empty, bad := !empty && (w.bad || bad) }

/-- What a backward row knows once its first pass has read it (05:R114, R115). (Open points: assumption 40, DEDUCED.) -/
def backwardPass (q : GntRun) (r : Nat) (w : GntRow) (xs ds : List Val) : GntRow :=
  let d := q.desc
  let rms := opRms d.op
  let bad := !w.empty &&
    (if d.op = 2 then xs.any nanOrPos || ds.any nanOrPos || nanOrPos w.st.1 || nanOrPos w.st.2
     else !(xs.all valFinite && ds.all valFinite && q.gamma.all valFinite && valFinite w.st.1 && valFinite w.st.2))
  let coef :=
    if d.op = 2 then (softD ((gntIns d r xs).map (softP (fp32Val d.tau) w.st)) (gntIns d r ds), Val.fin false 0 0)
    else normAB rms (xs.map (normN rms w.st)) ((indexed ds).map fun p => fp32Round (valMul p.2 (q.gamma.getD p.1 (natVal 1))))
  { w with coef := coef, bad := w.bad || bad }

/-- Output element `i` of row `r` in the last pass (05:R113-R115). (Open points: assumption 40, DEDUCED.) -/
def rowElem (q : GntRun) (r : Nat) (w : GntRow) (i : Nat) (x dx : Val) : Val :=
  let d := q.desc
  let rms := opRms d.op
  if w.empty then .fin false 0 0
  else if w.bad then .nan
  else if !(opNorm d.op) then
    (if !(gntIncl d r i) then .fin false 0 0
     else
      let p := softP (fp32Val d.tau) w.st x
      if d.op = 1 then p else softDx (fp32Val d.tau) w.coef.1 p dx)
  else
    let n := normN rms w.st x
    let ga := q.gamma.getD i (natVal 1)
    if opBack d.op then normDx rms w.st.2 w.coef (fp32Round (valMul dx ga)) n
    else fp32Round (valAdd (valMul n ga) (q.beta.getD i (.fin false 0 0)))

/-- Chunk `k` of row `r` as the last pass reads it: its elements, padded with +0 to a multiple of 32, are converted and go to their
write 20 cycles later; the row's last chunk brings its counts along (05:R111, R115, R117). -/
def rowChunk (s : State) (q : GntRun) (r k : Nat) (w : GntRow) (xs ds : List Val) : GntRun :=
  let d := q.desc
  let rw := recipe s d.kind
  let vs := (indexed xs).map fun p => rowElem q r w (256 * k + p.1) p.2 (ds.getD p.1 .nan)
  let pad := vs ++ List.replicate (Nat.min 256 (gntLen d - 256 * k) - vs.length) (Val.fin false 0 0)
  let c := convRow rw (fun i => siteRounding s rw d.kind d.site (r * 65536 + 256 * k + i)) pad
  let sat := q.sat + c.2.2
  let nf := q.nf || !(vs.all valFinite)
  let ends := k + 1 == gntChunks d
  { q with
    chunks := q.chunks ++ [(q.t + 20, r, k, c.1, c.2.1)]
    tails := if ends then q.tails ++ [(q.t + 20, sat, nf)] else q.tails
    sat := if ends then 0 else sat
    nf := !ends && nf }

/-- A backward row looks up its record as its first pass begins to read it: one that does not match, or meets an uncorrectable
error, writes nothing (05:R116, R118). (Open points: assumption 83, DEDUCED.) -/
def recordUse (s : State) (g f : Nat) (d : GarnetDesc) (r : Nat) : State × GntRow :=
  let z := Val.fin false 0 0
  let skip : GntRow := ⟨(z, z), (z, z), false, false, true⟩
  if !(opBack d.op) then (s, { skip with skip := false })
  else
    let u := sideUse s g f (d.statBase + r)
    if u.2 then (u.1, skip)
    else
      match tabFind (frameGet u.1 g f).side (d.statBase + r) with
      | none => (garnetFault u.1 g f F_GAB_FRM_BWD_ERR_TAG_MISMATCH, skip)
      | some rc =>
        if rc.tag ≠ d.tag ∨ rc.opf ≠ opRecord d.op then (garnetFault u.1 g f F_GAB_FRM_BWD_ERR_TAG_MISMATCH, skip)
        else (u.1, ⟨(fp32Val rc.stat0, fp32Val rc.stat1), (z, z), false, rc.emptyRow, false⟩)

/-- A forward row writes its record: into an empty one, or one of the same TAG and OPF (05:R116). (Open points: assumption 83, DEDUCED.) -/
def recordWrite (s : State) (g f : Nat) (i : Nat) (rc : SideRec) : State :=
  let u := sideUse s g f i
  if u.2 then u.1
  else
    let ok := match tabFind (frameGet u.1 g f).side i with
      | none => true
      | some o => o.opf == 0 || (o.tag == rc.tag && o.opf == rc.opf)
    if ok then frameMod u.1 g f fun x => { x with side := tabPut x.side i rc }
    else garnetFault u.1 g f F_GAB_FRM_BWD_ERR_STAT_CONFLICT

/-- What follows the last pass of a row: a forward one's record is due in the next cycle, and an empty row is counted; a backward
one's record is emptied (05:R115-R117). -/
def rowEnd (s : State) (g f : Nat) (q : GntRun) (r : Nat) (w : GntRow) : State × GntRun :=
  let d := q.desc
  if opBack d.op then (if w.skip then s else frameMod s g f fun x => { x with side := tabDel x.side (d.statBase + r) }, q)
  else
    let rc : SideRec := ⟨fp32Of w.st.1, fp32Of w.st.2, d.tag, opRecord d.op, w.bad, w.empty, r⟩
    (if w.empty then count s (R_GAB_GNT_EMPTY_ROW (gabDie g) f) 1 else s, { q with recs := q.recs ++ [(q.t + 1, d.statBase + r, rc)] })

/-- Add to the sums of a chunk's elements. -/
def addChunk (sums : List Val) (k : Nat) (vs : List Val) : List Val :=
  (indexed sums).map fun p => if 256 * k ≤ p.1 ∧ p.1 < 256 * k + vs.length then valAdd p.2 (vs.getD (p.1 - 256 * k) .nan) else p.2

/-- Pass `p` of a run reads chunk `k` of row `r` (05:R117): the chunk of x, and of the upstream gradient in a backward run. The
last pass forms the chunk's outputs and its part of the parameter gradients; the others form, once they have the whole row, what
the row needs in the next pass. -/
def readChunk (s : State) (g f : Nat) (q : GntRun) (p r k : Nat) : State × GntRun :=
  let d := q.desc
  let n := Nat.min 256 (d.len - 256 * k)
  let bytes (fmt : Nat) : Nat := if fmt = 8 then 4 else 2
  let u := if p = 1 ∧ k = 0 then (let a := recordUse s g f d r; (a.1, { q with rows := q.rows ++ [a.2] })) else (s, q)
  let q := u.2
  let rx := readWide u.1 g (d.xAddr + r * d.xStride + 256 * k * bytes d.xFmt) d.xFmt n
  let rg := if opBack d.op then readWide rx.1 g (d.gAddr + r * d.gStride + 256 * k * bytes d.gFmt) d.gFmt n else (rx.1, [])
  let z := Val.fin false 0 0
  let w := q.rows.getD r ⟨(z, z), (z, z), false, false, true⟩
  let ends := k + 1 == gntChunks d
  if p < opPasses d.op then
    let xs := q.xs ++ rx.2
    let gs := q.gs ++ rg.2
    let w := if opBack d.op then backwardPass q r w xs gs else forwardPass q r p w xs
    (rg.1, if ends then { q with xs := [], gs := [], rows := q.rows.set r w } else { q with xs := xs, gs := gs })
  else if w.skip then (rg.1, q)
  else
    let q := rowChunk rg.1 q r k w rx.2 rg.2
    let q := if opNorm d.op && opBack d.op then
        { q with dgamma := addChunk q.dgamma k (List.zipWith (fun dv x => valMul dv (normN (opRms d.op) w.st x)) rg.2 rx.2)
                 dbeta := addChunk q.dbeta k rg.2 }
      else q
    if ends then rowEnd rg.1 g f q r w else (rg.1, q)

/-! ### A descriptor, cycle by cycle (05:R105, R111, R117). -/

/-- Parameter-gradient chunks of a descriptor: of dγ, then of dβ. -/
def gntPgrad (d : GarnetDesc) : Nat :=
  if d.pgradDst = 0 then 0 else if d.op = 4 then 2 * gntChunks d else if d.op = 6 then gntChunks d else 0

/-- Cycles from the start of a descriptor to the cycle after its last write issues (05:R117). (Open points: assumption 34, DEDUCED.) -/
def gntLength (d : GarnetDesc) : Nat := gntLast d + gntSpan d + 20 + gntPgrad d

/-- Chunk `n` of the parameter gradients: 256 sums, each rounded once, padded with +0 (05:R111, R114). -/
def pgradWrite (s : State) (g f : Nat) (q : GntRun) (n : Nat) : State :=
  let c := gntChunks q.desc
  let vs := if n < c then q.dgamma else q.dbeta
  let part := (List.range 256).map fun i => fp32Of (fp32Round (vs.getD ((n % c) * 256 + i) (.fin false 0 0)))
  unitWrite s g f true (q.desc.pgradDst + n * 1024) (part.flatMap fun w => leBytes 4 w.toNat)

/-- An output chunk is written: its elements, then its scale bytes (05:R111). -/
def chunkWrite (s : State) (g f : Nat) (d : GarnetDesc) (c : Nat × Nat × Nat × List Nat × List Nat) : State :=
  let w := recipe s d.kind
  let dst := d.dst + c.2.1 * d.dstStride + recipeBytes w (256 * c.2.2.1)
  let s := unitWrite s g f true dst (packCodes (rcpFmt w) c.2.2.2.1)
  if rcpBlock w = 0 then s
  else unitWrite s g f true (d.dstScale + c.2.1 * (gntLen d / 32) + 8 * c.2.2.1) (c.2.2.2.2.map (BitVec.ofNat 8))

/-- A row is written out: rows, saturations and non-finite rows are counted (05:R115, R120). -/
def rowTail (s : State) (g f : Nat) (t : Nat × Nat × Bool) : State :=
  let s := count (count s (R_GAB_GNT_ROWS (gabDie g) f) 1) (R_GAB_FRM_SATURATE (gabDie g) f) t.2.1
  if t.2.2 then count s (R_GAB_GNT_NF (gabDie g) f) 1 else s

/-- Cycle `q.t` of a descriptor: the pass under way reads its chunk, and the records, chunks and parameter gradients that are due are
written. -/
def garnetBeat (s : State) (g f : Nat) (q : GntRun) : State × GntRun :=
  let d := q.desc
  let c := gntChunks d
  let p := q.t / (gntSpan d + 12)
  let o := q.t % (gntSpan d + 12)
  let row := if p < opPasses d.op ∧ o < gntSpan d then readChunk s g f q (p + 1) (o / c) (o % c) else (s, q)
  let q := row.2
  let due (n : Nat) : Bool := decide (n ≤ q.t)
  let s := (q.recs.filter fun e => due e.1).foldl (fun s e => recordWrite s g f e.2.1 e.2.2) row.1
  let s := (q.chunks.filter fun e => due e.1).foldl (fun s e => chunkWrite s g f d e) s
  let s := (q.tails.filter fun e => due e.1).foldl (fun s e => rowTail s g f e) s
  let n := q.t - (gntLast d + gntSpan d + 20)
  let s := if gntLast d + gntSpan d + 20 ≤ q.t ∧ n < gntPgrad d then pgradWrite s g f q n else s
  (s, { q with t := q.t + 1, recs := q.recs.filter fun e => !(due e.1), chunks := q.chunks.filter fun e => !(due e.1),
               tails := q.tails.filter fun e => !(due e.1) })

/-- What a frame's Garnet does in one cycle: every descriptor in progress moves on, and one whose last write has issued is
done. It follows the beam's writes of the cycle (05:R105). (Open points: assumption 34, DEDUCED.) -/
def garnetCycle (s : State) (g f : Nat) : State :=
  let r := (frameGet s g f).gnt.foldl (fun (acc : State × List GntRun) q =>
    let b := garnetBeat acc.1 g f q
    (b.1, if gntLength q.desc ≤ b.2.t then acc.2 else acc.2 ++ [b.2])) (s, [])
  if (frameGet s g f).gnt.isEmpty then s else frameMod r.1 g f fun x => { x with gnt := r.2 }

/-- A descriptor as it starts: γ and β, with 1 and 0 where it names none. -/
def garnetStart (s : State) (g f : Nat) (d : GarnetDesc) : State :=
  let norm := decide (2 < d.op)
  let z := List.replicate d.len (Val.fin false 0 0)
  let ga := if norm && d.gammaAddr != 0 then readWide s g d.gammaAddr 8 d.len else (s, List.replicate d.len (natVal 1))
  let be := if (d.op == 3 || d.op == 5) && d.betaAddr != 0 then readWide ga.1 g d.betaAddr 8 d.len else (ga.1, z)
  frameMod be.1 g f fun x => { x with gnt := x.gnt ++ [⟨d, 0, ga.2, be.2, z, z, [], [], [], 0, false, [], [], []⟩] }

/-- GARNET_DESCRIPTOR: the descriptor starts, or is a Garnet fault; `side` are errors that arise in the 64-bit words of the
side memory: word, uncorrectable. -/
def garnetDescriptor (s : State) (g f : Nat) (side : List (Nat × Bool)) : State :=
  match streamHead s g f with
  | some ⟨_, _, .garnet d⟩ =>
    let s := streamPop s g f
    let s := frameMod s g f fun x => { x with sideErr := side.foldl sideUpset x.sideErr }
    if garnetFaulty s d then garnetFault s g f F_GAB_FRM_BWD_ERR_GNT_DESC_FAULT else garnetStart s g f d
  | _ => s

/-- The meaning of GARNET_DESCRIPTOR. -/
def execGarnetDescriptor (g : Fin 16) (f : Fin 8) (ups : List Before) (side : List (Nat × Bool)) (s : State) :
    Host.Outcome State Fault Refusal := .next (garnetDescriptor (upsets s ups) g f side)

end Sys2Proof.Machine
end

