-- ==== Sys2Proof/Machine/Image.lean ====
section
/-! DEFINITION. Schedule images (06:R138-R146): descriptors, variants, and what SCH_LOAD refuses. -/
namespace Sys2Proof.Machine

/-! ### Descriptors (06:R140-R145). -/

/-- A descriptor as bytes: FLAGS and fields are read from it. -/
structure DescRaw where
  bytes : List Byte
  flags : Nat
deriving DecidableEq, Repr

/-- A little-endian field. -/
def DescRaw.u (r : DescRaw) (i n : Nat) : Nat := fieldLE r.bytes i n
/-- FLAGS bits. -/
def DescRaw.f (r : DescRaw) (lo len : Nat) : Nat := bitsOf r.flags lo len
/-- A FLAGS bit. -/
def DescRaw.b (r : DescRaw) (i : Nat) : Bool := bitOf r.flags i
/-- Address fields hold 48 bits. -/
def DescRaw.addrs (r : DescRaw) (l : List Nat) : Bool := l.all fun i => r.u (i + 6) 2 == 0
/-- Reserved byte ranges are zero. -/
def DescRaw.zero (r : DescRaw) (l : List (Nat × Nat)) : Bool := l.all fun p => r.u p.1 p.2 == 0

/-- The body of a LOAD, if its reserved fields are zero. -/
def parseLoad (r : DescRaw) : Option DescBody :=
  if r.flags < 256 && r.addrs [8, 16] && r.zero [(88, 8)] then
    some (.load ⟨r.f 0 1, r.f 1 4, r.b 5, r.f 6 1, r.b 7, r.u 8 6, r.u 16 6, r.u 24 32, r.u 56 32⟩)
  else none

/-- The body of a PASS. -/
def parsePass (r : DescRaw) : Option DescBody :=
  if r.flags < 1024 && r.addrs [8, 16] && r.zero [(31, 1)] then
    some (.pass { slot := r.f 0 1, fmt := r.f 1 4, src := r.f 5 1, turn := r.b 6, maskSmooth := r.b 7, scaled := r.b 8,
                  splitScale := r.b 9, addr := r.u 8 6, scaleAddr := r.u 16 6, stride := r.u 24 4, w := r.u 28 2,
                  outTag := r.u 30 1 })
  else none

/-- The body of a GAP. -/
def parseGap (r : DescRaw) : Option DescBody :=
  if r.flags < 2 && r.zero [(10, 6)] then some (.gap ⟨r.b 0, r.u 8 2⟩) else none

/-- The body of a TILE. -/
def parseTile (r : DescRaw) : Option DescBody :=
  if r.flags < 2048 && r.u 8 2 < 4096 && r.zero [(10, 6)] then
    some (.tile ⟨r.f 0 6, r.f 6 1, r.f 7 4, r.u 8 2⟩)
  else none

/-- The body of an OUTPUT. -/
def parseOutput (r : DescRaw) : Option DescBody :=
  if r.flags < 4096 && r.addrs [16, 24, 32, 48, 56, 72, 80] && r.u 41 1 < 128 && r.u 42 1 < 8 && r.zero [(43, 1), (46, 2)] then
    some (.output { entry := r.f 0 6, outMode := r.f 6 2, topkK := r.f 8 4, scaleT := BitVec.ofNat 32 (r.u 8 4),
                    auxStride := r.u 12 4, colscaleAddr := r.u 16 6, biasAddr := r.u 24 6, auxAddr := r.u 32 6,
                    act := bitsOf (r.u 40 1) 0 4, auxFn := bitsOf (r.u 40 1) 4 4, auxFmt := bitsOf (r.u 41 1) 0 4,
                    kind := bitsOf (r.u 41 1) 4 3, stashKind := r.u 42 1, colBase := r.u 44 2, dst := r.u 48 6,
                    dstScale := r.u 56 6, dstStride := r.u 64 4, site := r.u 68 4, stashDst := r.u 72 6,
                    stashScale := r.u 80 6, stashStride := r.u 88 4, stashSite := r.u 92 4 })
  else none

/-- The body of a GARNET. -/
def parseGarnet (r : DescRaw) : Option DescBody :=
  if r.flags < 32768 && r.u 8 2 < 4096 && r.addrs [24, 40, 48, 56, 72, 88, 96] && r.zero [(84, 4), (104, 24)] then
    some (.garnet { op := r.f 0 3, causal := r.b 3, xFmt := r.f 4 4, gFmt := r.f 8 4, kind := r.f 12 3,
                    rows := r.u 8 2 + 1, len := r.u 10 2 + 1, maskOff := signedOf 32 (r.u 12 4),
                    tau := BitVec.ofNat 32 (r.u 16 4), eps := BitVec.ofNat 32 (r.u 20 4), xAddr := r.u 24 6,
                    xStride := r.u 32 4, gStride := r.u 36 4, gAddr := r.u 40 6, gammaAddr := r.u 48 6,
                    betaAddr := r.u 56 6, statBase := r.u 64 2, tag := r.u 66 2, site := r.u 68 4, dst := r.u 72 6,
                    dstStride := r.u 80 4, dstScale := r.u 88 6, pgradDst := r.u 96 6 })
  else none

/-- The body of a SEND. -/
def parseSend (r : DescRaw) : Option DescBody :=
  if r.flags < 128 && r.addrs [8] && r.zero [(28, 4)] then
    some (.send ⟨r.b 0, r.f 1 2, r.f 3 4, r.u 8 6, r.u 16 4, r.u 20 2, r.u 22 1, r.u 23 1, r.u 24 4⟩)
  else none

/-- The body of a RECV. -/
def parseRecv (r : DescRaw) : Option DescBody :=
  if r.flags == 0 && r.addrs [8] && r.zero [(28, 4)] then
    some (.recv ⟨r.u 8 6, r.u 16 4, r.u 20 2, r.u 22 1, r.u 23 1, r.u 24 4⟩)
  else none

/-- The body of a MOVE. -/
def parseMove (r : DescRaw) : Option DescBody :=
  if r.flags == 0 && r.addrs [8, 16] then some (.move ⟨r.u 8 6, r.u 16 6, r.u 24 4, r.u 28 4⟩) else none

/-- The body of a BARRIER. -/
def parseBarrier (r : DescRaw) : Option DescBody :=
  if r.flags < 512 && r.zero [(8, 8)] then some (.barrier ⟨r.f 0 8, r.b 8⟩) else none

/-- Length of a TYPE in 16-byte units, whether it belongs to the transfer stream (barriers belong to both), and its
parser. -/
def descKind (ty : Nat) : Option (Nat × Option Bool × (DescRaw → Option DescBody)) :=
  match ty with
  | 0x01 => some (6, some false, parseLoad)
  | 0x02 => some (2, some false, parsePass)
  | 0x03 => some (1, some false, parseGap)
  | 0x04 => some (1, some false, parseTile)
  | 0x05 => some (6, some false, parseOutput)
  | 0x06 => some (8, some false, parseGarnet)
  | 0x10 => some (2, some true, parseSend)
  | 0x11 => some (2, some true, parseRecv)
  | 0x12 => some (2, some true, parseMove)
  | 0x1F => some (1, none, parseBarrier)
  | _ => none

/-- The descriptor at the front of a stream's bytes. -/
def parseDesc (xfer : Bool) (bs : List Byte) : Option Desc :=
  match descKind (fieldLE bs 0 1) with
  | none => none
  | some (len, side, parse) =>
    if (side = none || side = some xfer) && fieldLE bs 1 1 == len && decide (16 * len ≤ bs.length) then
      (parse ⟨bs.take (16 * len), fieldLE bs 2 2⟩).map fun b => ⟨len, fieldLE bs 4 4, b⟩
    else none

/-- The descriptors of a stream's bytes (the fuel bounds their number). -/
def parseStream (xfer : Bool) : Nat → List Byte → Option (List Desc)
  | 0, bs => if bs.isEmpty then some [] else none
  | n + 1, bs =>
    if bs.isEmpty then some []
    else
      match parseDesc xfer bs with
      | none => none
      | some d => (parseStream xfer n (bs.drop (16 * d.units))).map (d :: ·)

/-! ### The rules of a variant (06:R146). -/

/-- AT never decreases. -/
def atsRise : List Desc → Bool
  | a :: b :: t => decide (a.time ≤ b.time) && atsRise (b :: t)
  | _ => true

/-- Cycle at which an issue descriptor ends. -/
def issueEnd (d : Desc) : Option Nat :=
  match d.body with
  | .pass p => some (d.time + (p.w + 1) * issueCycles p.fmt)
  | .gap g => some (d.time + g.g)
  | _ => none

/-- PASS and GAP follow one another without a break. -/
def issueTight (l : List Desc) : Bool :=
  let xs := l.filterMap fun d => (issueEnd d).map fun e => (d.time, e)
  (xs.zip (xs.drop 1)).all fun p => p.1.2 == p.2.1

/-- Cycle from which the next GARNET may start (05:R117); P is 3 for OP 0 and 7. -/
def garnetEnd (d : Desc) : Option Nat :=
  match d.body with
  | .garnet g =>
    let p := if g.op = 2 ∨ g.op = 4 ∨ g.op = 5 ∨ g.op = 6 then 2 else 3
    let rc := g.rows * ceilDiv g.len 256
    some (d.time + (p - 1) * (rc + 12) + rc)
  | _ => none

/-- GARNET descriptors stand far enough apart. -/
def garnetSpaced (l : List Desc) : Bool :=
  let xs := l.filterMap fun d => (garnetEnd d).map fun e => (d.time, e)
  (xs.zip (xs.drop 1)).all fun p => decide (p.1.2 ≤ p.2.1)

/-- The barriers of a stream: NUMBER, AT, FINAL. (Open points: assumption 35, DEDUCED.) -/
def barriersOf (l : List Desc) : List (Nat × Nat × Bool) :=
  l.filterMap fun d => match d.body with | .barrier b => some (b.number, d.time, b.final) | _ => none

/-- FINAL marks the last descriptor of a stream and no other barrier. -/
def finalLast (l : List Desc) : Bool :=
  let bs := barriersOf l
  (match l.getLast? with | some d => (match d.body with | .barrier b => b.final | _ => false) | none => false) &&
    bs.dropLast.all fun b => !b.2.2

/-- Whether an address lies in own frame store, beam store or Shale. -/
def ownAddr (g a : Nat) : Bool :=
  match regionBelow 0 a with
  | .frame o _ => o == g
  | .beam o _ => o == g
  | .shale o => o == g
  | _ => false

/-- Whether a range lies in own frame store or own Shale. -/
def ownRange (g a n : Nat) : Bool :=
  match regionBelow 0 a with
  | .frame o _ => o == g && inOneRange a n
  | .shale o => o == g && inOneRange a n
  | _ => false

/-- The Flints that an LPDDR6 range touches. -/
def flintsOf (intlv a n : Nat) : List Nat :=
  (List.range 12).filter fun m =>
    let q := m / 3
    let lo := Nat.max a (q * 0x003000000000)
    let hi := Nat.min (a + n) ((q + 1) * 0x003000000000)
    if bitOf intlv q then
      decide (lo < hi) && ((List.range (Nat.min 3 ((hi - 1) / 4096 - lo / 4096 + 1))).any fun i =>
        ((lo - q * 0x003000000000) / 4096 + i) % 3 == m % 3)
    else decide (Nat.max a (m * 0x001000000000) < Nat.min (a + n) ((m + 1) * 0x001000000000))

/-- Whether a MOVE's range lies in own frame store, own Shale, or LPDDR6 of Flints with a share. -/
def moveRange (intlv : Nat) (shares : List Nat) (g a n : Nat) : Bool :=
  match regionBelow 0 a with
  | .lpddr _ => inOneRange a n && (flintsOf intlv a n).all fun m => decide (1 ≤ shares.getD m 0)
  | _ => ownRange g a n

/-- An address field that the descriptor uses. -/
def usedAddr (g : Nat) (used none0 : Bool) (a : Nat) : Bool := !used || (none0 && a == 0) || ownAddr g a

/-- Whether a kind is block-scaled under the recipes in force. -/
def kindScaled (s : State) (kind : Nat) : Bool := rcpBlock (recipe s kind) != 0

/-- The checks of one descriptor's values and addresses. -/
def descOk (s : State) (g : Nat) (shares : List Nat) (d : Desc) : Bool :=
  match d.body with
  | .load l => usedAddr g true false l.addr && usedAddr g l.scaled false l.scaleAddr
  | .pass p => usedAddr g true false p.addr && usedAddr g p.scaled false p.scaleAddr
  | .gap x => x.g != 0
  | .tile _ => true
  | .output o =>
    let y := decide (o.outMode < 2) || o.stashDst != 0
    usedAddr g y true o.colscaleAddr && usedAddr g y true o.biasAddr && usedAddr g (decide (o.outMode < 2)) true o.auxAddr &&
      usedAddr g (decide (o.outMode < 2)) false o.dst && usedAddr g (o.outMode == 0 && kindScaled s o.kind) false o.dstScale &&
      usedAddr g true true o.stashDst && usedAddr g (o.stashDst != 0 && kindScaled s o.stashKind) false o.stashScale
  | .garnet x =>
    let back := x.op == 2 || x.op == 4 || x.op == 6
    let runs := x.op != 0 && x.op != 7
    usedAddr g runs false x.xAddr && usedAddr g back false x.gAddr && usedAddr g (decide (3 ≤ x.op) && x.op != 7) true x.gammaAddr &&
      usedAddr g (x.op == 3 || x.op == 5) true x.betaAddr && usedAddr g runs false x.dst && usedAddr g (runs && kindScaled s x.kind) false x.dstScale &&
      usedAddr g (x.op == 4 || x.op == 6) true x.pgradDst
  | .send x =>
    (if x.mica then decide (4 ≤ x.micaFmt) && decide (x.micaFmt ≤ 8) else x.micaFmt == 0) &&
      decide (1 ≤ x.bytes) && decide (x.bytes ≤ 2147483648) && x.bytes % 64 == 0 &&
      (if x.dest = 255 then decide (x.port < 48) else decide (x.dest < 64) && dieKind x.dest = .gabbro && x.dest != gabDie g) &&
      ownRange g x.srcAddr x.bytes
  | .recv x =>
    decide (1 ≤ x.bytes) && decide (x.bytes ≤ 2147483648) && x.bytes % 64 == 0 &&
      (if x.source = 255 then decide (x.port < 48) else decide (x.source < 64) && dieKind x.source = .gabbro && x.source != gabDie g) &&
      ownRange g x.dstAddr x.bytes
  | .move x => x.bytes != 0 && x.bytes % 64 == 0 && moveRange s.intlv shares g x.srcAddr x.bytes && moveRange s.intlv shares g x.dstAddr x.bytes
  | .barrier _ => true

/-- No two entries of a list are equal. -/
def noRepeat (l : List Nat) : Bool := match l with | [] => true | a :: t => !(t.contains a) && noRepeat t

/-- At most 1,024 units of descriptors in any 1,024 consecutive cycles of AT. -/
def descDensity (ds : List Desc) : Bool :=
  ds.all fun d => decide (((ds.filter fun e => decide (d.time ≤ e.time) && decide (e.time < d.time + 1024)).map Desc.units).sum ≤ 1024)

/-- The rules of one variant. -/
def variantOk (s : State) (g : Nat) (shares : List Nat) (v : Variant) : Bool :=
  let bars := barriersOf (v.streams.getD 8 [])
  (v.streams.all fun l => atsRise l && issueTight l && garnetSpaced l && finalLast l && barriersOf l == bars &&
    l.all (descOk s g shares)) &&
    (match bars.getLast? with | some b => b.2.1 == v.plan | none => false) &&
    noRepeat ((v.streams.getD 8 []).filterMap fun d => match d.body with | .send x => some x.xferId | _ => none) &&
    noRepeat ((v.streams.getD 8 []).filterMap fun d => match d.body with | .recv x => some x.xferId | _ => none) &&
    descDensity v.streams.flatten

/-! ### Images (06:R138, R139, R146). -/

/-- The variant at an entry of the section table. -/
def parseVariant (bs : List Byte) (e : Nat) : Option Variant :=
  let ent := sliceZ (bs.drop e) 0 80
  if bs.length < e + 80 then none
  else
    let streams := (List.range 9).map fun i =>
      let o := fieldLE ent (8 * i) 4
      let n := fieldLE ent (8 * i + 4) 4
      if bs.length < o + n then none else parseStream (i == 8) (n / 16 + 1) ((bs.drop o).take n)
    if streams.all Option.isSome then some ⟨streams.map fun x => x.getD [], fieldLE ent 72 4⟩ else none

/-- CLASS_TOKENS strictly ascends. -/
def rises : List Nat → Bool
  | a :: b :: t => decide (a < b) && rises (b :: t)
  | _ => true

/-- Read an image for a Gabbro under the rules of R146, shares apart. -/
def parseImage (s : State) (g addr : Nat) (bs : List Byte) : Option Image :=
  let sec := fieldLE bs 8 1
  let cls := fieldLE bs 9 1
  let tok := (List.range 16).map fun c => fieldLE bs (32 + 4 * c) 4
  let shares := (List.range 12).map fun f => fieldLE bs (20 + f) 1
  if 256 ≤ bs.length ∧ fieldLE bs 0 4 = 0x53544E44 ∧ fieldLE bs 4 2 = 1 ∧ fieldLE bs 6 1 = fld s (R_DIE_ID 15) F_DIE_ID_FLOOR
      ∧ fieldLE bs 7 1 = gabDie g ∧ 1 ≤ sec ∧ sec ≤ 64 ∧ 1 ≤ cls ∧ cls ≤ 16 ∧ fieldLE bs 12 4 = bs.length
      ∧ ((bs.drop 96).take 160).all (· == 0#8) ∧ rises (tok.take cls) then
    let vs := (List.range (sec * cls)).map fun i => parseVariant bs (fieldLE bs 16 4 + 80 * i)
    if vs.all Option.isSome && (vs.filterMap id).all (variantOk s g shares) then
      some ⟨sec, cls, fieldLE bs 10 2, shares, tok.take cls, vs.filterMap id, addr, bs.length⟩
    else none
  else none

end Sys2Proof.Machine
end

