-- ==== Sys2Proof/Machine/Exclude.lean ====
section
/-! DEFINITION. What holds windows back besides the schedule itself (10:R226, R243; 11:R262). -/
namespace Sys2Proof.Machine

/-- Whether a command in progress excludes windows from a Gabbro. (Open points: assumption 52, DEDUCED.) -/
def excluded (s : State) (g : Nat) : Bool := s.excl.any fun e => e.2 == g

end Sys2Proof.Machine
end

