-- ==== Sys2Proof/Machine/RingMath.lean ====
section
/-! DEFINITION. The arithmetic of ring blocks (10:R218, R223, R228-R235): hops, Tally words, absolute sums, bead sums,
agreed exponents, the check of an owner, and the block on the wire. -/
namespace Sys2Proof.Machine

/-- FLAGS bits of 10:R223. -/
def rfNonfinite : Nat := 1
/-- SCALE_OVERFLOW. -/
def rfScale : Nat := 2
/-- HOP_OVF. -/
def rfHop : Nat := 4
/-- BEAD_RANGE. -/
def rfBead : Nat := 8
/-- RETRY. -/
def rfRetry : Nat := 16

/-- Value of a 32-bit code. -/
def wVal (w : Nat) : Val := codeVal 23 w
/-- Whether a 32-bit code is infinite or NaN. -/
def wNonFinite (w : Nat) : Bool := bitsOf w 23 8 == 255
/-- Tally word of a 32-bit code. -/
def wInt (w : Nat) : Int := signedOf 32 w

/-- A dyadic rounded to an integer, to nearest-even. -/
def dyInt (a : Dy) : Int :=
  let m := a.z.natAbs
  let r := unitSplit m a.e 0
  let q : Nat := if roundsUp r.1 r.2.1 r.2.2 then r.1 + 1 else r.1
  if a.z < 0 then -(q : Int) else q
/-- A dyadic truncated toward zero. -/
def dyTrunc (a : Dy) : Int :=
  let q : Nat := (unitSplit a.z.natAbs a.e 0).1
  if a.z < 0 then -(q : Int) else q
/-- A dyadic that is not negative as an FP32 code, rounded toward +∞. -/
def fp32Up (a : Dy) : Nat :=
  let m := a.z.natAbs
  if m = 0 then 0
  else
    let l := max (magLog2 m a.e) (-126)
    let r := unitSplit m a.e (l - 23)
    let c := (l + 126).toNat * 2 ^ 23 + (if r.2.1 = 0 then r.1 else r.1 + 1)
    if 255 * 2 ^ 23 ≤ c then 255 * 2 ^ 23 else c

/-- A saturated Tally word, and whether it saturated (10:R231). -/
def tallySat (k : Int) : Nat × Bool :=
  if k < -2147483648 then (2147483648, true)
  else if 2147483647 < k then (2147483647, true)
  else (codeOf 32 k, false)
/-- Entry of an FP32 word in units 2^(X − 158); a non-finite word enters as 0. -/
def tallyEntry (x w : Nat) : Nat × Bool :=
  match wVal w with
  | .fin n m e => tallySat (dyInt ⟨(valDy (.fin n m e)).z, e - ((x : Int) - 158)⟩)
  | _ => (0, false)
/-- A Tally word as FP32. -/
def tallyOut (x k : Nat) : Nat := valCode 23 (dyVal ⟨wInt k, (x : Int) - 158⟩)

/-- The sum of the magnitudes of finite words, as an FP32 code rounded toward +∞. -/
def absOf (vs : List Dy) : Nat := fp32Up (vs.foldl (fun a v => dyAdd a ⟨(v.z.natAbs : Int), v.e⟩) ⟨0, 0⟩)
/-- Dyadics of the finite words of a block. -/
def finiteDys (ws : List Nat) : List Dy := (ws.filter fun w => !(wNonFinite w)).map fun w => valDy (wVal w)
/-- Sum of two ABS codes toward +∞ (10:R228). -/
def absAdd (a b : Nat) : Nat :=
  if wNonFinite a || wNonFinite b then 255 * 2 ^ 23 else fp32Up (dyAdd (valDy (wVal a)) (valDy (wVal b)))

/-- Bead sum of a block in units 2^(X − 222), and whether it is out of range (10:R234). -/
def beadSum (tally : Bool) (x : Nat) (ws : List Nat) : Int × Bool :=
  if tally then ((ws.foldl (fun (a : Int) w => a + wInt w) 0) * (2 ^ 64 : Nat), false)
  else
    ((finiteDys ws).foldl (fun (a : Int) v => a + dyTrunc ⟨v.z, v.e - ((x : Int) - 222)⟩) 0,
     (finiteDys ws).any fun v => v.z != 0 && decide ((x : Int) - 115 ≤ magLog2 v.z.natAbs v.e))

/-- Whether the bead sums of a result and its header agree (10:R235). -/
def beadOk (tally : Bool) (x n abs : Nat) (r h : Int) : Bool :=
  if tally then r == h
  else if wNonFinite abs then true
  else
    -- both sides in units of 2^(−24) and of g
    let lhs : Dy := ⟨((r - h).natAbs : Int), (x : Int) - 222⟩
    let a := valDy (wVal abs)
    let rhs := dyAdd ⟨((n : Int) - 1) * a.z, a.e - 24⟩ ⟨((n : Int) + 1) * 256, (x : Int) - 222⟩
    decide (0 ≤ (dyAdd rhs ⟨-lhs.z, lhs.e⟩).z)

/-- Agreed exponent of the next step (10:R232). -/
def nextX (x : Nat) (ws : List Nat) : Nat :=
  if ws.any wNonFinite then x
  else
    let vs := (finiteDys ws).filter fun v => v.z != 0
    match vs with
    | [] => x
    | v :: t =>
      let l := t.foldl (fun (a : Int) u => max a (magLog2 u.z.natAbs u.e)) (magLog2 v.z.natAbs v.e)
      (clampInt (l + 130) 1 254).toNat

/-! ### Contributions and hops (10:R227-R231, R237). -/

/-- A level-1 contribution in a mode: the block, non-finite words met, words saturated. -/
def entryBlk (tally : Bool) (x contrib : Nat) (ws : List Nat) : RBlk × Nat × Nat :=
  let nf := (ws.filter wNonFinite).length
  let es := ws.map (tallyEntry x)
  let ws' := if tally then es.map Prod.fst else ws
  let sat := if tally then (es.filter Prod.snd).length else 0
  let b := beadSum tally x ws'
  let flags := (if nf = 0 then 0 else rfNonfinite) ||| (if sat = 0 then 0 else rfScale) ||| (if b.2 then rfBead else 0)
  (⟨ws', tally, flags, x, contrib, 0, absOf (finiteDys ws), b.1⟩, nf, sat)

/-- A result of the level below as a contribution; `fp` asks for FP32 (10:R231, R237). -/
def stagedBlk (fp : Bool) (b : RBlk) : RBlk :=
  let tally := b.tally && !fp
  let ws := if b.tally && fp then b.words.map (tallyOut b.x) else b.words
  let s := beadSum tally b.x ws
  let abs := absOf (if tally then ws.map fun w => ⟨wInt w, (b.x : Int) - 158⟩ else finiteDys ws)
  { b with words := ws, tally := tally, hops := 0, abs := abs, bead := s.1,
           flags := b.flags ||| (if s.2 then rfBead else 0) }

/-- One hop: the incoming partial sum and the member's contribution; the answer also gives words saturated. -/
def hopAdd (p c : RBlk) : RBlk × Nat :=
  let tally := p.tally && c.tally
  let pw := if p.tally && !tally then p.words.map (tallyOut p.x) else p.words
  let cw := if c.tally && !tally then c.words.map (tallyOut p.x) else c.words
  let pairs := pw.zip cw
  let sums := if tally then pairs.map fun w => tallySat (wInt w.1 + wInt w.2)
    else pairs.map fun w =>
      let r := valCode 23 (valAdd (wVal w.1) (wVal w.2))
      (r, wNonFinite r && !(wNonFinite w.1) && !(wNonFinite w.2))
  let beyond := (sums.filter Prod.snd).length
  let f := if beyond = 0 then 0 else if tally then rfScale else rfHop ||| rfNonfinite
  (⟨sums.map Prod.fst, tally, p.flags ||| c.flags ||| f, p.x, p.contrib + c.contrib, p.hops + 1, absAdd p.abs c.abs, p.bead + c.bead⟩,
   if tally then beyond else 0)

/-! ### The block on the wire (10:R223). -/

/-- The 64-byte header of a block; `abort` is ABORT_STATUS. (Open points: assumption 50, DESIGN CHOICE.) -/
def ringHeader (ringId step block ctrl : Nat) (b : RBlk) (crc seq abort : Nat) : List Byte :=
  leBytes 4 ringId ++ leBytes 8 step ++ leBytes 4 block ++ leBytes 2 ctrl ++ leBytes 1 b.flags ++ leBytes 1 b.x ++ leBytes 4 b.contrib
    ++ leBytes 2 b.hops ++ leBytes 2 0 ++ leBytes 4 b.abs ++ leBytes 16 (codeOf 128 b.bead) ++ leBytes 4 crc ++ leBytes 4 seq
    ++ leBytes 2 abort ++ leBytes 6 0
/-- CTRL: level − 1, mode, phase, check copy. -/
def ringCtrl (level : Nat) (tally : Bool) (phase : Nat) (copy : Bool) : Nat := level + 4 * b2n tally + 8 * phase + 64 * b2n copy
/-- The words of a payload. -/
def payloadWords (bs : List Byte) : List Nat := (List.range 256).map fun i => fieldLE bs (4 * i) 4
/-- The payload of words. -/
def wordsPayload (ws : List Nat) : List Byte := ws.flatMap (leBytes 4)
/-- The block that a header and payload spell. -/
def readBlk (h pay : List Byte) : RBlk :=
  ⟨payloadWords pay, bitOf (fieldLE h 16 2) 2, fieldLE h 18 1, fieldLE h 19 1, fieldLE h 20 4, fieldLE h 24 2, fieldLE h 28 4,
   signedOf 128 (fieldLE h 32 16)⟩

end Sys2Proof.Machine
end

