-- ==== Sys2Proof/Machine/UpdDrop.lean ====
section
/-! DEFINITION. The release of the update configuration (11:R267). -/
namespace Sys2Proof.Machine

/-- The update configuration is released if it meets a test. -/
def updDrop (s : State) (p : UpdCfg → Bool) : State :=
  match s.upd with
  | some c =>
    if p c then
      (List.range 12).foldl (fun s m => setFld s (R_FLT_UPD_STATUS (fltDie m)) F_FLT_UPD_STATUS_CONFIGURED 0) { s with upd := none }
    else s
  | none => s

/-- Whether an update configuration has an address in one of the quadrants listed. (Open points: assumption 49, DEDUCED.) -/
def updInQuads (c : UpdCfg) (qs : List Nat) : Bool :=
  let hit (a : Nat) := qs.contains (a / 0x003000000000)
  c.parts.any fun p => p.count != 0 &&
    (hit p.wBase || hit p.tailBase || hit p.table || (p.slots.any fun a => a != 0 && hit a) || p.tensors.any fun t => t.rows != 0 && hit t.fact)

end Sys2Proof.Machine
end

