-- ==== Sys2Proof/Machine/Ring.lean ====
section
/-! DEFINITION. Rod rings (10_rod_ring_reduction.md): the configuration record, and what one member does in a
reduce-scatter and an all-gather. NEXT grants credit from its start hello on; blocks that are ready before wait (10:R225). -/
namespace Sys2Proof.Machine

/-! ### The configuration record (10:R216-R220). -/

/-- LEVELS. -/
def rcLevels (r : List Byte) : Nat := fieldLE r 4 1
/-- MODE Tally. -/
def rcTally (r : List Byte) : Bool := fieldLE r 5 1 == 1
/-- POLICY. -/
def rcPolicy (r : List Byte) : Nat := fieldLE r 6 1
/-- n of a level (0-based), 1 for an absent one. -/
def rcN (r : List Byte) (l : Nat) : Nat := if l < rcLevels r then fieldLE r (8 + 2 * l) 2 else 1
/-- B. -/
def rcB (r : List Byte) : Nat := fieldLE r 16 4
/-- INIT_X. -/
def rcInitX (r : List Byte) : Nat := fieldLE r 20 1
/-- AG_FMT. -/
def rcAgFmt (r : List Byte) : Nat := fieldLE r 21 1
/-- AG_SCALED. -/
def rcAgScaled (r : List Byte) : Bool := fieldLE r 22 1 == 1
/-- Position at a level. -/
def rcPos (r : List Byte) (l : Nat) : Nat := fieldLE r (64 + 2 * l) 2
/-- Primary stripes S of a level. -/
def rcS (r : List Byte) (l : Nat) : Nat := fieldLE r (72 + 32 * l) 1
/-- Check stripes C of a level. -/
def rcC (r : List Byte) (l : Nat) : Nat := fieldLE r (73 + 32 * l) 1
/-- Pair i of a level's table of stripes: primary 0-7, check 8-11. -/
def rcPair (r : List Byte) (l i : Nat) : Nat × Nat := (fieldLE r (76 + 32 * l + 2 * i) 1, fieldLE r (77 + 32 * l + 2 * i) 1)
/-- The stripes in use at a level by their place in the table. -/
def rcStripes (r : List Byte) (l : Nat) : List Nat := List.range (rcS r l) ++ (List.range (rcC r l)).map (8 + ·)
/-- Every port that a record names, with its level and whether it is a PREV port. -/
def rcPorts (r : List Byte) : List (Nat × Nat × Bool) :=
  (List.range (rcLevels r)).flatMap fun l => (rcStripes r l).flatMap fun i => [((rcPair r l i).1, l, true), ((rcPair r l i).2, l, false)]
/-- Members of all levels from one on. -/
def rcStride (r : List Byte) (l : Nat) : Nat := ((List.range 3).filter (l < ·)).foldl (fun a k => a * rcN r k) 1
/-- N. -/
def rcMembers (r : List Byte) : Nat := rcN r 0 * rcN r 1 * rcN r 2
/-- Blocks of the level shard of position q at a level. -/
def rcShard (r : List Byte) (l q : Nat) : Nat × Nat :=
  let a := (List.range l).foldl (fun a k => a + rcPos r k * rcStride r k) 0 + q * rcStride r l
  (a * rcB r / rcMembers r, (a + rcStride r l) * rcB r / rcMembers r)
/-- The vector of a level on this member. -/
def rcVector (r : List Byte) (l : Nat) : Nat × Nat := if l = 0 then (0, rcB r) else rcShard r (l - 1) (rcPos r (l - 1))
/-- This member's shard of a level. -/
def rcOwn (r : List Byte) (l : Nat) : Nat × Nat := rcShard r l (rcPos r l)
/-- Blocks from one index to another. -/
def blocksOf (v : Nat × Nat) : List Nat := (List.range (v.2 - v.1)).map (v.1 + ·)
/-- The owner of a block at a level. -/
def rcOwner (r : List Byte) (l b : Nat) : Nat :=
  ((List.range (rcN r l)).find? fun q => decide ((rcShard r l q).1 ≤ b) && decide (b < (rcShard r l q).2)).getD 0
/-- Whether this member sends a block of a level first (10:R218). -/
def rcFirst (r : List Byte) (l b : Nat) : Bool := (rcOwner r l b + 1) % rcN r l == rcPos r l
/-- Base of the staging of a level below the last. -/
def rcStage (r : List Byte) (l : Nat) : Nat :=
  (List.range l).foldl (fun a k => a + ((rcOwn r k).2 - (rcOwn r k).1) * 1088) (fieldLE r 176 8)
/-- Where the result of block b of a level goes: words and header (10:R230). -/
def rcResultAt (r : List Byte) (l b : Nat) : Nat × Nat :=
  let o := rcOwn r l
  if l + 1 = rcLevels r then (fieldLE r 184 8 + (b - o.1) * 1024, fieldLE r 192 8 + (b - o.1) * 64)
  else (rcStage r l + (b - o.1) * 1024, rcStage r l + (o.2 - o.1) * 1024 + (b - o.1) * 64)
/-- Whether an agreed exponent table is kept (10:R232). -/
def rcTable (r : List Byte) : Bool := rcTally r || decide (2 ≤ rcLevels r)
/-- Bytes of one exponent buffer (10:R233). -/
def rcExpBytes (r : List Byte) : Nat := ceilDiv (64 + rcB r) 4096 * 4096
/-- Whether a block is sampled in a step (10:R235). -/
def rcSampled (r : List Byte) (step b : Nat) : Bool := rcLevels r == 1 && (b + step) % 64 == 0
/-- Element bytes of an all-gather block. -/
def rcElemBytes (r : List Byte) : Nat := fmtBytes (rcAgFmt r) 256
/-- The contribution line of a block. -/
def segAt : List (Nat × Nat) → Nat → Nat
  | [], _ => 0
  | (a, n) :: t, b => if b < n then a + 1024 * b else segAt t (b - n)
/-- The all-gather location of a block: elements and scales. -/
def agAt (e : Nat) : List (Nat × Nat × Nat) → Nat → Nat × Nat
  | [], _ => (0, 0)
  | (a, c, n) :: t, b => if b < n then (a + e * b, c + 8 * b) else agAt e t (b - n)

/-! ### Slots and their registers (10:R245, R246). -/

/-- A ring slot. -/
def slotGet (s : State) (k : Nat) : RingSlot := tabGet s.rings.slots k ⟨none, none, none, none, none⟩
/-- Set it. -/
def slotSet (s : State) (k : Nat) (x : RingSlot) : State := { s with rings := { s.rings with slots := tabPut s.rings.slots k x } }
/-- Change the run of a slot. -/
def runMod (s : State) (k : Nat) (f : RingRun → RingRun) : State :=
  slotSet s k { slotGet s k with run := (slotGet s k).run.map f }
/-- Set a field of FLD_RING_STATUS. -/
def rgSet (s : State) (k : Nat) (f : Fld) (v : Nat) : State := setFld s (R_FLD_RING_STATUS k) f v
/-- A slot loses its configuration. -/
def slotFree (s : State) (k : Nat) : State :=
  updDrop (rgSet (slotSet s k { slotGet s k with cfg := none, lastRs := none, lastAg := none }) k F_FLD_RING_STATUS_CONFIGURED 0) fun c => c.slot == k
/-- The reader and writer of a stripe (08:R186). -/
def ringAgent (d : Nat) : Agent := ⟨3, d⟩

/-! ### Hellos and tokens (10:R222, R225, R240). -/

/-- A hello of this member at a level. (Open points: assumption 50, DESIGN CHOICE.) -/
def helloBytes (c : RingCfg) (l : Nat) : List Byte :=
  leBytes 4 (fieldLE c.record 0 4) ++ leBytes 1 (l + 1) ++ leBytes 2 (rcPos c.record l) ++ c.digest
/-- Whether a hello on a port is what the configuration requires of that peer. -/
def helloOk (c : RingCfg) (port : Nat) (h : Hello) : Bool :=
  match (rcPorts c.record).find? fun e => e.1 == port with
  | some (_, l, prev) =>
    let n := rcN c.record l
    let p := rcPos c.record l
    h.ringId == fieldLE c.record 0 4 && h.level == l + 1 && h.digest == c.digest &&
      h.pos == (if prev then (p + n - 1) % n else (p + 1) % n)
  | none => false
/-- What a header says of a sum when it carries none. -/
def noBlk : RBlk := ⟨[], false, 0, 0, 0, 0, 0, 0⟩
/-- Send an abort token, a header with ABORT and its status, on every port of a ring that is up (10:R223, R240). (Open points: assumption 50, DESIGN CHOICE.) -/
def ringTokens (s : State) (c : RingCfg) (r : RingRun) (status : Nat) : State :=
  let h := ringHeader (fieldLE c.record 0 4) r.step 0 (ringCtrl r.level false r.phase false + 32) noBlk 0 0 status
  (rcPorts c.record).foldl (fun s e => if portYoger s e.1 then sendFrame s e.1 frRingAbort h else s) s

/-! ### The end of a ring command. -/

/-- Bytes that the record of a failed command cannot give are free. (Open points: assumption 86, DEDUCED.) -/
def freeFor (s : State) (n : Nat) : Option (List Byte) → State × List Byte
  | some bs => (s, bs)
  | none => freeBytes s n
/-- The RING record of a RING_RS that has ended: CONTRIB_DIGEST over the contribution blocks, then a bead sum of each block of
the final shard, or the digest of them (16:R387, R389). (Open points: assumption 86, DEDUCED.) -/
def ringRecord (s : State) (k : Nat) (c : RingCfg) (r : RingRun) (status : Nat) (data : List Byte) : State :=
  let crcs := (List.range (rcB c.record)).mapM fun b => tabFind r.crcs b
  let own := blocksOf (rcOwn c.record (rcLevels c.record - 1))
  let g := freeFor s 16 (crcs.map fun cs => shake256 (cs.flatMap (leBytes 4)) 16)
  let q := own.foldl (fun (a : State × List Byte) b =>
    let x := freeFor a.1 16 ((tabFind r.beads b).map (leBytes 16))
    (x.1, a.2 ++ x.2)) (g.1, [])
  let beads := if flag s R_SCH_RPL_STATUS F_SCH_RPL_STATUS_BEAD_DIGEST then shake256 q.2 16 else q.2
  rplWrite q.1 0x05 (leBytes 1 k ++ leBytes 1 0 ++ leBytes 2 status ++ sliceZ data 0 17 ++ List.replicate 11 0#8 ++ g.2
    ++ leBytes 8 own.length ++ beads)

/-- A ring command ends: registers, the RING record, the reply, and the windows it held back (10:R226, R244; 16:R387). -/
def ringEnd (s : State) (k status : Nat) (data : List Byte) : State :=
  match (slotGet s k).run with
  | none => s
  | some r =>
    let s := match (slotGet s k).cfg with
      | some c => if r.ag || !(rplLogs s) then s else ringRecord s k c r status data
      | none => s
    let rs := if r.ag then (slotGet s k).lastRs else some (r.step, status)
    let ag := if r.ag && status == 0 then some r else (slotGet s k).lastAg
    let s := slotSet s k { slotGet s k with run := none, lastRs := rs, lastAg := ag }
    let s := rgSet (rgSet (rgSet (rgSet s k F_FLD_RING_STATUS_ACTIVE 0) k F_FLD_RING_STATUS_PHASE 0) k F_FLD_RING_STATUS_LEVEL 0) k
      F_FLD_RING_STATUS_LAST_STATUS status
    let s := { s with excl := s.excl.filter fun e => e.1 != r.id }
    match s.cmds.taken.find? fun t => t.id == r.id with
    | some t => finish s t (.done status data)
    | none => s

/-- What a failed command leaves undefined (10:R240): the results of its own shards, or its all-gather destinations. (Open points: assumption 51, DEDUCED.) -/
def ringLose (s : State) (c : RingCfg) (r : RingRun) : State :=
  if r.ag then
    let own := rcOwn c.record (rcLevels c.record - 1)
    ((blocksOf (0, rcB c.record)).filter fun b => !(decide (own.1 ≤ b) && decide (b < own.2))).foldl (fun s b =>
      let a := agAt (rcElemBytes c.record) c.ags b
      let s := loseRange s a.1 (a.1 + rcElemBytes c.record)
      if rcAgScaled c.record then loseRange s a.2 (a.2 + 8) else s) s
  else
    (List.range (r.level + 1)).foldl (fun s l =>
      (blocksOf (rcOwn c.record l)).foldl (fun s b =>
        let a := rcResultAt c.record l b
        loseRange (loseRange s a.1 (a.1 + 1024)) a.2 (a.2 + 64)) s) s

/-- A ring command fails with a status: tokens, the failed step, the reply (10:R240, R241). -/
def ringFail (s : State) (k status : Nat) : State :=
  match (slotGet s k).cfg, (slotGet s k).run with
  | some c, some r => ringEnd (ringTokens { (if r.live then ringLose s c r else s) with stepFailed := true } c r status) k status []
  | _, _ => s

/-! ### Blocks leave (10:R219, R224, R243). -/

/-- Put a block on a port: its payload coded, in raw Mica blocks when it is in Tally (10:R224), or bare. -/
def ringWire (s : State) (c : RingCfg) (port phase : Nat) (tally : Bool) (h pay : List Byte) : State :=
  let fmt := if phase = 3 then rcAgFmt c.record else 8
  let flags := fieldLE c.record 7 1
  let mica := if phase = 3 then bitOf flags 1 && micaFmtOk fmt else tally || bitOf flags 0
  if mica then
    let q := micaBlocks s port fmt (if tally then none else micaRingEpoch s port) false pay
    sendBlocks q.1 port frRingBlock (plainBlock h :: q.2)
  else sendBlocks s port frRingBlock [plainBlock h, plainBlock pay]

/-- Send a block with its payload on NEXT of a stripe, or hold it back until NEXT grants credit. (Open points: assumption 80, DEDUCED.) -/
def ringSend (s : State) (k stripe : Nat) (phase : Nat) (copy : Bool) (b : Nat) (x : RBlk) (pay : List Byte) : State :=
  match (slotGet s k).cfg, (slotGet s k).run with
  | some c, some r =>
    let key := r.level * 16 + stripe
    let seq := tabGet r.seqTx key 0
    let s := runMod s k fun (r : RingRun) => { r with seqTx := tabPut r.seqTx key (seq + 1) }
    let port := (rcPair c.record r.level stripe).2
    let h := ringHeader (fieldLE c.record 0 4) r.step b (ringCtrl r.level x.tally phase copy) x (crc32c pay).toNat seq 0
    if r.greeted.contains port then ringWire s c port phase x.tally h pay
    else runMod s k fun (r : RingRun) => { r with kept := r.kept ++ [(port, phase, x.tally, h, pay)] }
  | _, _ => s

/-- Send a block of a sum. -/
def ringSendBlk (s : State) (k stripe phase : Nat) (copy : Bool) (b : Nat) (x : RBlk) : State :=
  ringSend s k stripe phase copy b x (wordsPayload x.words)

/-- Send the blocks of a stripe that are ready and whose turn has come (the fuel bounds their number). (Open points: assumption 80, DEDUCED.) -/
def ringFlush : Nat → State → Nat → Nat → State
  | 0, s, _, _ => s
  | f + 1, s, k, stripe =>
    match (slotGet s k).run with
    | none => s
    | some r =>
      match tabGet r.turn stripe [] with
      | [] => s
      | b :: rest =>
        match r.ready.find? fun e => e.1 == stripe && e.2.1 == b with
        | none => s
        | some e =>
          let s := runMod s k fun (r : RingRun) =>
            { r with turn := tabPut r.turn stripe rest, ready := r.ready.filter fun x => !(x.1 == stripe && x.2.1 == b) }
          ringFlush f (ringSendBlk s k stripe r.phase (decide (8 ≤ stripe)) b e.2.2) k stripe
/-- A block of a sum is ready to leave on a stripe: on each stripe, blocks move in ascending order (10:R219). (Open points: assumption 80, DEDUCED.) -/
def ringOffer (s : State) (k stripe b : Nat) (x : RBlk) : State :=
  let s := runMod s k fun (r : RingRun) => { r with ready := r.ready ++ [(stripe, b, x)] }
  match (slotGet s k).run with
  | some r => ringFlush (r.ready.length + 1) s k stripe
  | none => s

/-! ### Contributions (10:R226-R228, R237). -/

/-- Read bytes for a stripe of a Feldspar; none when they meet an uncorrectable error. -/
def ringRead (s : State) (d a n : Nat) : State × Option (List Byte) :=
  let r := ncRead s (ringAgent d) a n
  (r.1, if r.2.2 then none else some r.2.1)

/-- X of a block. (Open points: assumption 51, DEDUCED.) -/
def ringX (c : RingCfg) (r : RingRun) (b : Nat) : Nat := if r.xs.isEmpty then rcInitX c.record else r.xs.getD b 0

/-- The member's contribution to a block at the level in progress, `fp` asking for FP32; its counts go to a Feldspar. -/
def ringContrib (s : State) (k : Nat) (c : RingCfg) (r : RingRun) (d b : Nat) (fp : Bool) : State × Option RBlk :=
  if r.level = 0 then
    let got := if r.dropped then (s, some (List.replicate 1024 0#8)) else ringRead s d (segAt c.segs b) 1024
    match got with
    | (s, none) => (s, none)
    | (s, some bs) =>
      let s := runMod s k fun (r : RingRun) => { r with crcs := tabPut r.crcs b (crc32c bs).toNat }
      let e := entryBlk (rcTally c.record && !fp) (ringX c r b) (if r.dropped then 0 else 1) (payloadWords bs)
      (count (count s (R_FLD_RING_NF d) e.2.1) (R_FLD_RING_OVF d) e.2.2, some e.1)
  else
    let a := rcResultAt c.record (r.level - 1) b
    match ringRead s d a.1 1024 with
    | (s, none) => (s, none)
    | (s, some pay) =>
      match ringRead s d a.2 64 with
      | (s, none) => (s, none)
      | (s, some h) =>
        let x := readBlk h pay
        let nf := if x.tally then 0 else (x.words.filter wNonFinite).length
        (count s (R_FLD_RING_NF d) nf, some (stagedBlk fp x))

/-- Marks of a block in the rod's maps. -/
def rodMark (r : RingRun) (b : Nat) : Nat := ((r.rod.filter fun m => m.1 == b).foldl (fun a m => a ||| m.2) 0)
/-- Whether a pass of a block asks for FP32 (10:R237). -/
def passFp (c : RingCfg) (r : RingRun) (b : Nat) : Bool := !(rcTally c.record) || (r.phase == 1 && bitOf (rodMark r b) 0)
/-- Primary stripe of a block in the phase in progress. -/
def passStripe (c : RingCfg) (r : RingRun) (b : Nat) : Nat :=
  (b + b2n (r.phase == 1 && bitOf (rodMark r b) 1)) % rcS c.record r.level
/-- Check stripe of a block, by its place in the table. -/
def checkStripe (c : RingCfg) (r : RingRun) (b : Nat) : Nat := 8 + b % Nat.max 1 (rcC c.record r.level)
/-- The Feldspar of a stripe. -/
def stripeDie (c : RingCfg) (r : RingRun) (stripe : Nat) : Nat := portDie (rcPair c.record r.level stripe).1

/-- Send the member's own contribution first, and its check copy when the block is sampled. -/
def ringOpen (s : State) (k b : Nat) : State :=
  match (slotGet s k).cfg, (slotGet s k).run with
  | some c, some r =>
    let go (s : State) (stripe : Nat) : State :=
      match ringContrib s k c r (stripeDie c r stripe) b (passFp c r b) with
      | (s, none) => ringFail s k 0x0301
      | (s, some x) =>
        let x := if r.phase = 1 && rodMark r b == 2 then { x with flags := x.flags ||| rfRetry } else x
        ringOffer s k stripe b x
    let s := go s (passStripe c r b)
    if rcSampled c.record r.step b then go s (checkStripe c r b) else s
  | _, _ => s

/-- Begin a pass over blocks: what this member sends first leaves, the rest is owed by PREV. -/
def ringPass (s : State) (k level phase : Nat) (bs : List Nat) : State :=
  match (slotGet s k).cfg with
  | none => s
  | some c =>
    let owed := bs.filter fun b => !(rcFirst c.record level b)
    let s := runMod s k fun (r : RingRun) =>
      let r := { r with level := level, phase := phase, todo := owed, copies := owed.filter (rcSampled c.record r.step), torn := [],
                        ready := [] }
      let go := bs.filter fun b => rcOwner c.record level b != rcPos c.record level
      let on (i : Nat) := go.filter fun b => if i < 8 then passStripe c r b == i else rcSampled c.record r.step b && checkStripe c r b == i
      { r with turn := (rcStripes c.record level).map fun i => (i, on i) }
    let s := rgSet (rgSet s k F_FLD_RING_STATUS_LEVEL level) k F_FLD_RING_STATUS_PHASE phase
    (bs.filter (rcFirst c.record level)).foldl (fun s b => ringOpen s k b) s

/-- Whether a pass owes nothing more. -/
def passDone (r : RingRun) : Bool := r.todo.isEmpty && r.copies.isEmpty

/-- Marks as a map frame carries them: block and bits. (Open points: assumption 50, DESIGN CHOICE.) -/
def mapBytes (ms : List (Nat × Nat)) : List Byte := ms.flatMap fun m => leBytes 4 m.1 ++ leBytes 1 m.2
/-- Send a map on a port, one frame at least: a map without marks is sent too (10:R236). -/
def mapSend (s : State) (p : Nat) (ms : List (Nat × Nat)) : State :=
  if ms.isEmpty then sendFrame s p frRingMap [] else sendLong s p frRingMap 2090 (mapBytes ms)
/-- The adds of a level are done on this member: its map goes to the rod (10:R236). -/
def mapOut (s : State) (k : Nat) : State :=
  match (slotGet s k).cfg, (slotGet s k).run with
  | some c, some r =>
    if r.phase = 0 && passDone r then
      mapSend s (rcPair c.record r.level 0).1 r.marks
    else s
  | _, _ => s

/-- Begin a level of a reduce-scatter. -/
def ringLevel (s : State) (k level : Nat) : State :=
  match (slotGet s k).cfg with
  | none => s
  | some c =>
    let s := runMod s k fun (r : RingRun) => { r with marks := [], rod := [], mains := [], checks := [] }
    mapOut (ringPass s k level 0 (blocksOf (rcVector c.record level))) k

/-! ### The owner (10:R230, R231, R234-R238). -/

/-- Keep a result that the owner has checked; `bad` says that a comparison or CRC failed. -/
def ringKeep (s : State) (k b stripe : Nat) (x : RBlk) (bad : Bool) : State :=
  match (slotGet s k).cfg, (slotGet s k).run with
  | some c, some r =>
    let d := stripeDie c r stripe
    let sum := beadSum x.tally x.x x.words
    let x := if sum.2 then { x with flags := x.flags ||| rfBead } else x
    let ranged := bitOf x.flags 3
    let s := if ranged then count s (R_FLD_RING_BEAD_RANGE d) 1 else s
    let bad := bad || (2 ≤ rcLevels c.record && !ranged && !(bitOf x.flags 0) &&
      !(beadOk x.tally x.x (rcN c.record r.level) x.abs sum.1 x.bead))
    let s := if bad then count s (R_FLD_RING_MISMATCH d) 1 else s
    if bad && r.phase == 1 then ringFail s k 0x0401
    else
      let scaled := bitOf x.flags 1 || (rcPolicy c.record == 2 && x.tally && bitOf x.flags 0)
      let bits := if r.phase = 0 then b2n scaled + 2 * b2n bad else 0
      let last := r.level + 1 == rcLevels c.record
      let y := if last && x.tally then { x with words := x.words.map (tallyOut x.x), tally := false } else x
      let a := rcResultAt c.record r.level b
      let pay := wordsPayload y.words
      let w1 := postWrite s d (ringAgent d) a.1 pay
      let h := ringHeader (fieldLE c.record 0 4) r.step b (ringCtrl r.level y.tally r.phase false) y (crc32c pay).toNat
        (tabGet r.seqRx (r.level * 16 + stripe) 0 - 1) 0
      let w2 := postWrite w1.1 d (ringAgent d) a.2 h
      if w1.2 && w2.2 then
        runMod w2.1 k fun (r : RingRun) =>
          { r with mains := tabPut r.mains b y, checks := tabDel r.checks b,
                   beads := if last then tabPut r.beads b (codeOf 128 sum.1) else r.beads,
                   marks := if bits = 0 then r.marks else r.marks ++ [(b, bits)] }
      else ringFail w2.1 k 0x0301
  | _, _ => s

/-- A sum reaches its owner: a sampled block waits for its check copy (10:R235). (Open points: assumption 51, DEDUCED.) -/
def ringOwner (s : State) (k b stripe : Nat) (copy : Bool) (x : RBlk) (bad : Bool) : State :=
  match (slotGet s k).cfg, (slotGet s k).run with
  | some c, some r =>
    if rcSampled c.record r.step b then
      match (if copy then tabFind r.mains b else tabFind r.checks b) with
      | none =>
        runMod s k fun (r : RingRun) =>
          let r := if bad then { r with torn := b :: r.torn } else r
          if copy then { r with checks := tabPut r.checks b x } else { r with mains := tabPut r.mains b x }
      | some y =>
        let s := count s (R_FLD_RING_SAMPLED (stripeDie c r (checkStripe c r b))) 1
        let same := x.words == y.words && x.flags == y.flags && x.contrib == y.contrib && x.abs == y.abs
        ringKeep s k b (passStripe c r b) (if copy then y else x) (bad || !same || r.torn.contains b)
    else ringKeep s k b stripe x bad
  | _, _ => s

/-- A block of a sum arrives on a stripe: the hop, and on to NEXT or to the owner (10:R228). -/
def ringHop (s : State) (k stripe b : Nat) (copy : Bool) (p : RBlk) (bad : Bool) : State :=
  match (slotGet s k).cfg, (slotGet s k).run with
  | some c, some r =>
    let d := stripeDie c r stripe
    match ringContrib s k c r d b (passFp c r b) with
    | (s, none) => ringFail s k 0x0301
    | (s, some x) =>
      let h := hopAdd p x
      let s := count (count s (R_FLD_RING_OVF d) h.2) (R_FLD_RING_ADDS d) 1
      let s := runMod s k fun (r : RingRun) =>
        if copy then { r with copies := r.copies.filter (· ≠ b) } else { r with todo := r.todo.filter (· ≠ b) }
      if rcOwner c.record r.level b = rcPos c.record r.level then ringOwner s k b stripe copy h.1 bad
      else if bad && r.phase == 1 then ringFail (count s (R_FLD_RING_MISMATCH d) 1) k 0x0401
      else
        let s := if bad then
            runMod (count s (R_FLD_RING_MISMATCH d) 1) k fun (r : RingRun) => { r with marks := r.marks ++ [(b, 2)] }
          else s
        ringOffer s k stripe b h.1
  | _, _ => s

/-! ### All-gather (10:R243). -/

/-- The payload of an all-gather block. -/
def agPayload (c : RingCfg) (elems scales : List Byte) : List Byte :=
  let p := elems ++ (if rcAgScaled c.record then scales else [])
  p ++ List.replicate ((64 - p.length % 64) % 64) 0#8

/-- Read a block of the all-gather table for a stripe of a Feldspar; none after an uncorrectable error. -/
def agRead (s : State) (c : RingCfg) (d b : Nat) : State × Option (List Byte) :=
  let a := agAt (rcElemBytes c.record) c.ags b
  match ringRead s d a.1 (rcElemBytes c.record) with
  | (s, none) => (s, none)
  | (s, some e) =>
    match (if rcAgScaled c.record then ringRead s d a.2 8 else (s, some [])) with
    | (s, none) => (s, none)
    | (s, some sc) => (s, some (agPayload c e sc))
/-- Send an all-gather block on NEXT. -/
def agSend (s : State) (k b : Nat) (pay : List Byte) : State :=
  match (slotGet s k).cfg, (slotGet s k).run with
  | some c, some r => ringSend s k (b % rcS c.record r.level) 3 false b noBlk pay
  | _, _ => s

/-- Read an own block of the all-gather table and send it. -/
def agOpen (s : State) (k b : Nat) : State :=
  match (slotGet s k).cfg, (slotGet s k).run with
  | some c, some r =>
    let d := stripeDie c r (b % rcS c.record r.level)
    match agRead s c d b with
    | (s, none) => ringFail s k 0x0301
    | (s, some pay) => agSend s k b pay
  | _, _ => s

/-- Begin a level of an all-gather: the member's shard leaves, the rest of the vector is owed. -/
def agLevel (s : State) (k level : Nat) : State :=
  match (slotGet s k).cfg with
  | none => s
  | some c =>
    let own := rcOwn c.record level
    let rest := (blocksOf (rcVector c.record level)).filter fun b => !(decide (own.1 ≤ b) && decide (b < own.2))
    let s := runMod s k fun (r : RingRun) => { r with level := level, phase := 3, todo := rest, again := [] }
    let s := rgSet (rgSet s k F_FLD_RING_STATUS_LEVEL level) k F_FLD_RING_STATUS_PHASE 3
    (blocksOf own).foldl (fun s b => agOpen s k b) s

/-- An all-gather block arrives on a stripe. -/
def agTake (s : State) (k stripe b : Nat) (pay : List Byte) (bad : Bool) : State :=
  match (slotGet s k).cfg, (slotGet s k).run with
  | some c, some r =>
    let d := stripeDie c r stripe
    if bad then
      let s := count s (R_FLD_RING_MISMATCH d) 1
      if r.again.contains b then ringFail s k 0x0401
      else
        let s := regInc (runMod s k fun (r : RingRun) => { r with again := b :: r.again }) (R_FLD_RING_RETRY k) 1
        sendFrame s (rcPair c.record r.level ((b + 1) % rcS c.record r.level)).1 frRingAgain
          (ringHeader (fieldLE c.record 0 4) r.step b (ringCtrl r.level false 3 false) noBlk 0 0 0)
    else
      let a := agAt (rcElemBytes c.record) c.ags b
      let w1 := postWrite s d (ringAgent d) a.1 (sliceZ pay 0 (rcElemBytes c.record))
      let w2 := if rcAgScaled c.record then postWrite w1.1 d (ringAgent d) a.2 (sliceZ pay (rcElemBytes c.record) 8) else (w1.1, true)
      if w1.2 && w2.2 then
        let s := runMod w2.1 k fun (r : RingRun) => { r with todo := r.todo.filter (· ≠ b), got := r.got + 1 }
        if (rcPos c.record r.level + 1) % rcN c.record r.level = rcOwner c.record r.level b then s else agSend s k b pay
      else ringFail w2.1 k 0x0301
  | _, _ => s

/-- The level and stripe, by its place in the table, whose NEXT is a port. -/
def nextOf (r : List Byte) (port : Nat) : Option (Nat × Nat) :=
  ((List.range (rcLevels r)).flatMap fun l => (rcStripes r l).map fun i => (l, i)).find? fun e => (rcPair r e.1 e.2).2 == port
/-- Whether an all-gather holds a block of a level's vector: it has been received, or is the member's own. -/
def agHolds (c : RingCfg) (r : RingRun) (l b : Nat) : Bool :=
  let v := rcVector c.record l
  let own := rcOwn c.record l
  decide (v.1 ≤ b) && decide (b < v.2) &&
    (decide (r.level < l) || (r.level == l && ((decide (own.1 ≤ b) && decide (b < own.2)) || !(r.todo.contains b))))
/-- NEXT asks for an all-gather block again on a stripe: it is read and sent once more, the run under way or the last one
that ended giving its SEQ (10:R243). (Open points: assumption 80, DEDUCED.) -/
def agAgain (s : State) (port : Nat) (bytes : List Byte) : State :=
  match (List.range 8).find? fun k => match (slotGet s k).cfg with
    | some c => fieldLE c.record 0 4 == fieldLE bytes 0 4 && (nextOf c.record port).isSome
    | none => false with
  | none => s
  | some k =>
    let x := slotGet s k
    let live := match x.run with | some r => r.ag && r.live | none => false
    match x.cfg, (if live then x.run else x.lastAg) with
    | some c, some r =>
      match nextOf c.record port with
      | none => s
      | some (l, i) =>
        let b := fieldLE bytes 12 4
        if fieldLE bytes 4 8 ≠ r.step || !(agHolds c r l b) then s
        else match agRead s c (portDie port) b with
          | (s, none) => if live then ringFail s k 0x0301 else s
          | (s, some pay) =>
            let seq := tabGet r.seqTx (l * 16 + i) 0
            let up (q : RingRun) : RingRun := { q with seqTx := tabPut q.seqTx (l * 16 + i) (seq + 1) }
            let s := if live then runMod s k up else slotSet s k { slotGet s k with lastAg := some (up r) }
            ringWire s c port 3 false (ringHeader (fieldLE c.record 0 4) r.step b (ringCtrl l false 3 false) noBlk (crc32c pay).toNat seq 0) pay
    | _, _ => s

/-! ### Levels and phases (10:R230, R236-R239). -/

/-- A verdict of no block. -/
def verdictNone : RingVerdict := ⟨0, 0, 0, 0, none, 0, false⟩
/-- Join two verdicts. (Open points: assumption 51, DEDUCED.) -/
def verdictJoin (a b : RingVerdict) : RingVerdict :=
  { flags := a.flags ||| b.flags, nonfinite := a.nonfinite + b.nonfinite, repassed := a.repassed + b.repassed,
    retried := a.retried + b.retried,
    low := match a.low, b.low with | some x, some y => some (Nat.min x y) | some x, none => some x | none, y => y,
    high := Nat.max a.high b.high, scale := a.scale || b.scale }
/-- The verdict of a member's final blocks. (Open points: assumption 51, DEDUCED.) -/
def verdictOf (bs : List RBlk) : RingVerdict :=
  bs.foldl (fun v b => verdictJoin v ⟨b.flags, b2n (bitOf b.flags 0), 0, 0, some b.contrib, b.contrib, false⟩) verdictNone

/-- The 64 bytes of a verdict. (Open points: assumption 50, DESIGN CHOICE.) -/
def verdictBytes (step : Nat) (v : RingVerdict) : List Byte :=
  leBytes 8 step ++ leBytes 4 v.nonfinite ++ leBytes 4 v.repassed ++ leBytes 4 v.retried ++ leBytes 4 (v.low.getD 0) ++ leBytes 4 v.high
    ++ leBytes 1 v.flags ++ leBytes 1 (b2n v.scale) ++ List.replicate 34 0#8
/-- A verdict and exponent bytes go to PREV of a level's rod. (Open points: assumption 51, DEDUCED.) -/
def verdictOut (s : State) (c : RingCfg) (l step : Nat) (v : RingVerdict) (xs : List Byte) : State :=
  let p := (rcPair c.record l 0).1
  sendLong (sendFrame s p frRingMap (verdictBytes step v)) p frRingMap 2048 xs
/-- The agreed exponent of the next step of a block of the final shard, as this member has it. (Open points: assumption 51, DEDUCED.) -/
def newX (r : RingRun) (b x : Nat) : Nat := match tabFind r.mains b with | some y => nextX x y.words | none => x

/-- The level in progress is complete on this member. After the last one its verdict and the exponents of its final shard go to
the rod of level 1 (10:R239). -/
def ringLevelDone (s : State) (k : Nat) : State :=
  match (slotGet s k).cfg, (slotGet s k).run with
  | some c, some r =>
    if r.level + 1 < rcLevels c.record then ringLevel s k (r.level + 1)
    else
      let v := verdictJoin r.verdict (verdictOf (r.mains.map Prod.snd))
      let s := rgSet (runMod s k fun (r : RingRun) => { r with phase := 2, verdict := v }) k F_FLD_RING_STATUS_PHASE 2
      let xs := if rcTable c.record then (blocksOf (rcOwn c.record r.level)).map fun b => BitVec.ofNat 8 (newX r b (ringX c r b)) else []
      verdictOut s c 0 r.step v xs
  | _, _ => s

/-- An all-gather level with nothing owed gives way to the next one down, and the last one ends the command once every block has
left. (Open points: assumption 80, DEDUCED.) -/
def agSettle : Nat → State → Nat → State
  | 0, s, _ => s
  | f + 1, s, k =>
    match (slotGet s k).run with
    | some r =>
      if r.live && r.phase == 3 && passDone r then
        if r.level = 0 then (if r.kept.isEmpty then ringEnd s k 0 (leBytes 4 r.got) else s) else agSettle f (agLevel s k (r.level - 1)) k
      else s
    | none => s

/-- What follows once nothing more is owed: the map of the adds goes out; a repass or an all-gather level ends. (Open points: assumption 51, DEDUCED.) -/
def ringSettle (s : State) (k : Nat) : State :=
  match (slotGet s k).run with
  | some r =>
    if !(r.live && passDone r) then s
    else if r.phase = 1 then ringLevelDone s k
    else if r.phase = 3 then agSettle 4 s k
    else mapOut s k
  | none => s

/-- Take one block whose level and phase are in progress: SEQ, CRC, then its hop. -/
def ringTake (s : State) (k port : Nat) (bytes : List Byte) : State :=
  match (slotGet s k).cfg, (slotGet s k).run with
  | some c, some r =>
    match (rcStripes c.record r.level).find? fun i => (rcPair c.record r.level i).1 == port with
    | none => s
    | some stripe =>
      let key := r.level * 16 + stripe
      if fieldLE bytes 52 4 ≠ tabGet r.seqRx key 0 then ringFail s k 0x0407
      else
        let s := runMod s k fun (r : RingRun) => { r with seqRx := tabPut r.seqRx key (tabGet r.seqRx key 0 + 1) }
        let b := fieldLE bytes 12 4
        let copy := bitOf (fieldLE bytes 16 2) 6
        let pay := bytes.drop 64
        let bad := (crc32c pay).toNat != fieldLE bytes 48 4
        let owed := if copy then r.copies.contains b else r.todo.contains b
        if !owed then s
        else ringSettle (if r.phase = 3 then agTake s k stripe b pay bad else ringHop s k stripe b copy (readBlk bytes pay) bad) k
  | _, _ => s

/-- Whether a block belongs to the level and phase in progress. -/
def ringNow (r : RingRun) (bytes : List Byte) : Bool :=
  let ctrl := fieldLE bytes 16 2
  r.live && ctrl % 4 == r.level && bitsOf ctrl 3 2 == r.phase && !(passDone r)

/-- Take the blocks that came early and whose turn has come (the fuel bounds their number). -/
def ringDrain : Nat → State → Nat → State
  | 0, s, _ => s
  | f + 1, s, k =>
    match (slotGet s k).run with
    | none => s
    | some r =>
      match r.early.findIdx? fun e => ringNow r e.2 with
      | none => s
      | some i =>
        match r.early[i]? with
        | none => s
        | some e => ringDrain f (ringTake (runMod s k fun (r : RingRun) => { r with early := r.early.eraseIdx i }) k e.1 e.2) k

/-- Take every block whose turn has come. -/
def ringMore (s : State) (k : Nat) : State :=
  match (slotGet s k).run with
  | some r => ringDrain (r.early.length + 1) s k
  | none => s

/-! ### The start of a run (10:R225-R227). -/

/-- The Gabbros whose SCHEDULE or WELL regions hold one of the ranges given. (Open points: assumption 52, DEDUCED.) -/
def heldGabbros (s : State) (ranges : List (Nat × Nat)) : List Nat :=
  (List.range 16).filter fun g => ranges.any fun r =>
    (List.range (ceilDiv r.2 1024 + 1)).any fun i =>
      let a := if 1024 * i < r.2 then r.1 + 1024 * i else r.1 + (r.2 - 1)
      match regionBelow 0 a with
      | .shale o => o == g && r.2 != 0 && (rgnType s g (a - shaleBase g) == 2 || rgnType s g (a - shaleBase g) == 3)
      | _ => false

/-- The ranges that a run keeps windows from: segments of the contribution, or of the all-gather table. -/
def ringRanges (c : RingCfg) (ag : Bool) : List (Nat × Nat) :=
  if ag then c.ags.flatMap fun g => [(g.1, g.2.2 * rcElemBytes c.record), (g.2.1, g.2.2 * (if rcAgScaled c.record then 8 else 0))]
  else c.segs.map fun g => (g.1, g.2 * 1024)

/-- Read a line of the contribution on the bank-side path of its Shale, as a block summary (08:R170); a segment in LPDDR6 is
read as the stripes read it. (Open points: assumption 51, DEDUCED; assumption 13, DEDUCED.) -/
def scanRead (s : State) (a : Nat) : State × Option (List Byte) :=
  match regionOf s a with
  | .shale g =>
    let r := readMem s ⟨5, shlDie g⟩ 0x04 a 1024
    (r.1, if r.2.2 then none else some r.2.1)
  | _ => ringRead s (fldDie 0) a 1024
/-- Non-finite words of the whole contribution (10:R227); none when it meets an uncorrectable error. (Open points: assumption 51, DEDUCED.) -/
def preScan (s : State) (c : RingCfg) : State × Option Nat :=
  (List.range (rcB c.record)).foldl (fun (a : State × Option Nat) b =>
    match a.2 with
    | none => a
    | some n =>
      match scanRead a.1 (segAt c.segs b) with
      | (s, none) => (s, none)
      | (s, some bs) => (s, some (n + ((payloadWords bs).filter wNonFinite).length))) (s, some 0)

/-- The windows that held a run back have ended: the pre-scan, then the first level. -/
def ringGo (s : State) (k : Nat) : State :=
  match (slotGet s k).cfg, (slotGet s k).run with
  | some c, some r =>
    if r.live || (s.excl.any fun e => e.1 == r.id && winOpen s e.2) then s
    else
      let s := runMod s k fun (r : RingRun) => { r with live := true }
      if r.ag then ringMore (ringSettle (agLevel s k (rcLevels c.record - 1)) k) k
      else if rcPolicy c.record = 1 then
        match preScan s c with
        | (s, none) => ringFail s k 0x0301
        | (s, some 0) => ringMore (ringLevel s k 0) k
        | (s, some n) =>
          let d := fldDie 0
          let s := regInc (strataEvent (count s (R_FLD_RING_NF d) n) d 0x40 0 k k) (R_FLD_RING_DROPPED d) 1
          ringMore (ringLevel (runMod s k fun (r : RingRun) => { r with dropped := true }) k 0) k
      else ringMore (ringLevel s k 0) k
  | _, _ => s

/-- Where a start hello of a ring is kept: one for each ring on each port (10:R225). (Open points: assumption 80, DEDUCED.) -/
def helloKey (port ringId : Nat) : Nat := ringId * 64 + port
/-- Whether a configuration names a port. -/
def namesPort (c : RingCfg) (p : Nat) : Bool := (rcPorts c.record).any (·.1 == p)
/-- Whether a start hello on a port is for the command of a slot: of its ring, or of no ring that another slot has on that
port. (Open points: assumption 80, DEDUCED.) -/
def helloMine (s : State) (k : Nat) (c : RingCfg) (port : Nat) (h : Hello) : Bool :=
  let other (q : RingCfg → Bool) : Bool := (List.range 8).any fun j => j != k && match (slotGet s j).cfg with
    | some d => namesPort d port && q d
    | none => false
  helloOk c port h ||
    !(other fun d => helloOk d port h || (fieldLE d.record 0 4 == h.ringId && fieldLE c.record 0 4 != h.ringId))
/-- The start hellos that were kept for a slot's own command, with their ports. -/
def helloKept (s : State) (k : Nat) (c : RingCfg) : List (Nat × Hello) :=
  (rcPorts c.record).flatMap fun e =>
    (s.rings.hellos.filter fun x => x.1 % 64 == e.1 && helloMine s k c e.1 x.2).map fun x => (e.1, x.2)
/-- Compare the hellos kept for a slot with the run that starts; the first disagreement gives its status. (Open points: assumption 50, DESIGN CHOICE.) -/
def keptHello (s : State) (k : Nat) (c : RingCfg) (step : Nat) : Option Nat :=
  ((helloKept s k c).filterMap fun e =>
    if !(helloOk c e.1 e.2) then some 0x0405 else if e.2.step ≠ step then some 0x0408 else none).head?

/-- The areas that a record gives the ring: staging, results, headers, exponents, whether or not a table is kept (10:R220,
R233). (Open points: assumption 51, DEDUCED.) -/
def ringAreas (r : List Byte) : List (Nat × Nat) :=
  let last := rcLevels r - 1
  let own := (rcOwn r last).2 - (rcOwn r last).1
  [(fieldLE r 176 8, rcStage r last - fieldLE r 176 8), (fieldLE r 184 8, own * 1024), (fieldLE r 192 8, own * 64),
   (fieldLE r 200 8, 2 * rcExpBytes r)].filter fun a => a.2 != 0
/-- The areas that a run reads or writes. -/
def runAreas (r : List Byte) : List (Nat × Nat) :=
  (ringAreas r).filter fun a => rcTable r || a != (fieldLE r 200 8, 2 * rcExpBytes r)

/-- Whether a die reaches every home of a range. -/
def dieReach (s : State) (d a n : Nat) : Bool :=
  n == 0 || (List.range (n / 4096 + 2)).all fun i => homeUp s d (if 4096 * i < n then a + 4096 * i else a + n - 1)

/-- Whether every home that a run reads or writes is within reach of its stripes (14:R331). -/
def ringReach (s : State) (c : RingCfg) (ag : Bool) : Bool :=
  ((rcPorts c.record).map fun e => portDie e.1).eraseDups.all fun d =>
    !(dieFenced s d) && (ringRanges c ag ++ (if ag then [] else runAreas c.record)).all fun r => dieReach s d r.1 r.2

/-- A run starts: it excludes windows, greets its peers, and begins once no window holds its data. -/
def ringStart (s : State) (k id : Nat) (ag : Bool) (step : Nat) (xs : List Nat) (buf : Nat) : State :=
  match (slotGet s k).cfg with
  | none => s
  | some c =>
    let r : RingRun := { id := id, ag := ag, step := step, live := false, dropped := false, xs := xs, level := 0,
                         phase := if ag then 3 else 0, todo := [], copies := [], mains := [], checks := [], torn := [], marks := [], rod := [],
                         seqTx := [], seqRx := [], early := [], verdict := verdictNone, got := 0, again := [], greeted := [], kept := [], turn := [], ready := [], crcs := [], beads := [] }
    let s := slotSet s k { slotGet s k with run := some r, lastAg := none }
    let s := { s with excl := s.excl ++ (heldGabbros s (ringRanges c ag)).map fun g => (id, g) }
    let s := rgSet (rgSet (rgSet s k F_FLD_RING_STATUS_ACTIVE (if ag then 3 else 2)) k F_FLD_RING_STATUS_PHASE r.phase) k
      F_FLD_RING_STATUS_EXP_BUF buf
    let s := ctrSet (regSet s (R_FLD_RING_RETRY k) 0) (R_FLD_RING_STEP k) (BitVec.ofNat 64 step)
    if !(ringReach s c ag) then ringFail s k 0x0105
    else if (rcPorts c.record).any fun e => !(portYoger s e.1) then ringFail s k 0x0407
    else
      let s := (rcPorts c.record).foldl (fun s e => sendFrame s e.1 frRingHello (helloBytes c e.2.1 ++ leBytes 8 step)) s
      let bad := keptHello s k c step
      let kept := helloKept s k c
      let met := kept.map Prod.fst
      let s := { s with rings := { s.rings with hellos := tabDelIf s.rings.hellos fun x => kept.any fun e => helloKey e.1 e.2.ringId == x } }
      match bad with
      | some st => ringFail s k st
      | none => ringGo (runMod s k fun (r : RingRun) => { r with greeted := met }) k

/-! ### What arrives (10:R225, R228, R236-R240). -/

/-- The slot whose run a port and RING_ID belong to. -/
def ringSlotOf (s : State) (port ringId : Nat) : Option Nat :=
  (List.range 8).find? fun k => (slotGet s k).run.isSome && match (slotGet s k).cfg with
    | some c => fieldLE c.record 0 4 == ringId && (rcPorts c.record).any (·.1 == port)
    | none => false

/-- An abort token reaches a run: it goes on, and the command ends (10:R240). -/
def ringAborted (s : State) (k : Nat) (status : Nat) : State :=
  match (slotGet s k).cfg, (slotGet s k).run with
  | some c, some r => ringEnd (ringTokens { (if r.live then ringLose s c r else s) with stepFailed := true } c r status) k 0x0409 []
  | _, _ => s

/-- A ring block arrives on a port: header and decoded payload. A header alone, without ABORT, asks for an all-gather block
again. (Open points: assumption 80, DEDUCED.) -/
def ringBlock (s : State) (port : Nat) (bytes : List Byte) : State :=
  if bytes.length = 64 && !(bitOf (fieldLE bytes 16 2) 5) then agAgain s port bytes
  else match ringSlotOf s port (fieldLE bytes 0 4) with
  | none => s
  | some k =>
    match (slotGet s k).run with
    | none => s
    | some r =>
      if bitOf (fieldLE bytes 16 2) 5 then ringAborted s k (fieldLE bytes 56 2)
      else if fieldLE bytes 4 8 ≠ r.step then ringFail s k 0x0408
      else if ringNow r bytes then ringMore (ringTake s k port bytes) k
      else runMod s k fun (r : RingRun) => { r with early := r.early ++ [(port, bytes)] }

/-- The maps of the other members of the rod have all arrived: they have gone on toward PREV, so that every member holds all of
them, and the marked blocks go again (10:R236, R237). (Open points: assumption 50, DESIGN CHOICE.) -/
def repassStart (s : State) (k : Nat) (others : List (Nat × Nat)) : State :=
  match (slotGet s k).cfg, (slotGet s k).run with
  | some c, some r =>
    if r.live && r.phase == 0 && passDone r && !r.ag then
      let v := rcVector c.record r.level
      let own := rcOwn c.record r.level
      let others := others.filter fun m => decide (v.1 ≤ m.1) && decide (m.1 < v.2) && m.2 % 4 != 0
      let s := if 2 < rcN c.record r.level then mapSend s (rcPair c.record r.level 0).1 others else s
      let rod := r.marks ++ others
      if rod.isEmpty then ringMore (ringLevelDone s k) k
      else
        let bs := (blocksOf v).filter fun b => rod.any (·.1 == b)
        let bits (b : Nat) := ((rod.filter fun m => m.1 == b).foldl (fun a m => a ||| m.2) 0) % 4
        let mine := bs.filter fun b => decide (own.1 ≤ b) && decide (b < own.2)
        let scale := mine.any fun b => match tabFind r.mains b with | some x => bitOf (bits b) 0 && bitOf x.flags 1 | none => false
        let v : RingVerdict := ⟨0, 0, mine.length, (mine.filter fun b => bits b == 2).length, none, 0, scale⟩
        let s := runMod s k fun (r : RingRun) =>
          { r with rod := rod, verdict := verdictJoin r.verdict v, checks := [],
                   mains := tabDelIf r.mains fun b => bs.contains b && rcSampled c.record r.step b }
        ringMore (ringSettle (ringPass s k r.level 1 bs) k) k
    else s
  | _, _ => s

/-- An exponent buffer: TAG, B, CRC-32C of the table, reserved bytes, the table (10:R233). -/
def expBuffer (tag : Nat) (table : List Byte) : List Byte :=
  leBytes 8 tag ++ leBytes 4 table.length ++ leBytes 4 (crc32c table).toNat ++ List.replicate 48 0#8 ++ table

/-- The verdict and the exponents of the other members have arrived: they go on to every rod, and the command completes (10:R239). (Open points: assumption 51, DEDUCED.) -/
def closingPhase (s : State) (k : Nat) (others : RingVerdict) (xs : List Byte) : State :=
  match (slotGet s k).cfg, (slotGet s k).run with
  | some c, some r =>
    if r.phase ≠ 2 then s
    else
      let on (s : State) (v : RingVerdict) (xs : List Byte) : State :=
        (List.range (rcLevels c.record)).foldl (fun s l => verdictOut s c l r.step v xs) s
      let v := verdictJoin r.verdict others
      let low := v.low.getD 0
      let skip := (rcPolicy c.record == 0 && bitOf v.flags 0) || (rcPolicy c.record == 1 && (bitOf v.flags 2 || low == 0))
      let status := if skip then 0x0402 else if v.scale then 0x0403 else 0
      let s := regSet (regSet (regSet (regSet s (R_FLD_RING_CONTRIB k) (BitVec.ofNat 32 low)) (R_FLD_RING_REPASS k) (BitVec.ofNat 32 v.repassed))
        (R_FLD_RING_RETRY k) (BitVec.ofNat 32 v.retried)) (R_FLD_RING_NF_BLOCKS k) (BitVec.ofNat 32 v.nonfinite)
      let data := leBytes 4 low ++ leBytes 4 v.nonfinite ++ leBytes 4 v.repassed ++ leBytes 4 v.retried ++ leBytes 1 v.flags
      if rcTable c.record then
        let new := (indexed r.xs).map fun e => BitVec.ofNat 8 (if skip then e.2 else
          if (tabFind r.mains e.1).isSome then newX r e.1 e.2 else ((xs[e.1]?).map BitVec.toNat).getD e.2)
        let s := on s v new
        let buf := fieldLE c.record 200 8 + (1 - fld s (R_FLD_RING_STATUS k) F_FLD_RING_STATUS_EXP_BUF) * rcExpBytes c.record
        let d := fldDie 0
        let w := postWrite s d (ringAgent d) buf (expBuffer ((r.step + 1) % 2 ^ 64) new)
        if w.2 then ringEnd w.1 k status data else ringFail w.1 k 0x0301
      else ringEnd (on s v []) k status data
  | _, _ => s

/-- Keep a start hello for the next command of its port. (Open points: assumption 80, DEDUCED.) -/
def helloKeep (s : State) (port : Nat) (h : Hello) : State := { s with rings := { s.rings with hellos := tabPut s.rings.hellos (helloKey port h.ringId) h } }
/-- The start hello that a run requires arrives: what was held back from its port leaves, and an all-gather that waited for
no more than that ends. A second one is of the next command. (Open points: assumption 80, DEDUCED.) -/
def ringGreet (s : State) (k port : Nat) (h : Hello) : State :=
  match (slotGet s k).cfg, (slotGet s k).run with
  | some c, some r =>
    if r.greeted.contains port then helloKeep s port h
    else
      let s := runMod s k fun (r : RingRun) => { r with greeted := port :: r.greeted, kept := r.kept.filter (·.1 != port) }
      let s := (r.kept.filter (·.1 == port)).foldl (fun s q => ringWire s c port q.2.1 q.2.2.1 q.2.2.2.1 q.2.2.2.2) s
      if r.ag then agSettle 4 s k else s
  | _, _ => s

/-- The slot whose run a start hello is compared with: the run that it agrees with but for STEP, or that it is for; a hello for
a slot that is idle waits for that slot's own command (10:R225). (Open points: assumption 80, DEDUCED.) -/
def helloSlot (s : State) (port : Nat) (h : Hello) : Option Nat :=
  let at_ (p : Nat → RingCfg → Bool) : List Nat := (List.range 8).filter fun k => match (slotGet s k).cfg with
    | some c => namesPort c port && p k c
    | none => false
  let runs (k : Nat) : Bool := (slotGet s k).run.isSome
  let ring (c : RingCfg) : Bool := fieldLE c.record 0 4 == h.ringId
  let good := at_ fun _ c => helloOk c port h
  match at_ fun k c => runs k && ring c with
  | [] => if (at_ fun _ c => ring c).isEmpty then (at_ fun k _ => runs k).head? else none
  | k :: ks => match (k :: ks).find? good.contains with
    | some j => some j
    | none => if good.isEmpty then some k else none

/-- A start hello arrives (10:R225). -/
def startHello (s : State) (port : Nat) (h : Hello) : State :=
  match helloSlot s port h with
  | some k =>
    match (slotGet s k).cfg, (slotGet s k).run with
    | some c, some r => if !(helloOk c port h) then ringFail s k 0x0405 else if h.step ≠ r.step then ringFail s k 0x0408 else ringGreet s k port h
    | _, _ => s
  | none => helloKeep s port h

/-- No stripe of a run has progressed for FLD_RING_TIMEOUT while blocks are owed by PREV or to NEXT (10:R240). (Open points: assumption 9, DESIGN CHOICE; assumption 80, DEDUCED.) -/
def ringTimeout (s : State) (k : Nat) : State :=
  match (slotGet s k).run with
  | some r => if r.live && !(passDone r && r.kept.isEmpty) then ringFail s k 0x040A else s
  | none => s

/-- Kept start hellos go: the port is down, or an abort token says that the command of their ring has ended.
(Open points: assumption 80, DEDUCED.) -/
def helloDrop (s : State) (q : Nat → Bool) : State := { s with rings := { s.rings with hellos := tabDelIf s.rings.hellos q } }
/-- A port leaves Yoger mode: the runs that name it fail (10:R240). -/
def ringPortDown (s : State) (p : Nat) : State :=
  helloDrop ((List.range 8).foldl (fun s k =>
    match (slotGet s k).cfg with
    | some c => if (rcPorts c.record).any (·.1 == p) then ringFail s k 0x0407 else s
    | none => s) s) fun x => x % 64 == p

/-- A fence cuts what a run needs (14:R331). -/
def ringFenced (s : State) : State :=
  (List.range 8).foldl (fun s k =>
    match (slotGet s k).cfg, (slotGet s k).run with
    | some c, some r => if ringReach s c r.ag then s else ringFail s k 0x0105
    | _, _ => s) s

end Sys2Proof.Machine
end

