-- ==== Sys2Proof/Machine/Update.lean ====
section
/-! DEFINITION. The Flint update engine (11_flint_update.md): configuration, coefficients, the update rule, and a run. The
twelve Flints are taken in ascending ordinal, block by block. -/
namespace Sys2Proof.Machine

/-! ### Coefficients (11:R255-R258). -/

/-- A coefficient row. -/
structure Coef where
  alpha : List Word
  beta : List Word
  gamma : List Word
  eps : Word
  lambda : Word
  eta : Word
  gscale : Word
  base : Nat
  ctrl : Nat
deriving DecidableEq, Repr

/-- The row that 24 words spell. -/
def coefOf (w : Nat → Word) : Coef :=
  { alpha := (List.range 4).map w, beta := (List.range 4).map fun i => w (4 + i), gamma := (List.range 4).map fun i => w (8 + i),
    eps := w 12, lambda := w 13, eta := w 14, gscale := w 15, base := (w 16).toNat + 4294967296 * (w 17).toNat, ctrl := (w 18).toNat }
/-- The row in force. -/
def coefRow (s : State) (k : Nat) : Coef := coefOf fun n => regGet s (R_FLT_UPD_COEF (fltDie 0) k n)
/-- Function code of a slot. -/
def Coef.fn (c : Coef) (i : Nat) : Nat := bitsOf c.ctrl (3 * i) 3
/-- BC of a slot. -/
def Coef.bc (c : Coef) (i : Nat) : Bool := bitOf c.ctrl (12 + i)
/-- USE of a slot. -/
def Coef.used (c : Coef) (i : Nat) : Bool := bitOf c.ctrl (16 + i)
/-- VSRC. -/
def Coef.vsrc (c : Coef) : Nat := bitsOf c.ctrl 20 2
/-- VSLOT. -/
def Coef.vslot (c : Coef) : Nat := bitsOf c.ctrl 22 2
/-- OUT_SIGN. -/
def Coef.outSign (c : Coef) : Bool := bitOf c.ctrl 24
/-- VALID. -/
def Coef.valid (c : Coef) : Bool := bitOf c.ctrl 25
/-- Whether a slot is used and not kept factored. -/
def Coef.dense (c : Coef) (i : Nat) : Bool := c.used i && !(c.vsrc == 2 && c.vslot == i)
/-- α of a slot. -/
def Coef.a (c : Coef) (i : Nat) : Word := c.alpha.getD i 0
/-- Whether a slot keeps state: dense, with α not +0 (11:R252). -/
def Coef.kept (c : Coef) (i : Nat) : Bool := c.dense i && c.a i != 0#32

/-- Whether a row passes 11:R257; `rest` are its reserved words. -/
def coefOk (c : Coef) (rest : List Word) : Bool :=
  !c.valid ||
    (decide (c.ctrl < 2 ^ 26) && rest.all (· == 0) &&
      ((List.range 4).all fun i => !(c.used i) ||
        (decide (c.fn i ≤ 4) && !(fp32NonFinite (c.a i)) && !(fp32NonFinite (c.beta.getD i 0)) && !(fp32NonFinite (c.gamma.getD i 0)))) &&
      !(fp32NonFinite c.eps) && !(fp32NonFinite c.lambda) && !(fp32NonFinite c.eta) && !(fp32NonFinite c.gscale) &&
      ((List.range 4).all fun i => !(c.bc i) || (valLt (.fin false 0 0) (fp32Val (c.a i)) && valLt (fp32Val (c.a i)) (natVal 1))) &&
      c.vsrc != 3 && (c.vsrc == 0 || c.used c.vslot) && (c.vsrc != 2 || c.gamma.getD c.vslot 0 == 0#32))

/-! ### The rule (11:R251-R254, R259). -/

/-- sign of a value. -/
def signVal : Val → Val
  | .nan => .nan
  | .inf n => .fin n 1 0
  | .fin n m _ => if m = 0 then .fin false 0 0 else .fin n 1 0
/-- f of a slot. -/
def slotFn (code : Nat) (g : Val) : Val :=
  match code with
  | 0 => g
  | 1 => valMul g g
  | 2 => valAbs g
  | 3 => signVal g
  | _ => natVal 1
/-- g of a reduced word (step 1). -/
def gradOf (c : Coef) (contrib : Nat) (r : Nat) : Val :=
  fp32Round (valMul (wVal r) (fp32Round (valDiv (fp32Val c.gscale) (natVal contrib))))
/-- New value of a slot (step 2). -/
def slotNext (c : Coef) (i : Nat) (old g : Val) : Val :=
  let keep := if c.a i = 0#32 then .fin false 0 0 else valMul (fp32Val (c.a i)) old
  fp32Round (valAdd keep (valMul (fp32Val (c.beta.getD i 0)) (slotFn (c.fn i) g)))
/-- A value corrected for bias (step 3). (Open points: assumption 33, DESIGN CHOICE; assumption 53, DEDUCED.) -/
def unbias (c : Coef) (i t : Nat) (v : Val) : Val :=
  if c.bc i then
    fp32Round (valDiv v (fp32Round (valAdd (natVal 1) (valNeg (powBound (c.a i) t)))))
  else v
/-- Whether a value is ≤ 0. -/
def notPositive : Val → Bool
  | .nan => false
  | .inf n => n
  | .fin n m _ => n || m == 0

/-- What a parameter becomes: its W40 code, its slots, whether its denominator was not positive, whether a result is
non-finite. `fact` is its factored second moment, `dead` says that Σr is not positive. -/
def updParam (c : Coef) (t : Nat) (g : Val) (w : Nat) (olds : List Val) (fact : Val) (dead : Bool) : Nat × List Val × Bool × Bool :=
  let new := (List.range 4).map fun i => if c.dense i then slotNext c i (olds.getD i (.fin false 0 0)) g else .fin false 0 0
  let hat (i : Nat) := unbias c i t (new.getD i (.fin false 0 0))
  let n := fp32Round (((List.range 4).filter c.dense).foldl (fun a i => valAdd a (valMul (fp32Val (c.gamma.getD i 0)) (hat i))) (.fin false 0 0))
  let n := if c.outSign then signVal n else n
  let v := if c.vsrc = 1 then hat c.vslot else unbias c c.vslot t fact
  let d := if c.vsrc = 0 then natVal 1 else fp32Round (valAdd (fp32Round (valSqrt v)) (fp32Val c.eps))
  let zero := dead || (c.vsrc != 0 && notPositive d)
  let decay := valMul (fp32Val c.lambda) (fp32Round (codeVal 31 w))
  let u := fp32Round (valAdd (if c.vsrc = 0 then n else fp32Round (valDiv n d)) decay)
  let w' := if zero then w else valCode 31 (valAdd (codeVal 31 w) (valNeg (valMul (fp32Val c.eta) u)))
  let nf := !(valFinite (codeVal 31 w')) || (List.range 4).any fun i => c.kept i && !(valFinite (new.getD i (.fin false 0 0)))
  (w', new, zero, nf)

/-! ### UPD_CFG (11:R248-R250, R267, R269, R270). -/

/-- Read a tensor table: entries of 32 bytes until PARAMS is 0. The last answer says that an uncorrectable error was met. -/
def tensorRead (s : State) (t : Taken) (base : Nat) : Nat → Nat → List (List Byte) → State × Option (List (List Byte)) × Bool
  | 0, _, acc => (s, some acc, false)
  | n + 1, i, acc =>
    if !(inOneRange base (32 * (i + 1))) then (s, none, false)
    else
      match cmdRead s t (base + 32 * i) 32 with
      | (s', none) => (s', some acc, true)
      | (s', some bs) => if fieldLE bs 4 4 = 0 then (s', some acc, false) else tensorRead s' t base n (i + 1) (acc ++ [bs])

/-- A tensor entry. -/
def tensorOf (bs : List Byte) : Tensor :=
  ⟨fieldLE bs 0 4, fieldLE bs 4 4, fieldLE bs 8 1, fieldLE bs 12 4, fieldLE bs 16 4, fieldLE bs 20 4, fieldLE bs 24 8⟩
/-- Blocks of a tensor. -/
def Tensor.blocks (t : Tensor) : Nat := ceilDiv t.params 256
/-- Whether a range lies in one Flint's LPDDR6. -/
def inFlint (s : State) (m a n : Nat) : Bool := decide (a + n ≤ 0x00C000000000) && (flintsOf s.intlv a n).all (· == m)
/-- Whether tensors ascend, do not overlap, and lie within a run. -/
def tensorsRise (count : Nat) : Nat → List Tensor → Bool
  | _, [] => true
  | lo, t :: r => decide (lo ≤ t.first) && decide (t.first + t.blocks ≤ count) && tensorsRise count (t.first + t.blocks) r
/-- Whether one tensor entry is well formed on a Flint. -/
def tensorOk (s : State) (m : Nat) (bs : List Byte) : Bool :=
  let t := tensorOf bs
  decide (t.params ≤ 2 ^ 31) && decide (t.group < 64) && fieldLE bs 9 3 == 0 &&
    (if t.rows = 0 then t.cols == 0 && t.fact == 0
     else t.rows * t.cols == t.params && t.fact % 4 == 0 && inFlint s m t.fact (4 * (t.rows + t.cols)))
/-- Whether a Flint's run is well formed. (Open points: assumption 53, DEDUCED.) -/
def partOk (s : State) (m : Nat) (p : UpdPart) : Bool :=
  p.count == 0 ||
    (p.wBase % 1024 == 0 && inFlint s m p.wBase (1024 * p.count) && p.tailBase % 256 == 0 && inFlint s m p.tailBase (256 * p.count) &&
      p.slots.all fun a => a == 0 || (a % 1024 == 0 && inFlint s m a (1024 * p.count)))

/-- The bytes of the tensor tables that a record names, in Flint order, for its COMMAND record (16:R388): the tables as
stored, up to the entry that ends each. -/
def tablesOf (s : State) (t : Taken) (rec : List Byte) (ms : List Nat) : List Byte :=
  ms.flatMap fun m =>
    let table := fieldLE rec (64 + 64 * m + 56) 8
    if fieldLE rec (64 + 64 * m + 4) 4 = 0 || !(regionOf s table).isMem || !(cmdReach s t table 32) then []
    else match tensorRead s t table 4096 0 [] with
      | (_, some es, _) => es.flatten
      | _ => []

/-- Read the runs of a record, Flint by Flint: the runs, or how the reading failed: BAD_PARAM, 0x0301 or 0x0105. -/
def partsRead (t : Taken) (rec : List Byte) : List Nat → State → State × Except Nat (List UpdPart)
  | [], s => (s, .ok [])
  | m :: ms, s =>
    let o := 64 + 64 * m
    let table := fieldLE rec (o + 56) 8
    let p : UpdPart := ⟨fieldLE rec o 4, fieldLE rec (o + 4) 4, fieldLE rec (o + 8) 8, fieldLE rec (o + 16) 8,
      (List.range 4).map (fun i => fieldLE rec (o + 24 + 8 * i) 8), table, []⟩
    if p.count = 0 then
      if table ≠ 0 then (s, .error 0x0102)
      else match partsRead t rec ms s with
        | (s, .ok ps) => (s, .ok (p :: ps))
        | r => r
    else if !(partOk s m p && inFlint s m table 32) then (s, .error 0x0102)
    else if !(cmdReach s t table 32) then (s, .error 0x0105)
    else
      match tensorRead s t table 4096 0 [] with
      | (s, none, _) => (s, .error 0x0102)
      | (s, _, true) => (s, .error 0x0301)
      | (s, some es, false) =>
        let ts := es.map tensorOf
        if !(inFlint s m table (32 * Nat.min 4096 (es.length + 1)) && es.all (tensorOk s m) && tensorsRise p.count 0 ts) then (s, .error 0x0102)
        else match partsRead t rec ms s with
          | (s, .ok ps) => (s, .ok ({ p with tensors := ts } :: ps))
          | r => r

/-- Whether FIRST and COUNT of the runs divide a shard of K blocks (11:R248). -/
def partsDivide (k : Nat) : Nat → List UpdPart → Bool
  | at_, [] => at_ == k
  | at_, p :: ps => p.first == at_ && partsDivide k (at_ + p.count) ps

/-- Blocks of the final shard of a slot. -/
def shardBlocks (c : RingCfg) : Nat × Nat := rcOwn c.record (rcLevels c.record - 1)

/-- UPD_CFG, once its turn has come. -/
def updCfgRun (addr : Nat) : CmdFn := fun t s =>
  refuseIf (!(inOneRange addr 832)) 0x0102 s
  <| if !(cmdReach s t addr 832) then (s, some (.done 0x0105 []))
  else
    match cmdRead s t addr 832 with
    | (s, none) => (s, some (.done 0x0301 []))
    | (s, some rec) =>
      let k := fieldLE rec 0 1
      withApp t (rec ++ shake256 (tablesOf s t rec (List.range 12)) 32)
      <| refuseIf (decide (7 < k) || (sliceZ rec 1 63).any (· != 0#8)) 0x0102 s
      <| match (slotGet s k).cfg with
        | none => refuse s 0x040B
        | some c =>
          match partsRead t rec (List.range 12) s with
          | (s, .error e) => if e = 0x0102 then refuse s e else (s, some (.done e []))
          | (s, .ok ps) =>
            let sh := shardBlocks c
            refuseIf (!(partsDivide (sh.2 - sh.1) 0 ps)) 0x0102 s
            <| okay ((List.range 12).foldl (fun s m => setFld s (R_FLT_UPD_STATUS (fltDie m)) F_FLT_UPD_STATUS_CONFIGURED 1)
                { s with upd := some ⟨k, ps⟩ }) []

/-! ### UPD_COEF_SET (11:R258). -/

/-- UPD_COEF_SET, once its turn has come. -/
def updCoefRun (mask addr : Nat) : CmdFn := fun t s =>
  refuseIf (mask == 0 || !(inOneRange addr 6144)) 0x0102 s
  <| if !(cmdReach s t addr 6144) then (s, some (.done 0x0105 []))
  else
    match cmdRead s t addr 6144 with
    | (s, none) => (s, some (.done 0x0301 []))
    | (s, some bs) =>
      let w (k n : Nat) : Word := BitVec.ofNat 32 (fieldLE bs (96 * k + 4 * n) 4)
      let ks := setBits 64 mask
      withApp t bs
      <| refuseIf (ks.any fun k => !(coefOk (coefOf (w k)) ((List.range 5).map fun i => w k (19 + i)))) 0x0102 s
      <| let s := (List.range 12).foldl (fun s m =>
            regInc (ks.foldl (fun s k => (List.range 24).foldl (fun s n => regSet s (R_FLT_UPD_COEF (fltDie m) k n) (w k n)) s) s)
              (R_FLT_UPD_COEF_GEN (fltDie m)) 1) s
         okay s (leBytes 4 (regGet s (R_FLT_UPD_COEF_GEN (fltDie 0))).toNat)

/-! ### UPD_RUN (11:R261-R265). -/

/-- The conditions of 11:R263, rows 1 to 5. (Open points: assumption 53, DEDUCED.) -/
def updCheck (s : State) (step : Nat) : Option Nat :=
  let ts := match s.upd with | some c => c.parts.flatMap UpdPart.tensors | none => []
  let row (t : Tensor) := coefRow s t.group
  if step ≠ s.step.toNat || ts.any (fun t => bitsOf (row t).ctrl 12 4 != 0 && decide (step < (row t).base)) then some 0x0102
  else match s.upd with
    | none => some 0x0506
    | some c =>
      if ts.any fun t => !(row t).valid || (t.rows != 0) != ((row t).vsrc == 2) then some 0x0506
      else match (slotGet s c.slot).lastRs with
        | none => some 0x0504
        | some (st, x) =>
          if st ≠ step ∨ (x ≠ 0 ∧ x ≠ 0x0403 ∧ x ≠ 0x0402) then some 0x0504
          else if x = 0x0402 then some 0x0503
          else match (slotGet s c.slot).cfg with
            | none => some 0x0506
            | some rc =>
              let w := recipe s 5
              if rcpFmt w ≠ rcAgFmt rc.record || (rcpBlock w != 0) != rcAgScaled rc.record then some 0x0505 else none

/-- Counts of a run so far, and that an uncorrectable error has cut it. -/
structure UpdCount where
  params : Nat
  zeros : Nat
  nfOut : Nat
  cut : Bool
deriving DecidableEq, Repr

/-- The reader and writer of a Flint's engine. (Open points: assumption 53, DEDUCED.) -/
def updAgent (m : Nat) : Agent := ⟨2, fltDie m⟩
/-- Read bytes for a Flint; none when they meet an uncorrectable error. -/
def updRead (s : State) (m a n : Nat) : State × Option (List Byte) :=
  let r := ncRead s (updAgent m) a n
  (r.1, if r.2.2 then none else some r.2.1)
/-- Write bytes of a Flint; the answer says whether every write so far was applied. -/
def updWrite (x : State × Bool) (m a : Nat) (bs : List Byte) : State × Bool :=
  if bs.isEmpty || !x.2 then x else postWrite x.1 (fltDie m) (updAgent m) a bs

/-- One block as a pass reads it: gradients of its words, and its CONTRIB and STEP. -/
def blockGrads (s : State) (m : Nat) (rc : RingCfg) (c : Coef) (shard : Nat) : State × Option (List Val × Nat) :=
  match updRead s m (fieldLE rc.record 184 8 + 1024 * shard) 1024 with
  | (s, none) => (s, none)
  | (s, some ws) =>
    match updRead s m (fieldLE rc.record 192 8 + 64 * shard) 64 with
    | (s, none) => (s, none)
    | (s, some h) => (s, some ((payloadWords ws).map (gradOf c (fieldLE h 20 4)), fieldLE h 4 8))

/-- The gradients of a whole tensor in order. -/
def tensorGrads (s : State) (m : Nat) (rc : RingCfg) (c : Coef) (first : Nat) (t : Tensor) : State × Option (List Val) :=
  (List.range t.blocks).foldl (fun (a : State × Option (List Val)) j =>
    match a.2 with
    | none => a
    | some gs =>
      match blockGrads a.1 m rc c (first + t.first + j) with
      | (s, none) => (s, none)
      | (s, some b) => (s, some (gs ++ b.1))) (s, some [])

/-- Rounded running sum from +0. -/
def roundSum (vs : List Val) : Val := vs.foldl (fun a v => fp32Round (valAdd a v)) (.fin false 0 0)

/-- Pass 1 of a factored tensor (11:R254): the new r and c and Σr, written at FACT_ADDR. -/
def passOne (s : State) (m : Nat) (rc : RingCfg) (c : Coef) (first : Nat) (t : Tensor) : State × Option (List Val × List Val × Val) :=
  match tensorGrads s m rc c first t with
  | (s, none) => (s, none)
  | (s, some gs) =>
    match updRead s m t.fact (4 * (t.rows + t.cols)) with
    | (s, none) => (s, none)
    | (s, some old) =>
      let f := gs.map (slotFn (c.fn c.vslot))
      let at_ (i j : Nat) := f.getD (i * t.cols + j) (.fin false 0 0)
      let next (k : Nat) (sum : Val) := fp32Round (valAdd (valMul (fp32Val (c.a c.vslot)) (wVal (fieldLE old (4 * k) 4)))
        (valMul (fp32Val (c.beta.getD c.vslot 0)) sum))
      let r := (List.range t.rows).map fun i => next i (roundSum ((List.range t.cols).map fun j => at_ i j))
      let k := (List.range t.cols).map fun j => next (t.rows + j) (roundSum ((List.range t.rows).map fun i => at_ i j))
      let w := updWrite (s, true) m t.fact ((r ++ k).flatMap fun v => leBytes 4 (valCode 23 v))
      (w.1, if w.2 then some (r, k, roundSum r) else none)

/-- The main pass over one block of a tensor (11:R251, R261): master, slots, working weights. -/
def blockPass (s : State) (m : Nat) (rc : RingCfg) (c : Coef) (p : UpdPart) (t : Tensor) (fact : Option (List Val × List Val × Val))
    (j : Nat) (n : UpdCount) : State × UpdCount :=
  let lb := t.first + j
  let shard := p.first + lb
  let used := Nat.min 256 (t.params - 256 * j)
  let stop (s : State) : State × UpdCount := (s, { n with cut := true })
  match blockGrads s m rc c shard with
  | (s, none) => stop s
  | (s, some (gs, step)) =>
    match updRead s m (p.wBase + 1024 * lb) 1024 with
    | (s, none) => stop s
    | (s, some wb) =>
      match updRead s m (p.tailBase + 256 * lb) 256 with
      | (s, none) => stop s
      | (s, some tb) =>
        let slots := (List.range 4).filter c.kept
        let rd := slots.foldl (fun (a : State × Option (Tab (List Byte))) i =>
          match a.2 with
          | none => a
          | some l =>
            match updRead a.1 m (p.slots.getD i 0 + 1024 * lb) 1024 with
            | (s, none) => (s, none)
            | (s, some bs) => (s, some (tabPut l i bs))) (s, some [])
        match rd with
        | (s, none) => stop s
        | (s, some old) =>
          let tm := step + 1 - c.base
          let dead := match fact with | some f => notPositive f.2.2 | none => false
          let outs := (List.range used).map fun q =>
            let k := 256 * j + q
            let v := match fact with
              | some (r, cs, sum) => fp32Round (valDiv (valMul (r.getD (k / t.cols) (.fin false 0 0)) (cs.getD (k % t.cols) (.fin false 0 0))) sum)
              | none => .fin false 0 0
            updParam c tm (gs.getD q .nan) (fieldLE wb (4 * q) 4 * 256 + fieldLE tb q 1)
              ((List.range 4).map fun i => wVal (fieldLE (tabGet old i []) (4 * q) 4)) v dead
          let s1 := updWrite (s, true) m (p.wBase + 1024 * lb) (outs.flatMap fun o => leBytes 4 (o.1 / 256))
          let s2 := updWrite s1 m (p.tailBase + 256 * lb) (outs.flatMap fun o => leBytes 1 o.1)
          let s3 := slots.foldl (fun a i => updWrite a m (p.slots.getD i 0 + 1024 * lb)
            (outs.flatMap fun o => leBytes 4 (valCode 23 (o.2.1.getD i (.fin false 0 0))))) s2
          let w := recipe s 5
          let vs := outs.map (fun o => fp32Round (codeVal 31 o.1)) ++ List.replicate (256 - used) (.fin false 0 0)
          let cv := convRow w (fun i => siteRounding s w 5 t.site (256 * j + i)) vs
          let ag := agAt (rcElemBytes rc.record) rc.ags ((shardBlocks rc).1 + shard)
          let s4 := updWrite s3 m ag.1 (packCodes (rcpFmt w) cv.1)
          let s5 := if rcpBlock w = 0 then s4 else updWrite s4 m ag.2 (cv.2.1.map (BitVec.ofNat 8))
          match s5 with
          | (s, false) => stop s
          | (s, true) =>
            let d := fltDie m
            let nfIn := ((gs.take used).filter fun g => !(valFinite g)).length
            let zeros := (outs.filter fun o => o.2.2.1).length
            let nfOut := (outs.filter fun o => o.2.2.2).length
            let s := count (count s (R_FLT_UPD_PARAMS d) used) (R_FLT_UPD_NF_IN d) nfIn
            let s := count (count (count s (R_FLT_UPD_NF_OUT d) nfOut) (R_FLT_UPD_ZERO_DEN d) zeros) (R_FLT_CONV_SAT d) cv.2.2
            let s := if nfIn + nfOut = 0 then s else raise s (R_FLT_UPD_ERR d) F_FLT_UPD_ERR_NONFINITE
            let s := if zeros = 0 then s else raise s (R_FLT_UPD_ERR d) F_FLT_UPD_ERR_ZERO_DEN
            (regInc s (R_FLT_UPD_DONE_BLOCKS d) 1, ⟨n.params + used, n.zeros + zeros, n.nfOut + nfOut, false⟩)

/-- A tensor on a Flint, by its place in the tensor table; a tensor with a zero denominator writes one record (11:R259). (Open points: assumption 53, DEDUCED.) -/
def tensorPass (s : State) (m : Nat) (rc : RingCfg) (p : UpdPart) (t : Nat × Tensor) (n : UpdCount) : State × UpdCount :=
  let c := coefRow s t.2.group
  let one := if t.2.rows = 0 then (s, some none) else
    match passOne s m rc c p.first t.2 with
    | (s, none) => (s, none)
    | (s, some f) => (s, some (some f))
  match one with
  | (s, none) => (s, { n with cut := true })
  | (s, some fact) =>
    let r := (List.range t.2.blocks).foldl (fun (a : State × UpdCount) j =>
      if a.2.cut then a else blockPass a.1 m rc c p t.2 fact j a.2) (s, n)
    (if r.2.zeros = n.zeros then r.1 else strataEvent r.1 (fltDie m) 0x50 0x0502 t.1 0, r.2)

/-- Scan the headers of the shard, read by all twelve Flints: the first that names another ring or step, or none after an
uncorrectable error. -/
def headerScan (s : State) (rc : RingCfg) (step k : Nat) : State × Option (Option Nat) :=
  (List.range k).foldl (fun (a : State × Option (Option Nat)) i =>
    match a.2 with
    | some none =>
      (List.range 12).foldl (fun (a : State × Option (Option Nat)) m =>
        match a.2 with
        | none => a
        | some bad =>
          if !(dieRunning a.1 (fltDie m)) then a
          else match updRead a.1 m (fieldLE rc.record 192 8 + 64 * i) 64 with
            | (s, none) => (s, none)
            | (s, some h) =>
              (s, some (match bad with
                | some x => some x
                | none => if fieldLE h 0 4 ≠ fieldLE rc.record 0 4 ∨ fieldLE h 4 8 ≠ step then some i else none))) a
    | _ => a) (s, some none)

/-- Set a field of FLT_UPD_STATUS on every Flint. -/
def updStatus (s : State) (f : Fld) (v : Nat) : State :=
  (List.range 12).foldl (fun s m => setFld s (R_FLT_UPD_STATUS (fltDie m)) f v) s

/-- A UPD_RUN ends: the windows it held back may open, and the reply is written. -/
def updEnd (s : State) (t : Taken) (r : Reply) : State :=
  let s := { s with excl := s.excl.filter (fun e => e.1 != t.id), rings := { s.rings with updRun := none }, updWatch := ⟨[], false⟩ }
  let s := updStatus s F_FLT_UPD_STATUS_BUSY 0
  finish (if r.refused then s else updStatus s F_FLT_UPD_STATUS_LAST_STATUS r.status) t r

/-- The counts in the reply of a UPD_RUN (11:R269). -/
def updData (n : UpdCount) : List Byte := leBytes 8 n.params ++ leBytes 4 n.zeros ++ leBytes 4 n.nfOut
/-- A UPD_RUN fails after what it has counted (11:R265; 14:R331). (Open points: assumption 53, DEDUCED.) -/
def updFail (s : State) (t : Taken) (status : Nat) (n : UpdCount) : State :=
  let s := if status = 0x0301 then (List.range 12).foldl (fun s m => raise s (R_FLT_UPD_ERR (fltDie m)) F_FLT_UPD_ERR_UE) s else s
  updEnd { s with stepFailed := true } t (.done status (updData n))

/-- Whether the RUNNING Flints reach every header, and those that have blocks every result and all-gather location of them. (Open points: assumption 53, DEDUCED.) -/
def updReach (s : State) (c : UpdCfg) (rc : RingCfg) : Bool :=
  let sh := shardBlocks rc
  (indexed c.parts).all fun e =>
    let d := fltDie e.1
    let ag (b : Nat) := agAt (rcElemBytes rc.record) rc.ags b
    (!(dieRunning s d) || dieReach s d (fieldLE rc.record 192 8) (64 * (sh.2 - sh.1))) &&
      (e.2.count == 0 ||
        (dieRunning s d && dieReach s d (fieldLE rc.record 184 8 + 1024 * e.2.first) (1024 * e.2.count) &&
          (List.range e.2.count).all fun i =>
            let a := ag (sh.1 + e.2.first + i)
            dieReach s d a.1 (rcElemBytes rc.record) && (!(rcAgScaled rc.record) || dieReach s d a.2 8)))

/-- FLT_UPD_DONE_BLOCKS and FLT_UPD_STEP of the Flints, from a list. (Open points: assumption 53, DEDUCED.) -/
def updShow (s : State) (was : List (Word × DWord)) : State :=
  (indexed was).foldl (fun s e => ctrSet (regSet s (R_FLT_UPD_DONE_BLOCKS (fltDie e.1)) e.2.1) (R_FLT_UPD_STEP (fltDie e.1)) e.2.2) s

/-- A Flint's run as ranges: its W40 words, its tails, and the slots and statistics that it has (11:R249, R250). -/
def partAreas (p : UpdPart) : List (Nat × Nat) :=
  if p.count = 0 then []
  else [(p.wBase, 1024 * p.count), (p.tailBase, 256 * p.count)] ++
    ((p.slots.filter (· ≠ 0)).map fun a => (a, 1024 * p.count)) ++
    ((p.tensors.filter fun t => t.rows != 0).map fun t => (t.fact, 4 * (t.rows + t.cols)))
/-- What a tensor's passes read and write of them: its parameters' words, tails and kept slots, and its statistics. -/
def tensorAreas (s : State) (p : UpdPart) (t : Tensor) : List (Nat × Nat) :=
  let c := coefRow s t.group
  [(p.wBase + 1024 * t.first, 4 * t.params), (p.tailBase + 256 * t.first, t.params)] ++
    (((List.range 4).filter c.kept).map fun i => (p.slots.getD i 0 + 1024 * t.first, 4 * t.params)) ++
    (if t.rows = 0 then [] else [(t.fact, 4 * (t.rows + t.cols))])
/-- Bytes of a range become undefined, in memory and in the caches that hold them. -/
def loseSeen (s : State) (lo hi : Nat) : State :=
  s.coh.cache.foldl (fun s e =>
    let base := e.1 % 2199023255552 * 128
    if base < hi ∧ lo < base + 128 then
      let r := freeBytes s 128
      let d := (indexed e.2.data).map fun b => if lo ≤ base + b.1 ∧ base + b.1 < hi then r.2.getD b.1 0 else b.2
      copySet r.1 (e.1 / 2199023255552) (e.1 % 2199023255552) ⟨e.2.st, d⟩
    else s) (loseRange s lo hi)
/-- A write has met what an update run reads while it was waiting: what its passes read is undefined, and so are the results
that they compute from it (11:R266). (Open points: assumption 53, DEDUCED.) -/
def updTorn (s : State) (c : UpdCfg) : State :=
  let s' := { s with updWatch := ⟨[], false⟩ }
  if s.updWatch.hit then
    (c.parts.flatMap fun p => p.tensors.flatMap (tensorAreas s p)).foldl (fun s r => loseSeen s r.1 (r.1 + r.2)) s'
  else s'

/-- Run an update whose windows have ended (11:R263 row 6, R264). (Open points: assumption 7, DESIGN CHOICE; assumption 53, DEDUCED.) -/
def updRunNow (s : State) (t : Taken) (step : Nat) : State :=
  match s.upd with
  | none => updEnd s t (.no 0x0506)
  | some c =>
    match (slotGet s c.slot).cfg with
    | none => updEnd s t (.no 0x0506)
    | some rc =>
      let sh := shardBlocks rc
      if !(updReach s c rc) then updFail s t 0x0105 ⟨0, 0, 0, true⟩
      else
        match headerScan s rc step (sh.2 - sh.1) with
        | (s, none) => updFail s t 0x0301 ⟨0, 0, 0, true⟩
        | (s, some (some i)) =>
          updEnd (match s.rings.updRun with | some u => updShow s u.was | none => s) t ⟨0x0501, List.replicate 16 0#8 ++ leBytes 4 i, true, []⟩
        | (s, some none) =>
          let r := (indexed c.parts).foldl (fun (a : State × UpdCount) e =>
            (indexed e.2.tensors).foldl (fun (a : State × UpdCount) x =>
              if a.2.cut then a else tensorPass a.1 e.1 rc e.2 x a.2) a) (updTorn s c, ⟨0, 0, 0, false⟩)
          if r.2.cut then updFail r.1 t 0x0301 r.2
          else updEnd r.1 t (.done (if r.2.zeros = 0 then 0 else 0x0502) (updData r.2))

/-- The ranges that an update keeps windows from (11:R262). -/
def updRanges (rc : RingCfg) : List (Nat × Nat) :=
  let sh := shardBlocks rc
  let n := sh.2 - sh.1
  [(fieldLE rc.record 184 8, n * 1024), (fieldLE rc.record 192 8, n * 64)] ++
    (blocksOf sh).flatMap (fun b =>
      let a := agAt (rcElemBytes rc.record) rc.ags b
      [(a.1, rcElemBytes rc.record), (a.2, if rcAgScaled rc.record then 8 else 0)])

/-- Go on with an update that waits for windows. -/
def updGo (s : State) : State :=
  match s.rings.updRun with
  | none => s
  | some ⟨id, _⟩ =>
    if s.excl.any fun e => e.1 == id && winOpen s e.2 then s
    else match s.cmds.taken.find? fun t => t.id == id with
      | some t => updRunNow s t (fieldLE (parsOf t.pkt) 8 8)
      | none => { s with rings := { s.rings with updRun := none }, updWatch := ⟨[], false⟩ }

/-- UPD_RUN, once its turn has come. -/
def updRunStart (step : Nat) : CmdFn := fun t s =>
  match updCheck s step with
  | some st => refuse s st
  | none =>
    let held := match s.upd with
      | some c => match (slotGet s c.slot).cfg with | some rc => heldGabbros s (updRanges rc) | none => []
      | none => []
    let was := (List.range 12).map fun m => (regGet s (R_FLT_UPD_DONE_BLOCKS (fltDie m)), ctrGet s (R_FLT_UPD_STEP (fltDie m)))
    let s := updShow s (was.map fun _ => (0, BitVec.ofNat 64 step))
    let areas := match s.upd with | some c => c.parts.flatMap partAreas | none => []
    let s := updStatus { s with rings := { s.rings with updRun := some ⟨t.id, was⟩ }, updWatch := ⟨areas, false⟩, excl := s.excl ++ held.map fun g => (t.id, g) }
      F_FLT_UPD_STATUS_BUSY 1
    (updGo s, none)

end Sys2Proof.Machine
end

