-- ==== Sys2Proof/Machine/RingCmd.lean ====
section
/-! DEFINITION. The ring and update commands (10:R220-R222, R244; 11:R262, R269), the order in which they run, and the
events of a ring. -/
namespace Sys2Proof.Machine

/-! ### RING_CFG (10:R220-R222). A configuration hello that came before is kept for as long as its sender may still wait for the
answer, FLD_RING_TIMEOUT (assumption 80, DEDUCED). -/

/-- Read the entries of a segment table of `w` bytes each until a count (at byte `o`) is 0; the last answer says that an
uncorrectable error was met. -/
def segRead (s : State) (t : Taken) (base w o : Nat) : Nat → Nat → List (List Byte) → State × Option (List (List Byte)) × Bool
  | 0, _, acc => (s, some acc, false)
  | n + 1, i, acc =>
    if !(inOneRange base (w * (i + 1))) then (s, none, false)
    else
      match cmdRead s t (base + w * i) w with
      | (s', none) => (s', some acc, true)
      | (s', some bs) => if fieldLE bs o 4 = 0 then (s', some acc, false) else segRead s' t base w o n (i + 1) (acc ++ [bs])

/-- Whether bytes [i, i + n) of a record are zero. -/
def zeroAt (r : List Byte) (i n : Nat) : Bool := (sliceZ r i n).all (· == 0#8)
/-- Whether bytes [i, i + n) of a record are 0xFF. -/
def onesAt (r : List Byte) (i n : Nat) : Bool := (sliceZ r i n).all (· == 0xFF#8)

/-- Whether the part of a record about one level is well formed (10:R219, R221). -/
def rcLevelOk (r : List Byte) (l : Nat) : Bool :=
  let o := 72 + 32 * l
  zeroAt r (o + 2) 2 && zeroAt r (o + 28) 4 &&
    if l < rcLevels r then
      decide (2 ≤ rcN r l) && decide (rcPos r l < rcN r l) && decide (1 ≤ rcS r l) && decide (rcS r l ≤ 8) && decide (rcC r l ≤ 4) &&
        (rcLevels r != 1 || decide (1 ≤ rcC r l)) &&
        onesAt r (o + 4 + 2 * rcS r l) (16 - 2 * rcS r l) && onesAt r (o + 20 + 2 * rcC r l) (8 - 2 * rcC r l) &&
        ((rcStripes r l).all fun i =>
          let p := rcPair r l i
          decide (p.1 < 48) && decide (p.2 < 48) && portDie p.1 == portDie p.2)
    else
      fieldLE r (8 + 2 * l) 2 == 0 && rcPos r l == 0 && zeroAt r o 2 && onesAt r (o + 4) 24

/-- Whether two ranges share a byte. -/
def meets (a b : Nat × Nat) : Bool := decide (a.1 < b.1 + b.2) && decide (b.1 < a.1 + a.2)
/-- Whether no two ranges of a list share a byte. -/
def apart : List (Nat × Nat) → Bool
  | [] => true
  | a :: t => !(t.any (meets a)) && apart t

/-- Whether a record is well formed, but for its tables (10:R221). -/
def rcOk (s : State) (r : List Byte) : Bool :=
  decide (1 ≤ rcLevels r) && decide (rcLevels r ≤ 3) && decide (fieldLE r 5 1 ≤ 1) && decide (rcPolicy r ≤ 2) &&
    decide (fieldLE r 7 1 < 4) && zeroAt r 14 2 && zeroAt r 23 41 && zeroAt r 70 2 && zeroAt r 216 40 &&
    decide (1 ≤ rcInitX r) && decide (rcInitX r ≤ 254) && decide (1 ≤ rcAgFmt r) && decide (rcAgFmt r ≤ 8) && decide (fieldLE r 22 1 ≤ 1) &&
    decide (1 ≤ rcB r) && decide (rcB r ≤ 2 ^ 28) && ((List.range 3).all (rcLevelOk r)) &&
    noRepeat ((rcPorts r).map Prod.fst) &&
    fieldLE r 176 8 % 1024 == 0 && fieldLE r 184 8 % 1024 == 0 && fieldLE r 192 8 % 64 == 0 && fieldLE r 200 8 % 4096 == 0 &&
    fieldLE r 168 8 % 64 == 0 && fieldLE r 208 8 % 64 == 0 &&
    ([168, 176, 184, 192, 200, 208].all fun o => (regionOf s (fieldLE r o 8)).isMem)

/-- Whether the tables of a record are well formed (10:R220, R221). -/
def rcTablesOk (s : State) (r : List Byte) (segs ags : List (List Byte)) : Bool :=
  let e := rcElemBytes r
  (segs.all fun g => fieldLE g 0 8 % 1024 == 0 && fieldLE g 12 4 == 0 && rangeIsMem s (fieldLE g 0 8) (1024 * fieldLE g 8 4)) &&
    (segs.map fun g => fieldLE g 8 4).sum == rcB r &&
    (ags.all fun g => fieldLE g 0 8 % 64 == 0 && fieldLE g 8 8 % 8 == 0 && zeroAt g 20 12 &&
      rangeIsMem s (fieldLE g 0 8) (e * fieldLE g 16 4) &&
      rangeIsMem s (fieldLE g 8 8) (8 * fieldLE g 16 4)) &&
    (ags.map fun g => fieldLE g 16 4).sum == rcB r &&
    ((ringAreas r).all fun a => rangeIsMem s a.1 a.2) && apart (ringAreas r)

/-- The exchange of a RING_CFG ends with a status: the earlier configuration goes in every case (10:R222). (Open points: assumption 50, DESIGN CHOICE.) -/
def exchEnd (s : State) (k status : Nat) : State :=
  match (slotGet s k).exch with
  | none => s
  | some (id, c, _) =>
    let s := slotFree (slotSet s k { slotGet s k with exch := none }) k
    let s := rgSet (rgSet s k F_FLD_RING_STATUS_ACTIVE 0) k F_FLD_RING_STATUS_LAST_STATUS status
    let done (s : State) (r : Reply) : State := match s.cmds.taken.find? fun t => t.id == id with | some t => finish s t r | none => s
    if status ≠ 0 then done s (.done status [])
    else
      let s := rgSet (slotSet s k { slotGet s k with cfg := some c }) k F_FLD_RING_STATUS_CONFIGURED 1
      let s := (List.range 4).foldl (fun s n => regSet s (R_FLD_RING_DIGEST k n) (BitVec.ofNat 32 (fieldLE c.digest (4 * n) 4))) s
      if rcTable c.record then
        let d := fldDie 0
        let e := fieldLE c.record 200 8
        let w1 := postWrite s d (ringAgent d) e
          (expBuffer s.step.toNat (List.replicate (rcB c.record) (BitVec.ofNat 8 (rcInitX c.record))))
        let w2 := postWrite w1.1 d (ringAgent d) (e + rcExpBytes c.record) (List.replicate 8 0xFF#8)
        let s := rgSet w2.1 k F_FLD_RING_STATUS_EXP_BUF 0
        if w1.2 && w2.2 then done s (.ok c.digest)
        else done (rgSet (slotFree s k) k F_FLD_RING_STATUS_LAST_STATUS 0x0301) (.done 0x0301 [])
      else done s (.ok c.digest)

/-- A configuration hello on a port of an exchange. -/
def exchHello (s : State) (k port : Nat) (h : Hello) : State :=
  match (slotGet s k).exch with
  | none => s
  | some (id, c, left) =>
    if !(left.contains port) then s
    else if !(helloOk c port h) then exchEnd s k 0x0405
    else
      let left := left.filter (· ≠ port)
      let s := slotSet s k { slotGet s k with exch := some (id, c, left) }
      if left.isEmpty then exchEnd s k 0 else s

/-- A RING_CFG completes with a status before its exchange: it is the slot's last status (10:R246). -/
def ringCfgDone (s : State) (k status : Nat) : State × Option Reply :=
  (rgSet s k F_FLD_RING_STATUS_LAST_STATUS status, some (.done status []))
/-- RING_CFG, once its turn has come. (Open points: assumption 80, DEDUCED.) -/
def ringCfgRun (k addr : Nat) : CmdFn := fun t s =>
  refuseIf (!(inOneRange addr 256)) 0x0102 s
  <| if !(cmdReach s t addr 256) then ringCfgDone s k 0x0105
  else
    match cmdRead s t addr 256 with
    | (s, none) => ringCfgDone s k 0x0301
    | (s, some r) =>
      let s := { s with cmds := { s.cmds with taken := s.cmds.taken.map fun (u : Taken) => if u.id = t.id then { u with app := r } else u } }
      withApp t r
      <| refuseIf (!(rcOk s r)) 0x0102 s
      <| refuseIf ((List.range 3).any (fun l => decide (512 < rcN r l)) || decide (262144 < rcMembers r)) 0x0404 s
      <| match segRead s t (fieldLE r 168 8) 16 8 64 0 [] with
        | (s, none, _) => refuse s 0x0102
        | (s, _, true) => ringCfgDone s k 0x0301
        | (s, some segs, false) =>
          match segRead s t (fieldLE r 208 8) 32 16 64 0 [] with
          | (s, none, _) => refuse s 0x0102
          | (s, _, true) => ringCfgDone s k 0x0301
          | (s, some ags, false) =>
            refuseIf (!(rcTablesOk s r segs ags)) 0x0102 s
            <| refuseIf ((rcPorts r).any fun e => !(portYoger s e.1)) 0x0407 s
            <| let c : RingCfg := ⟨r, shake256 (r.take 64) 16, segs.map (fun g => (fieldLE g 0 8, fieldLE g 8 4)),
                 ags.map fun g => (fieldLE g 0 8, fieldLE g 8 8, fieldLE g 16 4)⟩
               let ports := (rcPorts r).map Prod.fst
               let s := slotSet s k { slotGet s k with exch := some (t.id, c, ports) }
               let s := rgSet s k F_FLD_RING_STATUS_ACTIVE 1
               let s := (rcPorts r).foldl (fun s e => sendFrame s e.1 frRingCfgHello (helloBytes c e.2.1)) s
               let kept := ports.filterMap fun p => match tabFind s.rings.cfgHellos p with
                 | some h => if decide (uptimeUs s < h.1 + (regGet s R_FLD_RING_TIMEOUT).toNat) then some (p, h.2) else none
                 | none => none
               let s := { s with rings := { s.rings with cfgHellos := tabDelIf s.rings.cfgHellos fun p => ports.contains p } }
               (kept.foldl (fun s e => exchHello s k e.1 e.2) s, none)

/-! ### RING_RS, RING_AG, RING_RELEASE (10:R225, R233, R244). -/

/-- The exponent buffer whose TAG is a step: its number and table, none if there is none or it does not hold; the last
answer says that an uncorrectable error was met. -/
def expFind (s : State) (c : RingCfg) (step : Nat) : State × Option (Nat × List Nat) × Bool :=
  let at_ (i : Nat) := fieldLE c.record 200 8 + i * rcExpBytes c.record
  (List.range 2).foldl (fun (a : State × Option (Nat × List Nat) × Bool) i =>
    if a.2.1.isSome || a.2.2 then a
    else match ringRead a.1 (fldDie 0) (at_ i) (64 + rcB c.record) with
      | (s, none) => (s, none, true)
      | (s, some bs) =>
        let tb := bs.drop 64
        if fieldLE bs 0 8 = step ∧ fieldLE bs 8 4 = rcB c.record ∧ fieldLE bs 12 4 = (crc32c tb).toNat
        then (s, some (i, tb.map BitVec.toNat), false) else (s, none, false)) (s, none, false)

/-- RING_RS, once its turn has come. (Open points: assumption 52, DEDUCED.) -/
def ringRsRun (k step : Nat) : CmdFn := fun t s =>
  refuseIf (step != s.step.toNat) 0x0102 s
  <| match (slotGet s k).cfg with
    | none => refuse s 0x040B
    | some c =>
      if !(rcTable c.record) || !(ringReach s c false) then (ringStart s k t.id false step [] 0, none)
      else match expFind s c step with
        | (s, _, true) => (ringFail (ringStart s k t.id false step [] 0) k 0x0301, none)
        | (s, none, false) => refuse s 0x040C
        | (s, some (i, xs), false) => (ringStart s k t.id false step xs i, none)

/-- RING_AG, once its turn has come. (Open points: assumption 52, DEDUCED.) -/
def ringAgRun (k step : Nat) : CmdFn := fun t s =>
  refuseIf (step != s.step.toNat) 0x0102 s
  <| match (slotGet s k).cfg with
    | none => refuse s 0x040B
    | some _ => (ringStart s k t.id true step [] (fld s (R_FLD_RING_STATUS k) F_FLD_RING_STATUS_EXP_BUF), none)

/-- RING_RELEASE, once its turn has come. -/
def ringReleaseRun (k : Nat) : CmdFn := fun _ s =>
  refuseIf ((slotGet s k).cfg.isNone) 0x040B s <| okay (rgSet (slotFree s k) k F_FLD_RING_STATUS_LAST_STATUS 0) []

/-! ### The order of ring and update commands (10:R244; 11:R262). -/

/-- Whether a taken ring or update command is already under way. -/
def ringBegun (s : State) (t : Taken) : Bool :=
  (match s.rings.updRun with | some u => u.id == t.id | none => false) || s.rings.slots.any fun e =>
    (match e.2.run with | some r => r.id == t.id | none => false) || (match e.2.exch with | some x => x.1 == t.id | none => false)

/-- Whether a command `u` accepted earlier holds back a command `t`. -/
def ringBehind (s : State) (u t : Taken) : Bool :=
  let slot := s.upd.map UpdCfg.slot
  match u.wait, t.wait with
  | .ring j, .ring k => j == k
  | .upd, .upd => true
  | .ring j, .upd => t.op == 0x0503 && slot == some j
  | .upd, .ring k => u.op == 0x0503 && slot == some k
  | _, _ => false

/-- The first command of a list whose turn has come; `before` are those accepted before it. (Open points: assumption 52, DEDUCED.) -/
def ringTurn (s : State) (before : List Taken) : List Taken → Option Taken
  | [] => none
  | t :: ts =>
    let mine := match t.wait with | .ring _ => true | .upd => true | _ => false
    if mine && !(ringBegun s t) && !(before.any fun u => ringBehind s u t) then some t else ringTurn s (before ++ [t]) ts

/-- The own part of a ring or update command. -/
def ringBody (t : Taken) : CmdFn :=
  let par := parsOf t.pkt
  match t.op with
  | 0x0401 => ringCfgRun (fieldLE par 0 1) (fieldLE par 8 8)
  | 0x0402 => ringRsRun (fieldLE par 0 1) (fieldLE par 8 8)
  | 0x0403 => ringAgRun (fieldLE par 0 1) (fieldLE par 8 8)
  | 0x0404 => ringReleaseRun (fieldLE par 0 1)
  | 0x0501 => updCfgRun (fieldLE par 8 8)
  | 0x0502 => updCoefRun (fieldLE par 0 8) (fieldLE par 8 8)
  | _ => updRunStart (fieldLE par 8 8)

/-- Start every command whose turn has come (the fuel bounds their number). -/
def ringPumpN : Nat → State → State
  | 0, s => s
  | f + 1, s =>
    match ringTurn s [] s.cmds.taken with
    | none => s
    | some t =>
      let r := ringBody t t s
      ringPumpN f (match r.2 with | some x => finish r.1 t x | none => r.1)

/-- Start every ring and update command whose turn has come. -/
def ringPump (s : State) : State := ringPumpN (s.cmds.taken.length + 1) s

/-- Windows have ended: what waited for them goes on. -/
def ringResume (s : State) : State := ringPump (updGo ((List.range 8).foldl ringGo s))

/-- A ring or update command is accepted: it waits for its turn. -/
def ringAccept (t : Taken) (w : Wait) (s : State) : State × Option Reply := (ringPump (defer s t w), none)

/-- Whether a command of a slot with one of the opcodes is running or pending. -/
def ringTakenOp (s : State) (k : Nat) (ops : List Nat) : Bool :=
  s.cmds.taken.any fun t => t.wait == .ring k && ops.contains t.op

/-! ### Commands. -/

/-- RING_CFG. -/
def cmdRingCfg (slot : Byte) (_addr : DWord) : CmdFn := fun t s =>
  refuseIf (decide (7 < slot.toNat)) 0x0102 s
  <| refuseIf (ringTakenOp s slot.toNat [0x0402, 0x0403]) 0x0406 s
  <| ringAccept t (.ring slot.toNat) s

/-- The meaning of RING_CFG. -/
def execRingCfg (src : Src) (slot : Byte) (addr : DWord) (s : State) : Host.Outcome State Fault Refusal :=
  .next (runCmd 0x0401 src (parBytes [(0, 1, slot.toNat), (8, 8, addr.toNat)]) (cmdRingCfg slot addr) s)

/-- RING_RS and RING_AG. -/
def cmdRingRun (slot : Byte) : CmdFn := fun t s =>
  refuseIf (decide (7 < slot.toNat)) 0x0102 s <| ringAccept t (.ring slot.toNat) s

/-- The meaning of RING_RS. -/
def execRingRs (src : Src) (slot : Byte) (step : DWord) (s : State) : Host.Outcome State Fault Refusal :=
  .next (runCmd 0x0402 src (parBytes [(0, 1, slot.toNat), (8, 8, step.toNat)]) (cmdRingRun slot) s)

/-- The meaning of RING_AG. -/
def execRingAg (src : Src) (slot : Byte) (step : DWord) (s : State) : Host.Outcome State Fault Refusal :=
  .next (runCmd 0x0403 src (parBytes [(0, 1, slot.toNat), (8, 8, step.toNat)]) (cmdRingRun slot) s)

/-- RING_RELEASE. -/
def cmdRingRelease (slot : Byte) : CmdFn := fun t s =>
  refuseIf (decide (7 < slot.toNat)) 0x0102 s
  <| refuseIf (ringTakenOp s slot.toNat [0x0402, 0x0403]) 0x0406 s
  <| ringAccept t (.ring slot.toNat) s

/-- The meaning of RING_RELEASE. -/
def execRingRelease (src : Src) (slot : Byte) (s : State) : Host.Outcome State Fault Refusal :=
  .next (runCmd 0x0404 src (parBytes [(0, 1, slot.toNat)]) (cmdRingRelease slot) s)

/-- UPD_CFG. -/
def cmdUpdCfg : CmdFn := fun t s =>
  refuseIf (s.cmds.taken.any fun u => u.wait == .upd && u.op == 0x0503) 0x0507 s <| ringAccept t .upd s

/-- The meaning of UPD_CFG. -/
def execUpdCfg (src : Src) (addr : DWord) (s : State) : Host.Outcome State Fault Refusal :=
  .next (runCmd 0x0501 src (parBytes [(8, 8, addr.toNat)]) cmdUpdCfg s)

/-- UPD_COEF_SET and UPD_RUN. -/
def cmdUpd : CmdFn := fun t s => ringAccept t .upd s

/-- The meaning of UPD_COEF_SET. -/
def execUpdCoefSet (src : Src) (mask addr : DWord) (s : State) : Host.Outcome State Fault Refusal :=
  .next (runCmd 0x0502 src (parBytes [(0, 8, mask.toNat), (8, 8, addr.toNat)]) cmdUpd s)

/-- The meaning of UPD_RUN. -/
def execUpdRun (src : Src) (step : DWord) (s : State) : Host.Outcome State Fault Refusal :=
  .next (runCmd 0x0503 src (parBytes [(8, 8, step.toNat)]) cmdUpd s)

/-! ### Events. -/

/-- A configuration hello arrives: matched against the exchange that names its port, or kept for one (10:R222). (Open points: assumption 50, DESIGN CHOICE.) -/
def cfgHello (s : State) (port : Nat) (h : Hello) : State :=
  match (List.range 8).find? fun k => match (slotGet s k).exch with | some x => x.2.2.contains port | none => false with
  | some k => ringPump (exchHello s k port h)
  | none => { s with rings := { s.rings with cfgHellos := tabPut s.rings.cfgHellos port (uptimeUs s, h) } }

/-- The meaning of RING_CONFIG_HELLO. -/
def execRingConfigHello (port : Fin 48) (ringId : Word) (level : Byte) (pos : Half) (digest : List Byte) (s : State) :
    Host.Outcome State Fault Refusal :=
  .next (cfgHello s port ⟨ringId.toNat, level.toNat, pos.toNat, digest, 0⟩)

/-- The meaning of RING_HELLO_TIMEOUT. -/
def execRingHelloTimeout (slot : Fin 8) (s : State) : Host.Outcome State Fault Refusal := .next (ringPump (exchEnd s slot 0x040A))

/-- The meaning of RING_START_HELLO. -/
def execRingStartHello (port : Fin 48) (ringId : Word) (level : Byte) (pos : Half) (digest : List Byte) (step : DWord) (s : State) :
    Host.Outcome State Fault Refusal :=
  .next (ringPump (startHello s port ⟨ringId.toNat, level.toNat, pos.toNat, digest, step.toNat⟩))

/-- The meaning of RING_BLOCK_ARRIVAL: header and decoded payload. -/
def execRingBlockArrival (port : Fin 48) (bytes : List Byte) (ups : List Before) (s : State) : Host.Outcome State Fault Refusal :=
  .next (ringPump (ringBlock (upsets s ups) port bytes))

/-- The meaning of REPASS_START: the marks of the other members of the rod. -/
def execRepassStart (slot : Fin 8) (marks : List (Nat × Fin 4)) (s : State) : Host.Outcome State Fault Refusal :=
  .next (ringPump (repassStart s slot (marks.map fun m => (m.1, m.2.val))))

/-- The meaning of CLOSING_PHASE: the verdict of the other members' final blocks and their new exponents. -/
def execClosingPhase (slot : Fin 8) (v : RingVote) (xs : List Byte) (s : State) : Host.Outcome State Fault Refusal :=
  .next (ringPump (closingPhase s slot ⟨v.flags.toNat, v.nonfinite, v.repassed, v.retried, some v.low, v.high, v.scale⟩ xs))

/-- The meaning of RING_ABORT_TOKEN. (Open points: assumption 80, DEDUCED.) -/
def execRingAbortToken (port : Fin 48) (ringId : Word) (status : Half) (s : State) : Host.Outcome State Fault Refusal :=
  .next (match ringSlotOf s port ringId.toNat with
    | some k => ringPump (ringAborted s k status.toNat)
    | none => helloDrop s (· == helloKey port ringId.toNat))

/-- The meaning of RING_PROGRESS_TIMEOUT. -/
def execRingProgressTimeout (slot : Fin 8) (s : State) : Host.Outcome State Fault Refusal := .next (ringPump (ringTimeout s slot))

end Sys2Proof.Machine
end

