-- ==== Sys2Proof/Machine/Shale.lean ====
section
/-! DEFINITION. Shale: regions, arming, fills, injected errors, refresh, scrubbing and sparing (08:R171-R184). -/
namespace Sys2Proof.Machine

/-! ### Wells armed (08:R175). -/

/-- Clear the tags of the rows that a test selects, and advance the arming count of the Shale. -/
def armRows (s : State) (g : Nat) (hit : Nat → Bool) : State :=
  regInc { s with tags := tabDelIf s.tags hit } (R_SHL_ARM_GEN (shlDie g)) 1

/-- Bytes [lo, hi) of a region entry, as offsets of the Shale. -/
def rgnSpan (w : Word) : Nat × Nat :=
  (fldGet w F_SHL_RGN_BASE_MIB * 1048576, (fldGet w F_SHL_RGN_BASE_MIB + fldGet w F_SHL_RGN_SIZE_MIB_M1 + 1) * 1048576)

/-- Arm the wells of the entries of a Shale that a mask selects. -/
def armEntries (s : State) (g mask : Nat) : State :=
  armRows s g fun row =>
    (setBits 16 mask).any fun n =>
      let w := regGet s (R_SHL_RGN (shlDie g) n)
      fldGet w F_SHL_RGN_TYPE == 3 && decide (shaleBase g + (rgnSpan w).1 ≤ row) && decide (row < shaleBase g + (rgnSpan w).2)

/-- Arm every well of every Shale. -/
def armAll (s : State) : State := (List.range 16).foldl (fun s g => armEntries s g 65535) s

/-! ### Order among the commands of one Shale (08:R184). -/

/-- Whether an earlier command of a Shale still waits. (Open points: assumption 42, DEDUCED.) -/
def shaleWaits (s : State) (g : Nat) : Bool :=
  s.cmds.taken.any fun t => match t.wait with
    | .wellArm h _ => h == g
    | .shale h => h == g
    | _ => false

/-- Run a command of Shale `g` in the order of acceptance, after what it refuses. -/
def shaleOrder (s : State) (t : Taken) (g : Nat) (k : State × Option Reply) : State × Option Reply :=
  if t.wait == .upd && shaleWaits s g then (defer s t (.shale g), none) else k

/-- Refuse what names no Shale, and fail what needs a fenced seam (14:R331). -/
def shaleReach (s : State) (t : Taken) (die : Byte) (k : State × Option Reply) : State × Option Reply :=
  if !(isKind die .shale) then refuse s 0x0102
  else if !(cmdReach s t (shaleBase (shlOrd die.toNat)) 1) then (s, some (.done 0x0105 []))
  else k

/-! ### SHL_REGION_SET (08:R171, R173). -/

/-- The part of [a.1, a.2) outside [b.1, b.2), in at most two pieces. -/
def spanLess (a b : Nat × Nat) : List (Nat × Nat) :=
  if b.2 ≤ a.1 ∨ a.2 ≤ b.1 then [a] else [(a.1, b.1), (b.2, a.2)]

/-- The span of an entry that is a well, else nothing. -/
def wellSpan (w : Word) : Nat × Nat := if fldGet w F_SHL_RGN_TYPE = 3 then rgnSpan w else (0, 0)

/-- Whether two entries in use share a MiB. -/
def rgnOverlap (a b : Word) : Bool :=
  fldGet a F_SHL_RGN_TYPE != 0 && fldGet b F_SHL_RGN_TYPE != 0 &&
    decide ((rgnSpan a).1 < (rgnSpan b).2) && decide ((rgnSpan b).1 < (rgnSpan a).2)

/-- Put an entry into a region table: what becomes a well is armed, and what becomes or ceases to be one is undefined. (Open points: assumption 42, DEDUCED.) -/
def regionPut (s : State) (g n : Nat) (w : Word) : State :=
  let k := R_SHL_RGN (shlDie g) n
  let old := wellSpan (regGet s k)
  let new := wellSpan w
  let b := shaleBase g
  let fresh := (spanLess new old).filter fun p => decide (p.1 < p.2)
  let gone := (spanLess old new).filter fun p => decide (p.1 < p.2)
  let s := (fresh ++ gone).foldl (fun s p => loseRange s (b + p.1) (b + p.2)) (regSet s k w)
  if fresh.isEmpty then s
  else armRows s g fun row => fresh.any fun p => decide (b + p.1 ≤ row) && decide (row < b + p.2)

/-- SHL_REGION_SET. -/
def cmdShlRegionSet (die entry : Byte) (word : Word) : CmdFn := fun t s =>
  shaleReach s t die
  <| let g := shlOrd die.toNat
     let n := entry.toNat
     let d := die.toNat
     let ty := fldGet word F_SHL_RGN_TYPE
     let was := fld s (R_SHL_RGN d n) F_SHL_RGN_TYPE
     refuseIf (decide (15 < n) || (ty == 0 && word != 0) || decide (16384 * 1048576 < (rgnSpan word).2) || bitsOf word.toNat 14 2 != 0) 0x0102 s
     <| refuseIf ((List.range 16).any fun m => m != n && rgnOverlap word (regGet s (R_SHL_RGN d m))) 0x0303 s
     <| refuseIf ((schedGet s g).image.isSome && decide (2 ≤ ty ∨ 2 ≤ was)) 0x0304 s
     <| shaleOrder s t g (okay (regionPut s g n word) [])

/-- The meaning of SHL_REGION_SET. -/
def execShlRegionSet (src : Src) (die entry : Byte) (word : Word) (s : State) : Host.Outcome State Fault Refusal :=
  .next (runCmd 0x0310 src (parBytes [(0, 1, die.toNat), (1, 1, entry.toNat), (4, 4, word.toNat)]) (cmdShlRegionSet die entry word) s)

/-! ### SHL_WELL_ARM (08:R175). -/

/-- SHL_WELL_ARM. -/
def cmdShlWellArm (die : Byte) (mask : Half) : CmdFn := fun t s =>
  shaleReach s t die
  <| let g := shlOrd die.toNat
     refuseIf (mask == 0 || (setBits 16 mask.toNat).any fun n => fld s (R_SHL_RGN die.toNat n) F_SHL_RGN_TYPE != 3) 0x0102 s
     <| shaleOrder s t g
     <| if winOpen s g then (defer s t (.wellArm g mask.toNat), none)
        else
          let s := armEntries s g mask.toNat
          okay s (leBytes 4 (regGet s (R_SHL_ARM_GEN die.toNat)).toNat)

/-- The meaning of SHL_WELL_ARM. -/
def execShlWellArm (src : Src) (die : Byte) (mask : Half) (s : State) : Host.Outcome State Fault Refusal :=
  .next (runCmd 0x0311 src (parBytes [(0, 1, die.toNat), (2, 2, mask.toNat)]) (cmdShlWellArm die mask) s)

/-! ### SHL_FILL and SHL_ERR_INJECT (08:R170, R184). -/

/-- Whether [lo, hi) meets an entry of a Shale with a type. -/
def meetsType (s : State) (d lo hi ty : Nat) : Bool :=
  (List.range 16).any fun n =>
    let w := regGet s (R_SHL_RGN d n)
    fldGet w F_SHL_RGN_TYPE == ty && decide ((rgnSpan w).1 < hi) && decide (lo < (rgnSpan w).2)

/-- SHL_FILL: whole rows are written on the bank-side path, and cached copies of them are invalidated. (Open points: assumption 42, DEDUCED; assumption 45, DEDUCED.) -/
def cmdShlFill (die : Byte) (off : DWord) (bytes pat : Word) : CmdFn := fun t s =>
  shaleReach s t die
  <| let g := shlOrd die.toNat
     let o := off.toNat
     let n := bytes.toNat
     refuseIf (o % 1024 != 0 || n == 0 || n % 1024 != 0 || decide (0x000400000000 < o + n) || meetsType s die.toNat o (o + n) 3) 0x0102 s
     <| refuseIf (meetsType s die.toNat o (o + n) 2 && winOrPending s g) 0x0304 s
     <| shaleOrder s t g
     <| let a := shaleBase g + o
        let s := dropCopies s (fun x => decide (a ≤ x) && decide (x < a + n)) false
        okay (writeMem s ⟨5, die.toNat⟩ 0x04 a (List.replicate (n / 4) (leBytes 4 pat.toNat)).flatten).1 []

/-- The meaning of SHL_FILL. -/
def execShlFill (src : Src) (die : Byte) (off : DWord) (bytes pat : Word) (s : State) : Host.Outcome State Fault Refusal :=
  .next (runCmd 0x0312 src (parBytes [(0, 1, die.toNat), (8, 8, off.toNat), (16, 4, bytes.toNat), (20, 4, pat.toNat)])
    (cmdShlFill die off bytes pat) s)

/-- SHL_ERR_INJECT. (Open points: assumption 42, DEDUCED.) -/
def cmdShlErrInject (die : Byte) (off : DWord) (kind : Byte) : CmdFn := fun t s =>
  shaleReach s t die
  <| let g := shlOrd die.toNat
     refuseIf (off.toNat % 128 != 0 || decide (0x000400000000 ≤ off.toNat) || !(kind == 1#8 || kind == 2#8)) 0x0102 s
     <| refuseIf (!(flag s R_SCH_RST_STATUS F_SCH_RST_STATUS_DEBUG_ON)) 0x0305 s
     <| shaleOrder s t g (okay (upset s (shaleBase g + off.toNat) (kind == 2#8)) [])

/-- The meaning of SHL_ERR_INJECT. -/
def execShlErrInject (src : Src) (die : Byte) (off : DWord) (kind : Byte) (s : State) : Host.Outcome State Fault Refusal :=
  .next (runCmd 0x0313 src (parBytes [(0, 1, die.toNat), (8, 8, off.toNat), (16, 1, kind.toNat)]) (cmdShlErrInject die off kind) s)

/-! ### The end of a window (08:R175). -/

/-- The own part of a Shale command that waited, from its packet. (Open points: assumption 42, DEDUCED.) -/
def shaleCmd (t : Taken) : CmdFn :=
  let p := parsOf t.pkt
  let die := BitVec.ofNat 8 (fieldLE p 0 1)
  let off := BitVec.ofNat 64 (fieldLE p 8 8)
  if t.op = 0x0310 then cmdShlRegionSet die (BitVec.ofNat 8 (fieldLE p 1 1)) (BitVec.ofNat 32 (fieldLE p 4 4))
  else if t.op = 0x0311 then cmdShlWellArm die (BitVec.ofNat 16 (fieldLE p 2 2))
  else if t.op = 0x0312 then cmdShlFill die off (BitVec.ofNat 32 (fieldLE p 16 4)) (BitVec.ofNat 32 (fieldLE p 20 4))
  else cmdShlErrInject die off (BitVec.ofNat 8 (fieldLE p 16 1))

/-- The window on a Gabbro has ended: its Shale's waiting commands run, in the order they were accepted. (Open points: assumption 42, DEDUCED.) -/
def armSettle (s : State) (g : Nat) : State :=
  let due := s.cmds.taken.filter fun t => match t.wait with
    | .wellArm h _ => h == g
    | .shale h => h == g
    | _ => false
  due.foldl (fun s t =>
    let r := shaleCmd t t { s with cmds := { s.cmds with taken := s.cmds.taken.filter fun x => x.id != t.id } }
    match r.2 with
    | some x => finish r.1 { t with wait := .shale g } x
    | none => r.1) s

/-! ### Refresh, scrubbing and sparing (08:R177, R179, R180). -/

/-- The vaults of a Shale that read above 85 °C. -/
def hotVaults (s : State) (d : Nat) : Nat := tabGet s.shl.hot d 0
/-- REFRESH: a bank is refreshed, and the sensor of its vault, bank mod 32, is read; REFRESH_2X shows that some vault is above
85 °C. (Open points: assumption 43, DEDUCED.) -/
def refresh (s : State) (d bank : Nat) (hot : Bool) : State :=
  let m := ofBits ((setBits 32 (hotVaults s d)).filter (· ≠ bank % 32)) + (if hot then 2 ^ (bank % 32) else 0)
  let x := { s.shl with refreshed := tabMod s.shl.refreshed (d * 512 + bank) 0 (· + 1), hot := tabPutZ s.shl.hot d m }
  setFld { s with shl := x } (R_SHL_STATUS d) F_SHL_STATUS_REFRESH_2X (b2n (m != 0))
/-- The meaning of REFRESH. -/
def execRefresh (g : Fin 16) (bank : Fin 512) (hot : Bool) (s : State) : Host.Outcome State Fault Refusal :=
  .next (refresh s (shlDie g) bank hot)

/-- SCRUB_ROW: the next row in ascending order is read; a pass over the Shale is counted, and the rows' error history
starts again with the new period. A Shale in self-refresh is not read (18:R425). (Open points: assumption 43, DEDUCED.) -/
def scrubRow (s : State) (g : Nat) : State :=
  let d := shlDie g
  if !(flag s (R_SHL_CTRL d) F_SHL_CTRL_SCRUB_EN) || memAsleep s then s
  else
    let off := tabGet s.shl.scrub d 0
    let row := shaleBase g + off
    let s := raise s (R_SHL_STATUS d) F_SHL_STATUS_SCRUB_ACTIVE
    let s := if s.shl.copies.contains row then s
      else (List.range 8).foldl (fun s i => (meet s ⟨4, d⟩ 0x02 (row + 128 * i)).1) s
    let next := off + 1024
    if next < 0x000400000000 then { s with shl := { s.shl with scrub := tabPut s.shl.scrub d next } }
    else
      let s := { s with shl := { s.shl with scrub := tabDel s.shl.scrub d,
                                            hist := tabDelIf s.shl.hist fun r => decide (shaleBase g ≤ r) && decide (r < shaleBase g + 0x000400000000) } }
      setFld (regInc s (R_SHL_SCRUB_PASS d) 1) (R_SHL_STATUS d) F_SHL_STATUS_SCRUB_ACTIVE 0

/-- The meaning of SCRUB_ROW. -/
def execScrubRow (g : Fin 16) (ups : List Before) (s : State) : Host.Outcome State Fault Refusal :=
  .next (scrubRow (upsets s ups) g)

/-- The eight sectors of a row are read for its copy: the code is checked as any read checks it (08:R178, R182). (Open points: assumption 13, DEDUCED; assumption 43, DEDUCED.) -/
def copyRead (s : State) (g row : Nat) : State :=
  (List.range 8).foldl (fun s i => (meet s ⟨5, shlDie g⟩ 0x03 (row + 128 * i)).1) s

/-- SPARE_COPY_COMPLETE: the copy ends and the row is remapped; an uncorrectable error is copied with its row, and stays
until a write covers it (08:R181). (Open points: assumption 43, DEDUCED.) -/
def spareDone (s : State) (g row : Nat) : State :=
  let r := rowOf row
  if s.shl.copies.contains r && decide (regionBelow 0 r = .shale g) && !(memAsleep s) then
    let s := copyRead s g r
    let s := spareTake { s with shl := { s.shl with copies := s.shl.copies.filter (· != r) } } g r
    if s.shl.copies.any fun x => decide (regionBelow 0 x = .shale g) then s
    else setFld s (R_SHL_STATUS (shlDie g)) F_SHL_STATUS_SPARE_COPY 0
  else s

/-- The meaning of SPARE_COPY_COMPLETE. -/
def execSpareCopyComplete (g : Fin 16) (row : Nat) (ups : List Before) (s : State) : Host.Outcome State Fault Refusal :=
  .next (spareDone (upsets s ups) g row)

end Sys2Proof.Machine
end

