-- ==== Sys2Proof/Machine/Sched.lean ====
section
/-! DEFINITION. Schedules (06_schedule_contract.md; 07:R158, R167): loading, running, opening and ending windows, barriers,
stop notices, aborts. -/
namespace Sys2Proof.Machine

/-! ### Waiting for a step (06:R129, R149). -/

/-- The identifiers of the runs accepted and not ended. -/
def runIds (s : State) : List Nat := s.runs.map Run.id

/-- Whether a waiting SCH_STEP, warm reset or FW_ACTIVATE in mode NOW holds a run: the run was accepted after it. (Open points: assumption 31, DEDUCED.) -/
def stepHolds (s : State) (r : Run) : Bool :=
  s.cmds.taken.any fun t => match t.wait with
    | .step _ _ rs => !(rs.contains r.id)
    | .warm rs => !(rs.contains r.id)
    | .fwNow rs => !(rs.contains r.id)
    | _ => false

/-- Whether a ring or update command is in progress (06:R129). -/
def ringOrUpd (s : State) : Bool :=
  s.cmds.taken.any fun t => match t.wait with
    | .ring _ => true
    | .upd => true
    | _ => false

/-- The wait of R129: the runs named have ended, no window is open, no ring or update command is in progress. (Open points: assumption 31, DEDUCED.) -/
def stepReady (s : State) (rs : List Nat) : Bool :=
  (rs.all fun i => !((runIds s).contains i)) && !(anyWindow s) && !(ringOrUpd s)

/-! ### Registers of a window (06:R153-R155). -/

/-- Set a field of GAB_SCH_STATUS. -/
def schSet (s : State) (g : Nat) (f : Fld) (v : Nat) : State := setFld s (R_GAB_SCH_STATUS (gabDie g)) f v

/-- Run number of a Gabbro (06:R135). -/
def runNo (s : State) (g : Nat) : Nat := (regGet s (R_GAB_SCH_RUN_CNT (gabDie g))).toNat

/-- Ports that a variant's SENDs and RECVs name. (Open points: assumption 38, DEDUCED.) -/
def streamPorts (l : List Desc) : List Nat :=
  l.filterMap fun d => match d.body with
    | .send x => if x.dest = 255 then some x.port else none
    | .recv x => if x.source = 255 then some x.port else none
    | _ => none

/-! ### The end of a run (06:R147). -/

/-- Whether a part of a run has ended. -/
def RunPart.isEnded : RunPart → Bool
  | .ended _ _ _ => true
  | _ => false

/-- The class that a run selects on its lowest Gabbro when it is accepted, which its reply names (06:R147, R148). (Open points: assumption 37, DEDUCED.) -/
def runClass (s : State) (mask tokens : Nat) : Nat :=
  match setBits 16 mask with
  | [] => 0
  | g :: _ => match (schedGet s g).image with | some im => (classOf im tokens).getD 0 | none => 0

/-- The reply of a run whose parts have ended. (Open points: assumption 37, DEDUCED.) -/
def runReply (r : Run) : Reply :=
  let st := r.parts.foldl (fun a p => match p.2 with | .ended x _ _ => if a = 0 then x else a | _ => a) 0
  let tm := r.parts.foldl (fun a p => match p.2 with | .ended _ x _ => Nat.max a x | _ => a) 0
  let sl := r.parts.foldl (fun a p => match p.2 with | .ended _ _ x => a + x | _ => a) 0
  .done st ([BitVec.ofNat 8 r.cls, 0#8, 0#8, 0#8] ++ leBytes 4 tm ++ leBytes 8 sl)

/-- A run whose every window has ended is answered. -/
def runSettle (s : State) (id : Nat) : State :=
  match s.runs.find? (·.id == id) with
  | none => s
  | some r =>
    if r.parts.all fun p => p.2.isEnded then
      let s' := { s with runs := s.runs.filter fun x => x.id != id }
      match s.cmds.taken.find? fun t => t.wait == .run id with
      | some t => finish s' t (runReply r)
      | none => s'
    else s

/-- Discard a run that opened no window, with a status. -/
def runDiscard (s : State) (id status : Nat) : State :=
  let s := { s with stepFailed := true, runs := s.runs.map fun (r : Run) =>
    if r.id = id then { r with parts := r.parts.map fun p => (p.1, RunPart.ended status 0 0) } else r }
  runSettle s id

/-! ### Stop notices (06:R128; 07:R167). -/

/-- A peer stop notice reaches a Gabbro: its open window stops at its next barrier. (Open points: assumption 38, DEDUCED.) -/
def peerStop (s : State) (g : Nat) : State := winMod s g fun w => { w with notice := true }

/-- The notices of a window that ended with a status other than OK: to the Gabbros of PEER_MASK, and on every port
named by its variant that is still up. (Open points: assumption 38, DEDUCED.) -/
def sendStops (s : State) (g : Nat) (w : Window) : State :=
  let mask := match (schedGet s g).image with | some im => im.peerMask | none => 0
  let s := (setBits 16 mask).foldl peerStop s
  (streamPorts (w.all.getD 8 [])).eraseDups.foldl (fun s p =>
    if portYoger s p then sendFrame s p frStop (leBytes 4 (runNo s g)) else s) s

/-- The meaning of PEER_STOP_NOTICE. -/
def execPeerStopNotice (g : Fin 16) (s : State) : Host.Outcome State Fault Refusal := .next (peerStop s g)

/-- Whether the image loaded on a Gabbro names a port in some variant. -/
def imagePort (s : State) (g p : Nat) : Bool :=
  match (schedGet s g).image with
  | some im => im.variants.any fun v => (streamPorts (v.streams.getD 8 [])).contains p
  | none => false

/-- Whether a notice on a port can stop no window any more: every Gabbro whose image names the port has counted past its run
number (07:R167). (Open points: assumption 38, DEDUCED.) -/
def stopDead (s : State) (p n : Nat) : Bool :=
  let gs := (List.range 16).filter fun g => imagePort s g p
  !gs.isEmpty && gs.all fun g => decide (n < runNo s g)

/-- Discard the kept notices that can stop no window any more. (Open points: assumption 38, DEDUCED.) -/
def stopsPrune (s : State) : State := { s with stops := s.stops.filter fun e => !(stopDead s e.1 e.2) }

/-- CABLE_STOP_NOTICE: delivered to the Gabbros whose open window has the run number and names the port; kept when no
window of that number is open, one for each port, the higher of two. (Open points: assumption 38, DEDUCED.) -/
def cableStop (s : State) (p n : Nat) : State :=
  let opens := (List.range 16).filter fun g => winOpen s g && runNo s g == n
  if opens.isEmpty then
    if stopDead s p n || (match tabFind s.stops p with | some m => decide (n < m) | none => false) then s
    else { s with stops := tabPut s.stops p n }
  else opens.foldl (fun s g => match winGet s g with
    | some w => if (streamPorts (w.all.getD 8 [])).contains p then peerStop s g else s
    | none => s) s

/-- The meaning of CABLE_STOP_NOTICE. -/
def execCableStopNotice (port : Fin 48) (runNo : Word) (s : State) : Host.Outcome State Fault Refusal :=
  .next (cableStop s port runNo.toNat)

/-! ### The end of a window (06:R126-R128). -/

/-- A window ends with a status. -/
def windowEnd (s : State) (g status : Nat) : State :=
  match winGet s g with
  | none => s
  | some w =>
    let d := gabDie g
    let stalls := (regGet s (R_GAB_SCH_WIN_STALL d)).toNat
    let time := schTime s g
    let s := schSet (schSet (schSet s g F_GAB_SCH_STATUS_WINDOW_OPEN 0) g F_GAB_SCH_STATUS_FAULT_PENDING 0) g
      F_GAB_SCH_STATUS_LAST_STATUS status
    let s := setFld s (R_SHL_STATUS (shlDie g)) F_SHL_STATUS_WINDOW_OPEN 0
    let n := runNo s g
    let s := schedSet s g { schedGet s g with win := none }
    let s := { s with credits := s.credits.filter fun c => !(c.dest == g && c.runNo == n) }
    let s := if status = 0 then s else sendStops { s with stepFailed := true } g w
    let s := { s with runs := s.runs.map fun (r : Run) =>
      if r.id = w.run then { r with parts := tabPut r.parts g (.ended status time stalls) } else r }
    ringResume (runSettle (armSettle s g) w.run)

/-- Whether the work that a window's frames and movers have issued is complete (06:R127, R128). (Open points: assumption 35, DEDUCED.) -/
def workDone (s : State) (g : Nat) (w : Window) : Bool :=
  (w.moves.all fun m => m.complete) && (List.range 8).all fun f => frameIdle (frameGet s g f)

/-- Whether every write issued in the window is readable and every transfer is done (06:R127). (Open points: assumption 35, DEDUCED.) -/
def finalReady (s : State) (g : Nat) : Bool :=
  match winGet s g with
  | none => false
  | some w => (w.recvs.all fun r => r.complete) && (w.sends.all fun x => x.read) && workDone s g w && w.readable == 0

/-- A window stops with a status: no descriptor acts any more, SENDs and RECVs not yet complete are cancelled, and the work
already issued goes on until the window ends (06:R128). (Open points: assumption 35, DEDUCED.) -/
def windowStop (s : State) (g status : Nat) : State :=
  winMod s g fun w => { w with stop := some status, finalWait := false, sends := w.sends.filter fun x => x.read,
                               recvs := w.recvs.filter fun r => r.complete }

/-- The status with which a window stops at a barrier, if it does: a pending fault's, or 0x020A on a stop notice (06:R127, R128). (Open points: assumption 35, DEDUCED.) -/
def stopStatus (w : Window) : Option Nat :=
  match w.fault with
  | some st => some st
  | none => if w.notice then some 0x020A else none

/-- What a window gives back at its FINAL barrier: every cached copy in its stores and its SCHEDULE and WELL regions is
invalidated (09:R203). -/
def handover (s : State) (g : Nat) : State :=
  dropCopies s (fun a => isFrameStore g a || (match regionBelow 0 a with
    | .shale o => o == g && (rgnType s g (a - shaleBase g) == 2 || rgnType s g (a - shaleBase g) == 3)
    | _ => false)) true

/-- The end of a window that can end now: one that stops, once the work already issued is complete; one at its FINAL barrier,
once its conditions hold. A fault or a stop notice that comes while the FINAL barrier waits stops the window there (06:R127,
R128; 07:R166, R167). (Open points: assumption 7, DESIGN CHOICE; assumption 35, DEDUCED.) -/
def finalComplete (s : State) (g : Nat) : State :=
  let s := match winGet s g with
    | some w => if w.finalWait then (match stopStatus w with | some st => windowStop s g st | none => s) else s
    | none => s
  match winGet s g with
  | some w =>
    match w.stop with
    | some st => if workDone s g w then windowEnd s g st else s
    | none => if w.finalWait && finalReady s g then windowEnd (handover s g) g 0 else s
  | none => s

/-- The meaning of FINAL_BARRIER_COMPLETE. -/
def execFinalBarrierComplete (g : Fin 16) (ups : List Before) (s : State) : Host.Outcome State Fault Refusal :=
  .next (finalComplete (upsets s ups) g)

/-- The barrier that all nine streams have reached. -/
def barrierHead (s : State) (g : Nat) : Option BarrierDesc :=
  match streamHead s g 8 with
  | some ⟨_, _, .barrier b⟩ =>
    if (List.range 8).all fun i => (match streamHead s g i with | some ⟨_, _, .barrier _⟩ => true | _ => false) then some b else none
  | _ => none

/-- BARRIER_DESCRIPTOR: a pending fault or a stop notice stops the window, which ends in the same cycle when it has nothing left
to wait for; at FINAL the group waits for FINAL_BARRIER_COMPLETE. (Open points: assumption 35, DEDUCED.) -/
def barrierDescriptor (s : State) (g : Nat) : State :=
  match winGet s g, barrierHead s g with
  | some w, some b =>
    let s := (List.range 9).foldl (fun s i => streamPop s g i) s
    match stopStatus w with
    | some st => finalComplete (windowStop s g st) g
    | none => if b.final then winMod s g fun w => { w with finalWait := true } else s
  | _, _ => s

/-- The meaning of BARRIER_DESCRIPTOR. -/
def execBarrierDescriptor (g : Fin 16) (s : State) : Host.Outcome State Fault Refusal := .next (barrierDescriptor s g)

/-! ### Aborts (06:R137, R149). -/

/-- Lose the destination rows of a matrix. -/
def loseRows (s : State) (dst stride bytes rows : Nat) : State :=
  if stride = bytes then loseRange s dst (dst + rows * bytes)
  else (List.range rows).foldl (fun s r => loseRange s (dst + r * stride) (dst + r * stride + bytes)) s

/-- Lose `rows` rows of what an OUTPUT's drain would have written. -/
def loseOutput (s : State) (rows : Nat) (o : OutputDesc) : State :=
  if rows = 0 then s
  else
    let s := if o.outMode = 0 then
        let w := recipe s o.kind
        let s := loseRows s o.dst o.dstStride (recipeBytes w 256) rows
        if rcpBlock w = 0 then s else loseRange s o.dstScale (o.dstScale + 8 * rows)
      else if o.outMode = 1 then loseRange s o.dst (o.dst + 64 * rows) else s
    if o.stashDst = 0 then s
    else
      let w := recipe s o.stashKind
      let s := loseRows s o.stashDst o.stashStride (recipeBytes w 256) rows
      if rcpBlock w = 0 then s else loseRange s o.stashScale (o.stashScale + 8 * rows)

/-- The greatest number of rows that a drain of each entry has in a stream of descriptors: `t` holds ROWS and ACTIVE_ROWS of the
entries as the stream goes on (04:R80, R81). -/
def drainRowsOf : List DescBody → Tab (Nat × Nat) → Tab Nat → Tab Nat
  | [], _, m => m
  | .tile x :: ds, t, m => drainRowsOf ds (tabPut t x.entry (2 ^ x.rowsLog2, 2 ^ x.rowsLog2)) m
  | .pass p :: ds, t, m =>
    let e := tagEntry p.outTag
    let r := tabGet t e (0, 0)
    let a := if tagStarts p.outTag then Nat.min (p.w + 1) r.1 else r.2
    drainRowsOf ds (tabPut t e (r.1, a)) (if tagDrains p.outTag then tabPut m e (Nat.max a (tabGet m e 0)) else m)
  | _ :: ds, t, m => drainRowsOf ds t m

/-- Rows that the drains to come of each entry of a frame would write: of the tiles that wait to drain, of the passes in the array
and of those that have not acted. (Open points: assumption 36, DEDUCED.) -/
def drainRowsLeft (s : State) (g f : Nat) (l : List Desc) : Tab Nat :=
  let x := frameGet s g f
  let t := (List.range 64).foldl (fun t e => if cfgFld s g f e F_TILE_CFG_VALID = 0 then t
    else tabPut t e (tileRows s g f e, if tileState s g f e = 0 then tileRows s g f e else activeRows s g f e)) []
  let m := (x.drains.filter fun q => !q.started).foldl (fun m q => tabPut m q.entry (Nat.max q.rows (tabGet m q.entry 0))) []
  drainRowsOf ((x.passes.map fun p => .pass p.desc) ++ l.map Desc.body) t m

/-- Lose what a descriptor of a stream `l` that has not acted would have written (06:R149). (Open points: assumption 36, DEDUCED.) -/
def loseDesc (s : State) (g f : Nat) (l : List Desc) (d : Desc) : State :=
  match d.body with
  | .output o => loseOutput s (tabGet (drainRowsLeft s g f l) o.entry 0) o
  | .garnet x =>
    let w := recipe s x.kind
    let s := loseRows s x.dst x.dstStride (recipeBytes w (gntLen x)) x.rows
    let s := if rcpBlock w = 0 then s else loseRange s x.dstScale (x.dstScale + gntLen x / 32 * x.rows)
    if x.pgradDst = 0 then s
    else loseRange s x.pgradDst (x.pgradDst + (if x.op = 4 then 2 else 1) * ceilDiv x.len 256 * 1024)
  | .recv x => loseRange s x.dstAddr (x.dstAddr + x.bytes)
  | .move x => loseRange s x.dstAddr (x.dstAddr + x.bytes)
  | _ => s

/-- Lose what a started drain has yet to write: rows before `r` of its main output and before `q` of its stash are out. (Open points: assumption 36, DEDUCED.) -/
def loseDrain (s : State) (x : Drain) : State :=
  match x.prog with
  | none => s
  | some o =>
    let q := Nat.min x.rows (x.t - 24)
    let r := if o.outMode = 1 then Nat.min x.rows (x.t - 32) else q
    let s := if o.outMode = 2 then s
      else loseOutput s (x.rows - r) { o with dst := o.dst + r * (if o.outMode = 1 then 64 else o.dstStride)
                                              dstScale := o.dstScale + 8 * r, stashDst := 0 }
    if o.stashDst = 0 then s
    else loseOutput s (x.rows - q) { o with outMode := 2, stashDst := o.stashDst + q * o.stashStride, stashScale := o.stashScale + 8 * q }

/-- Lose what a GARNET descriptor in progress has yet to write: chunks on their way, the chunks that its last pass has yet to read,
parameter gradients. (Open points: assumption 36, DEDUCED.) -/
def loseGarnet (s : State) (q : GntRun) : State :=
  let d := q.desc
  let w := recipe s d.kind
  let c := gntChunks d
  let n := Nat.min (gntSpan d) (q.t - gntLast d)
  let s := q.chunks.foldl (fun s e =>
    let a := d.dst + e.2.1 * d.dstStride + recipeBytes w (256 * e.2.2.1)
    let z := d.dstScale + e.2.1 * (gntLen d / 32) + 8 * e.2.2.1
    let s := loseRange s a (a + recipeBytes w e.2.2.2.1.length)
    if rcpBlock w = 0 then s else loseRange s z (z + e.2.2.2.2.length)) s
  let s := if n % c = 0 then s
    else loseRange s (d.dst + n / c * d.dstStride + recipeBytes w (256 * (n % c))) (d.dst + n / c * d.dstStride + recipeBytes w (gntLen d))
  let s := loseRows s (d.dst + ceilDiv n c * d.dstStride) d.dstStride (recipeBytes w (gntLen d)) (d.rows - ceilDiv n c)
  let s := if rcpBlock w = 0 then s
    else loseRange s (d.dstScale + n / c * (gntLen d / 32) + 8 * (n % c)) (d.dstScale + d.rows * (gntLen d / 32))
  let n := Nat.min (gntPgrad d) (q.t - (gntLast d + gntSpan d + 20))
  loseRange s (d.pgradDst + 1024 * n) (d.pgradDst + 1024 * gntPgrad d)

/-- Every destination of a window whose write has not left the frame group is undefined. (Open points: assumption 36, DEDUCED.) -/
def loseWindow (s : State) (g : Nat) (w : Window) : State :=
  let s := (indexed w.streams).foldl (fun s l => l.2.foldl (fun s d => loseDesc s g l.1 l.2 d) s) s
  let s := w.recvs.foldl (fun s r => if r.complete then s else loseDesc s g 8 [] ⟨2, 0, .recv r.desc⟩) s
  let s := w.moves.foldl (fun s m => if m.complete then s else loseDesc s g 8 [] ⟨2, 0, .move m.desc⟩) s
  (List.range 8).foldl (fun s f =>
    let x := frameGet s g f
    let rows := drainRowsLeft s g f (w.streams.getD f [])
    let s := x.gnt.foldl loseGarnet s
    let s := (x.drains.filter (·.started)).foldl loseDrain s
    x.progs.foldl (fun s p => match p.2 with | o :: _ => loseOutput s (tabGet rows p.1 0) o.1 | [] => s) s) s

/-- Abort the open window of a Gabbro with a status: its frames are reset and its transfers cancelled. (Open points: assumption 36, DEDUCED.) -/
def abortWindow (s : State) (g status : Nat) : State :=
  match winGet s g with
  | none => s
  | some w =>
    let s := { s with xfers := s.xfers.filter fun x => x.source != gabDie g }
    windowEnd (resetFrames (loseWindow s g w) g 255) g status

/-- STALL_LIMIT_ABORT: a stall limit has been reached. (Open points: assumption 36, DEDUCED.) -/
def stallAbort (s : State) (g : Nat) : State :=
  match winGet s g with
  | none => s
  | some w =>
    let d := gabDie g
    let sum := (regGet s (R_GAB_SCH_STALL_SUM_LIMIT d)).toNat
    if (w.stallRun ≠ 0 ∧ (regGet s (R_GAB_SCH_STALL_RUN_LIMIT d)).toNat ≤ w.stallRun) ∨
        (sum ≠ 0 ∧ sum ≤ (regGet s (R_GAB_SCH_WIN_STALL d)).toNat) then
      abortWindow (strataEvent s d 0x30 0x0202 (runNo s g) 0) g 0x0202
    else s

/-- The meaning of STALL_LIMIT_ABORT. -/
def execStallLimitAbort (g : Fin 16) (s : State) : Host.Outcome State Fault Refusal := .next (stallAbort s g)

/-! ### Opening windows (06:R125, R148; 07:R167). -/

/-- The run at the head of a Gabbro's pending runs. -/
def runHead (s : State) (g : Nat) : Option Run := s.runs.find? fun r => runWaits r g

/-- Whether a frame is STARTED. -/
def frameStartedNow (s : State) (g f : Nat) : Bool := flag s (R_GAB_FRM_STATUS (gabDie g) f) F_GAB_FRM_STATUS_STARTED

/-- Whether a run is ready on a Gabbro. -/
def runReady (s : State) (r : Run) (g : Nat) : Bool :=
  (match runHead s g with | some h => h.id == r.id | none => false) && !(winOpen s g) &&
    ((List.range 8).all fun f => !(runNeeds s r g f) || frameStartedNow s g f) && !(stepHolds s r) && !(excluded s g)

/-- Open the window of a run on a Gabbro. (Open points: assumption 37, DEDUCED; assumption 38, DEDUCED.) -/
def windowOpenOn (s : State) (r : Run) (g : Nat) : State :=
  match (schedGet s g).image with
  | none => s
  | some im =>
    let d := gabDie g
    let cls := (classOf im r.tokens).getD 0
    let v := variantOf im r.section_ cls
    let s := regInc s (R_GAB_SCH_RUN_CNT d) 1
    let n := runNo s g
    let s := regSet (regSet (regSet s (R_GAB_SCH_TOKENS d) (BitVec.ofNat 32 r.tokens)) (R_GAB_SCH_TIME d) 0)
      (R_GAB_SCH_PLAN_CYC d) (BitVec.ofNat 32 v.plan)
    let s := regSet (regSet s (R_GAB_SCH_WIN_STALL d) 0) (R_GAB_SCH_WIN_RUN_MAX d) 0
    let s := schSet (schSet (schSet (schSet s g F_GAB_SCH_STATUS_WINDOW_OPEN 1) g F_GAB_SCH_STATUS_SECTION r.section_) g
      F_GAB_SCH_STATUS_CLASS cls) g F_GAB_SCH_STATUS_FAULT_PENDING 0
    let s := setFld s (R_SHL_STATUS (shlDie g)) F_SHL_STATUS_WINDOW_OPEN 1
    let ports := streamPorts (v.streams.getD 8 [])
    let notice := ports.any fun p => tabFind s.stops p == some n
    let credits := s.credits.filter fun c => c.dest != g || decide (n ≤ c.runNo)
    let w : Window := { run := r.id, tag := r.tag, batch := r.batch, all := v.streams, streams := v.streams, sends := [],
                        recvs := [], moves := [], fault := none, notice := notice, finalWait := false, stop := none, stallRun := 0, readable := 0 }
    stopsPrune (schedSet { s with credits := credits } g { schedGet s g with win := some w })

/-- The RUN record (16:R387). (Open points: assumption 25, DEDUCED.) -/
def runRecord (s : State) (r : Run) : State :=
  let g := (setBits 16 r.mask).headD 0
  rplWrite s 0x03 (leBytes 2 r.mask ++ [BitVec.ofNat 8 r.section_, BitVec.ofNat 8 r.cls] ++ leBytes 4 r.tokens
    ++ leBytes 2 r.tag ++ List.replicate 6 0#8 ++ leBytes 8 r.batch ++ leBytes 4 (runNo s g))

/-- WINDOW_OPEN: the first run with the mask given that is ready on each of its Gabbros opens its windows together. -/
def windowOpen (s : State) (mask : Nat) : State :=
  match s.runs.find? fun r => r.mask == mask && (setBits 16 mask).all fun g => runReady s r g with
  | none => s
  | some r =>
    let s := (setBits 16 mask).foldl (fun s g => windowOpenOn s r g) s
    runRecord { s with runs := s.runs.map fun (x : Run) => if x.id = r.id then { x with parts := x.parts.map fun p => (p.1, RunPart.opened) } else x } r

/-- The meaning of WINDOW_OPEN. -/
def execWindowOpen (mask : Half) (s : State) : Host.Outcome State Fault Refusal := .next (windowOpen s mask.toNat)

/-- RUN_FRAME_NOT_STARTED: the run at the head of a Gabbro needs a frame that nothing will start. -/
def runNotStarted (s : State) (g : Nat) : State :=
  match runHead s g with
  | none => s
  | some r =>
    if !(stepHolds s r) && (List.range 8).any fun f =>
        runNeeds s r g f && !(frameStartedNow s g f) && !(flag s (R_GAB_FRM_STATUS (gabDie g) f) F_GAB_FRM_STATUS_START_PENDING) then
      runDiscard s r.id 0x0204
    else s

/-- The meaning of RUN_FRAME_NOT_STARTED. -/
def execRunFrameNotStarted (g : Fin 16) (s : State) : Host.Outcome State Fault Refusal := .next (runNotStarted s g)

/-! ### SCH_LOAD, SCH_UNLOAD, SCH_RUN, SCH_ABORT (06:R146-R149). -/

/-- Shares of the images loaded on other Gabbros, on a Flint. -/
def shareSum (s : State) (g m : Nat) : Nat :=
  ((s.scheds.filter fun e => e.1 != g).map fun e => match e.2.image with | some im => im.shares.getD m 0 | none => 0).sum

/-- Set the image of a Gabbro, with LOADED and the hash. (Open points: assumption 37, DEDUCED.) -/
def setImage (s : State) (g : Nat) (im : Option Image) (hash : List Byte) : State :=
  let s := schedSet s g { schedGet s g with image := im }
  let s := schSet s g F_GAB_SCH_STATUS_LOADED (b2n im.isSome)
  (List.range 8).foldl (fun s n => regSet s (R_GAB_SCH_HASH (gabDie g) n) (BitVec.ofNat 32 (fieldLE hash (4 * n) 4))) s

/-- SCH_LOAD. -/
def cmdSchLoad (die : Byte) (addr : DWord) (len : Word) : CmdFn := fun t s =>
  let g := gabOrd die.toNat
  let a := addr.toNat
  let n := len.toNat
  if !(isKind die .gabbro) || n == 0 || decide (268435456 < n) || !(ownRange g a n) || !(decide (regionBelow 0 a = .shale g)) then refuse s 0x0102
  else if !(cmdReach s t a n) then (s, some (.done 0x0105 []))
  else
    match cmdRead s t a n with
    | (s, none) => (s, some (.done 0x0301 []))
    | (s', some bs) =>
      match parseImage s' g a bs with
      | none => refuse s' 0x0209
      | some im =>
        refuseIf ((List.range 12).any fun m => decide (16 < shareSum s' g m + im.shares.getD m 0)) 0x020C s'
        <| refuseIf (winOrPending s' g) 0x020B s'
        <| let h := shake256 bs 32
           okay (setImage s' g (some im) h) (h.take 16)

/-- The meaning of SCH_LOAD. -/
def execSchLoad (src : Src) (die : Byte) (addr : DWord) (len : Word) (s : State) : Host.Outcome State Fault Refusal :=
  .next (runCmd 0x0201 src (parBytes [(0, 1, die.toNat), (8, 8, addr.toNat), (16, 4, len.toNat)]) (cmdSchLoad die addr len) s)

/-- SCH_UNLOAD. (Open points: assumption 37, DEDUCED.) -/
def cmdSchUnload (die : Byte) : CmdFn := fun _ s =>
  let g := gabOrd die.toNat
  refuseIf (!(isKind die .gabbro)) 0x0102 s
  <| refuseIf (winOrPending s g) 0x020B s
  <| if (schedGet s g).image.isSome then okay (setImage s g none []) [] else okay s []

/-- The meaning of SCH_UNLOAD. -/
def execSchUnload (src : Src) (die : Byte) (s : State) : Host.Outcome State Fault Refusal :=
  .next (runCmd 0x0202 src (parBytes [(0, 1, die.toNat)]) (cmdSchUnload die) s)

/-- Runs pending on a Gabbro. -/
def runsPending (s : State) (g : Nat) : Nat := (s.runs.filter fun r => runWaits r g).length

/-- SCH_RUN. -/
def cmdSchRun (mask : Half) (sec : Byte) (tokens : Word) (tag : Half) (batch : DWord) : CmdFn := fun t s =>
  let gs := setBits 16 mask.toNat
  let im (g : Nat) := (schedGet s g).image
  refuseIf (gs.isEmpty || gs.any fun g => match im g with | some i => decide (i.sections ≤ sec.toNat) | none => true) 0x0102 s
  <| refuseIf (gs.any fun g => match im g with | some i => (classOf i tokens.toNat).isNone | none => true) 0x0201 s
  <| refuseIf (gs.any fun g => decide (16 ≤ runsPending s g)) 0x0103 s
  <| let r : Run := { id := t.id, src := t.src, pkt := t.pkt, mask := mask.toNat, section_ := sec.toNat, tokens := tokens.toNat,
                      tag := tag.toNat, batch := batch.toNat, cls := runClass s mask.toNat tokens.toNat, parts := gs.map fun g => (g, .waiting) }
     (defer { s with runs := s.runs ++ [r] } t (.run t.id), none)

/-- The meaning of SCH_RUN. -/
def execSchRun (src : Src) (mask : Half) (sec : Byte) (tokens : Word) (tag : Half) (batch : DWord) (s : State) :
    Host.Outcome State Fault Refusal :=
  .next (runCmd 0x0203 src (parBytes [(0, 2, mask.toNat), (2, 1, sec.toNat), (4, 4, tokens.toNat), (8, 2, tag.toNat),
    (16, 8, batch.toNat)]) (cmdSchRun mask sec tokens tag batch) s)

/-- SCH_ABORT. (Open points: assumption 36, DEDUCED.) -/
def cmdSchAbort (mask : Half) : CmdFn := fun _ s =>
  let gs := setBits 16 mask.toNat
  refuseIf gs.isEmpty 0x0102 s
  <| let ids := (s.runs.filter fun r => gs.any fun g => runWaits r g).map Run.id
     let s := gs.foldl (fun s g => abortWindow s g 0x020D) { s with stepFailed := true }
     okay (ids.foldl (fun s i => runDiscard s i 0x020D) s) []

/-- The meaning of SCH_ABORT. -/
def execSchAbort (src : Src) (mask : Half) (s : State) : Host.Outcome State Fault Refusal :=
  .next (runCmd 0x0205 src (parBytes [(0, 2, mask.toNat)]) (cmdSchAbort mask) s)

end Sys2Proof.Machine
end

