-- ==== Sys2Proof/Machine/Transfers.lean ====
section
/-! DEFINITION. SEND, RECV and MOVE (06:R133-R136, R145; 07:R159-R166; 14:R330): credit, data, deadlines. A transfer is
read in one step once its credit has come, and written in one step when its data arrive; what the route adds in time is not
enforced (assumption 7). -/
namespace Sys2Proof.Machine

/-- The window's store of bytes outside its frames (06:R126; 09:R202): wells, busy tiles and the replay region discard, and
copies that the home's directory lists are invalidated. -/
def moverWrite (s : State) (g a : Nat) (bs : List Byte) : State :=
  if !(homeUp s (gabDie g) a) then loseRange (winFault s g 0x0105) a (a + bs.length)
  else
    let r := extWrite (watchNote s a bs.length) (winAgent g) 0x01 a bs
    let s := if r.2 then r.1 else winFault r.1 g 0x0301
    let shared := match regionBelow 0 a with
      | .shale o => rgnType s o (a - shaleBase o) != 2 && rgnType s o (a - shaleBase o) != 3
      | .lpddr _ => true
      | _ => false
    if shared then dropCopies s (fun x => decide (lineOf a * 128 ≤ x) && decide (x < a + bs.length)) false else s

/-- Whether the homes of a range are within reach of a Gabbro. -/
def rangeUp (s : State) (g a n : Nat) : Bool :=
  (List.range (n / 4096 + 2)).all fun i => homeUp s (gabDie g) (if 4096 * i < n then a + 4096 * i else a + n - 1)

/-! ### Parts of a window. -/

/-- The SEND of an open window with an identifier. -/
def sendFind (s : State) (g id : Nat) : Option SendRec :=
  (winGet s g).bind fun w => w.sends.find? fun (x : SendRec) => x.desc.xferId == id
/-- Change it. -/
def sendMod (s : State) (g id : Nat) (f : SendRec → SendRec) : State :=
  winMod s g fun w => { w with sends := w.sends.map fun (x : SendRec) => if x.desc.xferId = id then f x else x }
/-- The RECV of an open window with an identifier. -/
def recvFind (s : State) (g id : Nat) : Option RecvRec :=
  (winGet s g).bind fun w => w.recvs.find? fun (x : RecvRec) => x.desc.xferId == id
/-- Change it. -/
def recvMod (s : State) (g id : Nat) (f : RecvRec → RecvRec) : State :=
  winMod s g fun w => { w with recvs := w.recvs.map fun (x : RecvRec) => if x.desc.xferId = id then f x else x }

/-- A RECV is given up: a fault is pending, its destination is undefined, and it holds nothing. -/
def recvFail (s : State) (g status : Nat) (r : RecvDesc) : State :=
  recvMod (loseRange (winFault s g status) r.dstAddr (r.dstAddr + r.bytes)) g r.xferId fun x => { x with complete := true }

/-! ### SEND (06:R134, R145; 07:R162-R164; 12:R286). -/

/-- What leads every frame of transfer data: XFER_ID and run number (06:R135). (Open points: assumption 39, DEDUCED.) -/
def xferHead (id n : Nat) : WireBlock := plainBlock (leBytes 2 id ++ leBytes 4 n)

/-- Send transfer data on a cable, coded or not. -/
def xferFrames (s : State) (d : SendDesc) (n : Nat) (bs : List Byte) : State :=
  let head := xferHead d.xferId n
  if d.mica then
    let r := micaBlocks s d.port d.micaFmt (if micaUsable s d.port d.epoch then some d.epoch else none)
      (!(micaUsable s d.port d.epoch)) bs
    (chunks (2080 / (micaRaw d.micaFmt + 4)) (r.2.length + 1) r.2).foldl (fun s c => sendBlocks s d.port frData (head :: c)) r.1
  else
    (chunks 2048 (bs.length + 1) bs).foldl (fun s c => sendBlocks s d.port frData [head, plainBlock c]) s

/-- The data of a SEND leave: its source is read. (Open points: assumption 7, DESIGN CHOICE; assumption 39, DEDUCED.) -/
def sendGo (s : State) (g : Nat) (x : SendRec) : State :=
  let d := x.desc
  let n := runNo s g
  let s := { s with credits := s.credits.filter fun c => !(c.dest == g && c.xferId == d.xferId && c.runNo == n) }
  let r := winRead s g d.srcAddr d.bytes
  let s := sendMod r.1 g d.xferId fun y => { y with credit := true, read := true, holding := false }
  if d.dest = 255 then xferFrames s d n r.2
  else { s with xfers := s.xfers ++ [⟨gabDie g, 255, gabOrd d.dest, d.xferId, n, r.2⟩] }

/-- A SEND whose credit has come may send from this cycle on. The credit names the BYTES of its RECV: where they differ, both
windows have a fault, the receiver's at once inside the package and by its data over a cable (06:R135). (Open points: assumption 39, DEDUCED.) -/
def sendTry (s : State) (g id : Nat) : State :=
  match sendFind s g id with
  | some x =>
    match s.credits.find? fun c =>
      c.arrived && c.dest == g && c.xferId == id && c.runNo == runNo s g && c.cable == (x.desc.dest == 255) with
    | some c =>
      if x.read || x.ready.isSome then s
      else
        let s := sendMod s g id fun y => { y with credit := true, ready := some s.cyc }
        if c.bytes = x.desc.bytes then s
        else
          let s := winFault s g 0x020F
          let o := gabOrd x.desc.dest
          if !c.cable && winOpen s o && runNo s o == c.runNo then winFault s o 0x020F else s
    | none => s
  | none => s

/-- The SENDs of all open windows whose data may leave, in the order in which they are served: T_send, then the source's
Gabbro ordinal, then XFER_ID (07:R163). (Open points: assumption 39, DEDUCED.) -/
def sendsReady (s : State) : List (Nat × Nat × Nat) :=
  let all := (List.range 16).flatMap fun g => match winGet s g with
    | some w => w.sends.filterMap fun x => if x.read then none else x.ready.map fun t => (t, g, x.desc.xferId)
    | none => []
  all.foldl (fun l e => (l.takeWhile fun d => before d e) ++ e :: l.dropWhile fun d => before d e) []
where
  /-- Served no later. -/
  before (a b : Nat × Nat × Nat) : Bool :=
    decide (a.1 < b.1) || (a.1 == b.1 && (decide (a.2.1 < b.2.1) || (a.2.1 == b.2.1 && decide (a.2.2 ≤ b.2.2))))

/-- The data of every SEND that may send leave. (Open points: assumption 7, DESIGN CHOICE; assumption 39, DEDUCED.) -/
def sendsGo (s : State) : State :=
  (sendsReady s).foldl (fun s e => match sendFind s e.2.1 e.2.2 with
    | some x => if x.read then s else sendGo s e.2.1 x
    | none => s) s

/-- Where a SEND's data go: the Gabbro, or the Feldspar of the port. -/
def sendEnd (d : SendDesc) : Nat := if d.dest = 255 then portDie d.port else d.dest

/-- SEND_DESCRIPTOR. -/
def sendDescriptor (s : State) (g : Nat) : State :=
  match streamHead s g 8 with
  | some ⟨_, at_, .send d⟩ =>
    let s := streamPop s g 8
    let status := if d.dest = 255 && !(portYoger s d.port) then some 0x0210
      else if xferPathUp s d.xferId (gabDie g) (sendEnd d) && rangeUp s g d.srcAddr d.bytes then none else some 0x0105
    let s := winMod s g fun w => { w with sends := w.sends ++ [⟨d, at_, false, none, status.isSome, false⟩] }
    match status with
    | some st => winFault s g st
    | none => sendTry s g d.xferId
  | _ => s

/-- The meaning of SEND_DESCRIPTOR. -/
def execSendDescriptor (g : Fin 16) (s : State) : Host.Outcome State Fault Refusal := .next (sendDescriptor s g)

/-- CREDIT_ARRIVAL: in the package the credit that a RECV granted arrives; over a cable it comes from outside. (Open points: assumption 39, DEDUCED.) -/
def creditArrival (s : State) (g id n : Nat) (cable : Option Nat) : State :=
  match cable with
  | some b => sendTry { s with credits := s.credits ++ [⟨g, id, n, b, true, true⟩] } g id
  | none =>
    sendTry { s with credits := s.credits.map fun (c : Credit) =>
      if c.dest = g ∧ c.xferId = id ∧ c.runNo = n ∧ c.cable = false then { c with arrived := true } else c } g id

/-- The meaning of CREDIT_ARRIVAL. -/
def execCreditArrival (g : Fin 16) (xferId : Half) (runNo : Word) (cable : Option Word) (ups : List Before) (s : State) :
    Host.Outcome State Fault Refusal :=
  .next (creditArrival (upsets s ups) g xferId.toNat runNo.toNat (cable.map BitVec.toNat))

/-! ### RECV. -/

/-- RECV_DESCRIPTOR: the slack window opens and credit goes to the sender. -/
def recvDescriptor (s : State) (g : Nat) : State :=
  match streamHead s g 8 with
  | some ⟨_, at_, .recv d⟩ =>
    let s := winMod (streamPop s g 8) g fun w => { w with recvs := w.recvs ++ [⟨d, at_, false, false, none, 0⟩] }
    let from_ := if d.source = 255 then portDie d.port else d.source
    if d.source = 255 && !(portYoger s d.port) then recvFail s g 0x0210 d
    else if !(xferPathUp s d.xferId from_ (gabDie g) && rangeUp s g d.dstAddr d.bytes) then recvFail s g 0x0105 d
    else if d.source = 255 then sendFrame s d.port frCredit (leBytes 2 d.xferId ++ leBytes 4 (runNo s g) ++ leBytes 4 d.bytes)
    else { s with credits := s.credits ++ [⟨gabOrd d.source, d.xferId, runNo s g, d.bytes, false, false⟩] }
  | _ => s

/-- The meaning of RECV_DESCRIPTOR. -/
def execRecvDescriptor (g : Fin 16) (s : State) : Host.Outcome State Fault Refusal := .next (recvDescriptor s g)

/-- Whether a RECV waits for the data of a source and identifier. -/
def recvMatches (r : RecvRec) (source port id : Nat) : Bool :=
  r.desc.source == source && r.desc.xferId == id && !r.complete && (source != 255 || r.desc.port == port)

/-- Data reach the RECV they match: written whole, or refused because the two ends differ in BYTES (06:R135). (Open points: assumption 39, DEDUCED.) -/
def recvTake (s : State) (g id source n : Nat) (bs : List Byte) (d : RecvDesc) : State :=
  if bs.length = d.bytes then
    recvMod (moverWrite s g d.dstAddr bs) g id fun x => { x with complete := true, holding := false }
  else
    let s := recvFail s g 0x020F d
    if source = 255 then s
    else if winOpen s (gabOrd source) && runNo s (gabOrd source) == n then winFault s (gabOrd source) 0x020F else s

/-- Data from a Gabbro of the package arrive. -/
def dataInside (s : State) (g source id n : Nat) : State :=
  match s.xfers.find? fun x => x.source == source && x.dest == g && x.xferId == id && x.runNo == n with
  | none => s
  | some x =>
    let s := { s with xfers := s.xfers.erase x }
    match (recvFind s g id).filter fun r => recvMatches r source 255 id && winOpen s g && runNo s g == n with
    | some r => recvTake s g id source n x.data r.desc
    | none => regInc s (R_GAB_SCH_STALE_XFER (gabDie g)) 1

/-- Data from a cable arrive: they name only their port. -/
def dataCable (s : State) (port id n : Nat) (bs : List Byte) : State :=
  if !(portYoger s port) then s
  else
    match (List.range 16).find? fun g => runNo s g == n &&
        match recvFind s g id with | some r => recvMatches r 255 port id | none => false with
    | some g => match recvFind s g id with | some r => recvTake s g id 255 n bs r.desc | none => s
    | none => regInc s (R_FLD_PORT_STALE_XFER (portDie port) (portLoc port)) 1

/-- The meaning of TRANSFER_DATA_ARRIVAL: `source` is a Gabbro's identity byte, or 0xFF for a cable. -/
def execTransferDataArrival (g : Fin 16) (source : Byte) (port : Fin 48) (xferId : Half) (runNo : Word) (data : List Byte)
    (s : State) : Host.Outcome State Fault Refusal :=
  .next (if source.toNat = 255 then dataCable s port xferId.toNat runNo.toNat data
    else dataInside s g source.toNat xferId.toNat runNo.toNat)

/-! ### MOVE. -/

/-- MOVE_DESCRIPTOR. -/
def moveDescriptor (s : State) (g : Nat) : State :=
  match streamHead s g 8 with
  | some ⟨_, at_, .move d⟩ =>
    let up := rangeUp s g d.srcAddr d.bytes && rangeUp s g d.dstAddr d.bytes
    let s := winMod (streamPop s g 8) g fun w => { w with moves := w.moves ++ [⟨d, at_, !up, false⟩] }
    if up then s else loseRange (winFault s g 0x0105) d.dstAddr (d.dstAddr + d.bytes)
  | _ => s

/-- The meaning of MOVE_DESCRIPTOR. -/
def execMoveDescriptor (g : Fin 16) (s : State) : Host.Outcome State Fault Refusal := .next (moveDescriptor s g)

/-- MOVE_COMPLETE: the first unfinished MOVE to a destination is done. (Open points: assumption 7, DESIGN CHOICE.) -/
def moveComplete (s : State) (g dst : Nat) : State :=
  match winGet s g with
  | none => s
  | some w =>
    match w.moves.findIdx? fun m => !m.complete && m.desc.dstAddr == dst with
    | none => s
    | some i =>
      match w.moves[i]? with
      | none => s
      | some m =>
        let r := winRead s g m.desc.srcAddr m.desc.bytes
        let s := moverWrite r.1 g dst r.2
        winMod s g fun w => { w with moves := w.moves.set i { m with complete := true, holding := false } }

/-- The meaning of MOVE_COMPLETE. -/
def execMoveComplete (g : Fin 16) (addr : Nat) (ups : List Before) (s : State) : Host.Outcome State Fault Refusal :=
  .next (moveComplete (upsets s ups) g addr)

/-! ### Deadlines (06:R134): the group holds, cycle by cycle, while the transfer is late. -/

/-- RECV_DEADLINE. -/
def recvDeadline (s : State) (g id source : Nat) : State :=
  recvMod s g id fun r =>
    if r.desc.source = source ∧ ¬ r.complete ∧ r.time + r.desc.slack ≤ schTime s g then { r with holding := true } else r
/-- The meaning of RECV_DEADLINE. -/
def execRecvDeadline (g : Fin 16) (xferId : Half) (source : Byte) (s : State) : Host.Outcome State Fault Refusal :=
  .next (recvDeadline s g xferId.toNat source.toNat)
/-- SEND_HOLD_DEADLINE. -/
def sendDeadline (s : State) (g id : Nat) : State :=
  sendMod s g id fun x => if ¬ x.read ∧ x.time + x.desc.hold ≤ schTime s g then { x with holding := true } else x
/-- The meaning of SEND_HOLD_DEADLINE. -/
def execSendHoldDeadline (g : Fin 16) (xferId : Half) (s : State) : Host.Outcome State Fault Refusal :=
  .next (sendDeadline s g xferId.toNat)
/-- MOVE_DEADLINE. -/
def moveDeadline (s : State) (g dst : Nat) : State :=
  winMod s g fun w => { w with moves := w.moves.map fun (m : MoveRec) =>
    if m.desc.dstAddr = dst ∧ ¬ m.complete ∧ m.time + m.desc.doneIn ≤ schTime s g then { m with holding := true } else m }
/-- The meaning of MOVE_DEADLINE. -/
def execMoveDeadline (g : Fin 16) (addr : Nat) (s : State) : Host.Outcome State Fault Refusal :=
  .next (moveDeadline s g addr)

/-! ### Ports and dies that fail a transfer (07:R166; 14:R330). -/

/-- Fail the transfers of an open window that meet a test, with a status. (Open points: assumption 39, DEDUCED.) -/
def xferFail (s : State) (g status : Nat) (send : SendRec → Bool) (recv : RecvDesc → Bool) (move : MoveDesc → Bool) : State :=
  match winGet s g with
  | none => s
  | some w =>
    let s := if w.sends.any send then
        winMod (winFault s g status) g fun w => { w with sends := w.sends.map fun (x : SendRec) => if send x then { x with read := true } else x }
      else s
    let s := (w.recvs.filter fun r => !r.complete && recv r.desc).foldl (fun s r => recvFail s g status r.desc) s
    (indexed w.moves).foldl (fun s e =>
      if !e.2.complete && move e.2.desc then
        winMod (loseRange (winFault s g status) e.2.desc.dstAddr (e.2.desc.dstAddr + e.2.desc.bytes)) g fun w =>
          { w with moves := w.moves.set e.1 { e.2 with complete := true } }
      else s) s

/-- Whether a port still holds frames of a transfer that its peer has not acknowledged. -/
def xferHeld (s : State) (p id n : Nat) : Bool :=
  (portGet s p).held.any fun f => f.kind == frData && f.blocks.head? == some (xferHead id n)

/-- Transfers on a port that leaves Yoger mode fail. -/
def xferPortDown (s : State) (p : Nat) : State :=
  (List.range 16).foldl (fun s g =>
    xferFail s g 0x0210
      (fun x => x.desc.dest == 255 && x.desc.port == p && (!x.read || xferHeld s p x.desc.xferId (runNo s g)))
      (fun r => r.source == 255 && r.port == p) (fun _ => false)) s

/-- Holds that wait on data over a fenced seam are released (14:R330). -/
def xferFenced (s : State) : State :=
  (List.range 16).foldl (fun s g =>
    xferFail s g 0x0105
      (fun x => !x.read && !(xferPathUp s x.desc.xferId (gabDie g) (sendEnd x.desc) && rangeUp s g x.desc.srcAddr x.desc.bytes))
      (fun r => !(xferPathUp s r.xferId (if r.source = 255 then portDie r.port else r.source) (gabDie g) && rangeUp s g r.dstAddr r.bytes))
      (fun m => !(rangeUp s g m.srcAddr m.bytes && rangeUp s g m.dstAddr m.bytes))) s

end Sys2Proof.Machine
end

