-- ==== Sys2Proof/Machine/Links.lean ====
section
/-! DEFINITION. Cable ports (13:R296-R304, R311, R313; 18:R426): training, identity, frames and retries, lane retirement,
going down, and the LINK commands. An Ethernet port's PHY stands in state DETECT until it is up. -/
namespace Sys2Proof.Machine

/-- Configured MODE of a port. -/
def portCfgMode (s : State) (p : Nat) : Nat := fld s (R_FLD_PORT_CFG (portDie p) (portLoc p)) F_FLD_PORT_CFG_MODE
/-- Set a field of FLD_PORT_STATUS. -/
def ptSet (s : State) (p : Nat) (f : Fld) (v : Nat) : State := setFld s (R_FLD_PORT_STATUS (portDie p) (portLoc p)) f v
/-- Set a field of FLD_PORT_LANES. -/
def laneSet (s : State) (p : Nat) (f : Fld) (v : Nat) : State := setFld s (R_FLD_PORT_LANES (portDie p) (portLoc p)) f v
/-- Raise a flag of FLD_PORT_ERR. -/
def ptErr (s : State) (p : Nat) (f : Fld) : State := raise s (R_FLD_PORT_ERR (portDie p) (portLoc p)) f
/-- A record of a port (19:R441). -/
def ptRecord (s : State) (p status : Nat) : State := strataEvent s (portDie p) (0x70 + portLoc p) status p 0
/-- Set bits of an 8-bit mask. -/
def laneCount (m : Nat) : Nat := (setBits 8 m).length

/-! ### Replies of LINK_CFG and LINK_TRAIN (13:R311). -/

/-- STATE and LAST_STATUS give the reply of one port. -/
def linkStatusOf (s : State) (ports : List Nat) : Nat :=
  if ports.any fun p => portState s p == 6 then 0x0B04
  else if ports.any fun p => portState s p == 5 then 0x0B03
  else if ports.any fun p => portYoger s p && decide (fld s (R_FLD_PORT_STATUS (portDie p) (portLoc p)) F_FLD_PORT_STATUS_WIDTH < 8) then 0x0B01
  else 0

/-- Write the reply of a command that named ports. -/
def linkReply (s : State) (t : Taken) (ports : List Nat) : State :=
  finish s t (.done (linkStatusOf s ports) (leBytes 6 (ofBits (ports.filter (portUp s)))))

/-- Whether a port has ended its training. -/
def portSettled (s : State) (p : Nat) : Bool := portState s p == 4 || portState s p == 5 || portState s p == 6

/-- Write every reply whose ports have all ended their training. -/
def linkSettle (s : State) : State :=
  s.cmds.taken.foldl (fun s t =>
    match t.wait with
    | .linkTrain ps => if ps.all (portSettled s) then linkReply s t ps else s
    | _ => s) s

/-- LINK_TRAIN_REPLY_TIMEOUT: 200 ms have passed. -/
def linkTimeout (s : State) (id : Nat) : State :=
  match s.cmds.taken.find? (·.id == id) with
  | some t => (match t.wait with | .linkTrain ps => linkReply s t ps | _ => s)
  | none => s

/-- The meaning of LINK_TRAIN_REPLY_TIMEOUT. -/
def execLinkTrainReplyTimeout (id : Nat) (s : State) : Host.Outcome State Fault Refusal := .next (linkTimeout s id)

/-! ### Going down (13:R304). -/

/-- A port that is UP leaves its mode: its frames are discarded, a retirement under way counts as acknowledged on it
(12:R290), and transfers, rings and pod reports on it fail. A cause that is no command has a flag beside DOWN. (Open points:
assumption 56, DEDUCED; assumption 55, DEDUCED.) -/
def portDown (s : State) (p : Nat) (cause : Option Fld) : State :=
  if !(portUp s p) then s
  else
    let yoger := portYoger s p
    let s := if yoger then xferPortDown s p else s
    let s := laneSet (ptSet (ptSet s p F_FLD_PORT_STATUS_STATE 7) p F_FLD_PORT_STATUS_ACT_MODE 0) p F_FLD_PORT_LANES_IN_USE 0
    let s := ptErr s p F_FLD_PORT_ERR_DOWN
    if yoger then
      let s := match cause with | some f => ptErr s p f | none => s
      let x := portGet s p
      let s := ((List.range 4).filter fun e => micaState s e == 2).foldl (fun s e => micaAcked s p e) s
      let s := portSet (ptRecord s p 0) p { x with held := [], retries := [], ads := [], owed := [], idents := [] }
      ringPump (podLost (ringPortDown { s with asleep := s.asleep.filter (· ≠ p) } p))
    else s

/-! ### Training (13:R299-R302). -/

/-- Whether a port's connector has a cable whose power is off: an active cable then carries no signal (21:R480). (Open points: assumption 56, DEDUCED.) -/
def cableDead (s : State) (p : Nat) : Bool :=
  let c := fld s R_SCH_CONN_STATUS
  bitOf (c F_SCH_CONN_STATUS_HS_PRESENT) (p / 12) && !(bitOf (c F_SCH_CONN_STATUS_CBL_PWR_ON) (p / 12))

/-- A training ends FAILED; with the power of its cable off it has a record of its own (21:R480). (Open points: assumption 56, DEDUCED.) -/
def trainFail (s : State) (p : Nat) : State :=
  let s := ptSet (ptSet s p F_FLD_PORT_STATUS_STATE 6) p F_FLD_PORT_STATUS_LAST_STATUS 0x0B04
  let s := ptErr s p F_FLD_PORT_ERR_TRAIN_FAILED
  linkSettle (if cableDead s p then ptRecord s p 0x0B04 else s)

/-- A port starts training in its configured mode. -/
def trainStart (s : State) (p : Nat) : State :=
  if portCfgMode s p = 0 then s
  else
    let s := portDown s p none
    let d := portDie p
    let i := portLoc p
    let s := regSet (regInc s (R_FLD_PORT_TRAINS d i) 1) (R_FLD_PORT_LANES d i) 0
    let s := ptSet (ptSet (ptSet s p F_FLD_PORT_STATUS_STATE 1) p F_FLD_PORT_STATUS_WIDTH 0) p F_FLD_PORT_STATUS_REVERSED 0
    portSet s p { portGet s p with lanes := 0, idents := [] }

/-- Whether a port trains in a Yoger mode. -/
def yogerCfg (s : State) (p : Nat) : Bool := portCfgMode s p == 1 || portCfgMode s p == 2

/-- Lanes left after a stage: the rest are retired, and fewer than six fail the training. -/
def trainStage (s : State) (p left next : Nat) : State :=
  let s := portSet (laneSet s p F_FLD_PORT_LANES_RETIRED (255 - left)) p { portGet s p with lanes := left }
  if laneCount left < 6 then trainFail s p else ptSet s p F_FLD_PORT_STATUS_STATE next

/-- DETECT ends: lanes found shorted, open, and without signal. -/
def detectDone (s : State) (p shorted opened silent : Nat) : State :=
  if portState s p = 1 && yogerCfg s p then
    let x := portGet s p
    let s := portSet (laneSet s p F_FLD_PORT_LANES_SHORTED shorted) p { x with dark := x.dark || silent == 255 }
    trainStage s p (255 - (shorted ||| opened ||| silent)) 2
  else s

/-- The meaning of TRAIN_DETECT_DONE. -/
def execTrainDetectDone (port : Fin 48) (shorted open_ silent : Byte) (s : State) : Host.Outcome State Fault Refusal :=
  .next (detectDone s port shorted.toNat open_.toNat silent.toNat)

/-- An identity frame of this port on a lane (13:R301). -/
def identBytes (s : State) (p lane : Nat) : List Byte :=
  let b := leBytes 8 (moduleId s) ++ [BitVec.ofNat 8 p, BitVec.ofNat 8 lane, BitVec.ofNat 8 (portCfgMode s p), 1#8]
    ++ leBytes 2 (fld s (R_FLD_PORT_CFG (portDie p) (portLoc p)) F_FLD_PORT_CFG_NET_TAG) ++ List.replicate 14 0#8
  b ++ leBytes 4 (crc32c b).toNat

/-- ALIGN ends: lanes locked, and those corrected for polarity. -/
def alignDone (s : State) (p locked inverted : Nat) : State :=
  if portState s p = 2 && yogerCfg s p then
    let left := (portGet s p).lanes &&& locked
    let s := trainStage (laneSet s p F_FLD_PORT_LANES_INVERTED (inverted &&& left)) p left 3
    if portState s p = 3 then (setBits 8 left).foldl (fun s k => emit s (.frame p frIdentity 0 (identBytes s p k))) s else s
  else s

/-- The meaning of TRAIN_ALIGN_DONE. -/
def execTrainAlignDone (port : Fin 48) (locked inverted : Byte) (s : State) : Host.Outcome State Fault Refusal :=
  .next (alignDone s port locked.toNat inverted.toNat)

/-- An identity frame arrives: a good one is kept for its lane. -/
def identFrame (s : State) (p lane : Nat) (bytes : List Byte) : State :=
  let x := portGet s p
  if portState s p = 3 && yogerCfg s p && bitOf x.lanes lane && bytes.length == 32 && fieldLE bytes 11 1 == 1 &&
      fieldLE bytes 28 4 == (crc32c (bytes.take 28)).toNat then
    portSet s p { x with idents := tabPut x.idents lane bytes }
  else s

/-- The meaning of IDENTITY_FRAME. -/
def execIdentityFrame (port : Fin 48) (lane : Fin 8) (bytes : List Byte) (s : State) : Host.Outcome State Fault Refusal :=
  .next (identFrame s port lane bytes)

/-- Whether every lane carries the peer lane of its own number. -/
def identStraight (ids : Tab (List Byte)) : Bool := ids.all fun e => fieldLE e.2 9 1 == e.1
/-- Whether every lane k carries peer lane 7 - k. -/
def identReversed (ids : Tab (List Byte)) : Bool := ids.all fun e => fieldLE e.2 9 1 == 7 - e.1

/-- Whether the identity frames of a port refuse its peer (13:R302). (Open points: assumption 56, DEDUCED.) -/
def identRefused (s : State) (p : Nat) (ids : Tab (List Byte)) (f : List Byte) : Bool :=
  let d := portDie p
  let i := portLoc p
  let cfg := R_FLD_PORT_CFG d i
  (ids.any fun e => e.2.take 9 != f.take 9) || !(identStraight ids || identReversed ids) ||
    fieldLE f 12 2 != fld s cfg F_FLD_PORT_CFG_NET_TAG ||
    (fieldLE f 0 8 == moduleId s && !(flag s cfg F_FLD_PORT_CFG_LOOPBACK_OK)) ||
    (flag s cfg F_FLD_PORT_CFG_EXPECT_EN &&
      (fieldLE f 0 8 != (ctrGet s (R_FLD_PORT_EXPECT_ID d i)).toNat || fieldLE f 8 1 != (regGet s (R_FLD_PORT_EXPECT_PORT d i)).toNat))

/-- A port comes up on lanes. -/
def trainUp (s : State) (p lanes : Nat) (rev : Bool) : State :=
  let n := laneCount lanes
  let s := ptSet (ptSet (ptSet s p F_FLD_PORT_STATUS_STATE 4) p F_FLD_PORT_STATUS_ACT_MODE (portCfgMode s p)) p F_FLD_PORT_STATUS_WIDTH n
  let s := ptSet (ptSet s p F_FLD_PORT_STATUS_REVERSED (b2n rev)) p F_FLD_PORT_STATUS_LAST_STATUS (if n < 8 then 0x0B01 else 0)
  let s := laneSet (laneSet s p F_FLD_PORT_LANES_IN_USE lanes) p F_FLD_PORT_LANES_RETIRED (255 - lanes)
  let x := portGet s p
  linkSettle (micaAdvertise (portSet s p { x with txSeq := 0, rxSeq := 0, held := [], retries := [], ads := [], owed := [], dark := false, blocks := [] }) p)

/-- IDENTIFY ends: UP or REFUSED by the identity frames held. -/
def identifyDone (s : State) (p : Nat) : State :=
  let x := portGet s p
  match x.idents with
  | [] => s
  | (_, f) :: _ =>
    if !(portState s p == 3 && yogerCfg s p) then s
    else
      let d := portDie p
      let i := portLoc p
      let ref := identRefused s p x.idents f
      if !ref && decide (x.idents.length < 6) then s
      else
        let s := ctrSet s (R_FLD_PORT_PEER_ID d i) (BitVec.ofNat 64 (fieldLE f 0 8))
        let s := regSet s (R_FLD_PORT_PEER_INFO d i) (fldSet (fldSet (fldSet 0 F_FLD_PORT_PEER_INFO_PEER_PORT (fieldLE f 8 1))
          F_FLD_PORT_PEER_INFO_PEER_MODE (fieldLE f 10 1)) F_FLD_PORT_PEER_INFO_PEER_TAG (fieldLE f 12 2))
        if ref then
          let s := ptSet (ptSet s p F_FLD_PORT_STATUS_STATE 5) p F_FLD_PORT_STATUS_LAST_STATUS 0x0B03
          linkSettle (ptRecord (ptErr s p F_FLD_PORT_ERR_PEER_REFUSED) p 0x0B03)
        else trainUp s p (ofBits (x.idents.map Prod.fst)) (identReversed x.idents)

/-- The meaning of TRAIN_IDENTIFY_DONE. -/
def execTrainIdentifyDone (port : Fin 48) (s : State) : Host.Outcome State Fault Refusal := .next (identifyDone s port)

/-- A training state passes its time limit. -/
def trainTimeout (s : State) (p : Nat) : State :=
  if decide (1 ≤ portState s p) && decide (portState s p ≤ 3) && yogerCfg s p then trainFail s p else s

/-- The meaning of TRAIN_TIMEOUT. -/
def execTrainTimeout (port : Fin 48) (s : State) : Host.Outcome State Fault Refusal := .next (trainTimeout s port)

/-! ### Frames (13:R303, R304). -/

/-- Release the frames of the retry buffer that an ACK covers. -/
def portAck (s : State) (p ack : Nat) : State :=
  let x := portGet s p
  micaAcknowledge (portSet s p { x with held := x.held.filter fun f => decide (32768 ≤ (ack + 65536 - f.seq) % 65536) }) p

/-- LINK_FRAME_RECEIVE: a frame of a Yoger port, with its SEQ and ACK and the symbols that FEC corrected in it. (Open points: assumption 57, DEDUCED.) -/
def frameReceive (s : State) (p : Nat) (crcOk : Bool) (seq ack fec : Nat) : State :=
  if !(portYoger s p) then s
  else
    let d := portDie p
    let i := portLoc p
    let s := count s (R_FLD_PORT_FEC_CORR d i) fec
    let x := portGet s p
    if !crcOk then frameOut s p frNak x.rxSeq []
    else
      let s := count s (R_FLD_PORT_FRAMES d i) 1
      let s := if seq = x.rxSeq then
          portSet s p { x with rxSeq := (x.rxSeq + 1) % 65536, blocks := tabDelIf x.blocks fun q => decide (4096 ≤ (seq + 65536 - q) % 65536) }
        else s
      portAck s p ack

/-- The meaning of LINK_FRAME_RECEIVE. -/
def execLinkFrameReceive (port : Fin 48) (crcOk : Bool) (seq ack fec : Half) (s : State) : Host.Outcome State Fault Refusal :=
  .next (frameReceive s port crcOk seq.toNat ack.toNat fec.toNat)

/-- Send frames of the retry buffer again; more than 4,096 within 1 ms take the port down. (Open points: assumption 57, DEDUCED.) -/
def portResend (s : State) (p : Nat) (fs : List HeldFrame) : State :=
  let s := count s (R_FLD_PORT_RETRY (portDie p) (portLoc p)) fs.length
  let x := portGet s p
  let recent := (s.cyc, fs.length) :: x.retries.filter fun r => decide (s.cyc < r.1 + 1050000)
  let s := portSet s p { x with retries := recent }
  if 4096 < (recent.map Prod.snd).sum then portDown s p (some F_FLD_PORT_ERR_RETRY_LIMIT)
  else fs.foldl (fun s f => frameOut s p f.kind f.seq (frameBytes f)) s

/-- A Mica block that its receiver could not decode goes again in its raw form (12:R283, R295). (Open points: assumption 57, DEDUCED.) -/
def rawAgain (s : State) (p : Nat) (b : WireBlock) : State × WireBlock :=
  if b.mica then
    let d := portDie p
    (count (count (count s (R_FLD_MICA_IN_BYTES d) (b.raw.length - 4)) (R_FLD_MICA_WIRE_BYTES d) b.raw.length) (R_FLD_MICA_RAW d) 1,
      ⟨b.raw, b.raw, none, true⟩)
  else (s, b)

/-- LINK_NAK: the frame of a SEQ and every later one go again; `block` is the block that the peer's decoder refused. (Open points: assumption 57, DEDUCED.) -/
def linkNak (s : State) (p seq : Nat) (block : Option Nat) : State :=
  let x := portGet s p
  if !(portYoger s p) then s
  else match x.held.findIdx? (·.seq == seq) with
  | none => s
  | some i =>
    match x.held[i]? with
    | none => s
    | some f =>
      let r := match block with
        | some b => (match f.blocks[b]? with
          | some w => let r := rawAgain s p w; (r.1, { f with blocks := f.blocks.set b r.2 })
          | none => (s, f))
        | none => (s, f)
      let g : HeldFrame := { r.2 with naks := f.naks + 1 }
      let held := x.held.set i g
      let s := portSet r.1 p { x with held := held }
      if 9 ≤ g.naks then portDown s p (some F_FLD_PORT_ERR_RETRY_LIMIT) else micaAcknowledge (portResend s p (held.drop i)) p

/-- The meaning of LINK_NAK. -/
def execLinkNak (port : Fin 48) (seq : Half) (block : Option Nat) (s : State) : Host.Outcome State Fault Refusal :=
  .next (linkNak s port seq.toNat block)

/-- The payload that a received Mica block belongs to, if its receiver waits for it: the Gabbro of a transfer's RECV, the
format (none before a transfer's first block has told it), and the bytes still to come (12:R283). A transfer is known by its
XFER_ID and run number, a ring payload by its slot and the place of the block in it. (Open points: assumption 54, DEDUCED.) -/
def micaDue (s : State) (p : Nat) : MicaPay → Option (Option Nat × Option Nat × Nat)
  | .transfer id n =>
    ((List.range 16).find? fun g => runNo s g == n.toNat && winOpen s g &&
        match recvFind s g id.toNat with | some r => recvMatches r 255 p id.toNat | none => false).bind fun g =>
      (recvFind s g id.toNat).map fun r => (some g, r.fmt, r.desc.bytes - r.got)
  | .ring k i =>
    match (slotGet s k).cfg, (slotGet s k).run with
    | some c, some r =>
      let f := if r.ag then rcAgFmt c.record else 8
      let n := if r.ag then ceilDiv (rcElemBytes c.record + (if rcAgScaled c.record then 8 else 0)) 64 * 64 else 1024
      some (none, some f, n - i.val * micaRaw f)
    | _, _ => none

/-- MICA_BLOCK_DECODE: the next block of the frame with a SEQ, of a payload that the receiver waits for; any other is discarded. One
that an earlier reception of the frame gave already is not counted again. (Open points: assumption 54, DEDUCED.) -/
def micaBlockDecode (s : State) (p seq : Nat) (pay : MicaPay) (block : List Byte) : State :=
  match if portYoger s p then micaDue s p pay else none with
  | none => s
  | some (g, fmt, left) =>
    let f := fmt.getD (bitsOf (fieldLE block 0 4) 12 4)
    let given := micaGiven s p seq
    match micaDecode s f (given.getD left) block with
    | .ok bs e =>
      let s := match e with
        | some e => { s with mica := { s.mica with decoded := tabPut s.mica.decoded e (tabGet s.mica.decoded e 0 + 1) } }
        | none => s
      let s := micaTaken s p seq left
      let s := match g, pay with
        | some g, .transfer id _ => recvMod s g id.toNat fun r => { r with fmt := some f, got := r.got + (if given.isSome then 0 else bs.length) }
        | _, _ => s
      emit s (.block p bs)
    | .bad => micaError s p seq (R_FLD_MICA_LEN_MISMATCH (portDie p)) 0x0601 F_FLD_MICA_ERR_LEN_MISMATCH
    | .absent => micaError s p seq (R_FLD_MICA_EPOCH_ABSENT (portDie p)) 0x0602 F_FLD_MICA_ERR_EPOCH_ABSENT

/-- The meaning of MICA_BLOCK_DECODE. -/
def execMicaBlockDecode (port : Fin 48) (seq : Half) (pay : MicaPay) (block : List Byte) (s : State) :
    Host.Outcome State Fault Refusal :=
  .next (micaBlockDecode s port seq.toNat pay block)

/-- LANE_RETIRE: a lane of a Yoger port loses lock or corrects too many symbols. (Open points: assumption 57, DEDUCED; assumption 56, DEDUCED.) -/
def laneRetire (s : State) (p lane : Nat) : State :=
  let k := R_FLD_PORT_LANES (portDie p) (portLoc p)
  let use := fld s k F_FLD_PORT_LANES_IN_USE
  let w := fld s (R_FLD_PORT_STATUS (portDie p) (portLoc p)) F_FLD_PORT_STATUS_WIDTH
  if !(portYoger s p && bitOf use lane) then s
  else if w ≤ 6 then portDown s p (some F_FLD_PORT_ERR_TRAIN_FAILED)
  else
    let s := laneSet s p F_FLD_PORT_LANES_IN_USE (use - 2 ^ lane)
    let s := laneSet s p F_FLD_PORT_LANES_RETIRED (fld s k F_FLD_PORT_LANES_RETIRED ||| 2 ^ lane)
    let s := ptSet (ptSet s p F_FLD_PORT_STATUS_WIDTH (w - 1)) p F_FLD_PORT_STATUS_LAST_STATUS 0x0B01
    let s := ptErr s p F_FLD_PORT_ERR_LANE_RETIRED
    let flight := (portGet s p).held
    portResend (sendFrame s p frLane [BitVec.ofNat 8 lane]) p flight

/-- The meaning of LANE_RETIRE. -/
def execLaneRetire (port : Fin 48) (lane : Fin 8) (s : State) : Host.Outcome State Fault Refusal := .next (laneRetire s port lane)

/-! ### Signal, retraining, electrical idle (13:R299, R304; 18:R426). -/

/-- Whether a port may train by itself. -/
def portAuto (s : State) (p : Nat) : Bool :=
  flag s (R_FLD_PORT_CFG (portDie p) (portLoc p)) F_FLD_PORT_CFG_AUTO_RETRAIN && !(portGet s p).still

/-- SIGNAL_LOSS. (Open points: assumption 56, DEDUCED.) -/
def signalLoss (s : State) (p : Nat) : State :=
  let s := if portYoger s p then portDown s p (some F_FLD_PORT_ERR_TRAIN_FAILED) else s
  portSet s p { portGet s p with dark := true }
/-- The meaning of SIGNAL_LOSS. -/
def execSignalLoss (port : Fin 48) (s : State) : Host.Outcome State Fault Refusal := .next (signalLoss s port)

/-- SIGNAL_RETURN. -/
def signalReturn (s : State) (p : Nat) : State :=
  let x := portGet s p
  if !x.dark then s
  else
    let s := portSet s p { x with dark := false }
    let st := portState s p
    if yogerCfg s p && !x.still && (st == 5 || ((st == 6 || st == 7) && portAuto s p)) then trainStart s p else s
/-- The meaning of SIGNAL_RETURN. -/
def execSignalReturn (port : Fin 48) (s : State) : Host.Outcome State Fault Refusal := .next (signalReturn s port)

/-- AUTO_RETRAIN. -/
def autoRetrain (s : State) (p : Nat) : State :=
  if (portState s p == 6 || portState s p == 7) && yogerCfg s p && portAuto s p then trainStart s p else s
/-- The meaning of AUTO_RETRAIN. -/
def execAutoRetrain (port : Fin 48) (s : State) : Host.Outcome State Fault Refusal := .next (autoRetrain s port)

/-- The meaning of PORT_WAKE: a wake pattern returns this port alone to full use. -/
def execPortWake (port : Fin 48) (s : State) : Host.Outcome State Fault Refusal :=
  .next { s with asleep := s.asleep.filter (· ≠ port.val) }

/-- Lanes of a PHY (13:R305). -/
def ethLanes (rate : Nat) : Nat := if rate = 0 then 8 else if rate ≤ 2 then 4 else if rate ≤ 4 then 2 else 1

/-! ### Commands (13:R311). -/

/-- Ports that a mask names. -/
def portList (m : BitVec 48) : List Nat := setBits 48 m.toNat
/-- Ports that ring slots name: those configured, or those with a command or an exchange under way. -/
def ringBusyPorts (s : State) (running : Bool) : List Nat :=
  (List.range 8).flatMap fun k =>
    let x := slotGet s k
    (match x.cfg with | some c => if !running || x.run.isSome || x.exch.isSome then (rcPorts c.record).map Prod.fst else [] | none => [])
      ++ match x.exch with | some e => (rcPorts e.2.1.record).map Prod.fst | none => []
/-- Whether a mask names a busy port. -/
def portsBusy (s : State) (running : Bool) (m : BitVec 48) : Bool := (portList m).any fun p => (ringBusyPorts s running).contains p

/-- LINK_CFG of one port. (Open points: assumption 57, DEDUCED.) -/
def linkCfgPort (s : State) (mode rate flags tag : Nat) (expectId : DWord) (expectPort p : Nat) : State :=
  let d := portDie p
  let i := portLoc p
  let s := portDown s p none
  let w := fldSet (fldSet (fldSet 0 F_FLD_PORT_CFG_MODE mode) F_FLD_PORT_CFG_ETH_RATE rate) F_FLD_PORT_CFG_AUTO_RETRAIN (flags % 2)
  let w := fldSet (fldSet (fldSet w F_FLD_PORT_CFG_LOOPBACK_OK (flags / 2)) F_FLD_PORT_CFG_EXPECT_EN (flags / 4)) F_FLD_PORT_CFG_NET_TAG tag
  let s := ctrSet (regSet s (R_FLD_PORT_CFG d i) w) (R_FLD_PORT_EXPECT_ID d i) expectId
  let s := regSet s (R_FLD_PORT_EXPECT_PORT d i) (BitVec.ofNat 32 (expectPort % 64))
  let s := portSet s p { portGet s p with still := mode == 0 }
  if mode = 0 then regSet (ptSet (ptSet s p F_FLD_PORT_STATUS_STATE 0) p F_FLD_PORT_STATUS_WIDTH 0) (R_FLD_PORT_LANES d i) 0
  else trainStart s p

/-- LINK_CFG. (Open points: assumption 57, DEDUCED.) -/
def cmdLinkCfg (ports : BitVec 48) (mode rate flags : Byte) (tag : Half) (expectId : DWord) (expectPort : Byte) : CmdFn := fun t s =>
  let ps := portList ports
  refuseIf (ps.isEmpty || decide (3 < mode.toNat) || decide (5 < rate.toNat) || (bitOf flags.toNat 2 && decide (1 < ps.length))) 0x0102 s
  <| refuseIf (portsBusy s false ports) 0x0B02 s
  <| let s := defer s t (.linkTrain ps)
     (linkSettle (ps.foldl (fun s p => linkCfgPort s mode.toNat rate.toNat flags.toNat tag.toNat expectId expectPort.toNat p) s), none)

/-- The meaning of LINK_CFG. -/
def execLinkCfg (src : Src) (ports : BitVec 48) (mode ethRate flags : Byte) (netTag : Half) (expectId : DWord) (expectPort : Byte)
    (s : State) : Host.Outcome State Fault Refusal :=
  .next (runCmd 0x0B01 src (parBytes [(0, 6, ports.toNat), (6, 1, mode.toNat), (7, 1, ethRate.toNat), (8, 1, flags.toNat),
    (10, 2, netTag.toNat), (16, 8, expectId.toNat), (24, 1, expectPort.toNat)])
    (cmdLinkCfg ports mode ethRate flags netTag expectId expectPort) s)

/-- LINK_TRAIN. (Open points: assumption 56, DEDUCED.) -/
def cmdLinkTrain (ports : BitVec 48) : CmdFn := fun t s =>
  let ps := portList ports
  refuseIf ps.isEmpty 0x0102 s
  <| refuseIf (portsBusy s true ports) 0x0B02 s
  <| let s := defer s t (.linkTrain ps)
     (linkSettle (ps.foldl (fun s p => trainStart (portSet s p { portGet s p with still := portCfgMode s p == 0 }) p) s), none)

/-- The meaning of LINK_TRAIN. -/
def execLinkTrain (src : Src) (ports : BitVec 48) (s : State) : Host.Outcome State Fault Refusal :=
  .next (runCmd 0x0B02 src (parBytes [(0, 6, ports.toNat)]) (cmdLinkTrain ports) s)

/-- LINK_DOWN of one port. (Open points: assumption 56, DEDUCED.) -/
def linkDownPort (s : State) (p : Nat) : State :=
  let s := portDown s p none
  let s := portSet s p { portGet s p with still := true }
  if portState s p = 0 then s else ptSet s p F_FLD_PORT_STATUS_STATE 7

/-- LINK_DOWN. -/
def cmdLinkDown (ports : BitVec 48) : CmdFn := fun _ s =>
  refuseIf (portList ports).isEmpty 0x0102 s
  <| refuseIf (portsBusy s false ports) 0x0B02 s
  <| okay ((portList ports).foldl linkDownPort s) []

/-- The meaning of LINK_DOWN. -/
def execLinkDown (src : Src) (ports : BitVec 48) (s : State) : Host.Outcome State Fault Refusal :=
  .next (runCmd 0x0B03 src (parBytes [(0, 6, ports.toNat)]) (cmdLinkDown ports) s)

/-- LINK_STATUS. -/
def cmdLinkStatus (port : Byte) : CmdFn := fun _ s =>
  let p := port.toNat
  let d := portDie p
  let i := portLoc p
  refuseIf (decide (47 < p)) 0x0102 s
  <| okay s (leBytes 4 (regGet s (R_FLD_PORT_STATUS d i)).toNat ++ leBytes 4 (regGet s (R_FLD_PORT_LANES d i)).toNat
      ++ leBytes 8 (ctrGet s (R_FLD_PORT_PEER_ID d i)).toNat ++ leBytes 4 (regGet s (R_FLD_PORT_PEER_INFO d i)).toNat)

/-- The meaning of LINK_STATUS. -/
def execLinkStatus (src : Src) (port : Byte) (s : State) : Host.Outcome State Fault Refusal :=
  .next (runCmd 0x0B04 src (parBytes [(0, 1, port.toNat)]) (cmdLinkStatus port) s)

end Sys2Proof.Machine
end

