-- ==== Sys2Proof/Machine/Io.lean ====
section
/-! DEFINITION. Ethernet ports and RoCEv2 (13:R305-R307, R311), and the PCIe root port (13:R308-R311, R313; 21:R483).
A packet of RoCEv2 or PCIe goes out as its kind and the fields that the spec gives it. -/
namespace Sys2Proof.Machine

/-! ### What goes out. -/

/-- A packet of a RoCEv2 request of a QP. -/
def ioRoceReq : Nat := 1
/-- A RoCEv2 answer to an inbound request. -/
def ioRoceAck : Nat := 2
/-- A remote access error to an inbound request. -/
def ioRoceNak : Nat := 3
/-- A PCIe read or write of a hart: address and data. -/
def ioPcieReq : Nat := 4
/-- A PCIe completion with data. -/
def ioPcieCpl : Nat := 5
/-- A PCIe completion with Unsupported Request. -/
def ioPcieUr : Nat := 6
/-- A hot reset of the PCIe link. -/
def ioPcieReset : Nat := 7

/-- The agent of an engine for which SHL_UE_SRC lists no KIND: its KIND is a free value (08:R187). -/
def ioAgent (s : State) (d : Nat) : State × Agent :=
  let r := drawFree s
  (r.2, ⟨r.1.toNat % 16, d⟩)

/-- Read for a RoCEv2 or PCIe engine of die `d`: what cannot be reached reads as free bytes; the last answer says that an
uncorrectable error was met. -/
def ioRead (s : State) (d a n : Nat) : State × List Byte × Bool :=
  if (n == 0) || ((regionOf s a).isMem && inOneRange a n && homeUp s d a) then
    let g := ioAgent (wakeAccess s 3) d
    ncRead g.1 g.2 a n
  else
    let r := freeBytes s n
    (r.1, r.2, false)

/-- A posted write of a RoCEv2 or PCIe engine of die `d` (09:R205). -/
def ioWrite (s : State) (d a : Nat) (bs : List Byte) : State :=
  if bs.isEmpty || !((regionOf s a).isMem && inOneRange a bs.length) then s
  else
    let g := ioAgent (wakeAccess s 3) d
    (postWrite g.1 d g.2 a bs).1

/-! ### Queue pairs (13:R306). -/

/-- A queue pair, once configured. -/
def qpGet (s : State) (p n : Nat) : Option Qp := tabFind s.io.qps (p * 1024 + n)
/-- Set it. -/
def qpSet (s : State) (p n : Nat) (x : Qp) : State := { s with io := { s.io with qps := tabPut s.io.qps (p * 1024 + n) x } }
/-- A field of a QP record. -/
def qpFld (x : Qp) (i n : Nat) : Nat := fieldLE x.record i n

/-- What every packet of a QP says, in a layout of the model: port, destination and source MAC, PFC priority, ECN-capable,
local and remote IPv6 address, remote QPN (13:R305, R306, R311). (Open points: assumption 58, DESIGN CHOICE.) -/
def roceHead (s : State) (p : Nat) (x : Qp) : List Byte :=
  let mac := portMac s p
  [BitVec.ofNat 8 p] ++ sliceZ x.record 28 6 ++ netBytes 6 mac ++ [BitVec.ofNat 8 (qpFld x 19 1), 1#8]
    ++ netBytes 16 (linkLocal mac) ++ sliceZ x.record 48 16 ++ sliceZ x.record 20 4
/-- Path MTU of a QP in bytes. -/
def qpMtu (x : Qp) : Nat := 1024 * 2 ^ qpFld x 18 1
/-- Packets that a message of a length takes. -/
def qpPackets (x : Qp) (n : Nat) : Nat := Nat.max 1 (ceilDiv n (qpMtu x))
/-- The packets of a work request: every one has its PSN, OP and place in the message; the first also the request's LENGTH,
remote address and key, the last its immediate data; a READ is one packet (13:R306). (Open points: assumption 58, DESIGN CHOICE.) -/
def rocePackets (s : State) (p : Nat) (x : Qp) (wr dat : List Byte) : List Out :=
  let n := if fieldLE wr 0 1 = 3 then 1 else qpPackets x (fieldLE wr 4 4)
  (List.range n).map fun i =>
    .io ioRoceReq (roceHead s p x ++ leBytes 4 ((x.psn + i) % 2 ^ 24) ++ sliceZ wr 0 1 ++ leBytes 4 i
      ++ (if i = 0 then sliceZ wr 4 4 ++ sliceZ wr 16 12 else []) ++ (if i + 1 = n then sliceZ wr 28 4 else [])
      ++ (dat.drop (i * qpMtu x)).take (qpMtu x))
/-- Put packets out in order. -/
def emitAll (s : State) (os : List Out) : State := os.foldl emit s

/-- Write a completion: work-request index, status, bytes moved, immediate data; an error stops the QP. (Open points: assumption 58, DESIGN CHOICE.) -/
def qpComplete (s : State) (p n idx status moved imm : Nat) : State :=
  match qpGet s p n with
  | none => s
  | some x =>
    let a := qpFld x 8 8 + 16 * (x.compl % 2 ^ qpFld x 17 1)
    let s := qpSet s p n { x with compl := x.compl + 1, stopped := x.stopped || status != 0 }
    ioWrite s (portDie p) a (leBytes 4 idx ++ leBytes 2 status ++ leBytes 2 0 ++ leBytes 4 moved ++ leBytes 4 imm)

/-- Start the next work request of a QP. A request of no operation or length that the engine supports is passed over. (Open
points: assumption 58, DESIGN CHOICE.) -/
def qpStart (s : State) (p n : Nat) (x : Qp) : State :=
  let d := portDie p
  let r := ioRead s d (qpFld x 0 8 + 64 * (x.next % 2 ^ qpFld x 16 1)) 64
  let wr := r.2.1
  let idx := x.next
  let len := fieldLE wr 4 4
  let y := { x with next := (x.next + 1) % 65536 }
  let s := qpSet r.1 p n y
  if r.2.2 then qpComplete s p n idx 0x0301 0 0
  else if 3 < fieldLE wr 0 1 ∨ 2 ^ 31 < len then s
  else
    let dat := if fieldLE wr 0 1 = 3 then (s, [], false) else ioRead s d (fieldLE wr 8 8) len
    if dat.2.2 then qpComplete dat.1 p n idx 0x0301 0 (fieldLE wr 28 4)
    else
      let s := qpSet dat.1 p n { y with sent := y.sent ++ [(idx, wr)], psn := (y.psn + qpPackets y len) % 2 ^ 24 }
      emitAll s (rocePackets s p y wr dat.2.1)

/-- Start the work requests up to the producer index (the fuel bounds their number). (Open points: assumption 58, DESIGN CHOICE.) -/
def qpGo : Nat → State → Nat → Nat → State
  | 0, s, _, _ => s
  | f + 1, s, p, n =>
    match qpGet s p n with
    | some x =>
      if portUp s p && portMode s p == 3 && !x.stopped && x.next != x.producer then qpGo f (qpStart s p n x) p n else s
    | none => s

/-- A write of a producer index to a QP's doorbell. -/
def roceDoorbell (s : State) (p n producer : Nat) : State :=
  match qpGet s p n with
  | some x => qpGo 65536 (qpSet s p n { x with producer := producer % 65536 }) p n
  | none => s

/-- The meaning of ROCE_DOORBELL. -/
def execRoceDoorbell (port : Fin 48) (qpn : Fin 1024) (producer : Half) (ups : List Before) (s : State) :
    Host.Outcome State Fault Refusal :=
  .next (roceDoorbell (upsets s ups) port qpn producer.toNat)

/-- A congestion notification halves the sending rate, down to 1 % of line rate. -/
def roceCnp (s : State) (p n : Nat) : State :=
  match qpGet s p n with
  | some x => qpSet s p n { x with rate := if x.rate.1 < 2 ^ (x.rate.2 + 1) then (1, 0) else (x.rate.1, x.rate.2 + 1) }
  | none => s
/-- The meaning of ROCE_CNP. -/
def execRoceCnp (port : Fin 48) (qpn : Fin 1024) (s : State) : Host.Outcome State Fault Refusal := .next (roceCnp s port qpn)

/-- 55 µs without a notification raise the rate by 5 % of line rate. (Open points: assumption 58, DESIGN CHOICE.) -/
def roceRise (s : State) (p n : Nat) : State :=
  match qpGet s p n with
  | some x =>
    let m := x.rate.1 + 5 * 2 ^ x.rate.2
    qpSet s p n { x with rate := if 100 * 2 ^ x.rate.2 ≤ m then (100, 0) else (m, x.rate.2) }
  | none => s
/-- The meaning of ROCE_RATE_INCREASE. -/
def execRoceRateIncrease (port : Fin 48) (qpn : Fin 1024) (s : State) : Host.Outcome State Fault Refusal := .next (roceRise s port qpn)

/-- The oldest work request under way ends: a READ's data are written, and a completion if the request asks for one. -/
def roceResponse (s : State) (p n : Nat) (rep : RoceRep) : State :=
  match qpGet s p n with
  | none => s
  | some x =>
    match x.sent with
    | [] => s
    | (idx, wr) :: rest =>
      if x.stopped || !(portUp s p && portMode s p == 3) then s
      else
        let s := qpSet s p n { x with sent := rest }
        let len := fieldLE wr 4 4
        let imm := fieldLE wr 28 4
        match rep with
        | .error => qpComplete s p n idx 0x0B06 0 imm
        | .data bs =>
          let s := if fieldLE wr 0 1 = 3 then ioWrite s (portDie p) (fieldLE wr 8 8) (sliceZ bs 0 len) else s
          if fieldLE wr 1 1 % 2 = 1 then qpComplete s p n idx 0 len imm else s
        | .ack => if fieldLE wr 1 1 % 2 = 1 then qpComplete s p n idx 0 len imm else s

/-- The meaning of ROCE_RESPONSE. -/
def execRoceResponse (port : Fin 48) (qpn : Fin 1024) (rep : RoceRep) (ups : List Before) (s : State) :
    Host.Outcome State Fault Refusal :=
  .next (roceResponse (upsets s ups) port qpn rep)

/-- A QP's retransmissions are exhausted. -/
def roceExhausted (s : State) (p n : Nat) : State :=
  match qpGet s p n with
  | none => s
  | some x =>
    match x.sent with
    | [] => s
    | (idx, wr) :: rest => if x.stopped then s else qpComplete (qpSet s p n { x with sent := rest }) p n idx 0x0B07 0 (fieldLE wr 28 4)

/-- The meaning of ROCE_RETRY_EXCEEDED. -/
def execRoceRetryExceeded (port : Fin 48) (qpn : Fin 1024) (s : State) : Host.Outcome State Fault Refusal :=
  .next (roceExhausted s port qpn)

/-! ### Inbound requests (13:R307). -/

/-- Key of an entry of a Feldspar's copy of the memory-region table. (Open points: assumption 58, DESIGN CHOICE.) -/
def mrKey (l entry : Nat) : Nat := 256 * l + entry % 256

/-- The entry that a remote key names, if the access lies inside it and is permitted. (Open points: assumption 58, DESIGN CHOICE.) -/
def memRegOk (s : State) (p key addr len : Nat) (wr : Bool) : Bool :=
  match if key / 256 < 256 then tabFind s.io.mrs (mrKey (p / 6) (key / 256)) else none with
  | some m => m.tag == key % 256 && (if wr then m.wr else m.rd) && decide (m.base ≤ addr) && decide (addr + len ≤ m.base + m.length)
  | none => false

/-- The answer to an inbound request, read data in packets of the path MTU; it repeats the PSN of its request, which is not
shown. (Open points: assumption 58, DESIGN CHOICE.) -/
def roceAnswer (s : State) (p kind : Nat) (x : Qp) (dat : List Byte) : List Out :=
  (List.range (qpPackets x dat.length)).map fun i => .io kind (roceHead s p x ++ (dat.drop (i * qpMtu x)).take (qpMtu x))

/-- ROCE_INBOUND. (Open points: assumption 58, DESIGN CHOICE.) -/
def roceInbound (s : State) (p n key addr : Nat) (req : RoceReq) : State :=
  match qpGet s p n with
  | none => s
  | some x =>
    let d := portDie p
    let ack (s : State) (dat : List Byte) := emitAll s (roceAnswer s p ioRoceAck x dat)
    let nak := emitAll s (roceAnswer s p ioRoceNak x [])
    if x.stopped || !(portUp s p && portMode s p == 3) then s
    else
      match req with
      | .read len =>
        if memRegOk s p key addr len false then
          let r := ioRead s d addr len
          ack r.1 r.2.1
        else nak
      | .send bs =>
        if memRegOk s p key addr bs.length true then ack (ioWrite s d addr bs) [] else nak
      | .write bs =>
        if memRegOk s p key addr bs.length true then ack (ioWrite s d addr bs) [] else nak

/-- The meaning of ROCE_INBOUND. -/
def execRoceInbound (port : Fin 48) (qpn : Fin 1024) (key : Word) (addr : DWord) (req : RoceReq) (ups : List Before)
    (s : State) : Host.Outcome State Fault Refusal :=
  .next (roceInbound (upsets s ups) port qpn key.toNat addr.toNat req)

/-! ### Commands on Ethernet ports (13:R311). -/

/-- Whether a QP record is valid. -/
def qpRecordOk (r : List Byte) : Bool :=
  let sq := fieldLE r 16 1
  let cq := fieldLE r 17 1
  decide (4 ≤ sq) && decide (sq ≤ 12) && decide (4 ≤ cq) && decide (cq ≤ 14) && decide (fieldLE r 18 1 ≤ 2) && decide (fieldLE r 19 1 ≤ 7) &&
    inOneRange (fieldLE r 0 8) (64 * 2 ^ sq) && inOneRange (fieldLE r 8 8) (16 * 2 ^ cq)

/-- ROCE_QP_CFG. -/
def cmdRoceQpCfg (port : Byte) (qpn : Half) (addr : DWord) : CmdFn := fun t s =>
  let p := port.toNat
  let a := addr.toNat
  refuseIf (decide (47 < p) || portCfgMode s p != 3 || decide (1023 < qpn.toNat) || !(inOneRange a 64)) 0x0102 s
  <| if !(cmdReach s t a 64) then (s, some (.done 0x0105 []))
  else
    match cmdRead s t a 64 with
    | (s, none) => (s, some (.done 0x0301 []))
    | (s, some r) =>
      refuseIf (!(qpRecordOk r)) 0x0102 s <| okay (qpSet s p qpn.toNat ⟨r, 0, 0, [], 0, (100, 0), false, fieldLE r 24 4 % 2 ^ 24⟩) []

/-- The meaning of ROCE_QP_CFG. -/
def execRoceQpCfg (src : Src) (port : Byte) (qpn : Half) (addr : DWord) (s : State) : Host.Outcome State Fault Refusal :=
  .next (runCmd 0x0B20 src (parBytes [(0, 1, port.toNat), (2, 2, qpn.toNat), (8, 8, addr.toNat)]) (cmdRoceQpCfg port qpn addr) s)

/-- ROCE_MR_SET: the entry is set in every RUNNING Feldspar. (Open points: assumption 58, DESIGN CHOICE.) -/
def cmdRoceMrSet (entry access tag : Byte) (base length : DWord) : CmdFn := fun _ s =>
  refuseIf (!(inOneRange base.toNat length.toNat)) 0x0102 s
  <| let m : MemReg := ⟨bitOf access.toNat 0, bitOf access.toNat 1, tag.toNat, base.toNat, length.toNat⟩
     okay { s with io := { s.io with mrs :=
       ((List.range 8).filter fun l => dieRunning s (fldDie l)).foldl (fun t l => tabPut t (mrKey l entry.toNat) m) s.io.mrs } } []

/-- The meaning of ROCE_MR_SET. -/
def execRoceMrSet (src : Src) (entry access tag : Byte) (base length : DWord) (s : State) : Host.Outcome State Fault Refusal :=
  .next (runCmd 0x0B21 src (parBytes [(0, 1, entry.toNat), (1, 1, access.toNat), (2, 1, tag.toNat), (8, 8, base.toNat),
    (16, 8, length.toNat)]) (cmdRoceMrSet entry access tag base length) s)

/-- ETHERNET_LINK_CHANGE: the PHY of an Ethernet port comes up or goes down. (Open points: assumption 56, DEDUCED.) -/
def ethernetLink (s : State) (p : Nat) (up : Bool) : State :=
  if portCfgMode s p != 3 || (portGet s p).still then s
  else if up then
    if portUp s p then s
    else
      let n := ethLanes (fld s (R_FLD_PORT_CFG (portDie p) (portLoc p)) F_FLD_PORT_CFG_ETH_RATE)
      let s := ptSet (ptSet (ptSet s p F_FLD_PORT_STATUS_STATE 4) p F_FLD_PORT_STATUS_ACT_MODE 3) p F_FLD_PORT_STATUS_WIDTH n
      let s := laneSet (ptSet s p F_FLD_PORT_STATUS_LAST_STATUS 0) p F_FLD_PORT_LANES_IN_USE (2 ^ n - 1)
      (List.range 1024).foldl (fun s q => qpGo 65536 s p q) (linkSettle s)
  else portDown s p none

/-- The meaning of ETHERNET_LINK_CHANGE. -/
def execEthernetLinkChange (port : Fin 48) (up : Bool) (s : State) : Host.Outcome State Fault Refusal := .next (ethernetLink s port up)

/-! ### The PCIe root port (13:R308-R313; 21:R483). -/

/-- Whether the PCIe link is up. -/
def pcieUp (s : State) : Bool := flag s R_FLD_PCIE_STATUS F_FLD_PCIE_STATUS_LINK_UP
/-- Whether PRSNT_IN_N is low. -/
def pciePresent (s : State) : Bool := flag s R_SCH_CONN_STATUS F_SCH_CONN_STATUS_PCIE_PRESENT
/-- A PCIe error: its flag and its record. -/
def pcieErr (s : State) (f : Fld) (status : Nat) : State := strataEvent (raise s R_FLD_PCIE_ERR f) 10 0x78 status 255 0
/-- The link is down; it left the active state if it was in it. -/
def pcieDown (s : State) : State :=
  if pcieUp s then pcieErr (regSet s R_FLD_PCIE_STATUS 0) F_FLD_PCIE_ERR_LINK_DOWN 0x0B05 else s
/-- Answer the commands that wait for the link. -/
def pcieAnswer (s : State) : State :=
  let gen := fld s R_FLD_PCIE_STATUS F_FLD_PCIE_STATUS_GEN
  let w := fld s R_FLD_PCIE_STATUS F_FLD_PCIE_STATUS_WIDTH
  (s.cmds.taken.filter fun t => t.wait == .pcie).foldl (fun s t =>
    finish s t (.done (if pcieUp s then 0 else 0x0B05) (if t.op = 0x0B10 then [BitVec.ofNat 8 gen, BitVec.ofNat 8 w] else []))) s

/-- PCIE_LINK_CHANGE: a training ends within the configured generation and width, or the link leaves the active state. -/
def pcieLinkChange (s : State) (l : PcieLink) : State :=
  match l with
  | .left => pcieDown s
  | .failed => pcieAnswer (pcieDown s)
  | .up gen wide =>
    let w := if wide then 16 else 8
    if pciePresent s && decide (4 ≤ gen.val) && decide (gen.val ≤ s.io.maxGen) && decide (w ≤ s.io.width) then
      pcieAnswer (regSet s R_FLD_PCIE_STATUS (fldSet (fldSet (fldSet 0 F_FLD_PCIE_STATUS_LINK_UP 1) F_FLD_PCIE_STATUS_GEN gen)
        F_FLD_PCIE_STATUS_WIDTH w))
    else s

/-- The meaning of PCIE_LINK_CHANGE. -/
def execPcieLinkChange (link : PcieLink) (s : State) : Host.Outcome State Fault Refusal := .next (pcieLinkChange s link)

/-- A command that retrains the link: without an endpoint the port does not train. -/
def pcieRetrain (s : State) (t : Taken) : State := if pciePresent s then defer s t .pcie else pcieAnswer (defer s t .pcie)

/-- PCIE_CFG. -/
def cmdPcieCfg (maxGen width : Byte) : CmdFn := fun t s =>
  refuseIf (decide (maxGen.toNat < 4) || decide (6 < maxGen.toNat) || !(width == 8#8 || width == 16#8)) 0x0102 s
  <| (pcieRetrain { s with io := { s.io with maxGen := maxGen.toNat, width := width.toNat } } t, none)

/-- The meaning of PCIE_CFG. -/
def execPcieCfg (src : Src) (maxGen width : Byte) (s : State) : Host.Outcome State Fault Refusal :=
  .next (runCmd 0x0B10 src (parBytes [(0, 1, maxGen.toNat), (1, 1, width.toNat)]) (cmdPcieCfg maxGen width) s)

/-- PCIE_HOT_RESET: PERST_OUT_N stays high. -/
def cmdPcieHotReset : CmdFn := fun t s => (pcieRetrain (emit s (.io ioPcieReset [])) t, none)

/-- The meaning of PCIE_HOT_RESET. -/
def execPcieHotReset (src : Src) (s : State) : Host.Outcome State Fault Refusal := .next (runCmd 0x0B11 src [] cmdPcieHotReset s)

/-- The meaning of AER_UNCORRECTABLE_REPORT. -/
def execAerUncorrectableReport (s : State) : Host.Outcome State Fault Refusal := .next (pcieErr s F_FLD_PCIE_ERR_AER_UNCORR 0)

/-- An interrupt becomes pending for a hart; in REST it returns the block to RUN (18:R427). -/
def hartIrq (s : State) (h : Nat) : State := emit (if pwState s = 3 then goRun s 4 0 else s) (.irq h)

/-- PCIE_MSI_WRITE. (Open points: assumption 58, DESIGN CHOICE.) -/
def pcieMsi (s : State) (n : Nat) : State :=
  if pcieUp s && decide (n < 2048) then
    hartIrq (setFld s (R_FLD_PCIE_MSI_PEND (n / 32)) ⟨n % 32, 1⟩ 1) ((regGet s R_FLD_PCIE_MSI_HART).toNat % 256)
  else s

/-- The meaning of PCIE_MSI_WRITE. -/
def execPcieMsiWrite (n : Word) (s : State) : Host.Outcome State Fault Refusal := .next (pcieMsi s n.toNat)

/-- Base of the MSI page, by PCIe address (13:R310). (Open points: assumption 58, DESIGN CHOICE.) -/
def msiPage : Nat := 0x000101C0280A1000

/-- PCIE_INBOUND: device memory lies at PCIe address 0x0001_0000_0000_0000 + A. A request beyond the root port's limits ends in
Unsupported Request, and read data go back in completions of at most the maximum payload (13:R308). (Open points: assumption
88, DEDUCED; assumption 88, DEDUCED.) -/
def pcieInbound (s : State) (addr len : Nat) (data : Option (List Byte)) : State :=
  let a := addr - 0x1000000000000
  let n := match data with | some bs => bs.length | none => len
  let most := if data.isSome then 512 else 4096
  if !(pcieUp s) then s
  else if msiPage ≤ addr ∧ addr < msiPage + 4096 ∧ addr % 4 = 0 ∧ data.isSome ∧ n = 4 then pcieMsi s (leNat (data.getD []))
  else if addr < 0x1000000000000 ∨ most < n ∨ !((regionBelow s.intlv a).isMem && inOneRange a n) then emit s (.io ioPcieUr [])
  else
    match data with
    | some bs => ioWrite s 10 a bs
    | none =>
      let r := ioRead s 10 a n
      emitAll r.1 ((chunks 512 (n + 1) r.2.1).map fun b => .io ioPcieCpl b)

/-- The meaning of PCIE_INBOUND. -/
def execPcieInbound (addr : DWord) (len : Nat) (data : Option (List Byte)) (ups : List Before) (s : State) :
    Host.Outcome State Fault Refusal :=
  .next (pcieInbound (upsets s ups) addr.toNat len data)

/-- PCIE_COMPLETION_TIMEOUT: the bit, and for a load the fault (13:R309). -/
def pcieTimeout (s : State) (hart : Nat) (store : Bool) : State :=
  let s := pcieErr s F_FLD_PCIE_ERR_CPL_TIMEOUT 0
  if store then s else emit s (.hartFault hart .load)

/-- The meaning of PCIE_COMPLETION_TIMEOUT. -/
def execPcieCompletionTimeout (hart : Fin 256) (store : Bool) (s : State) : Host.Outcome State Fault Refusal :=
  .next (pcieTimeout s hart store)

/-- Whether a hart may make an access of `n` bytes to an address of the PCIe window: 32 bits to ECAM, 1 to 8 bytes to the
memory ranges, aligned (13:R309). -/
def pcieAccessOk (a n : Nat) : Bool :=
  a % n == 0 && if a < 0x01F010000000 then n == 4 else n == 1 || n == 2 || n == 4 || n == 8

/-- The PCIe address of a device physical address of the window (13:R309); ECAM accesses are configuration requests. -/
def pcieAddr (a : Nat) : Nat := a - 0x01F000000000

/-- A hart's load from the PCIe window. -/
def pcieLoad (s : State) (hart a n : Nat) (e : PcieEnd) : State :=
  if !(pcieAccessOk a n) then emit s (.hartFault hart .load)
  else
    let s := emit s (.io ioPcieReq (leBytes 8 (pcieAddr a)))
    match e with
    | .ok bs => emit s (.hart hart (leNat (sliceZ bs 0 n)))
    | .unsupported => emit (pcieErr s F_FLD_PCIE_ERR_UR 0) (.hartFault hart .load)
    | .abort => emit (pcieErr s F_FLD_PCIE_ERR_CA 0) (.hartFault hart .load)
    | .waits => s

/-- A hart's store to the PCIe window. -/
def pcieStore (s : State) (hart a : Nat) (bs : List Byte) (e : PcieEnd) : State :=
  if !(pcieAccessOk a bs.length) then emit s (.hartFault hart .store)
  else
    let s := emit s (.io ioPcieReq (leBytes 8 (pcieAddr a) ++ bs))
    match e with
    | .ok _ => s
    | .unsupported => pcieErr s F_FLD_PCIE_ERR_UR 0
    | .abort => pcieErr s F_FLD_PCIE_ERR_CA 0
    | .waits => s

end Sys2Proof.Machine
end

