-- ==== Sys2Proof/Machine/Power.lean ====
section
/-! DEFINITION. Clocks, power and thermal limits (17_clocks_power_thermal.md; 14:R336, R337): budgets, grants and issue
rates, excursions, wear, the coolant stages, the root clock, and the power commands. Power is in mW, temperatures in
1/16 °C, flow in 0.01 L/min. -/
namespace Sys2Proof.Machine

/-! ### Allocations and limits (01:R18; 17:R398, R399). -/

/-- A field of SCH_PWR_STATUS. -/
def pwFld (s : State) (f : Fld) : Nat := fld s R_SCH_PWR_STATUS f
/-- Set it. -/
def pwSet (s : State) (f : Fld) (v : Nat) : State := setFld s R_SCH_PWR_STATUS f v
/-- CLASS in force. -/
def pwClass (s : State) : Nat := pwFld s F_SCH_PWR_STATUS_CLASS
/-- STAGE. -/
def pwStage (s : State) : Nat := pwFld s F_SCH_PWR_STATUS_STAGE
/-- L in force, W. -/
def pwLimit (s : State) : Nat := fld s R_SCH_PWR_LIMIT F_SCH_PWR_LIMIT_EFFECTIVE_W
/-- L_c of a class, W. -/
def classLimit (c : Nat) : Nat := 10000 - 1500 * c
/-- Gabbro allocation of a class. -/
def gabAlloc (c : Nat) : Nat := (440 - 90 * c) * 1000
/-- Peak Gabbro cap of a class. -/
def gabPeak (c : Nat) : Nat := (560 - 108 * c) * 1000
/-- Allocation of a die in a class; a Flint's includes its LPDDR6 device. (Open points: assumption 65, DEDUCED.) -/
def dieAlloc (c d : Nat) : Nat :=
  match dieKind d with
  | .gabbro => gabAlloc c
  | .shale => 30000
  | .gneiss => 95000
  | .feldspar => 85000
  | .flint => 36000
  | .schist => 12000
/-- L of a class, a stage and LIMIT_W. -/
def effLimit (c stage limit : Nat) : Nat :=
  let l := classLimit c * (20 - stage) / 20
  if limit = 0 then l else Nat.min l limit
/-- Peak input limit, mW. -/
def peakLimit (s : State) : Nat := if pwStage s = 0 then 1200 * pwLimit s else 1000 * pwLimit s
/-- A in µs. -/
def allowance (s : State) : Nat := fld s R_SCH_PWR_PEAK F_SCH_PWR_PEAK_ALLOW_US
/-- Whether the excursion allowance lasts; a change that lowers L bars it until the input has fallen to the new L
(17:R413). (Open points: assumption 66, DEDUCED.) -/
def excursionOk (s : State) : Bool := pwStage s == 0 && pwFld s F_SCH_PWR_STATUS_CLAMPED == 0 && !s.pwr.lowering && decide (s.pwr.used < 10 * allowance s)
/-- The limit in force, mW. (Open points: assumption 66, DEDUCED.) -/
def limitNow (s : State) : Nat := if excursionOk s then peakLimit s else 1000 * pwLimit s
/-- The component pool, mW: lowered by the excess of the last 10 µs. (Open points: assumption 66, DEDUCED.) -/
def pool (s : State) : Nat := limitNow s * 24 / 25 - 160000 - 1000 * s.pwr.excess
/-- A grant within the thermal cap of a die: at CAP_STEP 0 nothing caps it, the peak Gabbro cap included (17:R400, R407). (Open points: assumption 65, DEDUCED.) -/
def capped (s : State) (d x : Nat) : Nat :=
  let n := fld s (R_PWR_STATE d) F_PWR_STATE_CAP_STEP
  if n = 0 then x else Nat.min x (dieAlloc (pwClass s) d * (20 - n) / 20)
/-- A record of a power event. -/
def pwRecord (s : State) (d unit : Nat) : State := strataEvent s d unit 0 (fld s R_SCH_PWR_INPUT F_SCH_PWR_INPUT_INPUT_W) 0
/-- Whether ALERT_N is driven (17:R411). -/
def alertOn (s : State) : Bool := s.pwr.trip || regGet s R_SCH_PWR_ERR != 0

/-! ### Budget messages (14:R336, R337). -/

/-- Send a budget message: TYPE, die, POWER_MW, TEMP, FLAGS. (Open points: assumption 59, DEDUCED.) -/
def budgetOut (s : State) (ty d mw temp flags : Nat) : State :=
  let n := (tabGet s.pwr.seqs d 0 + 1) % 65536
  let b := [BitVec.ofNat 8 ty, BitVec.ofNat 8 d] ++ leBytes 2 n ++ leBytes 4 mw ++ leBytes 2 temp ++ [BitVec.ofNat 8 flags, 0#8]
  emit { s with pwr := { s.pwr with seqs := tabPut s.pwr.seqs d n } } (.budget d (b ++ leBytes 4 (crc32c b).toNat))

/-- The fallback budget of a die. (Open points: assumption 66, DEDUCED.) -/
def fallback (s : State) (d : Nat) : State :=
  let g := Nat.min (regGet s (R_PWR_GRANT d)).toNat (dieAlloc (pwClass s) d * 3 / 4)
  setFld (regSet s (R_PWR_GRANT d) (BitVec.ofNat 32 g)) (R_PWR_STATE d) F_PWR_STATE_FALLBACK 1

/-- Signed reading of a temperature. -/
def tempOf (x : Nat) : Int := signedOf 16 x
/-- The hottest reading that a die reports: a Gabbro's takes in its Shale, a Flint's its LPDDR6 device (17:R407). (Open points: assumption 66, DEDUCED.) -/
def hotOf (s : State) (d : Nat) : Int :=
  let h := tempOf (fld s (R_PWR_TEMP d) F_PWR_TEMP_HOT)
  if dieKind d = .gabbro ∨ dieKind d = .flint then max h (tempOf (fld s (R_PWR_TEMP d) F_PWR_TEMP_HOT_ATTACHED)) else h

/-- Whether a die, or what is attached to it, reads above a pair of points. -/
def hotter (s : State) (d : Nat) (own attached : Int) : Bool :=
  let w := R_PWR_TEMP d
  decide (own < tempOf (fld s w F_PWR_TEMP_HOT)) ||
    ((dieKind d == .gabbro || dieKind d == .flint) && decide (attached < tempOf (fld s w F_PWR_TEMP_HOT_ATTACHED)))

/-- BUDGET_DEMAND: a die reports its demand and hottest sensors, which say whether it is above its throttle point (17:R407); one whose sensors have all failed falls back (17:R409). -/
def budgetDemand (s : State) (d mw hot attached : Nat) (current failed : Bool) : State :=
  if !(dieRunning s d) || decide (dieKind d = .shale) then s
  else
    let s := regSet s (R_PWR_DEMAND d) (BitVec.ofNat 32 mw)
    let att := if dieKind d = .gabbro ∨ dieKind d = .flint then attached else 0
    let s := if failed then s else regSet s (R_PWR_TEMP d) (fldSet (fldSet 0 F_PWR_TEMP_HOT hot) F_PWR_TEMP_HOT_ATTACHED att)
    let s := setFld s (R_PWR_STATE d) F_PWR_STATE_SENSORS_FAILED (b2n failed)
    let s := if failed then fallback s d else s
    let st := R_PWR_STATE d
    let s := setFld s st F_PWR_STATE_THROTTLE (b2n (hotter s d 1600 1520))
    budgetOut s 1 d mw (codeOf 16 (hotOf s d))
      (fld s st F_PWR_STATE_THROTTLE + 2 * b2n current + 4 * fld s st F_PWR_STATE_FALLBACK)

/-- The meaning of BUDGET_DEMAND. -/
def execBudgetDemand (die : Fin 64) (mw : Word) (hot attached : Half) (current failed : Bool) (s : State) :
    Host.Outcome State Fault Refusal :=
  .next (budgetDemand s die mw.toNat hot.toNat attached.toNat current failed)

/-! ### Grants (17:R400, R401, R413). -/

/-- The dies that take part: RUNNING, or the Shale of a RUNNING Gabbro. -/
def budgetDies (s : State) : List Nat := (List.range 64).filter (dieRunning s)
/-- What step 1 grants a die other than a Gabbro; a Shale sends no demand and has its allocation. (Open points: assumption 65, DEDUCED.) -/
def stepOne (s : State) (d : Nat) : Nat :=
  if dieKind d = .shale then dieAlloc 0 d else Nat.min (regGet s (R_PWR_DEMAND d)).toNat (dieAlloc 0 d)

/-- The grants of an interval. (Open points: assumption 65, DEDUCED.) -/
def grantsOf (s : State) : Tab Nat :=
  let c := pwClass s
  let ds := budgetDies s
  let rest := ds.filter fun d => decide (dieKind d ≠ .gabbro)
  let gabs := ds.filter fun d => decide (dieKind d = .gabbro)
  let p := pool s
  let one := (rest.map (stepOne s)).sum
  let cap (d : Nat) := Nat.min (regGet s (R_PWR_DEMAND d)).toNat (if excursionOk s then gabPeak c else gabAlloc c)
  let two (d : Nat) := Nat.min (cap d) ((p - one) / 16)
  let left := p - one - (gabs.map two).sum
  let hungry := gabs.filter fun d => decide (two d < (regGet s (R_PWR_DEMAND d)).toNat)
  let three (d : Nat) := if hungry.contains d then Nat.min (cap d) (two d + left / hungry.length) else two d
  ds.map fun d =>
    let x := if dieKind d = .gabbro then (if p < one then 0 else three d) else if p < one then stepOne s d * p / one else stepOne s d
    (d, capped s d x)

/-- A change lowers L: E returns to 0, so that CLAMPED clears, and the input is brought to the new L (17:R405, R413). (Open points: assumption 66, DEDUCED.) -/
def excursionZero (s : State) : State :=
  let s := { s with pwr := { s.pwr with used := 0, lowering := true } }
  pwSet (setFld s R_SCH_PWR_PEAK F_SCH_PWR_PEAK_USED_US 0) F_SCH_PWR_STATUS_CLAMPED 0

/-- GRANT_COMPUTE: pending changes of CLASS and LIMIT_W and the stage take effect, then the grants are computed and sent. (Open points: assumption 65, DEDUCED.) -/
def grantCompute (s : State) : State :=
  let old := pwLimit s
  let s := match s.pwr.nextClass with | some c => pwSet s F_SCH_PWR_STATUS_CLASS c | none => s
  let s := match s.pwr.nextLimit with | some w => setFld s R_SCH_PWR_LIMIT F_SCH_PWR_LIMIT_LIMIT_W w | none => s
  let changed := s.pwr.nextClass.isSome || s.pwr.nextLimit.isSome
  let l := effLimit (pwClass s) (pwStage s) (fld s R_SCH_PWR_LIMIT F_SCH_PWR_LIMIT_LIMIT_W)
  let s := setFld s R_SCH_PWR_LIMIT F_SCH_PWR_LIMIT_EFFECTIVE_W l
  let zero := changed && decide (l < old)
  let s := { s with pwr := { s.pwr with nextClass := none, nextLimit := none } }
  let s := if zero then excursionZero s else s
  let gs := grantsOf s
  let s := { s with pwr := { s.pwr with grants := gs } }
  gs.foldl (fun s g => if dieKind g.1 = .shale then s else budgetOut s 2 g.1 g.2 0 0) s

/-- The meaning of GRANT_COMPUTE. -/
def execGrantCompute (s : State) : Host.Outcome State Fault Refusal := .next (grantCompute s)

/-- Set ISSUE_PER_16 of all frames of a Gabbro. -/
def rateSet (s : State) (d r : Nat) : State := (List.range 8).foldl (fun s f => setFld s (R_GAB_FRM_RATE d f) F_GAB_FRM_RATE_ISSUE_PER_16 r) s
/-- ISSUE_PER_16 of a Gabbro. -/
def rateNow (s : State) (d : Nat) : Nat := fld s (R_GAB_FRM_RATE d 0) F_GAB_FRM_RATE_ISSUE_PER_16
/-- A lower ISSUE_PER_16: it stands in GAB_FRM_RATE at once and acts from the next aligned window of 16 cycles (17:R401). (Open points: assumption 65, DEDUCED.) -/
def rateLower (s : State) (d r : Nat) : State :=
  let w := s.cyc / 16
  let was := match tabFind s.pwr.rateWas d with
    | some x => if x.1 = w then x.2 else rateNow s d
    | none => rateNow s d
  rateSet { s with pwr := { s.pwr with target := tabDel s.pwr.target d, rateWas := tabPut s.pwr.rateWas d (w, was) } } d r
/-- The ISSUE_PER_16 that enforces a grant. -/
def rateFor (s : State) (d grant : Nat) : Nat :=
  if grant = 0 then 1 else Nat.max 1 (Nat.min 16 (Config.issueFor grant (regGet s (R_PWR_DEMAND d)).toNat))

/-- GRANT_RECEIVE: a die takes the grant computed for it; a Gabbro's rate falls in one step and rises step by step. (Open points: assumption 65, DEDUCED.) -/
def grantReceive (s : State) (d : Nat) : State :=
  match tabFind s.pwr.grants d with
  | none => s
  | some g =>
    if !(dieRunning s d) || decide (dieKind d = .shale) then s
    else
      let s := { s with pwr := { s.pwr with grants := tabDel s.pwr.grants d } }
      let s := setFld (regSet s (R_PWR_GRANT d) (BitVec.ofNat 32 g)) (R_PWR_STATE d) F_PWR_STATE_FALLBACK 0
      let s := if flag s (R_PWR_STATE d) F_PWR_STATE_SENSORS_FAILED then fallback s d else s
      if dieKind d = .gabbro then
        let r := rateFor s d (regGet s (R_PWR_GRANT d)).toNat
        if r < rateNow s d then rateLower s d r
        else { s with pwr := { s.pwr with target := tabPut s.pwr.target d r } }
      else s

/-- The meaning of GRANT_RECEIVE. -/
def execGrantReceive (die : Fin 64) (s : State) : Host.Outcome State Fault Refusal := .next (grantReceive s die)

/-- The meaning of BUDGET_FALLBACK: no valid GRANT for 100 µs. -/
def execBudgetFallback (die : Fin 64) (s : State) : Host.Outcome State Fault Refusal :=
  .next (if dieRunning s die && decide (dieKind die ≠ .shale) then fallback s die else s)

/-- RATE_STEP_UP: one step toward the rate that the grant allows. (Open points: assumption 65, DEDUCED.) -/
def rateStepUp (s : State) (d : Nat) : State :=
  match tabFind s.pwr.target d with
  | some r => if rateNow s d < r then rateSet s d (rateNow s d + 1) else s
  | none => s
/-- The meaning of RATE_STEP_UP. -/
def execRateStepUp (g : Fin 16) (s : State) : Host.Outcome State Fault Refusal := .next (rateStepUp s (gabDie g))

/-- The meaning of DROOP_EVENT: for 1 µs the Gabbro issues on no more than 8 of every 16 cycles. -/
def execDroopEvent (g : Fin 16) (s : State) : Host.Outcome State Fault Refusal :=
  .next (count { s with pwr := { s.pwr with droop := tabPut s.pwr.droop g (s.cyc + 1050) } } (R_GAB_PWR_DROOP (gabDie g)) 1)

/-! ### Input power (17:R405). -/

/-- POWER_SAMPLE: one microsecond's input power in W and voltage in 10 mV. (Open points: assumption 66, DEDUCED.) -/
def powerSample (s : State) (w volt : Nat) : State :=
  let p := s.pwr
  let l := pwLimit s
  let a := 10 * allowance s
  let isPeak := decide (peakLimit s < 1000 * w)
  let s := if isPeak && !p.peak then raise (count s R_SCH_PWR_PEAK_HIT_CNT 1) R_SCH_PWR_ERR F_SCH_PWR_ERR_PEAK_HIT else s
  let sum := p.sum + w
  let num := p.num + 1
  let s := setFld s R_SCH_PWR_INPUT F_SCH_PWR_INPUT_VOLT volt
  let s := if num = 1000 then setFld s R_SCH_PWR_INPUT F_SCH_PWR_INPUT_INPUT_W (sum / 1000) else s
  let sum10 := p.sum10 + w
  let num10 := p.num10 + 1
  let excess := if isPeak then (1000 * w - limitNow s) / 1000 else if num10 = 10 then (100 * sum10 - limitNow s) / 1000 else p.excess
  let used := if l < w then Nat.min a (p.used + 10) else p.used - 1
  let s := { s with pwr := { p with used := used, lowering := p.lowering && decide (l < w), sum := if num = 1000 then 0 else sum, num := num % 1000,
                                    sum10 := if num10 = 10 then 0 else sum10, num10 := num10 % 10, excess := excess, peak := isPeak } }
  let s := setFld s R_SCH_PWR_PEAK F_SCH_PWR_PEAK_USED_US (used / 10)
  let s := pwSet s F_SCH_PWR_STATUS_EXCURSION (b2n (decide (l < w) && decide (used < a)))
  if pwFld s F_SCH_PWR_STATUS_CLAMPED = 0 then
    if l < w ∧ a ≤ used then
      pwRecord (raise (count (pwSet s F_SCH_PWR_STATUS_CLAMPED 1) R_SCH_PWR_CLAMP_CNT 1) R_SCH_PWR_ERR F_SCH_PWR_ERR_CLAMP)
        (writerDie s) 0xB1
    else s
  else if used = 0 then pwSet s F_SCH_PWR_STATUS_CLAMPED 0 else s

/-- The meaning of POWER_SAMPLE. -/
def execPowerSample (watts volt : Half) (s : State) : Host.Outcome State Fault Refusal := .next (powerSample s watts.toNat volt.toNat)

/-! ### Wear (17:R406). -/

/-- The largest n below 2^b, added to `n`, whose 160th power does not pass a bound. -/
def root160 (bound : Nat) : Nat → Nat → Nat
  | 0, n => n
  | b + 1, n => root160 bound b (if (n + 2 ^ b) ^ 160 ≤ bound then n + 2 ^ b else n)
/-- Microseconds of wear that one second adds at a temperature: 1 s at or below 85 °C, 2^((T - 85) / 10) s above, cut to
whole microseconds. (Open points: assumption 66, DEDUCED.) -/
def wearOf (t : Int) : Nat :=
  if t ≤ 1360 then 1000000
  else
    let x := (t - 1360).toNat
    root160 (1000000 ^ 160 * 2 ^ x) (21 + x / 160) 0
/-- The hottest sensor of one die for its wear; a Shale's reaches the package in its Gabbro's report (17:R406, R407). (Open points: assumption 66, DEDUCED.) -/
def wearTemp (s : State) (d : Nat) : Int :=
  if dieKind d = .shale then tempOf (fld s (R_PWR_TEMP (d - 4)) F_PWR_TEMP_HOT_ATTACHED)
  else tempOf (fld s (R_PWR_TEMP d) F_PWR_TEMP_HOT)
/-- WEAR_UPDATE: a second passes on a die. -/
def wearUpdate (s : State) (d : Nat) : State :=
  let w := tabGet s.pwr.wear d 0 + wearOf (wearTemp s d)
  let s := { s with pwr := { s.pwr with wear := tabPut s.pwr.wear d w } }
  if dieKind d = .shale then s else regSet s (R_PWR_WEAR d) (BitVec.ofNat 32 (w / 3600000000))
/-- The meaning of WEAR_UPDATE. -/
def execWearUpdate (die : Fin 64) (s : State) : Host.Outcome State Fault Refusal := .next (wearUpdate s die)

/-- A in µs of the largest Gabbro wear. -/
def allowanceOf (s : State) : Nat :=
  let w := (List.range 16).foldl (fun m g => Nat.max m (tabGet s.pwr.wear (gabDie g) 0)) 0
  let h := 43800 * 3600000000
  if w ≤ h then 10000 else Nat.max 5000 (10000 - ceilDiv (5000 * (w - h)) h)
/-- ALLOWANCE_RECOMPUTE. -/
def allowanceSet (s : State) : State := setFld s R_SCH_PWR_PEAK F_SCH_PWR_PEAK_ALLOW_US (allowanceOf s)
/-- The meaning of ALLOWANCE_RECOMPUTE. -/
def execAllowanceRecompute (s : State) : Host.Outcome State Fault Refusal := .next (allowanceSet s)

/-! ### Thermal limits (17:R407-R409). -/

/-- THERMAL_CAP_STEP: the cap falls a step above the throttle point, and rises one at or below the release point. -/
def capStep (s : State) (d : Nat) : State :=
  if dieKind d = .shale then s
  else
    let st := R_PWR_STATE d
    let n := fld s st F_PWR_STATE_CAP_STEP
    if hotter s d 1600 1520 then
      let s := setFld (setFld s st F_PWR_STATE_CAP_STEP (Nat.min 12 (n + 1))) st F_PWR_STATE_THROTTLE 1
      if n = 0 then raise s R_SCH_PWR_ERR F_SCH_PWR_ERR_DIE_THROTTLE else s
    else
      let s := setFld s st F_PWR_STATE_THROTTLE 0
      if hotter s d 1520 1440 then s else setFld s st F_PWR_STATE_CAP_STEP (n - 1)
/-- The meaning of THERMAL_CAP_STEP. -/
def execThermalCapStep (die : Fin 64) (s : State) : Host.Outcome State Fault Refusal := .next (capStep s die)

/-- Whether an inlet reading is valid. -/
def inletOk (x : Nat) : Bool := decide (-320 ≤ tempOf x) && decide (tempOf x ≤ 1600)
/-- Whether a flow reading is valid. -/
def flowOk (x : Nat) : Bool := decide (x ≤ 3000)
/-- The inlet value: the higher of the valid readings, none if there is none. -/
def inletOf (a b : Nat) : Option Int :=
  match inletOk a, inletOk b with
  | true, true => some (max (tempOf a) (tempOf b))
  | true, false => some (tempOf a)
  | false, true => some (tempOf b)
  | false, false => none
/-- The flow value: the lower of the valid readings. -/
def flowOf (a b : Nat) : Option Nat :=
  match flowOk a, flowOk b with
  | true, true => some (Nat.min a b)
  | true, false => some a
  | false, true => some b
  | false, false => none

/-- A sensor's register field takes a reading; one that has just failed is flagged and recorded. (Open points: assumption 66, DEDUCED.) -/
def sensorSet (s : State) (k : Nat) (f : Fld) (x bad : Nat) (ok : Bool) : State :=
  let was := fld s k f
  let s := setFld s k f (if ok then x else bad)
  if ok || was == bad then s else pwRecord (raise s R_SCH_PWR_ERR F_SCH_PWR_ERR_SENSOR_FAULT) (writerDie s) 0xB3

/-- Whether a pair of sensors holds the stage: from the failure of both until one has read valid for 1 s. -/
def pairHold (was : Bool) (a b : Nat) : Bool := if a = 0 ∧ b = 0 then true else was && decide (a < 11) && decide (b < 11)

/-- STAGE rises by one. -/
def stageDown (s : State) : State :=
  let s := pwSet s F_SCH_PWR_STATUS_STAGE (pwStage s + 1)
  pwRecord (raise (count s R_SCH_PWR_STAGE_DOWN_CNT 1) R_SCH_PWR_ERR F_SCH_PWR_ERR_STAGE_DOWN) (writerDie s) 0xB2

/-- COOLANT_EVAL: readings of the two inlet and two flow sensors. (Open points: assumption 66, DEDUCED.) -/
def coolantEval (s : State) (ia ib fa fb : Nat) : State :=
  let s := sensorSet s R_SCH_COOL_INLET F_SCH_COOL_INLET_INLET_A ia 0x8000 (inletOk ia)
  let s := sensorSet s R_SCH_COOL_INLET F_SCH_COOL_INLET_INLET_B ib 0x8000 (inletOk ib)
  let s := sensorSet s R_SCH_COOL_FLOW F_SCH_COOL_FLOW_FLOW_A fa 0xFFFF (flowOk fa)
  let s := sensorSet s R_SCH_COOL_FLOW F_SCH_COOL_FLOW_FLOW_B fb 0xFFFF (flowOk fb)
  let run (i : Nat) (ok : Bool) := if ok then Nat.min 11 (s.pwr.valid.getD i 0 + 1) else 0
  let v := [run 0 (inletOk ia), run 1 (inletOk ib), run 2 (flowOk fa), run 3 (flowOk fb)]
  let hi := pairHold s.pwr.holdInlet (v.getD 0 0) (v.getD 1 0)
  let hf := pairHold s.pwr.holdFlow (v.getD 2 0) (v.getD 3 0)
  let t := inletOf ia ib
  let q := flowOf fa fb
  let hot := match t with | some x => decide (720 < x) | none => false
  let dry := match q with | some x => decide (x < 600) | none => false
  let cool := match t with | some x => decide (x ≤ 688) | none => false
  let wet := match q with | some x => decide (630 ≤ x) | none => false
  let s := { s with pwr := { s.pwr with valid := v, holdInlet := hi, holdFlow := hf } }
  let s := pwSet s F_SCH_PWR_STATUS_COOL_FALLBACK (b2n (hi || hf))
  let low := if hi || hf then 6 else 0
  let s := if (hot || dry) && decide (pwStage s < 12) then stageDown s else s
  let n := if cool && wet then (match s.pwr.clear with | some k => some (k + 1) | none => some 0) else none
  let s := if n = some 10 then pwSet s F_SCH_PWR_STATUS_STAGE (pwStage s - 1) else s
  let s := { s with pwr := { s.pwr with clear := if n = some 10 then some 0 else n } }
  if pwStage s < low then pwSet s F_SCH_PWR_STATUS_STAGE low else s

/-- The meaning of COOLANT_EVAL. -/
def execCoolantEval (inletA inletB flowA flowB : Half) (s : State) : Host.Outcome State Fault Refusal :=
  .next (coolantEval s inletA.toNat inletB.toNat flowA.toNat flowB.toNat)

/-! ### The reference and the root (17:R396, R397). -/

/-- The meaning of REF_LOSS. (Open points: assumption 76, DEDUCED.) -/
def execRefLoss (s : State) : Host.Outcome State Fault Refusal :=
  .next (pwRecord (raise (pwSet s F_SCH_PWR_STATUS_REF_HOLDOVER 1) R_SCH_PWR_ERR F_SCH_PWR_ERR_REF_LOST) (writerDie s) 0xB5)
/-- The meaning of REF_FREERUN: the reference is still absent after 1 s. (Open points: assumption 76, DEDUCED.) -/
def execRefFreerun (s : State) : Host.Outcome State Fault Refusal :=
  .next (if pwFld s F_SCH_PWR_STATUS_REF_HOLDOVER = 1 then pwSet s F_SCH_PWR_STATUS_REF_FREERUN 1 else s)
/-- Ownership of the root passes to the next locked RUNNING Schist. (Open points: assumption 76, DEDUCED.) -/
def rootTakeover (s : State) : State :=
  let o := pwFld s F_SCH_PWR_STATUS_ROOT_OWNER
  match ([1, 2, 3].map fun i => (o + i) % 4).find? fun q => bitOf (pwFld s F_SCH_PWR_STATUS_PLL_LOCKED) q && dieRunning s (schDie q) with
  | none => s
  | some q =>
    pwRecord (raise (regInc (pwSet s F_SCH_PWR_STATUS_ROOT_OWNER q) R_SCH_CLK_TAKEOVER 1) R_SCH_PWR_ERR F_SCH_PWR_ERR_TAKEOVER)
      (schDie q) 0xB0

/-- The meaning of ROOT_TAKEOVER: the owner's PLL loses lock, or its output fails while the PLL stays locked. (Open points: assumption 76, DEDUCED.) -/
def execRootTakeover (lostLock : Bool) (s : State) : Host.Outcome State Fault Refusal :=
  let o := pwFld s F_SCH_PWR_STATUS_ROOT_OWNER
  let m := pwFld s F_SCH_PWR_STATUS_PLL_LOCKED
  .next (rootTakeover (if lostLock then pwSet s F_SCH_PWR_STATUS_PLL_LOCKED (ofBits ((setBits 4 m).filter (· ≠ o))) else s))

/-! ### Commands (17:R412, R413). -/

/-- The hottest die: the highest of what the dies report. (Open points: assumption 66, DEDUCED.) -/
def hottest (s : State) : Int :=
  (List.range 64).foldl (fun m d => if dieKind d = .shale then m else max m (hotOf s d)) (tempOf (fld s (R_PWR_TEMP 0) F_PWR_TEMP_HOT))

/-- PWR_STATUS. -/
def cmdPwrStatus : CmdFn := fun _ s =>
  let inA := fld s R_SCH_COOL_INLET F_SCH_COOL_INLET_INLET_A
  let inB := fld s R_SCH_COOL_INLET F_SCH_COOL_INLET_INLET_B
  let flA := fld s R_SCH_COOL_FLOW F_SCH_COOL_FLOW_FLOW_A
  let flB := fld s R_SCH_COOL_FLOW F_SCH_COOL_FLOW_FLOW_B
  okay s (leBytes 4 (fld s R_SCH_PWR_INPUT F_SCH_PWR_INPUT_INPUT_W) ++ leBytes 2 (fld s R_SCH_PWR_INPUT F_SCH_PWR_INPUT_VOLT)
    ++ [BitVec.ofNat 8 (pwClass s), BitVec.ofNat 8 (pwStage s)] ++ leBytes 2 (pwLimit s)
    ++ leBytes 2 (allowance s - fld s R_SCH_PWR_PEAK F_SCH_PWR_PEAK_USED_US)
    ++ leBytes 2 (match inletOf inA inB with | some t => codeOf 16 t | none => 0x8000)
    ++ leBytes 2 (match flowOf flA flB with | some q => q | none => 0xFFFF)
    ++ [BitVec.ofNat 8 (bitsOf (regGet s R_SCH_PWR_STATUS).toNat 6 4), BitVec.ofNat 8 (pwFld s F_SCH_PWR_STATUS_ROOT_OWNER)]
    ++ leBytes 2 (codeOf 16 (hottest s)))

/-- The meaning of PWR_STATUS. -/
def execPwrStatus (src : Src) (s : State) : Host.Outcome State Fault Refusal := .next (runCmd 0x0A01 src [] cmdPwrStatus s)

/-- PWR_CLASS of the latched straps (18:R417). -/
def strapClass (s : State) : Nat := bitsOf (regGet s R_SCH_STRAP).toNat 3 2

/-- PWR_CLASS_SET. -/
def cmdPwrClassSet (cls : Byte) : CmdFn := fun _ s =>
  refuseIf (decide (3 < cls.toNat)) 0x0102 s
  <| refuseIf (decide (cls.toNat < strapClass s)) 0x0A01 s
  <| okay { s with pwr := { s.pwr with nextClass := some cls.toNat } } []

/-- The meaning of PWR_CLASS_SET. -/
def execPwrClassSet (src : Src) (cls : Byte) (s : State) : Host.Outcome State Fault Refusal :=
  .next (runCmd 0x0A02 src (parBytes [(0, 1, cls.toNat)]) (cmdPwrClassSet cls) s)

/-- PWR_LIMIT_SET: DATA gives the L that it leads to. (Open points: assumption 65, DEDUCED.) -/
def cmdPwrLimitSet (watts : Half) : CmdFn := fun _ s =>
  let w := watts.toNat
  let c := s.pwr.nextClass.getD (pwClass s)
  refuseIf (decide (1 ≤ w) && decide (w ≤ 2999)) 0x0102 s
  <| refuseIf (decide (classLimit c < w)) 0x0A01 s
  <| okay { s with pwr := { s.pwr with nextLimit := some w } } (leBytes 2 (effLimit c (pwStage s) w))

/-- The meaning of PWR_LIMIT_SET. -/
def execPwrLimitSet (src : Src) (watts : Half) (s : State) : Host.Outcome State Fault Refusal :=
  .next (runCmd 0x0A03 src (parBytes [(0, 2, watts.toNat)]) (cmdPwrLimitSet watts) s)

end Sys2Proof.Machine
end

