-- ==== Sys2Proof/Machine/Seams.lean ====
section
/-! DEFINITION. Seams (14:R314-R323): training, replays, lanes marked failing, swaps to spares, narrowing, the forwarded
clock, and the fence of a seam. A seam is named by the die that receives and its seam number. -/
namespace Sys2Proof.Machine

/-- Set a field of _SEAM_STATUS. -/
def seamSet (s : State) (d q : Nat) (f : Fld) (v : Nat) : State := setFld s (R_SEAM_STATUS d q) f v
/-- STATE of a seam's end: 0 TRAINING, 1 UP, 2 NARROW, 3 FENCED. -/
def seamState (s : State) (d q : Nat) : Nat := fld s (R_SEAM_STATUS d q) F_SEAM_STATUS_STATE
/-- Die and seam number of the other end; the end itself where the die has no such seam. -/
def seamEnd (d q : Nat) : Nat × Nat :=
  match seamPeer d q, seamFar d q with
  | some p, some j => (p, j)
  | _, _ => (d, q)
/-- Whether a die has a seam. -/
def seamExists (d q : Nat) : Bool := decide (q < (seamPeers d).length)
/-- Set a field of _SEAM_STATUS at both ends. -/
def seamBoth (s : State) (d q : Nat) (f : Fld) (v : Nat) : State :=
  seamSet (seamSet s d q f v) (seamEnd d q).1 (seamEnd d q).2 f v
/-- Raise a flag of _SEAM_ERR. -/
def seamErr (s : State) (d q : Nat) (f : Fld) : State := raise s (R_SEAM_ERR d q) f
/-- The record of a seam event (14:R323; 19:R441). (Open points: assumption 59, DEDUCED.) -/
def seamRecord (s : State) (d q : Nat) : State := strataEvent s d (0xE0 + q) 0 q 0

/-- Data lanes marked failing and not replaced. -/
def seamPend (s : State) (d q : Nat) : Nat := (ctrGet s (R_SEAM_PEND d q)).toNat
/-- Set the marks. -/
def seamPendSet (s : State) (d q m : Nat) : State := ctrSet s (R_SEAM_PEND d q) (BitVec.ofNat 64 m)
/-- Mark a lane. -/
def seamMark (s : State) (d q lane : Nat) : State := seamPendSet s d q (seamPend s d q ||| 2 ^ lane)
/-- Clear the mark of a lane. -/
def seamUnmark (s : State) (d q lane : Nat) : State := seamPendSet s d q (ofBits ((setBits 64 (seamPend s d q)).filter (· ≠ lane)))

/-- Whether spare k of a direction is in use. -/
def spareUsed (s : State) (d q k : Nat) : Bool := bitOf (regGet s (R_SEAM_MAP d q)).toNat (8 * k + 6)
/-- The lane that spare k carries. -/
def spareLane (s : State) (d q k : Nat) : Nat := bitsOf (regGet s (R_SEAM_MAP d q)).toNat (8 * k) 6
/-- Spares of a direction in use. -/
def sparesOf (s : State) (d q : Nat) : Nat := ((List.range 4).filter (spareUsed s d q)).length
/-- Spares of a direction that failed its last training or since: they are left unused (14:R317, R318). -/
def spareFailed (s : State) (d q : Nat) : Nat := tabGet s.spareBad (d * 16 + q) 0
/-- The lowest free spare that passes. (Open points: assumption 62, DEDUCED.) -/
def spareFree (s : State) (d q : Nat) : Option Nat :=
  (List.range 4).find? fun k => !(spareUsed s d q k) && !(bitOf (spareFailed s d q) k)
/-- Whether a lane lies in the half that a narrow seam uses. -/
def inHalf (s : State) (d q lane : Nat) : Bool := lane / 32 == fld s (R_SEAM_STATUS d q) F_SEAM_STATUS_HALF
/-- A spare of a narrow seam that serves a lane of the half not in use (14:R321). -/
def spareIdle (s : State) (d q : Nat) : Option Nat :=
  (List.range 4).find? fun k => spareUsed s d q k && !(inHalf s d q (spareLane s d q k))
/-- SPARES_USED at both ends: the worse direction. -/
def sparesShow (s : State) (d q : Nat) : State :=
  seamBoth s d q F_SEAM_STATUS_SPARES_USED (Nat.max (sparesOf s d q) (sparesOf s (seamEnd d q).1 (seamEnd d q).2))
/-- Byte k of a spare map: LANE, USED and FIELD of spare k (14:R340). -/
def mapByte (m k : Nat) : Nat := bitsOf m (8 * k) 8
/-- Whether a byte of a spare map says that its spare replaces a lane. -/
def byteFor (b lane : Nat) : Bool := bitOf b 6 && b % 64 == lane
/-- Set byte k of the spare map in force. -/
def spareByteSet (s : State) (d q k b : Nat) : State := setFld s (R_SEAM_MAP d q) ⟨8 * k, 8⟩ b
/-- The field replacements of a direction that flash holds (14:R318). -/
def flashMap (s : State) (d q : Nat) : Nat := tabGet s.seamFlash (d * 16 + q) 0
/-- Write byte k of a direction's field replacements; no other spare replaces its lane any more. -/
def flashPut (s : State) (d q k b : Nat) : State :=
  let m := flashMap s d q
  let byte (j : Nat) : Nat := if j = k then b else if bitOf b 6 && byteFor (mapByte m j) (b % 64) then 0 else mapByte m j
  { s with seamFlash := tabPutZ s.seamFlash (d * 16 + q) (byte 0 + 256 * byte 1 + 65536 * byte 2 + 16777216 * byte 3) }
/-- Spare k carries a lane from now on: a field replacement, kept in flash (14:R318). -/
def sparePut (s : State) (d q k lane : Nat) : State :=
  let s := flashPut (spareByteSet s d q k (lane + 192)) d q k (lane + 192)
  sparesShow (seamUnmark s d q lane) d q
/-- A spare that fails while the seam runs is left unused, and replaces no lane in the field any more (14:R317). (Open points:
assumption 62, DEDUCED.) -/
def spareFails (s : State) (d q lane : Nat) : State :=
  (List.range 4).foldl (fun s k =>
    if spareUsed s d q k && spareLane s d q k == lane then
      let s := { s with spareBad := tabPut s.spareBad (d * 16 + q) (spareFailed s d q ||| 2 ^ k) }
      flashPut (spareByteSet s d q k 0) d q k 0
    else s) s
/-- The fused and the field replacements of a direction, merged at a start: a lane replaced in the field keeps that
replacement, and a spare that serves in the field has no fused lane (14:R317, R318). (Open points: assumption 62, DEDUCED.) -/
def mapMerged (s : State) (d q : Nat) : Nat :=
  let f := flashMap s d q
  let z := (Config.seamMap d q).toNat
  let byte (k : Nat) : Nat :=
    if bitOf (mapByte f k) 6 then mapByte f k
    else if (List.range 4).any fun j => byteFor (mapByte f j) (mapByte z k % 64) then 0
    else mapByte z k
  byte 0 + 256 * byte 1 + 65536 * byte 2 + 16777216 * byte 3

/-- A seam is FENCED at one end; a seam fenced already stays as it is. -/
def endFence (s : State) (d q : Nat) : State :=
  if seamState s d q = 3 then s
  else seamRecord (seamErr (seamSet s d q F_SEAM_STATUS_STATE 3) d q F_SEAM_ERR_FENCED) d q
/-- A seam is FENCED; both its dies keep running (14:R321, R322). -/
def seamFence (s : State) (d q : Nat) : State :=
  let e := seamEnd d q
  let s := endFence s d q
  if seamState s e.1 e.2 = 3 then s else seamErr (seamSet s e.1 e.2 F_SEAM_STATUS_STATE 3) e.1 e.2 F_SEAM_ERR_FENCED

/-- A lane finds no spare: the seam narrows to the half without a marked lane in either direction, or is FENCED. (Open points: assumption 62, DEDUCED.) -/
def seamNarrow (s : State) (d q : Nat) : State :=
  let e := seamEnd d q
  let bad := seamPend s d q ||| seamPend s e.1 e.2
  let half := if bad % 2 ^ 32 = 0 then some 0 else if bad / 2 ^ 32 = 0 then some 1 else none
  match half with
  | none => seamFence s d q
  | some h =>
    let s := seamBoth (seamBoth s d q F_SEAM_STATUS_STATE 2) d q F_SEAM_STATUS_HALF h
    seamRecord (seamErr (seamErr s d q F_SEAM_ERR_NARROWED) e.1 e.2 F_SEAM_ERR_NARROWED) d q

/-- Swap a marked lane, with the record of a swap (14:R319-R321, R323); the spare that carried it has failed. -/
def laneSwap (s : State) (d q lane : Nat) : State :=
  if seamState s d q = 3 ∨ (seamState s d q = 2 ∧ inHalf s d q lane = false) then s
  else
    let s := spareFails s d q lane
    let narrow := seamState s d q == 2
    match if narrow then (spareFree s d q).or (spareIdle s d q) else spareFree s d q with
    | some k => seamRecord (sparePut s d q k lane) d q
    | none => if narrow then seamFence s d q else seamNarrow s d q

/-- Swap every marked lane of a direction. -/
def seamSwaps (s : State) (d q : Nat) : State :=
  let s := (setBits 64 (seamPend s d q)).foldl (fun s lane => laneSwap s d q lane) s
  seamSet s d q F_SEAM_STATUS_SWAP_PENDING 0
/-- The swaps that wait for a boundary (14:R319). (Open points: assumption 62, DEDUCED.) -/
def pendingSwaps (s : State) : State :=
  (List.range 64).foldl (fun s d => (List.range (seamPeers d).length).foldl (fun s q =>
    if flag s (R_SEAM_STATUS d q) F_SEAM_STATUS_SWAP_PENDING then seamSwaps s d q else s) s) s

/-- Whether a data lane of a direction has a spare that works in its place. (Open points: assumption 62, DEDUCED.) -/
def laneHeld (s : State) (d q lane : Nat) : Bool :=
  (List.range 4).any fun k => spareUsed s d q k && spareLane s d q k == lane && !(bitOf (spareFailed s d q) k)

/-- The data lanes of one direction that lack a working carrier at a training: a lane that fails without a spare, and one
whose spare fails. -/
def lanesBare (s : State) (d q : Nat) (lanes : List Nat) : List Nat :=
  (List.range 64).filter fun l =>
    (lanes.contains l || (List.range 4).any fun k => spareUsed s d q k && spareLane s d q k == l) && !(laneHeld s d q l)

/-- A spare that fails at a start carries nothing in it; its replacement stays fused or in flash, for a later start. (Open points: assumption 62, DEDUCED.) -/
def spareDrop (s : State) (d q k : Nat) : State :=
  if bitOf (spareFailed s d q) k then spareByteSet s d q k 0 else s

/-- One direction at a training (14:R318): the fused and field replacements are applied, each data lane without a working carrier
takes the lowest free spare that passes, and a lane that finds none stays marked. `lanes` are the data lanes that fail,
and 64-67 the spares. (Open points: assumption 59, DEDUCED; assumption 62, DEDUCED.) -/
def trainLanes (s : State) (d q : Nat) (lanes : List Nat) : State :=
  let s := { s with spareBad := tabPutZ s.spareBad (d * 16 + q) (ofBits ((List.range 4).filter fun k => lanes.contains (64 + k))) }
  let s := regSet s (R_SEAM_MAP d q) (BitVec.ofNat 32 (mapMerged s d q))
  let bare := lanesBare s d q lanes
  let s := (List.range 4).foldl (fun s k => spareDrop s d q k) (seamPendSet s d q 0)
  bare.foldl (fun s lane =>
    match spareFree s d q with
    | some k => sparePut s d q k lane
    | none => seamMark s d q lane) s

/-- Failed forwarded-clock lanes of a direction. -/
def clkFailed (s : State) (d q : Nat) : Nat := tabGet s.clkBad (d * 16 + q) 0

/-- The clock lanes of one direction at a training (14:R318, R322): K1 serves where K0 fails. (Open points: assumption 62, DEDUCED.) -/
def trainClk (s : State) (d q : Nat) (lanes : List Nat) : State :=
  let bad := ofBits ((List.range 2).filter fun k => lanes.contains (68 + k))
  let s := { s with clkBad := tabPutZ s.clkBad (d * 16 + q) bad }
  seamSet s d q F_SEAM_STATUS_CLK_LANE (if bad % 2 = 1 then 1 else 0)

/-- A seam trains at a start or a rejoin; `lanes` lists the lanes that fail, by receiving die and seam. (Open points: assumption 62, DEDUCED.) -/
def seamTrain (s : State) (d q : Nat) (lanes : List (Fin 64 × Fin 16 × Fin 70)) : State :=
  let e := seamEnd d q
  let bad (x j : Nat) : List Nat := (lanes.filter fun l => l.1.val == x && l.2.1.val == j).map fun l => l.2.2.val
  let s := regSet (regSet s (R_SEAM_STATUS d q) 0) (R_SEAM_STATUS e.1 e.2) 0
  let s := seamSet (seamSet s d q F_SEAM_STATUS_PEER e.1) e.1 e.2 F_SEAM_STATUS_PEER d
  let s := seamSet (seamSet s d q F_SEAM_STATUS_PEER_SEAM e.2) e.1 e.2 F_SEAM_STATUS_PEER_SEAM q
  let s := seamBoth s d q F_SEAM_STATUS_STATE 1
  let s := trainClk (trainClk s d q (bad d q)) e.1 e.2 (bad e.1 e.2)
  let s := sparesShow (trainLanes (trainLanes s d q (bad d q)) e.1 e.2 (bad e.1 e.2)) d q
  if clkFailed s d q = 3 then seamFence s d q
  else if clkFailed s e.1 e.2 = 3 then seamFence s e.1 e.2
  else if seamPend s d q = 0 ∧ seamPend s e.1 e.2 = 0 then s
  else if seamPend s d q = 0 then seamNarrow s e.1 e.2
  else seamNarrow s d q

/-- SEAM_FLIT_NAK: a receiver sees line-code errors and has flits replayed; nothing that is delivered changes (14:R314,
R319). -/
def seamNak (s : State) (d q flits errs : Nat) : State :=
  if seamExists d q && seamState s d q != 3 then
    count (count s (R_SEAM_LANE_ERR d q) errs) (R_SEAM_REPLAY (seamEnd d q).1 (seamEnd d q).2) flits
  else s
/-- The meaning of SEAM_FLIT_NAK. -/
def execSeamFlitNak (die : Fin 64) (seam : Fin 16) (flits errs : Nat) (s : State) : Host.Outcome State Fault Refusal :=
  .next (seamNak s die seam flits errs)

/-- SEAM_LANE_FAILING: a data lane shows more than 16 errors in 1 ms. -/
def laneFailing (s : State) (d q lane errs : Nat) : State :=
  if seamExists d q && (seamState s d q == 1 || seamState s d q == 2) && decide (16 < errs) then
    let s := count s (R_SEAM_LANE_ERR d q) errs
    seamErr (seamSet (seamMark s d q lane) d q F_SEAM_STATUS_SWAP_PENDING 1) d q F_SEAM_ERR_LANE_FAILING
  else s
/-- The meaning of SEAM_LANE_FAILING. -/
def execSeamLaneFailing (die : Fin 64) (seam : Fin 16) (lane : Fin 64) (errs : Nat) (s : State) : Host.Outcome State Fault Refusal :=
  .next (laneFailing s die seam lane errs)

end Sys2Proof.Machine
end

