-- ==== Sys2Proof/Machine/Fence.lean ====
section
/-! DEFINITION. Die isolation (14:R328-R335, R338; 15:R351; 20:R462): the fence of a die with its effects, DIE_RESET and
DIE_REJOIN, and the seam events that may fence. -/
namespace Sys2Proof.Machine

/-! ### What a fence cuts (14:R330, R331). -/

/-- A command that a fence stops ends with PATH_FENCED and marks the step failed (14:R331, R333). -/
def fenceEnds (s : State) (t : Taken) : State := finish { s with stepFailed := true } t (.done 0x0105 [])

/-- Barriers at a fenced home: a hart has an access fault, a command fails. (Open points: assumption 47, DEDUCED.) -/
def barriersCut (s : State) (d : Nat) : State :=
  let due := s.coh.bars.filter fun b => b.home == d
  due.foldl (fun s b =>
    let s := match b.hart with | some h => emit s (.hartFault h .load) | none => s
    match s.cmds.taken.find? fun t => t.wait == .barrier b.id with
    | some t => fenceEnds s t
    | none => s) { s with coh := { s.coh with bars := s.coh.bars.filter fun b => b.home != d } }

/-- Transfers, rings and updates that a fence cuts fail. -/
def fenceCuts (s : State) : State := ringPump (ringFenced (xferFenced s))

/-- Every Gneiss drops its lines homed at a fenced die; each dirty one is counted, and the directory is gone. (Open points: assumption 60, DEDUCED.) -/
def linesCut (s : State) (d : Nat) : State :=
  let at_ (line : Nat) : Bool := homeDie s (line * 128) == some d
  let s := s.coh.cache.foldl (fun s e =>
    let c := e.1 / 2199023255552
    if at_ (e.1 % 2199023255552) && e.2.st == CState.m && dieRunning s (gnsDie c) then count s (R_DIE_FENCE_DROP (gnsDie c)) 1 else s) s
  { s with coh := { s.coh with
      cache := tabDelIf s.coh.cache fun k => at_ (k % 2199023255552),
      lv := tabDelIf s.coh.lv fun k => at_ (k % 2199023255552),
      dir := tabDelIf s.coh.dir at_ } }

/-- A fenced Gneiss leaves every directory entry; a line it owned is UNCACHED and counted. Its caches are lost. (Open points: assumption 60, DEDUCED.) -/
def gneissCut (s : State) (c : Nat) : State :=
  let s := s.coh.dir.foldl (fun s e =>
    match e.2.owner with
    | some o =>
      if o = c then
        match homeDie s (e.1 * 128) with
        | some h => dirDel (count s (dirReg h R_GAB_DIR_DROP R_FLT_DIR_DROP) 1) e.1
        | none => dirDel s e.1
      else s
    | none =>
      let m := ofBits ((setBits 8 e.2.mask).filter (· ≠ c))
      let e' : DirEnt := { e.2 with mask := m, fwd := if e.2.fwd = some c then none else e.2.fwd }
      if m = 0 then dirDel s e.1
      else { s with coh := { s.coh with dir := tabPut s.coh.dir e.1 e' } }) s
  { s with coh := { s.coh with
      cache := tabDelIf s.coh.cache fun k => k / 2199023255552 == c,
      lv := tabDelIf s.coh.lv fun k => k / 2199023255552 == c,
      pred := tabDelIf s.coh.pred fun k => k / 512 / 8 == c,
      amoAt := tabDelIf s.coh.amoAt fun k => k / 2199023255552 / 8 == c } }

/-! ### The kinds (14:R332; 15:R351). -/

/-- A fenced Gabbro: its window ends, its pending runs are discarded, frames and stores are lost, no image is loaded. (Open points: assumption 60, DEDUCED.) -/
def gabbroCut (s : State) (g : Nat) : State :=
  let s := abortWindow s g 0x0105
  let ids := (s.runs.filter fun r => runWaits r g).map Run.id
  let s := ids.foldl (fun s i => runDiscard s i 0x0105) s
  let due := s.cmds.taken.filter fun t => t.wait == .shale g || (match t.wait with | .wellArm h _ => h == g | _ => false)
  let s := due.foldl fenceEnds s
  let s := loseFrameStores s g
  { s with
    scheds := tabDel s.scheds g, frames := tabDelIf s.frames fun k => k / 8 == g,
    credits := s.credits.filter (fun c => c.dest != g), xfers := s.xfers.filter (fun x => x.dest != g && x.source != gabDie g) }

/-- A fenced Feldspar: its ports go DOWN, and its queue pairs and its memory-region table are gone; with Q0.L0 the PCIe link goes. (Open points: assumption 60, DEDUCED.) -/
def feldsparCut (s : State) (d : Nat) : State :=
  let ports := (List.range 6).map (6 * fldOrd d + ·)
  let s := ports.foldl (fun s p =>
    if portUp s p then portDown s p none
    else if 1 ≤ portState s p ∧ portState s p ≤ 3 then trainFail s p else s) s
  let s := { s with ports := tabDelIf s.ports fun p => ports.contains p,
                    io := { s.io with qps := tabDelIf s.io.qps (fun k => ports.contains (k / 1024)), mrs := tabDelIf s.io.mrs fun k => k / 256 == fldOrd d } }
  if d = 10 then
    let s := pcieAnswer (pcieDown s)
    { s with io := { s.io with maxGen := 6, width := 16 } }
  else s

/-- Whether a fence of the Schist that serves its queue interrupts a taken command. -/
def Wait.interpreted : Wait → Bool
  | .step _ _ _ => true
  | .warm _ => true
  | .rejoin _ => true
  | .state _ _ => true
  | _ => false

/-- Whether the update engine runs a taken command: the Schist that serves queue 0 (20:R458). -/
def Wait.engine : Wait → Bool
  | .fwNow _ => true
  | .fwStep => true
  | .fwCommit => true
  | .fwTurn _ => true
  | _ => false

/-- Whether a Schist is interpreting a taken command. (Open points: assumption 70, DEDUCED; assumption 60, DEDUCED.) -/
def interpreting (s : State) (d : Nat) (t : Taken) : Bool :=
  (t.wait.interpreted && tSchist s t == d) || (t.wait.engine && writerDie s == d)

/-- A rejoin fails: the die stays FENCED. -/
def rejoinFail (s : State) (d : Nat) : State :=
  let set (s : State) (x : Nat) : State :=
    setFld (setFld s (R_SCH_DIE_STATE x) F_SCH_DIE_STATE_STATE 1) (R_SCH_DIE_STATE x) F_SCH_DIE_STATE_LAST_STATUS 0x0106
  if dieKind d = .gabbro then set (set s d) (d + 4) else set s d

/-- A command that a fenced Schist was interpreting ends. (Open points: assumption 60, DEDUCED.) -/
def interrupt (s : State) (t : Taken) : State :=
  match t.wait with
  | .fwNow _ => fwActFail s t 0x0107
  | .fwStep => fwActFail s t 0x0107
  | .fwCommit => fwFinish s t (.done 0x0107 [])
  | .fwTurn _ => fwFinish s t (.done 0x0107 [])
  | .rejoin d => finish (rejoinFail s d) t (.done 0x0107 [])
  | _ => finish s t (.done 0x0107 [])

/-- A fenced Schist: commands it was interpreting are answered by its successor; a root owner passes the root on. (Open points: assumption 60, DEDUCED.) -/
def schistCut (s : State) (d : Nat) (ids : List Nat) : State :=
  let s := ids.foldl (fun s i => match s.cmds.taken.find? (·.id == i) with | some t => interrupt s t | none => s) s
  let q := d / 16
  let s := pwSet s F_SCH_PWR_STATUS_PLL_LOCKED (ofBits ((setBits 4 (pwFld s F_SCH_PWR_STATUS_PLL_LOCKED)).filter (· ≠ q)))
  if pwFld s F_SCH_PWR_STATUS_ROOT_OWNER = q then rootTakeover s else s

/-! ### Registers of a die held in reset (18:R429, R430). -/

/-- Registers that a reset of a die leaves, or that its rejoin restores: fuses and floor, spare maps, wear, thermal cap,
region table and spare rows, recipes, coefficients, epochs, port settings; the ring slots' registers; and what Schists mirror. (Open points: assumption 60, DEDUCED.) -/
def dieKeeps (k : Nat) : Bool :=
  let d := regDie k
  let o := regOff k
  if 0x1000 ≤ o ∧ o < 0x1010 then true
  else if o = 0x110C ∨ o = 0x1110 then true
  else if 0x2000 ≤ o ∧ o < 0x2400 ∧ o % 0x40 = 4 ∧ dieKind d ≠ .shale then true
  else match dieKind d with
    | .shale => decide (0x100 ≤ o) && decide (o < 0x140) || o == 0x48
    | .flint => o == 0x7001C || decide (0x71000 ≤ o)
    | .feldspar =>
      decide (0x60000 ≤ o) && decide (o < 0x60F00) || decide (0x80010 ≤ o) && decide (o < 0x80060) ||
        (decide (0x90000 ≤ o) && decide (o < 0x90600) && (o % 0x100 == 0 || o % 0x100 == 4 || (decide (0x20 ≤ o % 0x100) && decide (o % 0x100 < 0x2C))))
    | .schist => decide (0x3000 ≤ o)
    | _ => false

/-- A die's other registers return to their reset values; SPARE_MAX is loaded with all remaps in force (08:R187), and a Shale's
scrub pass and copies in progress are given up with their registers. (Open points: assumption 60, DEDUCED; assumption 43, DEDUCED.) -/
def dieRevert (s : State) (d : Nat) : State :=
  let gone (k : Nat) : Bool := decide (regAt d 0 ≤ k) && decide (k < regAt (d + 1) 0) && !(dieKeeps k)
  let max := fld s (R_SHL_STATUS d) F_SHL_STATUS_SPARE_MAX
  let s := { s with regs := tabDelIf s.regs gone, ctrs := tabDelIf s.ctrs gone, latch := tabDelIf s.latch gone }
  let st := R_PWR_STATE d
  if dieKind d = .shale then
    let mine (row : Nat) : Bool := decide (regionBelow 0 row = .shale (shlOrd d))
    setFld { s with shl := { s.shl with
        hot := tabDel s.shl.hot d, scrub := tabDel s.shl.scrub d, copies := s.shl.copies.filter (fun r => !(mine r)), hist := tabDelIf s.shl.hist mine } }
      (R_SHL_STATUS d) F_SHL_STATUS_SPARE_MAX max
  else setFld (setFld s st F_PWR_STATE_FALLBACK 0) st F_PWR_STATE_SENSORS_FAILED 0

/-! ### The fence (14:R328-R333). -/

/-- The die that a trigger names: a Shale is fenced with its Gabbro. -/
def fenceLead (d : Nat) : Nat := if dieKind d = .shale then d - 4 else d
/-- The dies fenced together. -/
def fencePair (d : Nat) : List Nat := if dieKind d = .gabbro then [d, d + 4] else [d]
/-- The record of a trigger. (Open points: assumption 59, DEDUCED.) -/
def fenceRecord (s : State) (d cause : Nat) : State := strataEvent s d 0xF0 0 cause 0

/-- SCH_DIE_STATE of a die that is fenced for a cause. -/
def fenceState (s : State) (cause d : Nat) : State :=
  let r := R_SCH_DIE_STATE d
  setFld (setFld (setFld s r F_SCH_DIE_STATE_STATE 1) r F_SCH_DIE_STATE_CAUSE cause) r F_SCH_DIE_STATE_FENCE_CNT
    (fld s r F_SCH_DIE_STATE_FENCE_CNT + 1)

/-- Fence a die that is RUNNING or REJOINING. (Open points: assumption 59, DEDUCED.) -/
def fenceOne (s : State) (d cause : Nat) : State :=
  let ids := if dieKind d = .schist then
      (s.cmds.taken.filter (interpreting s d)).map Taken.id
    else []
  let s := match s.cmds.taken.find? fun t => t.wait == .rejoin d with
    | some t => finish (rejoinFail s d) t (.done 0x0106 [])
    | none => s
  let s := (fencePair d).foldl (fun s x => fenceState s cause x) s
  let s := (List.range (seamPeers d).length).foldl (fun s q =>
    let e := seamEnd d q
    if dieRunning s e.1 then endFence s e.1 e.2 else s) s
  let s := barriersCut (linesCut s d) d
  let s := match dieKind d with
    | .gabbro => gabbroCut s (gabOrd d)
    | .gneiss => gneissCut s (2 * (d / 16) + d % 16 - 8)
    | .feldspar => feldsparCut s d
    | .schist => schistCut s d ids
    | _ => s
  let s := fenceCuts s
  let s := fenceRecord s d cause
  let s := fwSettle ((fencePair d).foldl (fun s x => fwReadySet s x false) s)
  let s := budgetOut { s with pwr := { s.pwr with grants := tabDel s.pwr.grants d, target := tabDel s.pwr.target d } } 3 d 0 0 0
  (fencePair d).foldl dieRevert s

/-- Whether every seam of a RUNNING die is FENCED. -/
def isolated (s : State) (d : Nat) : Bool :=
  dieRunning s d && decide (dieKind d ≠ .shale) && (List.range (seamPeers d).length).all fun q => seamState s d q == 3

/-- Dies whose every seam is FENCED are fenced in turn, for cause 6 (the fuel bounds their number). -/
def fenceMore : Nat → State → State
  | 0, s => s
  | n + 1, s =>
    match (List.range 64).find? (isolated s) with
    | some d => fenceMore n (fenceOne s d 6)
    | none => s

/-- A trigger fences a die; a die already FENCED is only recorded. -/
def dieFence (s : State) (x cause : Nat) : State :=
  let d := fenceLead x
  if dieState s d = 4 then s
  else if dieState s d = 1 ∨ dieState s d = 2 then fenceRecord s x cause
  else fenceMore 64 (fenceOne s d cause)

/-- DIE_FENCE: a trigger of 14:R328 other than a command. (Open points: assumption 61, DEDUCED.) -/
def fenceTrigger (s : State) (d cause : Nat) : State :=
  if cause = 3 ∨ cause = 4 then dieFence s d cause
  else if (cause = 2 ∨ cause = 5) ∧ dieKind d ≠ .shale then dieFence s d cause
  else if cause = 6 ∧ isolated s d = true then dieFence s d 6
  else s
/-- The meaning of DIE_FENCE. -/
def execDieFence (die : Fin 64) (cause : Fin 7) (ups : List Before) (s : State) : Host.Outcome State Fault Refusal :=
  .next (fenceTrigger (upsets s ups) die cause)

/-- The meaning of BUDGET_MESSAGE_TIMEOUT: no budget message from a die for 100 µs. -/
def execBudgetMessageTimeout (die : Fin 64) (s : State) : Host.Outcome State Fault Refusal := .next (fenceTrigger s die 5)

/-! ### Seam events that may fence (14:R320-R322). -/

/-- After a seam may have been fenced: what needs it fails, and a die without seams is fenced. -/
def seamAfter (s : State) : State := fenceMore 64 (fenceCuts s)

/-- Swap one marked lane at once; the others wait for their boundary (14:R319, R320). -/
def urgentLane (s : State) (d q lane : Nat) : State :=
  let s := laneSwap s d q lane
  if seamPend s d q = 0 then seamSet s d q F_SEAM_STATUS_SWAP_PENDING 0 else s

/-- SEAM_URGENT_SWAP: a marked lane loses lock (`lane`), or the seam's replays exceed their limit and every marked lane is
swapped. (Open points: assumption 62, DEDUCED.) -/
def seamUrgent (s : State) (d q : Nat) (lane : Option Nat) : State :=
  if seamExists d q && (seamState s d q == 1 || seamState s d q == 2) then
    match lane with
    | none => seamAfter (seamSwaps (seamErr s d q F_SEAM_ERR_SWAP_URGENT) d q)
    | some l =>
      if bitOf (seamPend s d q) l then seamAfter (urgentLane (seamErr s d q F_SEAM_ERR_SWAP_URGENT) d q l) else s
  else s
/-- The meaning of SEAM_URGENT_SWAP. -/
def execSeamUrgentSwap (die : Fin 64) (seam : Fin 16) (lane : Option (Fin 64)) (s : State) : Host.Outcome State Fault Refusal :=
  .next (seamUrgent s die seam (lane.map Fin.val))

/-- The die that a seam joins to its quadrant's Schist, seen from either end. -/
def schistSeam (d q : Nat) : Option Nat :=
  if dieKind d = .schist then some (seamEnd d q).1
  else if dieKind (seamEnd d q).1 = .schist then some d else none

/-- SEAM_CLOCK_SWITCH: the clock lane in use fails, or both do; with both gone the seam is FENCED, and a die that loses
them on its Schist seam is fenced. (Open points: assumption 62, DEDUCED.) -/
def clockSwitch (s : State) (d q : Nat) (both : Bool) : State :=
  if seamExists d q && (seamState s d q == 1 || seamState s d q == 2) then
    let use := fld s (R_SEAM_STATUS d q) F_SEAM_STATUS_CLK_LANE
    let bad := clkFailed s d q ||| (if both then 3 else 2 ^ use)
    let s := { s with clkBad := tabPut s.clkBad (d * 16 + q) bad }
    if bad = 3 then
      let s := seamFence s d q
      match schistSeam d q with
      | some x => dieFence (fenceCuts s) x 2
      | none => seamAfter s
    else seamErr (seamSet s d q F_SEAM_STATUS_CLK_LANE (1 - use)) d q F_SEAM_ERR_CLOCK_SWITCH
  else s
/-- The meaning of SEAM_CLOCK_SWITCH. -/
def execSeamClockSwitch (die : Fin 64) (seam : Fin 16) (both : Bool) (s : State) : Host.Outcome State Fault Refusal :=
  .next (clockSwitch s die seam both)

/-- Dies whose Schist seam came out of a training without a forwarded clock are fenced (14:R322, R328). (Open points: assumption 62, DEDUCED.) -/
def clocklessFence (s : State) : State :=
  (s.clkBad.filter fun e => e.2 == 3).foldl (fun s e =>
    match schistSeam (e.1 / 16) (e.1 % 16) with
    | some x => dieFence s x 2
    | none => s) s

/-! ### Commands (14:R333-R335, R338). -/

/-- Whether a die is the last RUNNING Schist. (Open points: assumption 61, DEDUCED.) -/
def lastSchist (s : State) (d : Nat) : Bool :=
  dieKind d == .schist && dieRunning s d && (List.range 4).all fun q => schDie q == d || !(dieRunning s (schDie q))

/-- DIE_RESET; a Schist that resets itself leaves the reply to its successor (15:R351). (Open points: assumption 61, DEDUCED.) -/
def cmdDieReset (die : Byte) : CmdFn := fun t s =>
  let d := die.toNat
  refuseIf (decide (64 ≤ d) || dieKind d == .shale || lastSchist s d) 0x0102 s
  <| let own := tSchist s t == d
     let s := dieFence s d 1
     if own then (s, some (.done 0x0107 [])) else okay s []
/-- The meaning of DIE_RESET. -/
def execDieReset (src : Src) (die : Byte) (s : State) : Host.Outcome State Fault Refusal :=
  .next (runCmd 0x0120 src (parBytes [(0, 1, die.toNat)]) (cmdDieReset die) s)

/-- DIE_REJOIN. -/
def cmdDieRejoin (die : Byte) : CmdFn := fun t s =>
  let d := die.toNat
  refuseIf (decide (64 ≤ d) || dieKind d == .shale || dieState s d != 1) 0x0102 s
  <| (defer ((fencePair d).foldl (fun s x => setFld s (R_SCH_DIE_STATE x) F_SCH_DIE_STATE_STATE 3) s) t (.rejoin d), none)
/-- The meaning of DIE_REJOIN. -/
def execDieRejoin (src : Src) (die : Byte) (s : State) : Host.Outcome State Fault Refusal :=
  .next (runCmd 0x0121 src (parBytes [(0, 1, die.toNat)]) (cmdDieRejoin die) s)

/-- The seams of a die that comes back: one to a RUNNING die trains, another stays FENCED. (Open points: assumption 61, DEDUCED.) -/
def rejoinSeams (s : State) (d : Nat) (lanes : List (Fin 64 × Fin 16 × Fin 70)) : State :=
  (List.range (seamPeers d).length).foldl (fun s q =>
    if dieRunning s (seamEnd d q).1 then seamTrain s d q lanes else seamSet s d q F_SEAM_STATUS_STATE 3) s

/-- What comes back with a die (14:R335). -/
def rejoinKind (s : State) (d : Nat) : State :=
  match dieKind d with
  | .gabbro => armEntries s (gabOrd d) 65535
  | .flint => updDrop s fun _ => true
  | .feldspar =>
    let ports := (List.range 6).map (6 * fldOrd d + ·)
    let s := (List.range 8).foldl (fun s k =>
      match (slotGet s k).cfg with
      | some c => if (rcPorts c.record).any fun p => ports.contains p.1 then slotFree s k else s
      | none => s) s
    ports.foldl trainStart s
  | .schist => pwSet s F_SCH_PWR_STATUS_PLL_LOCKED (pwFld s F_SCH_PWR_STATUS_PLL_LOCKED ||| 2 ^ (d / 16))
  | _ => s

/-- The first budget grant of a die that comes back (14:R334): what 17:R400 gives it now. (Open points: assumption 61, DEDUCED.) -/
def firstGrant (s : State) (d : Nat) : State :=
  let g := tabGet (grantsOf s) d 0
  budgetOut { s with pwr := { s.pwr with grants := tabPut s.pwr.grants d g } } 2 d g 0 0

/-- DIE_REJOIN_COMPLETE: a rejoining die reaches RUNNING, or a step fails or the time runs out. -/
def rejoinDone (s : State) (d : Nat) (ok : Bool) (lanes : List (Fin 64 × Fin 16 × Fin 70)) : State :=
  match s.cmds.taken.find? fun t => t.wait == .rejoin d with
  | none => s
  | some t =>
    if ok then
      let set (s : State) (x : Nat) : State :=
        setFld (setFld s (R_SCH_DIE_STATE x) F_SCH_DIE_STATE_STATE 0) (R_SCH_DIE_STATE x) F_SCH_DIE_STATE_LAST_STATUS 0
      let s := firstGrant (rejoinKind (rejoinSeams ((fencePair d).foldl set s) d lanes) d) d
      let s := fenceMore 64 (clocklessFence ((fencePair d).foldl fwPreload s))
      if dieRunning s d then finish s t (.ok []) else s
    else finish (rejoinFail s d) t (.done 0x0106 [])
/-- The meaning of DIE_REJOIN_COMPLETE. -/
def execDieRejoinComplete (die : Fin 64) (ok : Bool) (lanes : List (Fin 64 × Fin 16 × Fin 70)) (s : State) :
    Host.Outcome State Fault Refusal :=
  .next (rejoinDone s die ok lanes)

end Sys2Proof.Machine
end

