-- ==== Sys2Proof/Machine/Health.lean ====
section
/-! DEFINITION. Training health and replay (16_training_health_replay.md): the health sample with the loss-spike detector
and the watch scan, HEALTH_CFG, and REPLAY_CFG. -/
namespace Sys2Proof.Machine

/-! ### The health sample (16:R375-R383). -/

/-- Change the health state. -/
def hltMod (s : State) (f : Health → Health) : State := { s with hlt := f s.hlt }
/-- A field of SCH_HLT_CFG. -/
def hltFld (s : State) (f : Fld) : Nat := fld s R_SCH_HLT_CFG f
/-- Set it. -/
def hltSet (s : State) (f : Fld) (v : Nat) : State := setFld s R_SCH_HLT_CFG f v
/-- E, as a word. -/
def hltMean (s : State) (w : Word) : State := hltSet (regSet s R_SCH_HLT_MEAN w) F_SCH_HLT_CFG_E_DEFINED 1

/-- A waiting HEALTH_CFG takes effect (16:R384). (Open points: assumption 37, DEDUCED.) -/
def hltApply (s : State) (p : HltPend) : State :=
  let was := hltFld s F_SCH_HLT_CFG_LOSS_EN
  let s := hltSet (hltSet s F_SCH_HLT_CFG_NF_EVT_EN (bitsOf p.flags 0 1)) F_SCH_HLT_CFG_LOSS_EN (bitsOf p.flags 1 1)
  let s := if bitOf p.flags 3 then
      hltMod (regSet (regSet s R_SCH_HLT_RATIO p.ratio) R_SCH_HLT_ALPHA p.alpha) fun h => { h with lossAddr := p.lossAddr, warmup := p.warmup }
    else s
  let s := if was = 0 ∧ bitOf p.flags 1 = true then hltSet s F_SCH_HLT_CFG_E_DEFINED 0 else s
  let s := if bitOf p.flags 2 then hltMod (hltMean s p.meanInit) fun h => { h with warmLeft := h.warmup } else s
  if bitOf p.flags 4 then
    let s := hltMod (hltSet s F_SCH_HLT_CFG_SILENT_THR p.silentThr) fun h => { h with watch := p.watch }
    (List.range 256).foldl (fun s n => regSet s (R_SCH_HLT_WATCH n)
      (if n < p.watch.length then fldSet 0 F_SCH_HLT_WATCH_CONFIGURED 1 else 0)) s
  else s

/-- The counters of each group, with their dies (16:R376). -/
def hltGroups : List (Nat × List (Nat × Nat)) :=
  let frames (r : Nat → Nat → Nat) : List (Nat × Nat) :=
    (List.range 128).map fun i => (gabDie (i / 8), r (gabDie (i / 8)) (i % 8))
  [(R_SCH_HLT_NF_BEAM, frames R_GAB_BEAM_NF_IN ++ frames R_GAB_BEAM_NF_ACC ++ frames R_GAB_BEAM_NF_OUT),
   (R_SCH_HLT_NF_GARNET, frames R_GAB_GNT_NF),
   (R_SCH_HLT_NF_RING, (List.range 8).map fun l => (fldDie l, R_FLD_RING_NF (fldDie l))),
   (R_SCH_HLT_NF_UPD_IN, (List.range 12).map fun m => (fltDie m, R_FLT_UPD_NF_IN (fltDie m))),
   (R_SCH_HLT_NF_UPD_OUT, (List.range 12).map fun m => (fltDie m, R_FLT_UPD_NF_OUT (fltDie m)))]

/-- The delta of one counter, and the reading kept. -/
def hltDelta (s : State) (d k : Nat) : State × Nat :=
  if dieFenced s d then (s, 0)
  else
    let now := (ctrGet s k).toNat
    let old := tabGet s.hlt.prev k 0
    if now = old then (s, 0)
    else (hltMod s fun h => { h with prev := tabPut h.prev k now }, if old ≤ now then now - old else now)

/-- The group deltas; the answer says whether one is not zero. -/
def hltNonFinite (s : State) : State × Bool :=
  hltGroups.foldl (fun (a : State × Bool) g =>
    let r := g.2.foldl (fun (b : State × Nat) c => let x := hltDelta b.1 c.1 c.2; (x.1, b.2 + x.2)) (a.1, 0)
    (ctrSet r.1 g.1 (BitVec.ofNat 64 r.2), a.2 || r.2 != 0)) (s, false)

/-- A health record of the sampling Schist. -/
def hltRecord (s : State) (unit ctx aux : Nat) : State := strataEvent s (writerDie s) unit 0 ctx aux
/-- The agent that samples. -/
def hltAgent (s : State) : Agent := ⟨2, writerDie s⟩

/-- The sample sets a flag of SCH_HLT_ERR. -/
def hltErr (s : State) (f : Fld) : State := hltMod (raise s R_SCH_HLT_ERR f) fun h => { h with set_ := h.set_ ||| 2 ^ f.lo }

/-- E after a loss (16:R379). -/
def hltNext (e alpha l : Word) : Word :=
  fp32Of (valAdd (fp32Val e) (valMul (fp32Val alpha) (valAdd (fp32Val l) (valNeg (fp32Val e)))))
/-- A spike. -/
def hltSpike (s : State) : State :=
  hltRecord (hltErr (count s R_SCH_HLT_SPIKES 1) F_SCH_HLT_ERR_SPIKE) 0xA1 0 0
/-- The first row of 16:R378 that a loss meets. (Open points: assumption 63, DEDUCED.) -/
def hltJudge (s : State) (l : Word) : State :=
  let e := regGet s R_SCH_HLT_MEAN
  let next := hltMean s (hltNext e (regGet s R_SCH_HLT_ALPHA) l)
  if l = 0xFFFFFFFF#32 then hltErr (count s R_SCH_HLT_MISSING 1) F_SCH_HLT_ERR_MISSING
  else if fp32NonFinite l then hltSpike s
  else if hltFld s F_SCH_HLT_CFG_E_DEFINED = 0 then hltMod (hltMean s l) fun h => { h with warmLeft := h.warmup }
  else if s.hlt.warmLeft ≠ 0 then hltMod next fun h => { h with warmLeft := h.warmLeft - 1 }
  else if valLt (.fin false 0 0) (fp32Val e) && valLt (valMul (fp32Val (regGet s R_SCH_HLT_RATIO)) (fp32Val e)) (fp32Val l) then hltSpike s
  else next
/-- The loss detector. (Open points: assumption 63, DEDUCED.) -/
def hltLoss (s : State) : State :=
  let a := s.hlt.lossAddr
  if hltFld s F_SCH_HLT_CFG_LOSS_EN = 0 || !(homeUp s (writerDie s) a) then s
  else
    let r := ncRead s (hltAgent s) a 4
    let l := BitVec.ofNat 32 (leNat r.2.1)
    let s := hltJudge (regSet r.1 R_SCH_HLT_LOSS l) l
    (postWrite s (writerDie s) (hltAgent s) a (List.replicate 4 0xFF#8)).1

/-- Whether WELL entries of a Shale cover a range of offsets (the fuel is the number of entries). -/
def wellCovers (s : State) (g : Nat) : Nat → Nat → Nat → Bool
  | 0, lo, hi => decide (hi ≤ lo)
  | n + 1, lo, hi =>
    if hi ≤ lo then true
    else match (List.range 16).find? fun i =>
        let w := regGet s (R_SHL_RGN (shlDie g) i)
        decide ((wellSpan w).1 ≤ lo) && decide (lo < (wellSpan w).2) with
      | some i => wellCovers s g n (wellSpan (regGet s (R_SHL_RGN (shlDie g) i))).2 hi
      | none => false

/-- One watch entry at a sample (16:R382, R383). (Open points: assumption 63, DEDUCED.) -/
def hltWatchOne (s : State) (n : Nat) (w : Watch) : State :=
  let r := R_SCH_HLT_WATCH n
  let hi := w.addr + 1024 * w.lines
  let ok := match regionBelow 0 w.addr with
    | .shale g => !(dieFenced s (shlDie g)) && wellCovers s g 17 (w.addr - shaleBase g) (hi - shaleBase g)
    | _ => false
  let s := if !ok then hltErr (setFld s r F_SCH_HLT_WATCH_INVALID 1) F_SCH_HLT_ERR_WATCH_INVALID
    else if s.tags.any fun e => decide (w.addr ≤ e.1) && decide (e.1 < hi) && e.2.nz then
      setFld (setFld s r F_SCH_HLT_WATCH_RUN 0) r F_SCH_HLT_WATCH_ALARM 0
    else setFld s r F_SCH_HLT_WATCH_RUN (Nat.min 1048575 (fld s r F_SCH_HLT_WATCH_RUN + 1))
  let thr := hltFld s F_SCH_HLT_CFG_SILENT_THR
  if thr ≠ 0 ∧ thr ≤ fld s r F_SCH_HLT_WATCH_RUN ∧ fld s r F_SCH_HLT_WATCH_ALARM = 0 then
    hltRecord (hltErr (setFld s r F_SCH_HLT_WATCH_ALARM 1) F_SCH_HLT_ERR_SILENT) 0xA2 (n + 65536 * w.tensor) n
  else s

/-- The health sample of a step that ends. (Open points: assumption 63, DEDUCED.) -/
def healthSample (s : State) : State :=
  let s := s.hlt.pend.foldl hltApply s
  let s := ctrSet (hltMod s fun h => { h with pend := [], set_ := 0 }) R_SCH_HLT_STEP s.step
  let r := hltNonFinite s
  let s := if r.2 then
      let s := hltErr (count r.1 R_SCH_HLT_NF_STEPS 1) F_SCH_HLT_ERR_NONFINITE
      if hltFld s F_SCH_HLT_CFG_NF_EVT_EN = 1 then hltRecord s 0xA0 0 0 else s
    else r.1
  (indexed s.hlt.watch).foldl (fun s e => hltWatchOne s e.1 e.2) (hltLoss s)

/-! ### HEALTH_CFG (16:R384). -/

/-- Read a watch table (the first number counts entries left, the second the entries read). -/
def watchRead (s : State) (t : Taken) (base : Nat) : Nat → Nat → List Watch → State × Option (List Watch)
  | 0, _, acc => (s, some acc.reverse)
  | k + 1, i, acc =>
    match cmdRead s t (base + 16 * i) 16 with
    | (s, none) => (s, none)
    | (s, some b) => watchRead s t base k (i + 1) (⟨fieldLE b 0 8, fieldLE b 8 4, fieldLE b 12 2⟩ :: acc)

/-- Whether a watch entry keeps 16:R382. -/
def watchOk (w : Watch) : Bool :=
  w.addr % 1024 == 0 && decide (1 ≤ w.lines) && decide (w.lines ≤ 16777216) &&
    match regionBelow 0 w.addr with
    | .shale g => decide (w.addr + 1024 * w.lines ≤ shaleBase (g + 1))
    | _ => false

/-- HEALTH_CFG. (Open points: assumption 30, DEDUCED.) -/
def cmdHealthCfg (flags : Byte) (silentThr : Half) (ratio : Word) (lossAddr : DWord) (alpha meanInit : Word) (warmup : Half)
    (watchAddr : DWord) (watchCount : Half) : CmdFn := fun t s =>
  let fl := flags.toNat
  let a := watchAddr.toNat
  let n := watchCount.toNat
  let la := lossAddr.toNat
  let one : Val := .fin false 1 0
  let zero : Val := .fin false 0 0
  refuseIf (decide (31 < fl)) 0x0102 s
  <| refuseIf (fp32NonFinite ratio || !(valLt one (fp32Val ratio)) || !(valLt zero (fp32Val alpha) && valLt (fp32Val alpha) one)) 0x0102 s
  <| refuseIf (bitOf fl 3 && (la % 4 != 0 || !((regionOf s la).isMem))) 0x0102 s
  <| refuseIf (bitOf fl 2 && fp32NonFinite meanInit) 0x0102 s
  <| refuseIf (decide (1000 < silentThr.toNat) || decide (256 < n)) 0x0102 s
  <| refuseIf (bitOf fl 4 && n != 0 && !(inOneRange a (16 * n))) 0x0102 s
  <| let add (s : State) (ws : List Watch) : State × Option Reply :=
       okay (hltMod s fun h => { h with pend := h.pend ++ [⟨fl, silentThr.toNat, ratio, la, alpha, meanInit, warmup.toNat, ws⟩] }) []
     if !(bitOf fl 4) || n == 0 then add s []
     else if !(cmdReach s t a (16 * n)) then (s, some (.done 0x0105 []))
     else match watchRead s t a n 0 [] with
       | (s, none) => (s, some (.done 0x0301 []))
       | (s, some ws) => refuseIf (!(ws.all watchOk)) 0x0102 s (add s ws)

/-- The meaning of HEALTH_CFG. -/
def execHealthCfg (src : Src) (flags : Byte) (silentThr : Half) (ratio : Word) (lossAddr : DWord) (alpha meanInit : Word)
    (warmup : Half) (watchAddr : DWord) (watchCount : Half) (s : State) : Host.Outcome State Fault Refusal :=
  .next (runCmd 0x0720 src (parBytes [(0, 1, flags.toNat), (2, 2, silentThr.toNat), (4, 4, ratio.toNat), (8, 8, lossAddr.toNat),
    (16, 4, alpha.toNat), (20, 4, meanInit.toNat), (24, 2, warmup.toNat), (32, 8, watchAddr.toNat), (40, 2, watchCount.toNat)])
    (cmdHealthCfg flags silentThr ratio lossAddr alpha meanInit warmup watchAddr watchCount) s)

/-! ### REPLAY_CFG (16:R385-R387, R390). -/

/-- DATA of a REPLAY_CFG reply: LOG_SEQ of the last record and the next write offset. -/
def rplData (s : State) : List Byte := leBytes 8 (ctrGet s R_SCH_RPL_SEQ).toNat ++ leBytes 8 (ctrGet s R_SCH_RPL_OFFSET).toNat

/-- Content of a START record. -/
def rplStartBytes (s : State) : List Byte :=
  leBytes 4 (fld s (R_DIE_ID 15) F_DIE_ID_FLOOR) ++ leBytes 4 0 ++ leBytes 8 s.step.toNat
    ++ (List.range 8).flatMap (fun k => leBytes 4 (recipe s k).toNat) ++ leBytes 8 s.rcp.seed.toNat ++ leBytes 4 s.rcp.gen.toNat
    ++ leBytes 4 (regGet s (R_FLT_UPD_COEF_GEN (fltDie 0))).toNat
    ++ (List.range 128).flatMap (fun i => leBytes 4 (regGet s (R_GAB_SCH_HASH (gabDie (i / 8)) (i % 8))).toNat)
    ++ (List.range 32).flatMap (fun i => leBytes 4 (regGet s (R_FLD_RING_DIGEST (i / 4) (i % 4))).toNat)
    ++ (List.range 1536).flatMap (fun i => leBytes 4 (regGet s (R_FLT_UPD_COEF (fltDie 0) (i / 24) (i % 24))).toNat)

/-- Whether a log region keeps 16:R385. -/
def rplRegionOk (base mib : Nat) : Bool :=
  base % 1048576 == 0 && decide (64 ≤ mib) && decide (mib ≤ 65536) && decide (base + mib * 1048576 ≤ 0x00C000000000) &&
    base / 0x003000000000 == (base + mib * 1048576 - 1) / 0x003000000000

/-- REPLAY_CFG START. (Open points: assumption 63, DEDUCED.) -/
def cmdReplayStart (flags : Byte) (base : DWord) (size : Word) : CmdFn := fun _ s =>
  refuseIf (decide (3 < flags.toNat) || rplRunning s || !(rplRegionOk base.toNat size.toNat)) 0x0102 s
  <| let st := fldSet (fldSet (fldSet 0 F_SCH_RPL_STATUS_RUNNING 1) F_SCH_RPL_STATUS_STOP_WHEN_FULL (bitsOf flags.toNat 0 1))
       F_SCH_RPL_STATUS_BEAD_DIGEST (bitsOf flags.toNat 1 1)
     let s := regSet (regSet (ctrSet s R_SCH_RPL_BASE base) R_SCH_RPL_SIZE size) R_SCH_RPL_STATUS st
     let s := ctrSet (ctrSet s R_SCH_RPL_OFFSET 0) R_SCH_RPL_SEQ 0
     let s := regSet (regSet (regSet s R_SCH_RPL_WRAPS 0) R_SCH_RPL_DROP 0) R_SCH_RPL_WR_DISCARD 0
     let s := rplWrite { s with rpl := { s.rpl with first := s.rpl.take, lost := 0, held := [] } } 0x01 (rplStartBytes s)
     okay s (rplData s)
/-- The meaning of REPLAY_CFG_START. -/
def execReplayCfgStart (src : Src) (flags : Byte) (base : DWord) (size : Word) (s : State) : Host.Outcome State Fault Refusal :=
  .next (runCmd 0x0710 src (parBytes [(1, 1, flags.toNat), (8, 8, base.toNat), (16, 4, size.toNat)]) (cmdReplayStart flags base size) s)

/-- REPLAY_CFG STOP. -/
def cmdReplayStop (flags : Byte) : CmdFn := fun _ s =>
  refuseIf (decide (3 < flags.toNat) || !(rplRunning s)) 0x0102 s
  <| let s := rplStop s 0
     okay s (rplData s)
/-- The meaning of REPLAY_CFG_STOP. -/
def execReplayCfgStop (src : Src) (flags : Byte) (s : State) : Host.Outcome State Fault Refusal :=
  .next (runCmd 0x0710 src (parBytes [(0, 1, 1), (1, 1, flags.toNat)]) (cmdReplayStop flags) s)

/-- REPLAY_CFG MARK. -/
def cmdReplayMark (flags : Byte) (user : List Byte) : CmdFn := fun _ s =>
  refuseIf (decide (3 < flags.toNat) || !(rplRunning s)) 0x0102 s
  <| let s := rplWrite s 0x07 (sliceZ user 0 32)
     okay s (rplData s)
/-- The meaning of REPLAY_CFG_MARK. -/
def execReplayCfgMark (src : Src) (flags : Byte) (user : List Byte) (s : State) : Host.Outcome State Fault Refusal :=
  .next (runCmd 0x0710 src (parBytes [(0, 1, 2), (1, 1, flags.toNat), (8, 32, fieldLE user 0 32)]) (cmdReplayMark flags user) s)

end Sys2Proof.Machine
end

