-- ==== Sys2Proof/Machine/Steps.lean ====
section
/-! DEFINITION. Recipe changes (03:R58), SCH_STEP in its three modes (06:R129, R149; 14:R319; 15:R364; 16:R375, R387), and
the activation point of firmware (20:R460, R461). -/
namespace Sys2Proof.Machine

/-! ### RCP_SET (03:R57, R58). -/

/-- A recipe change takes effect: selected words, the seed, and the generation; its RECIPE record follows. -/
def recipeApply (s : State) (c : Nat × Bool × List Word × DWord) : State :=
  let r := s.rcp
  let words := (indexed r.words).map fun p => if bitOf c.1 p.1 then c.2.2.1.getD p.1 p.2 else p.2
  let r : Recipes := { r with words := words, seed := if c.2.1 then c.2.2.2 else r.seed, gen := r.gen + 1 }
  rplWrite { s with rcp := r } 0x04 (leBytes 4 r.gen.toNat ++ leBytes 4 0 ++ words.flatMap (fun w => leBytes 4 w.toNat)
    ++ leBytes 8 r.seed.toNat)
/-- Accepted changes take effect, in the order they were accepted. (Open points: assumption 32, DEDUCED; assumption 31, DEDUCED.) -/
def recipesApply (s : State) : State :=
  s.rcp.staged.foldl recipeApply { s with rcp := { s.rcp with staged := [] } }

/-- RCP_SET. (Open points: assumption 31, DEDUCED.) -/
def cmdRcpSet (mask : Byte) (seedValid : Bool) (words : List Word) (seed : DWord) : CmdFn := fun _ s =>
  let m := mask.toNat
  refuseIf ((m == 0 && !seedValid) || (setBits 8 m).any fun k => !(rcpValid k (words.getD k 0))) 0x0102 s
  <| let gen := s.rcp.gen + BitVec.ofNat 32 (s.rcp.staged.length + 1)
     let s := { s with rcp := { s.rcp with staged := s.rcp.staged ++ [(m, seedValid, words, seed)] } }
     okay (if s.runs.isEmpty && !(anyWindow s) then recipesApply s else s) (leBytes 4 gen.toNat)
/-- The meaning of RCP_SET. -/
def execRcpSet (src : Src) (mask : Byte) (seedValid : Bool) (words : List Word) (seed : DWord) (s : State) :
    Host.Outcome State Fault Refusal :=
  .next (runCmd 0x0110 src (parBytes ([(0, 1, mask.toNat), (1, 1, b2n seedValid), (36, 8, seed.toNat)]
    ++ (List.range 8).map fun k => (4 + 4 * k, 4, (words.getD k 0).toNat))) (cmdRcpSet mask seedValid words seed) s)

/-! ### SCH_STEP (06:R129, R149). -/

/-- Whether a taken command waits as SCH_STEP does. -/
def Wait.isStep : Wait → Bool
  | .step _ _ _ => true
  | .warm _ => true
  | _ => false

/-- The STEP record of a step that completes (16:R387). (Open points: assumption 32, DEDUCED.) -/
def stepRecord (s : State) (mode : Nat) (before : DWord) (fw : Bool) : State :=
  rplWrite s 0x06 ([BitVec.ofNat 8 mode] ++ List.replicate 7 0#8 ++ leBytes 8 before.toNat ++ leBytes 8 s.step.toNat
    ++ [BitVec.ofNat 8 (b2n fw)] ++ List.replicate 7 0#8
    ++ (hltGroups.map Prod.fst).flatMap (fun k => leBytes 8 (ctrGet s k).toNat)
    ++ leBytes 4 (regGet s R_SCH_HLT_LOSS).toNat ++ leBytes 4 (regGet s R_SCH_HLT_MEAN).toNat
    ++ leBytes 4 (if mode = 0 then s.hlt.set_ else 0))

/-- The firmware that an ADVANCE activates, if any waits for it (20:R460); the answer says whether it was activated. (Open points: assumption 70, DEDUCED.) -/
def stepFirmware (s : State) (written : Bool) : State × Bool :=
  match s.cmds.taken.find? fun t => t.wait == .fwStep with
  | none => (s, false)
  | some t =>
    let s' := fwActivateNow s t written
    (s', fwState s' == 0)

/-- The hold of detached sessions that waits for an ADVANCE (15:R364). (Open points: assumption 31, DEDUCED.) -/
def stepHold (s : State) : State :=
  (List.range 8).foldl (fun s i =>
    if sesState s i = 2 ∧ (sesGet s i).armed = true then
      let s := sesSet s i { sesGet s i with armed := false }
      if flag s (R_SCH_SES_STATE i) F_SCH_SES_STATE_POLICY then raise s R_SCH_HOLD F_SCH_HOLD_HELD else s
    else s) s

/-- The step boundary of an ADVANCE. (Open points: assumption 32, DEDUCED.) -/
def stepAdvance (s : State) (written : Bool) : State :=
  let before := s.step
  let s := seamAfter (pendingSwaps (healthSample s))
  let s := recipesApply (armAll { s with step := s.step + 1, stepFailed := false })
  let r := stepFirmware s written
  stepHold (stepRecord r.1 0 before r.2)
/-- REPEAT. (Open points: assumption 32, DEDUCED.) -/
def stepRepeat (s : State) : State :=
  let s := armAll (seamAfter (pendingSwaps s))
  stepRecord { s with stepFailed := false } 1 s.step false
/-- SET. (Open points: assumption 32, DEDUCED.) -/
def stepSetTo (s : State) (n : Nat) : State :=
  let before := s.step
  let s := armAll (seamAfter (pendingSwaps s))
  stepRecord { s with step := BitVec.ofNat 64 n, stepFailed := false } 2 before false

/-- A SCH_STEP whose wait is met. (Open points: assumption 31, DEDUCED.) -/
def stepRun (s : State) (t : Taken) (mode n : Nat) (written : Bool) : State :=
  let done (s : State) : State := finish s t (.ok (leBytes 8 s.step.toNat))
  if mode = 0 then
    if n ≠ (s.step + 1).toNat then finish s t (.no 0x0102)
    else if s.stepFailed then finish s t (.no 0x020E)
    else done (stepAdvance s written)
  else if mode = 1 then done (stepRepeat s)
  else done (stepSetTo s n)

/-- The first command that waits as SCH_STEP does goes on, if its mode meets a test and its wait is met. -/
def stepGo (s : State) (p : Nat → Bool) (written : Bool) : State :=
  match s.cmds.taken.find? fun t => t.wait.isStep with
  | some t =>
    match t.wait with
    | .step mode n rs => if p mode && stepReady s rs then stepRun s t mode n written else s
    | _ => s
  | none => s

/-- SCH_STEP in mode ADVANCE or REPEAT: the command waits. (Open points: assumption 31, DEDUCED.) -/
def cmdSchStep (mode : Nat) (step : DWord) : CmdFn := fun t s => (defer s t (.step mode step.toNat (runIds s)), none)
/-- The meaning of SCH_STEP_ADVANCE. -/
def execSchStepAdvance (src : Src) (step : DWord) (s : State) : Host.Outcome State Fault Refusal :=
  .next (runCmd 0x0204 src (parBytes [(8, 8, step.toNat)]) (cmdSchStep 0 step) s)
/-- The meaning of SCH_STEP_REPEAT. -/
def execSchStepRepeat (src : Src) (step : DWord) (s : State) : Host.Outcome State Fault Refusal :=
  .next (runCmd 0x0204 src (parBytes [(0, 1, 1), (8, 8, step.toNat)]) (cmdSchStep 1 step) s)

/-- SCH_STEP in mode SET: at once, unless an earlier step, a ring command or an update keeps it waiting. (Open points: assumption 31, DEDUCED.) -/
def cmdSchStepSet (step : DWord) : CmdFn := fun t s =>
  refuseIf ((List.range 16).any (winOrPending s)) 0x020B s
  <| if stepReady s [] && !(s.cmds.taken.any fun u => u.wait.isStep) then
       let s := stepSetTo s step.toNat
       okay s (leBytes 8 s.step.toNat)
     else (defer s t (.step 2 step.toNat (runIds s)), none)
/-- The meaning of SCH_STEP_SET. -/
def execSchStepSet (src : Src) (step : DWord) (s : State) : Host.Outcome State Fault Refusal :=
  .next (runCmd 0x0204 src (parBytes [(0, 1, 2), (8, 8, step.toNat)]) (cmdSchStepSet step) s)

/-- The meaning of STEP_BOUNDARY: the first waiting step, if it is no REPEAT, completes or is refused. -/
def execStepBoundary (written : Bool) (s : State) : Host.Outcome State Fault Refusal := .next (stepGo s (fun m => m != 1) written)
/-- The meaning of STEP_REPEAT_DONE: the first waiting step, if it is no ADVANCE, completes. -/
def execStepRepeatDone (s : State) : Host.Outcome State Fault Refusal := .next (stepGo s (fun m => m != 0) true)

/-- FW_ACTIVATION: the point of an FW_ACTIVATE in mode NOW whose waits are met. (Open points: assumption 70, DEDUCED.) -/
def fwPoint (s : State) (written : Bool) : State :=
  match s.cmds.taken.find? fun t => match t.wait with | .fwNow rs => stepReady s rs | _ => false with
  | some t => fwActivateNow s t written
  | none => s
/-- The meaning of FW_ACTIVATION. -/
def execFwActivation (written : Bool) (s : State) : Host.Outcome State Fault Refusal := .next (fwPoint s written)

end Sys2Proof.Machine
end

