-- ==== Sys2Proof/Machine/Resets.lean ====
section
/-! DEFINITION. Resets, boot and power states (18_resets_states_straps.md; 14:R324-R327; 17:R396, R410; 19:R440, R445;
20:R453; 21:R474, R476, R483): what survives, the boot order with its firmware and safe-mode checks, warm reset, frame
reset, changes of power state, power faults, thermal trips. -/
namespace Sys2Proof.Machine

/-! ### What survives (18:R429, R430, R434). -/

/-- Registers kept by every reset: seam maps, wear, spare rows, counts in flash, firmware floors, live connector pins. (Open points: assumption 17, DEDUCED.) -/
def keptAlways (k : Nat) : Bool :=
  let o := regOff k
  match dieKind (regDie k) with
  | .shale => o == 0x48
  | .schist =>
    [0x1110, 0x8010, 0x8014, 0x8018, 0x9030, 0xA010, 0xA020, 0xB000].contains o || (decide (0x2000 ≤ o) && decide (o < 0x2400) && o % 0x40 == 4)
  | _ => o == 0x1110 || (decide (0x2000 ≤ o) && decide (o < 0x2400) && o % 0x40 == 4)

/-- Registers kept by a warm reset as well: sessions and their queues, straps, power and thermal state, the recorder. (Open points: assumption 17, DEDUCED.) -/
def keptWarm (k : Nat) : Bool :=
  let o := regOff k
  match dieKind (regDie k) with
  | .shale => false
  | .schist =>
    (decide (0x4800 ≤ o) && decide (o < 0x5000) && (o % 0x40 == 0x10 || o % 0x40 == 0x14 || o % 0x40 == 0x18)) ||
      (decide (0x5000 ≤ o) && decide (o < 0x5200) && (o % 0x40 == 0 || o % 0x40 == 4 || o % 0x40 == 8)) ||
      [0x110C, 0x7000, 0x7014, 0x8004, 0x9000, 0x9028].contains o || (decide (0x9100 ≤ o) && decide (o < 0x9200))
  | _ => o == 0x110C

/-- SCH_FW_STATUS after a reset: the security record; a package not activated is gone, and its set is not valid (20:R459). -/
def fwSurvives (s : State) : Word :=
  let w := regGet s R_SCH_FW_STATUS
  let w := fldSet (fldSet (fldSet w F_SCH_FW_STATUS_STATE 0) F_SCH_FW_STATUS_FALLBACK 0) F_SCH_FW_STATUS_ARM_MODE 0
  let w := fldSet w F_SCH_FW_STATUS_LAST_STATUS 0
  if 1 ≤ fwState s ∧ fwState s ≤ 3 then fldSet w (fwValidFld (1 - fwRun s)) 0 else w

/-- Queues and commands after a reset: packets and pod reports in progress are dropped. (Open points: assumption 17, DEDUCED; assumption 18, DEDUCED.) -/
def cmdsSurvive (c : Cmds) (warm : Bool) : Cmds :=
  if warm then { taken := [], last := [], nextSeq := tabDelIf c.nextSeq fun q => decide (q < 32), sesCmd := c.sesCmd, sesRpl := c.sesRpl, relay := [], unsent := [] }
  else ⟨[], [], [], [], [], [], []⟩

/-- Power state after a reset. -/
def pwrSurvives (p : Pwr) (kind : Nat) : Pwr :=
  let x := { Pwr.empty with supply := p.supply, wear := p.wear, trip := p.trip, input := p.input, minute := p.minute }
  if kind = 2 then { x with used := p.used, lowering := p.lowering, clear := p.clear, valid := p.valid, holdInlet := p.holdInlet, holdFlow := p.holdFlow } else x

/-- Memory after a reset: all lost by a cold power-on, else frame and beam stores. (Open points: assumption 17, DEDUCED.) -/
def memSurvives (s : State) (kind : Nat) : State :=
  if kind = 0 then
    let n := newId s
    { n.2 with mem := memLose n.2.mem 0 0x020000000000 n.1, ecc := [] }
  else (List.range 16).foldl loseFrameStores s

/-- The block as a reset leaves it before boot: kind 0 cold power-on, 1 module reset, 2 warm reset. (Open points: assumption 17, DEDUCED.) -/
def survive (s : State) (kind : Nat) : State :=
  let warm := kind == 2
  let safe := kind != 0 && safeMode s
  let st := s.strata
  let x : State := { State.reset with
    cyc := s.cyc
    regs := s.regs.filter fun e => keptAlways e.1 || (warm && keptWarm e.1)
    ctrs := s.ctrs.filter fun e => e.1 == R_SCH_STRATA_NEWEST || (warm && e.1 == R_SCH_STRATA_CURSOR)
    mem := s.mem
    ecc := s.ecc
    shl := { State.reset.shl with spares := s.shl.spares, remapped := s.shl.remapped }
    intlv := if kind = 0 then 0 else s.intlv
    cmds := cmdsSurvive s.cmds warm
    ses := if warm then s.ses else []
    half := if warm then s.half else []
    strata := if warm then st else { State.reset.strata with store := st.store, torn := st.torn }
    fw := { s.fw with pkg := [], rx := [] }
    pwr := pwrSurvives s.pwr kind
    brd := s.brd
    seamFlash := s.seamFlash
    prefixes := if warm then s.prefixes else []
    nextId := s.nextId
    free := s.free
    outs := s.outs
    pending := s.pending }
  let x := memSurvives x kind
  let x := secWrite (regSet x R_SCH_FW_STATUS (fwSurvives s))
  let x := (List.range 16).foldl (fun x g =>
    setFld x (R_SHL_STATUS (shlDie g)) F_SHL_STATUS_SPARE_MAX (fld s (R_SHL_STATUS (shlDie g)) F_SHL_STATUS_SPARE_MAX)) x
  let x := if safe then (List.range 64).foldl (fun x d => raise x (R_DIE_ID d) F_DIE_ID_SAFE) x else x
  if warm then
    let b := R_SCH_RST_STATUS
    let x := [F_SCH_RST_STATUS_ALT_SLOT, F_SCH_RST_STATUS_DEBUG_ON, F_SCH_RST_STATUS_STRAP_DIFF].foldl (fun x f => setFld x b f (fld s b f)) x
    (List.range 64).foldl (fun x d =>
      if dieKind d = .shale then x
      else setFld (setFld x (R_PWR_STATE d) F_PWR_STATE_FALLBACK 0) (R_PWR_STATE d) F_PWR_STATE_SENSORS_FAILED 0) x
  else x

/-- Every die is held in reset. (Open points: assumption 17, DEDUCED.) -/
def dark (s : State) : State :=
  let s := (List.range 64).foldl (fun s d => setFld s (R_SCH_DIE_STATE d) F_SCH_DIE_STATE_STATE 4) s
  emit (setFld s R_SCH_RST_STATUS F_SCH_RST_STATUS_READY 0) (.pin 0 false)

/-! ### Boot: identity, straps, firmware, safe mode (18:R417-R419, R424; 14:R324-R327; 20:R453). -/

/-- Silicon revisions of the dies that answer. -/
def revs (rep : BootReport) : List Nat :=
  ((List.range 64).filter fun d => !(rep.silent.any fun x => x.val == d)).map fun d => (Config.dieRev d).toNat
/-- The revision floor. (Open points: assumption 19, DEDUCED.) -/
def revFloor (rep : BootReport) : Nat := (revs rep).foldl Nat.min 15
/-- The largest revision. -/
def revMax (rep : BootReport) : Nat := (revs rep).foldl Nat.max 0

/-- Each die that answers checks its fuses and takes the floor. (Open points: assumption 19, DEDUCED.) -/
def bootIds (s : State) (rep : BootReport) : State :=
  (List.range 64).foldl (fun s d =>
    if rep.silent.any fun x => x.val == d then s
    else
      let s := setFld s (R_DIE_ID d) F_DIE_ID_FLOOR (revFloor rep)
      setFld s (R_DIE_ID d) F_DIE_ID_FUSE_OK (b2n (!(rep.fuseBad.any fun x => x.val == d)))) s

/-- STRAP_DIFF follows the pins and the latch. -/
def strapDiff (s : State) : State :=
  setFld s R_SCH_RST_STATUS F_SCH_RST_STATUS_STRAP_DIFF
    (b2n (fld s R_SCH_STRAP F_SCH_STRAP_PINS != fld s R_SCH_STRAP F_SCH_STRAP_LATCHED))

/-- The straps are latched; the root is the strap's. (Open points: assumption 75, DEDUCED.) -/
def bootStraps (s : State) (straps : Nat) : State :=
  let s := regSet s R_SCH_STRAP (fldSet (fldSet 0 F_SCH_STRAP_LATCHED straps) F_SCH_STRAP_PINS straps)
  let s := pwSet (pwSet s F_SCH_PWR_STATUS_ROOT_OWNER (bitsOf straps 1 2)) F_SCH_PWR_STATUS_PLL_LOCKED 0
  strapDiff (setFld s R_SCH_RST_STATUS F_SCH_RST_STATUS_DEBUG_ON (b2n (bitOf straps 7 && Config.debugAllow)))

/-- Whether a Schist answers and its ROM finds no copy of the security record whose tag for it verifies: its ROM holds it (20:R451). -/
def recNone (rep : BootReport) (q : Fin 4) : Bool :=
  !(rep.silent.any fun x => x.val == schDie q.val) && [false, true].all fun c => rep.recBad.any fun e => e.1 == c && e.2 == q
/-- The Schists that their ROMs hold. -/
def recHeld (rep : BootReport) : List (Fin 4) := (List.finRange 4).filter (recNone rep)
/-- Whether a Schist accepts copy B: the copy of the higher sequence whose tag for it verifies. -/
def recChoice (f : Fw) (rep : BootReport) (q : Fin 4) : Bool :=
  let ok (c : Bool) : Bool := !(rep.recBad.any fun e => e.1 == c && e.2 == q)
  ok true && (!(ok false) || decide (f.recA.seq < f.recB.seq))
/-- The Schist whose copy of the record the block goes by: the first that answers and is not held. (Open points: assumption 19, DEDUCED.) -/
def recLead (rep : BootReport) : Option (Fin 4) :=
  (List.finRange 4).find? fun q => !(rep.silent.any fun x => x.val == schDie q.val) && !(recNone rep q)
/-- What the boot finds once the ROMs have held Schists: those start no firmware, and so do not answer. (Open points: assumption 19, DEDUCED.) -/
def recSilent (rep : BootReport) : BootReport :=
  { rep with silent := rep.silent ++ (recHeld rep).map fun q => Fin.ofNat 64 (schDie q.val) }

/-- The kind of die that runs a part; KINDs 7 and 8 are the Schists' own. -/
def partKind (kind : Nat) : DieKind :=
  match kind with
  | 2 => .flint
  | 3 => .feldspar
  | 4 => .gabbro
  | 5 => .shale
  | 6 => .gneiss
  | _ => .schist
/-- Part copies of a set that fail: KIND and die. -/
def partsBad (rep : BootReport) (set : Nat) : List (Nat × Nat) :=
  (rep.partBad.filter fun e => b2n e.1 == set && e.2.1 != 0 && dieKind e.2.2.val == partKind e.2.1.val).map fun e => (e.2.1.val, e.2.2.val)
/-- Stages 1 and 2 for a set. -/
def setForm (s : State) (rep : BootReport) (set : Nat) : Bool :=
  let m := fwMeta s set
  fwFld s (fwValidFld set) == 1 && decide (fwFld s F_SCH_FW_STATUS_KEY_FLOOR ≤ fieldLE m 6 1) &&
    decide ((regGet s R_SCH_FW_SVN_FLOOR).toNat ≤ fieldLE m 12 4) && decide (fieldLE m 7 1 ≤ revFloor rep) &&
    !(rep.partBad.any fun e => b2n e.1 == set && e.2.1 == 0)
/-- Whether a set is usable. (Open points: assumption 19, DEDUCED.) -/
def setUsable (s : State) (rep : BootReport) (set : Nat) : Bool := setForm s rep set && (partsBad rep set).isEmpty
/-- Whether the Schist copies of a set verify. -/
def setSchists (s : State) (rep : BootReport) (set : Nat) : Bool := setForm s rep set && (partsBad rep set).all fun e => e.1 != 1
/-- The set that boots, if one does. (Open points: assumption 19, DEDUCED.) -/
def bootChoice (s : State) (rep : BootReport) (set : Nat) : Option Nat :=
  if setUsable s rep set then some set
  else if setUsable s rep (1 - set) then some (1 - set)
  else if setSchists s rep set then some set
  else if setSchists s rep (1 - set) then some (1 - set)
  else none
/-- The records of the copies of a set that fail. (Open points: assumption 19, DEDUCED.) -/
def partRecords (s : State) (rep : BootReport) (set : Nat) : State :=
  if setForm s rep set then
    (partsBad rep set).foldl (fun s e =>
      raise (strataEvent s (if 7 ≤ e.1 then writerDie s else e.2) 0xD0 0x0804 (e.1 + 256 * set) 0) R_SCH_FW_ERR F_SCH_FW_ERR_BOOT_VERIFY_FAIL) s
  else s

/-- Safe-mode causes of a boot from a set. (Open points: assumption 19, DEDUCED.) -/
def safeCauses (s : State) (rep : BootReport) (set : Nat) : List Nat :=
  (if revFloor rep + 1 < revMax rep then [1] else []) ++ (if rep.fuseBad.isEmpty then [] else [2]) ++
    (if rep.seamBad.any fun e => seamExists e.1 e.2 then [3] else []) ++
    (if rep.silent.isEmpty && setUsable s rep set then [] else [4])

/-- Safe mode: the Schists that answer run, and no other die (14:R327). (Open points: assumption 19, DEDUCED.) -/
def bootSafe (s : State) (rep : BootReport) (causes : List Nat) : State :=
  let s := causes.foldl (fun s c => strataEvent s (writerDie s) 0xF1 0 c 0) s
  (List.range 64).foldl (fun s d =>
    let s := raise s (R_DIE_ID d) F_DIE_ID_SAFE
    if dieKind d = .schist && !(rep.silent.any fun x => x.val == d) then s else setFld s (R_SCH_DIE_STATE d) F_SCH_DIE_STATE_STATE 4) s

/-! ### Boot: dies, ports, READY (18:R424, R430; 14:R318; 21:R483). -/

/-- Every seam trains. -/
def bootSeams (s : State) (lanes : List (Fin 64 × Fin 16 × Fin 70)) : State :=
  (List.range 64).foldl (fun s d => (List.range (seamPeers d).length).foldl (fun s q =>
    if d < (seamEnd d q).1 then seamTrain s d q lanes else s) s) s
/-- MODE of every cable port is the strap's, and every port trains. -/
def bootPorts (s : State) : State :=
  let m := if bitOf (regGet s R_SCH_STRAP).toNat 5 then 2 else 1
  (List.range 48).foldl (fun s p => trainStart (setFld s (R_FLD_PORT_CFG (portDie p) (portLoc p)) F_FLD_PORT_CFG_MODE m) p) s
/-- Steps 5 to 9. -/
def bootRest (s : State) (rep : BootReport) : State :=
  let img := fwImage s (fwRun s) 8
  let words := (List.range 8).map fun k => BitVec.ofNat 32 (fieldLE img (4 * k) 4)
  let s := fenceMore 64 (clocklessFence (bootSeams { s with rcp := ⟨words, 0, 0, []⟩ } rep.lanes))
  let s := bootPorts (micaBoot s (fwImage s (fwRun s) 7))
  emit (raise s R_SCH_RST_STATUS F_SCH_RST_STATUS_READY) (.pin 0 true)

/-- Step 4 with a set that boots, and what follows. (Open points: assumption 16, DESIGN CHOICE.) -/
def bootFrom (s : State) (rep : BootReport) (first set : Nat) : State :=
  let s := if set ≠ first && setUsable s rep set then
      fwRecord (fwSet s F_SCH_FW_STATUS_FALLBACK 1) 0xD1 0 set
    else s
  let causes := safeCauses s rep set
  if causes.isEmpty && !(safeMode s) then bootRest s rep else bootSafe s rep causes

/-- The recorder starts: a slot in OLDEST to NEWEST that fails its CRC is noted, and the cursor is at OLDEST (19:R445, R448). (Open
points: assumption 67, DEDUCED.) -/
def strataStart (s : State) : State :=
  let s := if s.strata.torn.any (strataHeld s) then raise s R_SCH_STRATA_ERR F_SCH_STRATA_ERR_CRC_FOUND else s
  strataMove s (strataFirst s)

/-- Boot from step 4 on, with the copy of the security record that a Schist accepts. (Open points: assumption 16, DESIGN CHOICE; assumption 19, DEDUCED.) -/
def bootFirmware (s : State) (kind : Nat) (rep : BootReport) (lead : Fin 4) : State :=
  let s := secLoad s (recChoice s.fw rep lead)
  let act := fwFld s F_SCH_FW_STATUS_ACTIVE_SET
  let alt := fld s R_SCH_STRAP F_SCH_STRAP_LATCHED % 2
  let first := if kind = 2 then fwRun s else if alt = 1 then 1 - act else act
  let choice := bootChoice s rep first
  let s := fwRunRegs s (choice.getD first)
  let s := partRecords s rep first
  let s := if setUsable s rep first then s else partRecords s rep (1 - first)
  match choice with
  | none => dark (fwRecord s 0xD2 0 0)
  | some set =>
    let s := (recHeld rep).foldl (fun s _ => fwRecord s 0xD2 0 0) s
    let s := if kind = 2 then s else setFld s R_SCH_RST_STATUS F_SCH_RST_STATUS_ALT_SLOT (b2n (alt == 1 && set == first))
    bootFrom s (recSilent rep) first set

/-- Boot from step 3 on: with a reference every PLL locks, and PCIE_REFCLK_OUT runs (18:R424; 21:R483). (Open points: assumption 16, DESIGN CHOICE.) -/
def bootOn (s : State) (kind : Nat) (rep : BootReport) : State :=
  let s := { s with pwr := { s.pwr with supply := .on, waiting := none } }
  let s := if kind = 2 then s else emit (pwSet s F_SCH_PWR_STATUS_PLL_LOCKED 15) (.pin 2 true)
  let s := regInc (setFld s R_SCH_RST_STATUS F_SCH_RST_STATUS_LAST_RESET kind)
    (if kind = 0 then R_SCH_RST_COLD_CNT else if kind = 1 then R_SCH_RST_MODULE_CNT else R_SCH_RST_WARM_CNT) 1
  let s := pwSet s F_SCH_PWR_STATUS_CLASS (strapClass s)
  let s := allowanceSet (setFld s R_SCH_PWR_LIMIT F_SCH_PWR_LIMIT_EFFECTIVE_W (effLimit (pwClass s) (pwStage s) 0))
  let s := strataEvent s 15 0xC0 0 0 0
  let s := if kind = 2 then s else strataStart s
  match recLead rep with
  | none => dark (fwRecord s 0xD2 0 0)
  | some lead => bootFirmware s kind rep lead

/-- A boot, on a state that its reset has left: kind, and for a cold power-on or module reset the strap pins. Without a reference it
waits in step 3, with its straps latched and no die started (18:R424; 21:R489). (Open points: assumption 16, DESIGN CHOICE.) -/
def boot (s : State) (kind straps : Nat) (rep : BootReport) : State :=
  let s := if kind = 2 then s else bootStraps s straps
  let s := bootIds s rep
  if kind = 2 ∨ rep.reference = true then bootOn s kind rep
  else
    let s := dark s
    { s with pwr := { s.pwr with supply := .held, waiting := some (kind, rep) } }

/-! ### The reset rows. -/

/-- COLD_POWER_ON: the input becomes valid. (Open points: assumption 8, DESIGN CHOICE; assumption 16, DESIGN CHOICE; assumption 75, DEDUCED.) -/
def coldPowerOn (s : State) (straps : Nat) (rep : BootReport) : State :=
  let s := survive { s with cyc := 0, brd := ⟨0, none, none⟩ } 0
  let s := emit { s with pwr := { s.pwr with trip := false, input := true, minute := 0 } } (.pin 0 false)
  let c := R_SCH_CONN_STATUS
  let s := setFld (setFld s c F_SCH_CONN_STATUS_I3C_18V (b2n rep.i3c18)) c F_SCH_CONN_STATUS_CBL_PWR_ON (fld s c F_SCH_CONN_STATUS_HS_PRESENT)
  boot s 0 straps rep
/-- The meaning of COLD_POWER_ON. -/
def execColdPowerOn (straps : Byte) (rep : BootReport) (s : State) : Host.Outcome State Fault Refusal :=
  .next (coldPowerOn s straps.toNat rep)

/-- MOD_RESET_N goes low: every die is held in reset, and what was in progress is abandoned (18:R420, R423). (Open points: assumption 75, DEDUCED.) -/
def modResetAssert (s : State) : State :=
  if s.pwr.supply = .on then
    let s := emit (dark (survive s 1)) (.pin 2 false)
    { s with pwr := { s.pwr with supply := .held } }
  else { s with pwr := { s.pwr with waiting := none } }
/-- The meaning of MOD_RESET_ASSERT. -/
def execModResetAssert (s : State) : Host.Outcome State Fault Refusal := .next (modResetAssert s)

/-- MODULE_RESET: MOD_RESET_N is released; without valid input it has no effect (21:R486). (Open points: assumption 16, DESIGN CHOICE.) -/
def moduleReset (s : State) (straps : Nat) (rep : BootReport) : State :=
  if s.pwr.supply = .off then s else boot (survive (modResetAssert s) 1) 1 straps rep
/-- The meaning of MODULE_RESET. -/
def execModuleReset (straps : Byte) (rep : BootReport) (s : State) : Host.Outcome State Fault Refusal :=
  .next (moduleReset s straps.toNat rep)

/-- Every die regulator is off. (Open points: assumption 17, DEDUCED; assumption 20, DEDUCED.) -/
def turnOff (s : State) : State :=
  let s := emit (dark (survive s 0)) (.pin 2 false)
  { s with pwr := { s.pwr with supply := .off } }

/-- The input leaves range, or MATE_N opens: while the block runs or is held the dies turn off, and what runs on standby stops
(19:R440; 21:R472, R474, R485). (Open points: assumption 20, DEDUCED.) -/
def powerFault (s : State) (torn : List Byte) : State :=
  let s := match s.pwr.supply with
    | .off => s
    | .held => turnOff s
    | .on => turnOff (strataPowerFault s torn)
  { s with pwr := { s.pwr with input := false } }
/-- The meaning of POWER_FAULT. -/
def execPowerFault (torn : List Byte) (s : State) : Host.Outcome State Fault Refusal := .next (powerFault s torn)
/-- The meaning of MATE_DISCONNECT: the power fault of 19:R440. -/
def execMateDisconnect (s : State) : Host.Outcome State Fault Refusal := .next (powerFault s [])
/-- The meaning of OVERVOLTAGE_CLAMP: above 58.0 V the input has left its range (21:R474, R476). -/
def execOvervoltageClamp (s : State) : Host.Outcome State Fault Refusal := .next (powerFault s [])

/-- Whether a reading reaches a trip point (17:R407, R410). -/
def tripMet : TripCause → Bool
  | .die d hot attached =>
    (dieKind d != .shale && decide (1840 ≤ tempOf hot.toNat)) ||
      ((dieKind d == .gabbro || dieKind d == .flint) && decide (1680 ≤ tempOf attached.toNat)) ||
      (dieKind d == .shale && decide (1680 ≤ tempOf hot.toNat))
  | .inlet t => inletOk t.toNat && decide (960 ≤ tempOf t.toNat)
  | .flow q => flowOk q.toNat && decide (q.toNat < 150)

/-- REF_RETURN: the PLLs have locked again; a boot that waits for its reference goes on (17:R397; 18:R424). (Open points: assumption 76, DEDUCED.) -/
def refReturn (s : State) : State :=
  match s.pwr.waiting with
  | some (kind, rep) => bootOn ((List.range 64).foldl (fun s d => setFld s (R_SCH_DIE_STATE d) F_SCH_DIE_STATE_STATE 0) s) kind rep
  | none => pwSet (pwSet s F_SCH_PWR_STATUS_REF_HOLDOVER 0) F_SCH_PWR_STATUS_REF_FREERUN 0
/-- The meaning of REF_RETURN. (Open points: assumption 76, DEDUCED.) -/
def execRefReturn (s : State) : Host.Outcome State Fault Refusal := .next (refReturn s)

/-- THERMAL_TRIP: the record is committed, THERM_TRIP_N is driven, and every die regulator turns off. (Open points: assumption 20, DEDUCED.) -/
def thermalTrip (s : State) (c : TripCause) : State :=
  if tripMet c && s.pwr.supply != .off then
    let s := pwRecord s (writerDie s) 0xB4
    let s := if s.strata.slice.any PendRec.first then strataCommit s false else s
    emit (turnOff { s with pwr := { s.pwr with trip := true } }) (.pin 1 false)
  else s
/-- The meaning of THERMAL_TRIP. -/
def execThermalTrip (cause : TripCause) (s : State) : Host.Outcome State Fault Refusal := .next (thermalTrip s cause)

/-- The meaning of STRAP_PIN_CHANGE. -/
def execStrapPinChange (pins : Byte) (s : State) : Host.Outcome State Fault Refusal :=
  .next (strapDiff (setFld s R_SCH_STRAP F_SCH_STRAP_PINS pins.toNat))

/-! ### Warm reset (18:R421, R423). -/

/-- DEV_WARM_RESET waits as SCH_STEP does. -/
def cmdDevWarmReset : CmdFn := fun t s => (defer s t (.warm (runIds s)), none)
/-- The meaning of DEV_WARM_RESET. -/
def execDevWarmReset (src : Src) (s : State) : Host.Outcome State Fault Refusal := .next (runCmd 0x0130 src [] cmdDevWarmReset s)

/-- WARM_RESET: the first waiting command of SCH_STEP's kind is a warm reset whose waits are met. (Open points: assumption 16, DESIGN CHOICE; assumption 18, DEDUCED.) -/
def warmReset (s : State) (rep : BootReport) : State :=
  match s.cmds.taken.find? fun t => t.wait.isStep with
  | some t =>
    match t.wait with
    | .warm rs =>
      if stepReady s rs && !(changing s) then
        let s := survive (finish (goRun s 1 t.op) t (.ok [])) 2
        boot ((List.range 8).foldl sesRelease (emit s (.pin 0 false))) 2 0 rep
      else s
    | _ => s
  | none => s
/-- The meaning of WARM_RESET. -/
def execWarmReset (rep : BootReport) (s : State) : Host.Outcome State Fault Refusal := .next (warmReset s rep)

/-! ### FRAME_RESET (18:R431). -/

/-- FRAME_RESET. -/
def cmdFrameReset (die mask : Byte) : CmdFn := fun _ s =>
  let d := die.toNat
  refuseIf (!(isKind die .gabbro) || mask == 0#8) 0x0102 s
  <| refuseIf (winOrPending s (gabOrd d)) 0x020B s
  <| refuseIf (!(dieRunning s d)) 0x0105 s
  <| okay (resetFrames s (gabOrd d) mask.toNat) []
/-- The meaning of FRAME_RESET. -/
def execFrameReset (src : Src) (die mask : Byte) (s : State) : Host.Outcome State Fault Refusal :=
  .next (runCmd 0x0131 src (parBytes [(0, 1, die.toNat), (1, 1, mask.toNat)]) (cmdFrameReset die mask) s)

/-! ### Power states (18:R426-R428, R431). -/

/-- DEV_STATE_SET. -/
def cmdDevStateSet (st : Byte) : CmdFn := fun t s =>
  refuseIf (decide (3 < st.toNat)) 0x0102 s (defer s t (.state st.toNat false), none)
/-- The meaning of DEV_STATE_SET. -/
def execDevStateSet (src : Src) (st : Byte) (s : State) : Host.Outcome State Fault Refusal :=
  .next (runCmd 0x0132 src (parBytes [(0, 1, st.toNat)]) (cmdDevStateSet st) s)

/-- STATE_REACHED: the exit or the entry in progress ends. (Open points: assumption 21, DEDUCED.) -/
def stateReached (s : State) : State :=
  let k := R_SCH_RST_STATUS
  if flag s k F_SCH_RST_STATUS_CHANGING then enterState (setFld s k F_SCH_RST_STATUS_CHANGING 0) 0
  else match stateEntry s with
    | none => s
    | some t =>
      match t.wait with
      | .state st back =>
        let s := if st = 0 ∧ pwState s ≠ 0 then wakeCause s 0 0 else s
        let s := entryDone s t st
        if back && st != 0 then raise s k F_SCH_RST_STATUS_CHANGING else s
      | _ => s
/-- The meaning of STATE_REACHED. -/
def execStateReached (s : State) : Host.Outcome State Fault Refusal := .next (stateReached s)

/-- WAKE: a cause of 18:R427 begins the exit to RUN, at once or after the entry in progress. (Open points: assumption 21, DEDUCED.) -/
def wake (s : State) (cause opcode : Nat) : State :=
  let due := match cause with
    | 2 => memAsleep s
    | 3 => memAsleep s
    | 4 => pwState s == 3
    | _ => pwState s != 0
  match stateEntry s with
  | some t => if t.wait = .state 0 false then s else entryBack (wakeCause s cause opcode) t
  | none => if due then raise (wakeCause s cause opcode) R_SCH_RST_STATUS F_SCH_RST_STATUS_CHANGING else s
/-- The meaning of WAKE. -/
def execWake (cause : Fin 5) (opcode : Half) (s : State) : Host.Outcome State Fault Refusal := .next (wake s cause opcode.toNat)

end Sys2Proof.Machine
end

