-- ==== Sys2Proof/Machine/Conn.lean ====
section
/-! DEFINITION. Connectors (21_module_connectors.md): cable power and presence (R480, R481), the endpoint's presence
(R483), the strap supply (R486), the I3C target (R487) and JTAG (R488). -/
namespace Sys2Proof.Machine

/-- A bit of SCH_CONN_STATUS for a connector. -/
def connBit (f : Fld) (q : Nat) : Fld := ⟨f.lo + q, 1⟩
/-- Whether a bit of SCH_CONN_STATUS is set. -/
def connGet (s : State) (f : Fld) (q : Nat) : Bool := flag s R_SCH_CONN_STATUS (connBit f q)
/-- Set one. (Open points: assumption 75, DEDUCED.) -/
def connSet (s : State) (f : Fld) (q : Nat) (on : Bool) : State := setFld s R_SCH_CONN_STATUS (connBit f q) (b2n on)

/-- CBL_PWR of a connector turns off at its limit. -/
def cblFault (s : State) (q : Nat) : State :=
  raise (connSet s F_SCH_CONN_STATUS_CBL_PWR_ON q false) R_SCH_CONN_ERR (connBit F_SCH_CONN_ERR_CBL_PWR_FAULT q)

/-- CBL_PWR_OVERCURRENT: CBL_PWR stays at its limit for 100 µs. -/
def cblOvercurrent (s : State) (q : Nat) : State := if connGet s F_SCH_CONN_STATUS_CBL_PWR_ON q then cblFault s q else s
/-- The meaning of CBL_PWR_OVERCURRENT. -/
def execCblPwrOvercurrent (q : Fin 4) (s : State) : Host.Outcome State Fault Refusal := .next (cblOvercurrent s q)

/-- CBL_PWR_RETRY: a CBL_PWR that turned off tries again, and stays on if the load draws less than 3.0 A. -/
def cblRetry (s : State) (q : Nat) (ok : Bool) : State :=
  if connGet s F_SCH_CONN_STATUS_HS_PRESENT q && !(connGet s F_SCH_CONN_STATUS_CBL_PWR_ON q) then
    if ok then connSet s F_SCH_CONN_STATUS_CBL_PWR_ON q true else cblFault s q
  else s
/-- The meaning of CBL_PWR_RETRY. -/
def execCblPwrRetry (q : Fin 4) (ok : Bool) (s : State) : Host.Outcome State Fault Refusal := .next (cblRetry s q ok)

/-- CABLE_MATE: CBL_PRSNT_N changes, and CBL_PWR is on while a cable is mated. (Open points: assumption 20, DEDUCED; assumption 75, DEDUCED.) -/
def cableMate (s : State) (q : Nat) (mated : Bool) : State :=
  if connGet s F_SCH_CONN_STATUS_HS_PRESENT q == mated then s
  else connSet (connSet s F_SCH_CONN_STATUS_HS_PRESENT q mated) F_SCH_CONN_STATUS_CBL_PWR_ON q (mated && s.pwr.supply != .off)
/-- The meaning of CABLE_MATE. -/
def execCableMate (q : Fin 4) (mated : Bool) (s : State) : Host.Outcome State Fault Refusal := .next (cableMate s q mated)

/-- PCIE_PRESENCE_CHANGE: without an endpoint the root port does not train, and the link reports that it is down. -/
def pciePresence (s : State) (present : Bool) : State :=
  let s := setFld s R_SCH_CONN_STATUS F_SCH_CONN_STATUS_PCIE_PRESENT (b2n present)
  if present then s else pcieAnswer (pcieDown s)
/-- The meaning of PCIE_PRESENCE_CHANGE. -/
def execPciePresenceChange (present : Bool) (s : State) : Host.Outcome State Fault Refusal := .next (pciePresence s present)

/-- The meaning of STRAP_PU_FAULT. -/
def execStrapPuFault (s : State) : Host.Outcome State Fault Refusal := .next (raise s R_SCH_CONN_ERR F_SCH_CONN_ERR_STRAP_PU_FAULT)

/-! ### I3C. -/

/-- Whether the target answers an address: it runs while the input is in range (R485). -/
def i3cMine (s : State) (a : BitVec 7) : Bool := standby s && (a == 0x5A#7 || s.brd.dyn == some a)

/-- I3C_POINTER_WRITE: the first byte is the pointer, and the rest is discarded. (Open points: assumption 74, DEDUCED.) -/
def i3cPointer (s : State) (a : BitVec 7) (bytes : List Byte) : State :=
  match bytes with
  | b :: _ => if i3cMine s a then { s with brd := { s.brd with ptr := b } } else s
  | [] => s
/-- The meaning of I3C_POINTER_WRITE. -/
def execI3cPointerWrite (addr : BitVec 7) (bytes : List Byte) (s : State) : Host.Outcome State Fault Refusal :=
  .next (i3cPointer s addr bytes)

/-- The word at an offset of the I3C map; none outside it. A register whose Schist has not started reads zero. (Open points: assumption 74, DEDUCED.) -/
def i3cWord (s : State) (off : Nat) : Option Word :=
  let reg (k : Nat) : Option Word := some (if s.pwr.supply = .on ∨ s.pwr.waiting.isSome then rdAt s k else 0)
  match off with
  | 0x00 => some 0x4C363441
  | 0x04 => reg R_SCH_MODULE_ID
  | 0x08 => reg (R_SCH_MODULE_ID + 4)
  | 0x0C => reg R_SCH_RST_STATUS
  | 0x10 => reg R_SCH_PWR_STATUS
  | 0x14 => reg R_SCH_PWR_ERR
  | 0x18 => reg R_SCH_PWR_INPUT
  | 0x1C => reg R_SCH_COOL_INLET
  | 0x20 => reg R_SCH_COOL_FLOW
  | 0x24 => reg R_SCH_CONN_STATUS
  | 0x28 => reg R_SCH_CONN_ERR
  | _ => none

/-- `n` words from an offset upward; an offset that the map does not list reads as zero (00:R5). -/
def i3cWords (s : State) (off n : Nat) : List Word := (List.range n).map fun i => (i3cWord s (off + 4 * i)).getD 0

/-- I3C_READ: the bytes of the words, little-endian. (Open points: assumption 74, DEDUCED.) -/
def i3cRead (s : State) (a : BitVec 7) (n : Nat) : State :=
  if i3cMine s a then emit s (.i3c ((i3cWords s s.brd.ptr.toNat n).flatMap fun w => leBytes 4 w.toNat)) else s
/-- The meaning of I3C_READ. -/
def execI3cRead (addr : BitVec 7) (words : Nat) (s : State) : Host.Outcome State Fault Refusal := .next (i3cRead s addr words)

/-- I3C_DYNAMIC_ADDRESS. -/
def i3cAddress (s : State) (a : BitVec 7) : State := if standby s then { s with brd := { s.brd with dyn := some a } } else s
/-- The meaning of I3C_DYNAMIC_ADDRESS. -/
def execI3cDynamicAddress (addr : BitVec 7) (s : State) : Host.Outcome State Fault Refusal := .next (i3cAddress s addr)

/-- I3C_IBI: while ALERT_N is low, at most one in-band interrupt in every 100 ms. (Open points: assumption 74, DEDUCED.) -/
def i3cIbi (s : State) : State :=
  let due := match s.brd.ibi with | some t => decide (t + 105000000 ≤ s.cyc) | none => true
  if alertOn s && due then emit { s with brd := { s.brd with ibi := some s.cyc } } .ibi else s
/-- The meaning of I3C_IBI. -/
def execI3cIbi (s : State) : Host.Outcome State Fault Refusal := .next (i3cIbi s)

/-! ### JTAG. -/

/-- The meaning of JTAG_INSTRUCTION: BYPASS and IDCODE act while the input is in range; with debug disabled no other acts and JTAG_TDO is
high-impedance, and what another does with debug enabled the spec does not say. (Open points: assumption 73, DEDUCED.) -/
def execJtagInstruction (op : JtagOp) (s : State) : Host.Outcome State Fault Refusal :=
  if standby s then
    match op with
    | .bypass tdi => .next (emit s (.jtag (2 * tdi)))
    | .idcode => .next (emit s (.jtag 0x1A6400B7))
    | .other _ => if flag s R_SCH_RST_STATUS F_SCH_RST_STATUS_DEBUG_ON then .fault .jtagInstruction else .next s
  else .next s

end Sys2Proof.Machine
end

