-- ==== Sys2Proof/Machine/Counters.lean ====
section
/-! DEFINITION. Reading and clearing counters (02:R47; 03:R75; 04:R93; 05:R122; 06:R155; 08:R187; 09:R215; 10:R247;
11:R273; 12:R295; 13:R313; 14:R340; 15:R374; 16:R394; 17:R416; 19:R449). -/
namespace Sys2Proof.Machine

/-- Zero 32-bit counts. -/
def regClear (s : State) (ks : List Nat) : State := ks.foldl (fun s k => regSet s k 0) s

/-- Reading a low half latches the matching high half; the value goes to the reader. (Open points: assumption 28, DEDUCED.) -/
def counterLoRead (s : State) (d off : Nat) : State :=
  match regRow d off with
  | some (r, false) =>
    let s := emit s (.reg (regAt d off) (rdWord s d off))
    if r.wide ∧ r.acc = .ctr then
      { s with latch := tabPut s.latch (regKey d off) (BitVec.ofNat 32 ((rdPair s (regKey d off)).toNat / 4294967296)) }
    else s
  | _ => emit s (.reg (regAt d off) (rdWord s d off))

/-- The meaning of COUNTER_LO_READ: an aligned 32-bit load; a die that is not RUNNING answers with an access fault. -/
def execCounterLoRead (hart : Fin 256) (die : Fin 64) (off : Nat) (s : State) : Host.Outcome State Fault Refusal :=
  .next (if off % 4 ≠ 0 ∨ 0x4000000 ≤ off ∨ !(dieRunning s die) then emit s (.hartFault hart .load) else counterLoRead s die off)

/-- CLEAR of GAB_FRM_CNT_CTRL. -/
def clearFrm (s : State) (d f : Nat) : State :=
  ctrClear s [R_GAB_FRM_VALID_CYC d f, R_GAB_FRM_DUMMY_CYC d f, R_GAB_FRM_BUBBLE_CYC d f, R_GAB_FRM_HOLD_CYC d f,
    R_GAB_FRM_PASS_CNT d f, R_GAB_FRM_LOAD_CNT d f]
/-- The meaning of FRM_COUNTER_CLEAR. -/
def execFrmCounterClear (g : Fin 16) (f : Fin 8) (s : State) : Host.Outcome State Fault Refusal := .next (clearFrm s (gabDie g) f)

/-- CLEAR of GAB_FRM_NUM_CNT_CTRL. -/
def clearNum (s : State) (d f : Nat) : State :=
  ctrClear s [R_GAB_FRM_LONG_CHAIN d f, R_GAB_FRM_PROD_FLUSH d f, R_GAB_FRM_RANGE_OVF d f, R_GAB_FRM_SATURATE d f]
/-- The meaning of NUM_COUNTER_CLEAR. -/
def execNumCounterClear (g : Fin 16) (f : Fin 8) (s : State) : Host.Outcome State Fault Refusal := .next (clearNum s (gabDie g) f)

/-- CLEAR of GAB_BEAM_CNT_CTRL. -/
def clearBeam (s : State) (d f : Nat) : State :=
  ctrClear s [R_GAB_BEAM_NF_IN d f, R_GAB_BEAM_NF_ACC d f, R_GAB_BEAM_NF_OUT d f, R_GAB_BEAM_ECC_CORR d f, R_GAB_BEAM_DRAIN_ROWS d f]
/-- The meaning of BEAM_COUNTER_CLEAR. -/
def execBeamCounterClear (g : Fin 16) (f : Fin 8) (s : State) : Host.Outcome State Fault Refusal := .next (clearBeam s (gabDie g) f)

/-- CLEAR of GAB_FRM_BWD_CNT_CTRL. -/
def clearBwd (s : State) (d f : Nat) : State :=
  ctrClear s [R_GAB_GNT_ROWS d f, R_GAB_GNT_NF d f, R_GAB_GNT_EMPTY_ROW d f, R_GAB_FRM_TURN_ROUND d f, R_GAB_FRM_TURN_CNT d f,
    R_GAB_GNT_ECC_CORR d f]
/-- The meaning of BWD_COUNTER_CLEAR. -/
def execBwdCounterClear (g : Fin 16) (f : Fin 8) (s : State) : Host.Outcome State Fault Refusal := .next (clearBwd s (gabDie g) f)

/-- CLEAR of GAB_SCH_CNT_CTRL. -/
def clearSch (s : State) (d : Nat) : State :=
  regClear (ctrClear s [R_GAB_SCH_STALL_CYC d, R_GAB_SCH_STALL_QUEUE d, R_GAB_SCH_STALL_ARRIVAL d, R_GAB_SCH_STALL_SLOT d])
    [R_GAB_SCH_STALE_XFER d]
/-- The meaning of SCH_COUNTER_CLEAR. -/
def execSchCounterClear (g : Fin 16) (s : State) : Host.Outcome State Fault Refusal := .next (clearSch s (gabDie g))

/-- CLEAR of SHL_CNT_CTRL. -/
def clearShl (s : State) (d : Nat) : State :=
  ctrClear s [R_SHL_CE_CNT d, R_SHL_UE_CNT d, R_SHL_WELL_WR d, R_SHL_WELL_DISCARD d]
/-- The meaning of SHL_COUNTER_CLEAR. -/
def execShlCounterClear (g : Fin 16) (s : State) : Host.Outcome State Fault Refusal := .next (clearShl s (shlDie g))

/-- CLEAR of _DIR_CNT_CTRL: every counter of the block, on a die that is a home. (Open points: assumption 48, DEDUCED.) -/
def clearDir (s : State) (d : Nat) : State :=
  match dieKind d with
  | .gabbro =>
    regClear (ctrClear s [R_GAB_DIR_RECALL d, R_GAB_DIR_SNOOP d, R_GAB_DIR_WB_CROSS d, R_GAB_DIR_FAR_ATOMIC d, R_GAB_DIR_BARRIER d,
      R_GAB_DIR_DROP d]) [R_GAB_DIR_BARRIER_TMO d]
  | .flint =>
    regClear (ctrClear s [R_FLT_DIR_RECALL d, R_FLT_DIR_SNOOP d, R_FLT_DIR_WB_CROSS d, R_FLT_DIR_FAR_ATOMIC d, R_FLT_DIR_BARRIER d,
      R_FLT_DIR_DROP d]) [R_FLT_DIR_BARRIER_TMO d, R_FLT_DIR_CE d]
  | _ => s
/-- The meaning of DIR_COUNTER_CLEAR. -/
def execDirCounterClear (die : Fin 64) (s : State) : Host.Outcome State Fault Refusal := .next (clearDir s die)

/-- CLEAR of GNS_ATOM_CNT_CTRL. -/
def clearAtom (s : State) (d : Nat) : State := ctrClear s [R_GNS_ATOM_NEAR d, R_GNS_ATOM_FAR d, R_GNS_ATOM_LLC d]
/-- The meaning of ATOM_COUNTER_CLEAR. -/
def execAtomCounterClear (c : Fin 8) (s : State) : Host.Outcome State Fault Refusal := .next (clearAtom s (gnsDie c))

/-- CLEAR of FLD_RING_CNT_CTRL. -/
def clearRing (s : State) (d : Nat) : State :=
  ctrClear s [R_FLD_RING_ADDS d, R_FLD_RING_NF d, R_FLD_RING_OVF d, R_FLD_RING_MISMATCH d, R_FLD_RING_SAMPLED d, R_FLD_RING_BEAD_RANGE d]
/-- The meaning of RING_COUNTER_CLEAR. -/
def execRingCounterClear (l : Fin 8) (s : State) : Host.Outcome State Fault Refusal := .next (clearRing s (fldDie l))

/-- CLEAR of FLT_UPD_CNT_CTRL. -/
def clearUpd (s : State) (d : Nat) : State :=
  ctrClear s [R_FLT_UPD_PARAMS d, R_FLT_UPD_NF_IN d, R_FLT_UPD_NF_OUT d, R_FLT_UPD_ZERO_DEN d]
/-- The meaning of UPD_COUNTER_CLEAR. -/
def execUpdCounterClear (m : Fin 12) (s : State) : Host.Outcome State Fault Refusal := .next (clearUpd s (fltDie m))

/-- CLEAR of FLD_MICA_CNT_CTRL. -/
def clearMica (s : State) (d : Nat) : State :=
  ctrClear s [R_FLD_MICA_IN_BYTES d, R_FLD_MICA_WIRE_BYTES d, R_FLD_MICA_CODED d, R_FLD_MICA_RAW d, R_FLD_MICA_FALLBACK d,
    R_FLD_MICA_LEN_MISMATCH d, R_FLD_MICA_EPOCH_ABSENT d]
/-- The meaning of MICA_COUNTER_CLEAR. -/
def execMicaCounterClear (l : Fin 8) (s : State) : Host.Outcome State Fault Refusal := .next (clearMica s (fldDie l))

/-- CLEAR of FLD_PORT_CNT_CTRL. -/
def clearPort (s : State) (d p : Nat) : State := ctrClear s [R_FLD_PORT_FRAMES d p, R_FLD_PORT_RETRY d p, R_FLD_PORT_FEC_CORR d p]
/-- The meaning of PORT_COUNTER_CLEAR. -/
def execPortCounterClear (port : Fin 48) (s : State) : Host.Outcome State Fault Refusal :=
  .next (clearPort s (fldDie (port.val / 6)) (port.val % 6))

/-- CLEAR of _DIE_CNT_CTRL. -/
def clearDie (s : State) (d : Nat) : State := ctrClear s [R_DIE_FENCE_DROP d]
/-- The meaning of DIE_COUNTER_CLEAR. -/
def execDieCounterClear (die : Fin 64) (s : State) : Host.Outcome State Fault Refusal := .next (clearDie s die)

/-- CLEAR of _SEAM_CNT_CTRL. -/
def clearSeam (s : State) (d q : Nat) : State := ctrClear s [R_SEAM_REPLAY d q, R_SEAM_LANE_ERR d q]
/-- The meaning of SEAM_COUNTER_CLEAR: a Shale has no seams. -/
def execSeamCounterClear (die : Fin 64) (seam : Fin 16) (s : State) : Host.Outcome State Fault Refusal :=
  .next (if dieKind die = .shale then s else clearSeam s die seam)

/-- CLEAR of SCH_CMD_CNT_CTRL. -/
def clearCmd (s : State) : State := ctrClear s [R_SCH_CMD_TAKEN, R_SCH_CMD_REFUSED, R_SCH_POD_LATE]
/-- The meaning of CMD_COUNTER_CLEAR. -/
def execCmdCounterClear (s : State) : Host.Outcome State Fault Refusal := .next (clearCmd s)

/-- CLEAR of SCH_HLT_CNT_CTRL. -/
def clearHlt (s : State) : State := ctrClear s [R_SCH_HLT_NF_STEPS, R_SCH_HLT_SPIKES, R_SCH_HLT_MISSING]
/-- The meaning of HLT_COUNTER_CLEAR. -/
def execHltCounterClear (s : State) : Host.Outcome State Fault Refusal := .next (clearHlt s)

/-- CLEAR of SCH_PWR_CNT_CTRL. -/
def clearPwr (s : State) : State := ctrClear s [R_SCH_PWR_CLAMP_CNT, R_SCH_PWR_STAGE_DOWN_CNT, R_SCH_PWR_PEAK_HIT_CNT]
/-- The meaning of PWR_COUNTER_CLEAR. -/
def execPwrCounterClear (s : State) : Host.Outcome State Fault Refusal := .next (clearPwr s)

/-- CLEAR of _PWR_CNT_CTRL of a Gabbro. -/
def clearDroop (s : State) (d : Nat) : State := ctrClear s [R_GAB_PWR_DROOP d]
/-- The meaning of DROOP_COUNTER_CLEAR. -/
def execDroopCounterClear (g : Fin 16) (s : State) : Host.Outcome State Fault Refusal := .next (clearDroop s (gabDie g))

/-- CLEAR of SCH_STRATA_CNT_CTRL. -/
def clearStrata (s : State) : State := ctrClear s [R_SCH_STRATA_SUPPRESSED, R_SCH_STRATA_LOST, R_SCH_STRATA_WRITTEN]
/-- The meaning of STRATA_COUNTER_CLEAR. -/
def execStrataCounterClear (s : State) : Host.Outcome State Fault Refusal := .next (clearStrata s)

end Sys2Proof.Machine
end

