-- ==== Sys2Proof/Machine/Home.lean ====
section
/-! DEFINITION. The requests that reach a home (09:R189, R194-R201), core AMOs (09:R199, R200), path barriers (09:R207,
R208) and the memory commands (09:R210, R211). -/
namespace Sys2Proof.Machine

/-- A Gneiss's request for a line: an access to what is no memory, or homed at a die it does not reach, faults its hart;
memory that sleeps is woken first. -/
def lineRequest (s : State) (c a : Nat) (w : Asker) (k : State → State) : State :=
  if lineAsk s c a then k (wakeAccess s 2) else w.fault s
/-- A core of a Gneiss as an asker. -/
def asker (c : Fin 8) (core : Fin 32) (k : HartAccess) : Asker := ⟨32 * c.val + core.val, k⟩

/-- The meaning of RDS: a load or a fetch. -/
def execRds (c : Fin 8) (core : Fin 32) (fetch : Bool) (addr : Nat) (late : Bool) (ups : List Before) (s : State) :
    Host.Outcome State Fault Refusal :=
  let w := asker c core (if fetch then .fetch else .load)
  .next (lineRequest (upsets s ups) c addr w fun s => l2Add (homeRdS s c (lineOf addr) late w) c (lineOf addr) (core / 4))

/-- The meaning of RDO. -/
def execRdo (c : Fin 8) (core : Fin 32) (addr : Nat) (late : Bool) (ups : List Before) (s : State) :
    Host.Outcome State Fault Refusal :=
  let w := asker c core .store
  .next (lineRequest (upsets s ups) c addr w fun s =>
    l2Take (homeRdO s c (lineOf addr) late w) c (lineOf addr) (some (core / 4)))

/-- The meaning of UPGRADE. -/
def execUpgrade (c : Fin 8) (core : Fin 32) (addr : Nat) (late : Bool) (ups : List Before) (s : State) :
    Host.Outcome State Fault Refusal :=
  let w := asker c core .store
  .next (lineRequest (upsets s ups) c addr w fun s =>
    l2Take (homeUpgrade s c (lineOf addr) late w) c (lineOf addr) (some (core / 4)))

/-- The meaning of WB: a write-back toward a fenced die is discarded. -/
def execWb (c : Fin 8) (addr : Nat) (data : List Byte) (crossed : Option Crossing) (s : State) :
    Host.Outcome State Fault Refusal :=
  .next (if lineAsk s c addr then
      homeWB (wakeAccess s 2) c (lineOf addr) (sliceZ data 0 128) crossed
    else s)

/-- The meaning of CLEAN_EVICT. -/
def execCleanEvict (c : Fin 8) (addr : Nat) (s : State) : Host.Outcome State Fault Refusal :=
  .next (if lineAsk s c addr then homeCleanEvict s c (lineOf addr) else s)

/-- NC_RD: the data go to the reader; what a hart cannot read faults it, and an engine has the status of what it met. A
hart's load from the PCIe window ends as `io` says. (Open points: assumption 79, DESIGN CHOICE.) -/
def ncRd (s : State) (die : Fin 64) (core : Fin 32) (agent a n : Nat) (io : PcieEnd) : State :=
  let w : Asker := ⟨hartOf die core, .load⟩
  if agent = 1 ∧ regionBelow s.intlv a = .pcie then pcieLoad s w.hart a n io
  else if !(ncRange s a n) then ncAnswer s w (agent == 1) [] 0x0102
  else if homeUp s die a then
    let r := ncRead (if agent = 1 then wakeAccess s 2 else s) ⟨agent, die⟩ a n
    ncAnswer r.1 w (agent == 1) r.2.1 (if r.2.2 then 0x0301 else 0)
  else ncAnswer s w (agent == 1) [] 0x0105

/-- The meaning of NC_RD. -/
def execNcRd (die : Fin 64) (core : Fin 32) (agent : Byte) (addr len : Nat) (io : PcieEnd)
    (ups : List Before) (s : State) : Host.Outcome State Fault Refusal :=
  .next (ncRd (upsets s ups) die core agent.toNat addr len io)

/-- NC_WR: a posted write toward a fenced die is discarded and counted; a hart's access faults (14:R331). (Open points: assumption 48, DEDUCED; assumption 79, DESIGN CHOICE.) -/
def ncWr (s : State) (die : Fin 64) (core : Fin 32) (agent a : Nat) (bs : List Byte) (io : PcieEnd) : State :=
  let w : Asker := ⟨hartOf die core, .store⟩
  if agent = 1 ∧ regionBelow s.intlv a = .pcie then pcieStore s w.hart a bs io
  else if !(ncRange s a bs.length) then (if agent = 1 then w.fault s else emit s (.io 0x0102 []))
  else if homeUp s die a then (ncWrite (if agent = 1 then wakeAccess s 2 else s) ⟨agent, die⟩ a bs).1
  else if agent = 1 then w.fault s
  else count s (R_DIE_FENCE_DROP die) 1

/-- The meaning of NC_WR. -/
def execNcWr (die : Fin 64) (core : Fin 32) (agent : Byte) (addr : Nat) (data : List Byte) (io : PcieEnd)
    (ups : List Before) (s : State) : Host.Outcome State Fault Refusal :=
  .next (ncWr (upsets s ups) die core agent.toNat addr data io)

/-- Whether an AMO names an aligned word. (Open points: assumption 46, DEDUCED.) -/
def amoAligned (wide : Bool) (a : Nat) : Bool := if wide then a % 8 == 0 else a % 4 == 0

/-- FAR_ATOMIC: the old value goes to the hart. -/
def farAtomic (s : State) (c a : Nat) (op : AmoOp) (wide : Bool) (x : Nat) (w : Asker) : State :=
  if !(amoAligned wide a) then w.fault s
  else lineRequest s c a w fun s =>
    let r := homeFarAtomic s c a op wide x w
    if r.2.2 then emit r.1 (.hart w.hart r.2.1) else r.1

/-- The meaning of FAR_ATOMIC. -/
def execFarAtomic (c : Fin 8) (core : Fin 32) (addr : Nat) (amo : AmoOp) (wide : Bool) (operand : DWord)
    (ups : List Before) (s : State) : Host.Outcome State Fault Refusal :=
  .next (farAtomic (upsets s ups) c addr amo wide operand.toNat (asker c core .store))

/-! ### Core AMOs (09:R199, R200). -/

/-- Whether a Gneiss other than `c` is listed for a line. -/
def heldElsewhere (s : State) (c line : Nat) : Bool :=
  match dirGet s line with
  | some e => (holders e).any (· != c)
  | none => false

/-- A Gneiss gains ownership of a line, by Upgrade or RdO where it needs to. -/
def gainLine (s : State) (c line : Nat) (late : Bool) (w : Asker) : State :=
  match copyGet s c line with
  | some x => if x.st = CState.m ∨ x.st = CState.e then s else homeUpgrade s c line late w
  | none => homeRdO s c line late w

/-- Execute an AMO in a cache that owns the line; the answer is the old value, or none when the line did not come. (Open points: assumption 46, DEDUCED.) -/
def amoInCache (s : State) (c a : Nat) (op : AmoOp) (wide : Bool) (x : Nat) : State × Option Nat :=
  match copyGet s c (lineOf a) with
  | some y =>
    let r := amoOnBytes y.data (a % 128) op wide x
    (copySet (watchNote s a (if wide then 8 else 4)) c (lineOf a) ⟨.m, r.1⟩, some r.2)
  | none => (s, none)

/-- AMO_ISSUE. (Open points: assumption 46, DEDUCED.) -/
def amoIssue (s : State) (hart a : Nat) (op : AmoOp) (wide : Bool) (x : Nat) (late : Bool) : State :=
  let c := hart / 32
  let cl := hart / 4
  let line := lineOf a
  let d := gnsDie c
  let w : Asker := ⟨hart, .store⟩
  if !(amoAligned wide a) || !(lineAsk s c a) then w.fault s
  else
    let s := wakeAccess s 2
    let mode := fld s (R_GNS_ATOM_CTRL d) F_GNS_ATOM_CTRL_MODE
    let far := if mode = 1 then false else if mode = 2 then true else decide (2 ≤ tabGet s.coh.pred (predKey cl line) 0)
    if !far then
      let r := amoInCache (l2Take (gainLine s c line late w) c line (some (cl % 8))) c a op wide x
      match r.2 with
      | some old =>
        let s := { r.1 with coh := { r.1.coh with amoAt := tabPut r.1.coh.amoAt (copyKey cl line) r.1.cyc } }
        emit (count s (R_GNS_ATOM_NEAR d) 1) (.hart hart old)
      | none => r.1
    else if (copyGet s c line).isSome && (lineAt s c line).llc then
      let r := amoInCache (l2Take (gainLine s c line late w) c line none) c a op wide x
      match r.2 with
      | some old => emit (count r.1 (R_GNS_ATOM_LLC d) 1) (.hart hart old)
      | none => r.1
    else
      let alone := !(heldElsewhere s c line)
      let r := homeFarAtomic (count s (R_GNS_ATOM_FAR d) 1) c a op wide x w
      if r.2.2 then
        let s := emit r.1 (.hart hart r.2.1)
        if alone then { s with coh := { s.coh with pred := tabMod s.coh.pred (predKey cl line) 0 (· - 1) } } else s
      else r.1

/-- The meaning of AMO_ISSUE. -/
def execAmoIssue (hart : Fin 256) (addr : Nat) (amo : AmoOp) (wide : Bool) (operand : DWord) (late : Bool)
    (ups : List Before) (s : State) : Host.Outcome State Fault Refusal :=
  .next (amoIssue (upsets s ups) hart addr amo wide operand.toNat late)

/-! ### Path barriers (09:R207, R208). -/

/-- PATH_BARRIER_READ: an aligned 8-byte load from the barrier window. -/
def barrierRead (s : State) (hart addr : Nat) : State :=
  match regionOf s addr with
  | .mirror a =>
    match homeDie s a with
    | some h =>
      if addr % 8 = 0 && pathUp s (gnsDie (hart / 32)) h then barrierStart s h a (some hart) none
      else emit s (.hartFault hart .load)
    | none => emit s (.hartFault hart .load)
  | _ => emit s (.hartFault hart .load)

/-- The meaning of PATH_BARRIER_READ. -/
def execPathBarrierRead (hart : Fin 256) (addr : Nat) (s : State) : Host.Outcome State Fault Refusal :=
  .next (barrierRead s hart addr)

/-- A barrier ends with a status, and so does the command that waits for it. -/
def barrierFinish (s : State) (b : PathBar) (status : Nat) : State :=
  let s := barrierEnd s b status
  match s.cmds.taken.find? fun t => t.wait == .barrier b.id with
  | some t => finish s t (.done status (leBytes 8 (barrierWord s b.home status)))
  | none => s

/-- Whether every die's marker has a route to the home of a barrier. -/
def barrierClear (s : State) (b : PathBar) : Bool :=
  b.missing.isEmpty && (List.range 64).all fun d => pathUp s d b.home

/-- PATH_BARRIER_COMPLETE: the first barrier at a home whose markers can all arrive. (Open points: assumption 47, DEDUCED.) -/
def barrierComplete (s : State) (home : Nat) : State :=
  match s.coh.bars.find? fun b => b.home == home && barrierClear s b with
  | some b => barrierFinish s b 0
  | none => s

/-- The meaning of PATH_BARRIER_COMPLETE. -/
def execPathBarrierComplete (home : Fin 64) (s : State) : Host.Outcome State Fault Refusal := .next (barrierComplete s home)

/-- PATH_BARRIER_TIMEOUT: a barrier at a home that a marker has not reached, one whose marker has no route first. (Open points: assumption 9, DESIGN CHOICE; assumption 47, DEDUCED.) -/
def barrierTimeout (s : State) (home : Nat) : State :=
  match (s.coh.bars.find? fun b => b.home == home && !(barrierClear s b)).or (s.coh.bars.find? fun b => b.home == home) with
  | some b => barrierFinish s b 0x0302
  | none => s

/-- The meaning of PATH_BARRIER_TIMEOUT. -/
def execPathBarrierTimeout (home : Fin 64) (s : State) : Host.Outcome State Fault Refusal := .next (barrierTimeout s home)

/-- MEM_PATH_BARRIER. (Open points: assumption 47, DEDUCED.) -/
def cmdMemPathBarrier (addr : DWord) : CmdFn := fun t s =>
  match homeDie s addr.toNat with
  | none => refuse s 0x0102
  | some h =>
    if !(pathUp s (cmdAgent s t).die h) then (s, some (.done 0x0105 []))
    else (defer (barrierStart s h addr.toNat none (some t.id)) t (.barrier s.nextId), none)

/-- The meaning of MEM_PATH_BARRIER. -/
def execMemPathBarrier (src : Src) (addr : DWord) (s : State) : Host.Outcome State Fault Refusal :=
  .next (runCmd 0x0321 src (parBytes [(8, 8, addr.toNat)]) (cmdMemPathBarrier addr) s)

/-! ### MEM_INTERLEAVE (09:R210, R211). -/

/-- Base and end of a quadrant's LPDDR6 range. (Open points: assumption 49, DEDUCED.) -/
def quadRange (q : Nat) : Nat × Nat := (q * 0x003000000000, (q + 1) * 0x003000000000)

/-- Where a line of a quadrant's LPDDR6 lies when its mode changes to `mode` (bit: interleaved), by offset in the range: the
same Flint and Flint offset under the other mode (09:R190). -/
def intlvMove (o : Nat) (mode : Bool) : Nat :=
  if mode then ((o % 68719476736 / 4096) * 3 + o / 68719476736) * 4096 + o % 4096
  else (o / 4096 % 3) * 68719476736 + o / 12288 * 4096 + o % 4096

/-- The errors stored in a quadrant's LPDDR6 stay where they are in their devices (08:R181). (Open points: assumption 49, DEDUCED.) -/
def eccMove (s : State) (q : Nat) (mode : Bool) : State :=
  let r := quadRange q
  let inR (a : Nat) : Bool := decide (r.1 ≤ a) && decide (a < r.2)
  let s' := { s with ecc := tabDelIf s.ecc inR }
  (s.ecc.filter fun e => inR e.1).foldl (fun s e => { s with ecc := tabPut s.ecc (r.1 + intlvMove (e.1 - r.1) mode) e.2 }) s'

/-- The quadrant of the replay log's region. (Open points: assumption 49, DEDUCED.) -/
def rplQuad (s : State) : Option Nat :=
  (List.range 4).find? fun q => decide ((quadRange q).1 ≤ (ctrGet s R_SCH_RPL_BASE).toNat) && decide ((ctrGet s R_SCH_RPL_BASE).toNat < (quadRange q).2)
/-- Change the interleave mode: cached copies are invalidated under the old mode, the contents are lost,
an update configuration that uses a changed quadrant is released (11:R267), and a replay log in one stops (16:R385). (Open points: assumption 49, DEDUCED.) -/
def interleaveSet (s : State) (quads mode : Nat) : State :=
  let hit := (setBits 4 quads).filter fun q => bitOf s.intlv q != bitOf mode q
  let s := updDrop s fun c => updInQuads c hit
  let s := if rplRunning s && hit.any (fun q => rplQuad s == some q) then rplStop s 2 else s
  let s := hit.foldl (fun s q =>
    let r := quadRange q
    eccMove (loseRange (dropCopies s (fun a => decide (r.1 ≤ a) && decide (a < r.2)) true) r.1 r.2) q (bitOf mode q)) s
  { s with intlv := hit.foldl (fun m q => m ^^^ 2 ^ q) s.intlv }

/-- MEM_INTERLEAVE. (Open points: assumption 49, DEDUCED.) -/
def cmdMemInterleave (quads mode : Byte) : CmdFn := fun _ s =>
  refuseIf (quads.toNat % 16 == 0 || decide (16 ≤ quads.toNat) || decide (16 ≤ mode.toNat)) 0x0102 s
  <| refuseIf ((List.range 16).any (fun g => (schedGet s g).image.isSome) || memCmdBusy s) 0x0304 s
  <| let s := interleaveSet s quads.toNat mode.toNat
     okay s [BitVec.ofNat 8 s.intlv]

/-- The meaning of MEM_INTERLEAVE. -/
def execMemInterleave (src : Src) (quads mode : Byte) (ups : List Before) (s : State) : Host.Outcome State Fault Refusal :=
  .next (runCmd 0x0320 src (parBytes [(0, 1, quads.toNat), (1, 1, mode.toNat)]) (cmdMemInterleave quads mode) (upsets s ups))

end Sys2Proof.Machine
end

