-- ==== Sys2Proof/Machine/Queues.lean ====
section
/-! DEFINITION. Queues as their registers drive them (15:R345-R347), the device and pod commands (15:R367-R371), and pod
frames (15:R368-R370). -/
namespace Sys2Proof.Machine

/-! ### Queue registers. -/

/-- A write of a new TAIL to SCH_Q_DOORBELL: discarded on session queues and while ENABLE is 0, and on overrun. -/
def doorbell (s : State) (q tail : Nat) : State :=
  if 32 ≤ q ∨ qFld s q F_SCH_Q_CFG_ENABLE = 0 then s
  else if qDepth s q < idxDiff tail (qHead s q) ∨ qDepth s q < idxDiff tail (qTail s q) then
    raise s (R_SCH_Q_ERR q) F_SCH_Q_ERR_DB_OVERRUN
  else setFld s (R_SCH_Q_IDX q) F_SCH_Q_IDX_TAIL tail

/-- The meaning of QUEUE_DOORBELL. -/
def execQueueDoorbell (q : Fin 64) (tail : Half) (s : State) : Host.Outcome State Fault Refusal := .next (doorbell s q tail.toNat)

/-- A write of a new RPL_HEAD to SCH_Q_RPL_DOORBELL. -/
def rplDoorbell (s : State) (q head : Nat) : State :=
  if idxDiff (qRplTail s q) (qRplHead s q) < idxDiff head (qRplHead s q) then raise s (R_SCH_Q_ERR q) F_SCH_Q_ERR_RPL_DB_BAD
  else setFld s (R_SCH_Q_RPL_IDX q) F_SCH_Q_RPL_IDX_RPL_HEAD head

/-- The meaning of QUEUE_RPL_DOORBELL. -/
def execQueueRplDoorbell (q : Fin 64) (head : Half) (s : State) : Host.Outcome State Fault Refusal :=
  .next (rplDoorbell s q head.toNat)

/-- Whether the ring bases and DEPTH_LOG2 of a queue are locked. -/
def qLocked (s : State) (q : Nat) : Bool :=
  decide (32 ≤ q) || qFld s q F_SCH_Q_CFG_ENABLE == 1 || qFld s q F_SCH_Q_CFG_DRAINING == 1

/-- A write to SCH_Q_CFG: DEPTH_LOG2 before ENABLE. -/
def qCfgWrite (s : State) (q : Nat) (w : Word) : State :=
  if 32 ≤ q then s
  else
    let dep := fldGet w F_SCH_Q_CFG_DEPTH_LOG2
    let s := if !(qLocked s q) && decide (4 ≤ dep) && decide (dep ≤ 12) then setFld s (R_SCH_Q_CFG q) F_SCH_Q_CFG_DEPTH_LOG2 dep else s
    let on := qFld s q F_SCH_Q_CFG_ENABLE == 1
    if fldGet w F_SCH_Q_CFG_ENABLE = 1 then
      if on || qFld s q F_SCH_Q_CFG_DRAINING == 1 || qFld s q F_SCH_Q_CFG_DEPTH_LOG2 == 0 then s
      else
        let s := regSet (regSet s (R_SCH_Q_IDX q) 0) (R_SCH_Q_RPL_IDX q) 0
        setFld (setFld s (R_SCH_Q_CFG q) F_SCH_Q_CFG_PHASE 1) (R_SCH_Q_CFG q) F_SCH_Q_CFG_ENABLE 1
    else if on then
      setFld (setFld s (R_SCH_Q_CFG q) F_SCH_Q_CFG_ENABLE 0) (R_SCH_Q_CFG q) F_SCH_Q_CFG_DRAINING (b2n (qOwes s q))
    else s

/-- The meaning of QUEUE_ENABLE: a write whose ENABLE bit is 1. -/
def execQueueEnable (q : Fin 64) (word : Word) (s : State) : Host.Outcome State Fault Refusal :=
  .next (qCfgWrite s q (word ||| 1#32))

/-- The meaning of QUEUE_DISABLE: a write whose ENABLE bit is 0. -/
def execQueueDisable (q : Fin 64) (word : Word) (s : State) : Host.Outcome State Fault Refusal :=
  .next (qCfgWrite s q (word &&& 0xFFFFFFFE#32))

/-- A write to SCH_HOLD: 1 to HELD clears the hold. -/
def holdWrite (s : State) (w : Word) : State := if fldGet w F_SCH_HOLD_HELD = 1 then holdOff s else s

/-- The meaning of HOLD_CLEAR. -/
def execHoldClear (word : Word) (s : State) : Host.Outcome State Fault Refusal := .next (holdWrite s word)

/-! ### DEV_INFO, DEV_NOP, QUEUE_STATE. -/

/-- Sessions in a state. -/
def sesCount (s : State) (st : Nat) : Nat := ((List.range 8).filter fun i => sesState s i == st).length

/-- DEV_INFO: FLOOR is that of the Schist that answers. -/
def cmdDevInfo : CmdFn := fun t s =>
  okay s (leBytes 8 (moduleId s) ++ [BitVec.ofNat 8 (fld s (R_DIE_ID (tSchist s t)) F_DIE_ID_FLOOR),
    BitVec.ofNat 8 (b2n (safeMode s) + 2 * b2n (held s)),
    BitVec.ofNat 8 (ofBits ((List.range 4).filter fun q => dieRunning s (schDie q))), 0#8,
    BitVec.ofNat 8 (sesCount s 1), BitVec.ofNat 8 (sesCount s 2), 0#8, 0#8] ++ leBytes 4 s.step.toNat)

/-- The meaning of DEV_INFO. -/
def execDevInfo (src : Src) (s : State) : Host.Outcome State Fault Refusal := .next (runCmd 0x0101 src [] cmdDevInfo s)

/-- DEV_NOP. -/
def cmdDevNop : CmdFn := fun _ s => okay s []

/-- The meaning of DEV_NOP. -/
def execDevNop (src : Src) (s : State) : Host.Outcome State Fault Refusal := .next (runCmd 0x0102 src [] cmdDevNop s)

/-- QUEUE_STATE. -/
def cmdQueueState (q : Byte) : CmdFn := fun _ s =>
  let n := q.toNat
  refuseIf (decide (63 < n)) 0x0102 s
  <| okay s (leBytes 2 (qTail s n) ++ leBytes 2 (qHead s n) ++ leBytes 2 (qRplTail s n) ++ leBytes 2 (qRplHead s n)
      ++ leBytes 4 (match tabFind s.cmds.nextSeq n with | some w => w.toNat | none => 0)
      ++ [BitVec.ofNat 8 (qFld s n F_SCH_Q_CFG_ENABLE + 2 * qFld s n F_SCH_Q_CFG_SESSION_OWNED)])

/-- The meaning of QUEUE_STATE. -/
def execQueueState (src : Src) (q : Byte) (s : State) : Host.Outcome State Fault Refusal :=
  .next (runCmd 0x0103 src (parBytes [(0, 1, q.toNat)]) (cmdQueueState q) s)

/-! ### The pod table (15:R367). -/

/-- Read the entries of a pod table from an address on; none when an entry lies outside the table's memory range. The
last answer says that a read met an uncorrectable error. -/
def podRead (s : State) (t : Taken) (base : Nat) : Nat → Nat → List (Nat × Nat) → State × Option (List (Nat × Nat)) × Bool
  | 0, _, acc => (s, some acc, false)
  | n + 1, i, acc =>
    if !(inOneRange base (16 * (i + 1))) then (s, none, false)
    else
      match cmdRead s t (base + 16 * i) 16 with
      | (s', none) => (s', some acc, true)
      | (s', some bs) =>
        if fieldLE bs 0 8 = 0 then (s', some acc, false)
        else podRead s' t base n (i + 1) (acc ++ [(fieldLE bs 0 8, fieldLE bs 8 1)])

/-- Depth of a member (the fuel bounds the climb). -/
def podDepth (es : List (Nat × Nat)) : Nat → Nat → Nat
  | 0, _ => 0
  | f + 1, i => if i = 0 then 0 else podDepth es f (es.getD i (0, 0)).2 + 1

/-- Depth of the deepest member. -/
def podMaxDepth (es : List (Nat × Nat)) : Nat := (List.range es.length).foldl (fun m i => Nat.max m (podDepth es 64 i)) 0

/-- Whether a table keeps the rules on MODULE_ID and PARENT. (Open points: assumption 27, DESIGN CHOICE.) -/
def podTableOk (es : List (Nat × Nat)) : Bool :=
  decide (es.map Prod.fst).Nodup &&
    (indexed es).all fun e => if e.1 = 0 then e.2.2 == 255 else decide (e.2.2 < e.1)

/-- Set the pod table and SCH_POD_STATUS. -/
def podSet (s : State) (p : Option Pod) : State :=
  let w : Word := match p with
    | none => 0
    | some p => fldSet (fldSet (fldSet (fldSet 0 F_SCH_POD_STATUS_MEMBER p.me) F_SCH_POD_STATUS_CONFIGURED 1)
        F_SCH_POD_STATUS_ROOT (b2n (p.me == 0))) F_SCH_POD_STATUS_DEPTH p.depth
  regSet { s with pod := p } R_SCH_POD_STATUS w

/-- POD_CFG without RELEASE. -/
def cmdPodCfg (addr : DWord) : CmdFn := fun t s =>
  if !(inOneRange addr.toNat 16) then refuse s 0x0102
  else if !(cmdReach s t addr.toNat 16) then (s, some (.done 0x0105 []))
  else
    match podRead s t addr.toNat 64 0 [] with
    | (s', none, _) => refuse s' 0x0102
    | (s', some _, true) => (s', some (.done 0x0301 []))
    | (s', some es, false) =>
      match es.findIdx? fun e => e.1 == moduleId s' with
      | none => refuse s' 0x0102
      | some me =>
        let tmo := (regGet s' R_SCH_POD_TIMEOUT).toNat
        refuseIf (!(podTableOk es) || (me == 0 && decide (tmo < 20 * (podMaxDepth es + 1)))) 0x0102 s'
        <| let d := podDepth es 64 me
           okay (podSet s' (some ⟨es, me, d⟩)) [BitVec.ofNat 8 me, BitVec.ofNat 8 d]

/-- The meaning of POD_CFG. -/
def execPodCfg (src : Src) (addr : DWord) (s : State) : Host.Outcome State Fault Refusal :=
  .next (runCmd 0x0140 src (parBytes [(8, 8, addr.toNat)]) (cmdPodCfg addr) s)

/-- POD_CFG with RELEASE. -/
def cmdPodRelease : CmdFn := fun _ s => okay (podSet s none) []

/-- The meaning of POD_RELEASE. -/
def execPodRelease (src : Src) (s : State) : Host.Outcome State Fault Refusal :=
  .next (runCmd 0x0140 src (parBytes [(0, 1, 1)]) cmdPodRelease s)

/-- A write to SCH_POD_TIMEOUT: discarded outside 100 to 600,000, and on a configured root below 20 ms × (D + 1). -/
def podTimeoutWrite (s : State) (w : Word) : State :=
  let n := w.toNat
  let short := match s.pod with | some p => p.me == 0 && decide (n < 20 * (podMaxDepth p.entries + 1)) | none => false
  if n < 100 || decide (600000 < n) || short then s else regSet s R_SCH_POD_TIMEOUT w

/-! ### Pod frames (15:R368-R370). -/

/-- A pod packet arrives: accepted from the parent alone, sent on to the children, and put on the relay queue. (Open points: assumption 27, DESIGN CHOICE; assumption 26, DEDUCED.) -/
def podArrive (s : State) (port timeout : Nat) (pkt : List Byte) : State :=
  match s.pod with
  | none => s
  | some p =>
    if p.me = 0 || !(portYoger s port) || portPeer s port != (p.entries.getD (p.entries.getD p.me (0, 0)).2 (0, 0)).1 ||
        decide (256 ≤ s.cmds.relay.length) then s
    else
      let n := newId s
      let c : PodCmd := ⟨n.1, p, none, none, [], timeout⟩
      let r : RelayPkt := ⟨n.1, sliceZ pkt 0 64, p, timeout⟩
      let s := { n.2 with podCmds := n.2.podCmds ++ [c], cmds := { n.2.cmds with relay := n.2.cmds.relay ++ [r] } }
      if held s then { s with cmds := { s.cmds with unsent := s.cmds.unsent ++ [r] } } else podRelay s r

/-- The meaning of POD_RELAY_FRAME. -/
def execPodRelayFrame (port : Fin 48) (timeout : Word) (pkt : List Byte) (s : State) : Host.Outcome State Fault Refusal :=
  .next (podArrive s port timeout.toNat pkt)

/-- A child's report arrives: merged, or discarded as late. (Open points: assumption 27, DESIGN CHOICE.) -/
def podReported (s : State) (port child id : Nat) (r : PodRep) : State :=
  match s.podCmds.find? (·.id == id) with
  | none => count s R_SCH_POD_LATE 1
  | some c =>
    if !((podChildren c.pod).contains child) || !(portYoger s port) || portPeer s port != (c.pod.entries.getD child (0, 0)).1 then s
    else if (tabFind c.reps child).isSome then count s R_SCH_POD_LATE 1
    else
      podSettle { s with podCmds := s.podCmds.map fun (x : PodCmd) =>
        if x.id = id then { x with reps := tabPut x.reps child r } else x } id false

/-- The meaning of POD_REPORT. -/
def execPodReport (port : Fin 48) (child : Fin 64) (id : Nat) (rep : PodRep) (s : State) : Host.Outcome State Fault Refusal :=
  .next (podReported s port child id rep)

/-- The meaning of POD_WAIT_EXPIRY: the report goes out with what is missing marked. -/
def execPodWaitExpiry (id : Nat) (s : State) : Host.Outcome State Fault Refusal := .next (podSettle s id true)

end Sys2Proof.Machine
end

