-- ==== Sys2Proof/Machine/Sessions.lean ====
section
/-! DEFINITION. The management ports, host sessions and their messages (15:R354-R366), and the session commands
(15:R371). -/
namespace Sys2Proof.Machine

/-! ### Messages (15:R355-R357). -/

/-- TYPE of a message. -/
def msgType (m : List Byte) : Nat := fieldLE m 3 1
/-- SESSION. -/
def msgSession (m : List Byte) : Nat := fieldLE m 4 4
/-- COUNTER. -/
def msgCounter (m : List Byte) : Nat := fieldLE m 8 8
/-- QUEUE. -/
def msgQueue (m : List Byte) : Nat := fieldLE m 18 2
/-- BODY. -/
def msgBody (m : List Byte) : List Byte := (m.drop 32).take (fieldLE m 16 2)

/-- MAGIC, VERSION, reserved bytes and lengths are correct. -/
def msgForm (m : List Byte) : Bool :=
  decide (m.length ≤ 1452) && decide (48 ≤ m.length) && fieldLE m 0 2 == 0x4B57 && fieldLE m 2 1 == 1 && fieldLE m 20 12 == 0 &&
    decide (fieldLE m 16 2 ≤ 1280) && m.length == 48 + fieldLE m 16 2

/-- The TAG verifies under a key. -/
def msgTagOk (key m : List Byte) : Bool :=
  m.drop (32 + fieldLE m 16 2) == msgTag key (m.take (32 + fieldLE m 16 2))

/-- The host key of a slot, if it is not empty. -/
def hostKey (s : State) (slot : Nat) : Option (List Byte) := tabFind s.fw.keys slot

/-- The session key (15:R357). -/
def sessionKey (k hostNonce devNonce : List Byte) (sid : Nat) : List Byte :=
  kmac256 k (hostNonce ++ devNonce ++ leBytes 4 sid) "WK-SESSION" 32

/-- The session index that holds an identifier, ATTACHED or DETACHED. -/
def sesFind (s : State) (sid : Nat) : Option Nat :=
  if sid = 0 then none
  else (List.range 8).find? fun i => (sesState s i == 1 || sesState s i == 2) && (regGet s (R_SCH_SES_ID i)).toNat == sid

/-- The die whose identity byte a session's records carry: the Schist that serves its port, or the writer. -/
def sesDie (s : State) (i : Nat) : Nat := (mgmtSchist s (sesGet s i).port).getD (writerDie s)

/-- A message of a session is dropped: it is counted, and the 16th within 1 s is recorded. (Open points: assumption 68, DEDUCED.) -/
def sesDrop (s : State) (i : Nat) : State :=
  let s := ctrSet s (R_SCH_SES_AUTH_FAIL i) (ctrGet s (R_SCH_SES_AUTH_FAIL i) + 1)
  let x := sesGet s i
  let ds := s.cyc :: x.drops.filter fun t => decide (s.cyc < t + 1050000000)
  let s := sesSet s i { x with drops := ds }
  if ds.length = 16 then strataEvent s (sesDie s i) 0x91 0x0901 (regGet s (R_SCH_SES_ID i)).toNat i else s

/-- Whether a counter is accepted: above every one so far, or within 64 below the highest and new. -/
def counterOk (x : Ses) (c : Nat) : Bool :=
  decide (x.rxHigh < c) || (decide (c < x.rxHigh) && decide (x.rxHigh ≤ c + 64) && !(x.rxSeen.contains c))

/-- The counter of an accepted message is noted. (Open points: assumption 71, DEDUCED.) -/
def sesNote (s : State) (i c : Nat) : State :=
  let x := sesGet s i
  let high := Nat.max x.rxHigh c
  sesSet s i { x with rxHigh := high, rxSeen := (c :: x.rxSeen).filter fun k => decide (high ≤ k + 64) }
/-- A message of a session is accepted: its counter is noted, and the lease restarts with LEASE_MS as last set. -/
def sesAccept (s : State) (i port c : Nat) : State :=
  let s := sesNote s i c
  let x := sesGet s i
  regSet (sesSet s i { x with port := port }) (R_SCH_SES_LEASE i) (BitVec.ofNat 32 x.nextLease)

/-- The TYPEs that a host sends (15:R356). (Open points: assumption 71, DEDUCED.) -/
def hostTypes : List Nat := [0x01, 0x02, 0x04, 0x10, 0x13, 0x20, 0x22, 0x30, 0x31]
/-- A message under a session key reaches a port: dropped, or accepted and acted on. A message that names no session
is dropped; one of a DETACHED session has no effect, and neither has one of a TYPE that no host sends. (Open points: assumption
71, DEDUCED; assumption 71, DEDUCED.) -/
def sesMessage (s : State) (port ty : Nat) (m : List Byte) (k : State → Nat → State) : State :=
  let own := msgType m == ty
  if (mgmtSchist s port).isNone || decide (1452 < m.length) || (!own && hostTypes.contains (msgType m)) then s
  else
    match sesFind s (msgSession m) with
    | none => s
    | some i =>
      if !(msgForm m) || !(msgTagOk (sesGet s i).ks m) || !(counterOk (sesGet s i) (msgCounter m)) then sesDrop s i
      else if sesState s i = 1 then (if own then k else fun s _ => s) (sesAccept s i port (msgCounter m)) i
      else s

/-! ### Opening and resuming (15:R358, R359, R365). -/

/-- LEASE_MS of an OPEN_REQ. -/
def leaseOf (n : Nat) : Nat := if n = 0 then 2000 else n
/-- Whether a LEASE_MS is allowed. -/
def leaseOk (n : Nat) : Bool := decide (100 ≤ n) && decide (n ≤ 60000)

/-- The first of `n` consecutive free session queues. -/
def freeQueues (s : State) (n : Nat) : Option Nat :=
  (List.range 32).find? fun a => decide (a + n ≤ 32) &&
    (List.range n).all fun k => qFld s (32 + a + k) F_SCH_Q_CFG_SESSION_OWNED == 0

/-- An identifier from `sid` on that is not zero and that no session or half-open session holds; no more candidates fail than
there are sessions, half-open sessions and the zero. (Open points: assumption 72, DESIGN CHOICE.) -/
def freshSid (s : State) : Nat → Nat → Nat
  | 0, sid => sid
  | f + 1, sid =>
    let x := sid % 4294967296
    if x = 0 || ((List.range 8).any fun i => sesState s i != 0 && (regGet s (R_SCH_SES_ID i)).toNat == x) || s.half.any (·.sid == x)
    then freshSid s f (sid + 1) else x

/-- Answer an opening message under a host key. -/
def openAnswer (s : State) (port : Nat) (key : List Byte) (ty sid : Nat) (body : List Byte) : State :=
  mgmtOut s port (msgBytes key ty sid 1 0 body)

/-- OPEN_REQ. `sid` and `nonce` are what the Lorsan draws. (Open points: assumption 71, DEDUCED; assumption 72, DESIGN CHOICE.) -/
def openReq (s : State) (port : Nat) (m : List Byte) (sid : Nat) (nonce : List Byte) : State :=
  let b := msgBody m
  let slot := fieldLE b 0 1
  match hostKey s slot with
  | none => s
  | some key =>
    if (mgmtSchist s port).isNone || !(msgForm m) || msgType m != 0x01 || msgSession m != 0 || b.length != 40 || !(msgTagOk key m) then s
    else
      let policy := fieldLE b 1 1
      let queues := fieldLE b 2 1
      let lease := leaseOf (fieldLE b 4 4)
      if 1 < policy || queues = 0 || decide (8 < queues) || !(leaseOk lease) then openAnswer s port key 0x06 0 (leBytes 2 0x0102)
      else if sesCount s 0 = 0 || (freeQueues s queues).isNone then openAnswer s port key 0x06 0 (leBytes 2 0x0902)
      else
        let x := freshSid s (s.half.length + 10) sid
        let non := sliceZ nonce 0 32
        let h : HalfOpen := ⟨x, slot, false, policy, queues, lease, sliceZ b 8 32, non, port⟩
        openAnswer { s with half := s.half ++ [h] } port key 0x03 x (non ++ leBytes 4 x)

/-- The meaning of OPEN_REQ. -/
def execOpenReq (port : Fin 2) (msg : List Byte) (sid : Word) (nonce : List Byte) (s : State) : Host.Outcome State Fault Refusal :=
  .next (openReq s port msg sid.toNat nonce)

/-- RESUME_REQ. (Open points: assumption 71, DEDUCED.) -/
def resumeReq (s : State) (port : Nat) (m nonce : List Byte) : State :=
  let b := msgBody m
  let slot := fieldLE b 0 1
  let sid := fieldLE b 4 4
  let drop (s : State) : State := match sesFind s sid with | some i => sesDrop s i | none => s
  let mine := (sesFind s sid).filter fun i => fld s (R_SCH_SES_STATE i) F_SCH_SES_STATE_KEY_SLOT == slot
  if (mgmtSchist s port).isNone || decide (1452 < m.length) || msgType m != 0x02 then s
  else
    match hostKey s slot with
    | none => drop s
    | some key =>
      let fresh := match mine with | some i => counterOk (sesGet s i) (msgCounter m) | none => true
      if !(msgForm m) || msgSession m != sid || b.length != 40 || !(msgTagOk key m) || !fresh then drop s
      else
        let hit := match mine with | some i => sesState s i == 2 | none => false
        let s := match mine with | some i => sesNote s i (msgCounter m) | none => s
        if hit then
          let non := sliceZ nonce 0 32
          let h : HalfOpen := ⟨sid, slot, true, 0, 0, 0, sliceZ b 8 32, non, port⟩
          openAnswer { s with half := (s.half.filter fun x => x.sid != sid) ++ [h] } port key 0x03 sid (non ++ leBytes 4 sid)
        else openAnswer s port key 0x06 sid (leBytes 2 0x0903)

/-- The meaning of RESUME_REQ. -/
def execResumeReq (port : Fin 2) (msg nonce : List Byte) (s : State) : Host.Outcome State Fault Refusal :=
  .next (resumeReq s port msg nonce)

/-- The next SEQ expected on a queue, as a CMD_ACK carries it; zero while none is known. -/
def nextSeq (s : State) (q : Nat) : Nat := match tabFind s.cmds.nextSeq q with | some w => w.toNat | none => 0
/-- Send a CMD_ACK. -/
def sendAck (s : State) (i q : Nat) : State := sesSend s i 0x11 q (leBytes 4 (nextSeq s q))

/-- OPEN_OK of a session. -/
def sendOpenOk (s : State) (i : Nat) : State :=
  let st := regGet s (R_SCH_SES_STATE i)
  sesSend s i 0x05 0 ([BitVec.ofNat 8 (fldGet st F_SCH_SES_STATE_FIRST_QUEUE), BitVec.ofNat 8 (fldGet st F_SCH_SES_STATE_QUEUES),
    BitVec.ofNat 8 (fldGet st F_SCH_SES_STATE_POLICY), 0#8] ++ leBytes 4 (regGet s (R_SCH_SES_LEASE i)).toNat)

/-- Give a session queue to a session. -/
def queueGive (s : State) (i q : Nat) : State :=
  let cfg := fldSet (fldSet (fldSet (fldSet (fldSet 0 F_SCH_Q_CFG_ENABLE 1) F_SCH_Q_CFG_DEPTH_LOG2 8) F_SCH_Q_CFG_SESSION_OWNED 1)
    F_SCH_Q_CFG_SESSION i) F_SCH_Q_CFG_PHASE 1
  let s := regSet (regSet (regSet s (R_SCH_Q_CFG q) cfg) (R_SCH_Q_IDX q) 0) (R_SCH_Q_RPL_IDX q) 0
  { s with cmds := { s.cmds with nextSeq := tabDel s.cmds.nextSeq q } }

/-- A session opens under a half-open record. -/
def sesOpen (s : State) (h : HalfOpen) (ks : List Byte) (c port : Nat) : State :=
  match (List.range 8).find? fun i => sesState s i == 0, freeQueues s h.queues with
  | some i, some a =>
    let first := 32 + a
    let st := fldSet (fldSet (fldSet (fldSet (fldSet 0 F_SCH_SES_STATE_STATE 1) F_SCH_SES_STATE_POLICY h.policy) F_SCH_SES_STATE_KEY_SLOT
      h.slot) F_SCH_SES_STATE_FIRST_QUEUE first) F_SCH_SES_STATE_QUEUES h.queues
    let s := regSet (regSet (regSet s (R_SCH_SES_STATE i) st) (R_SCH_SES_ID i) (BitVec.ofNat 32 h.sid)) (R_SCH_SES_LEASE i)
      (BitVec.ofNat 32 h.lease)
    let s := ctrSet s (R_SCH_SES_AUTH_FAIL i) 0
    let s := (List.range h.queues).foldl (fun s k => queueGive s i (first + k)) s
    let x : Ses := { ks := ks, rxHigh := c, rxSeen := [c], tx := 0, port := port, nextLease := h.lease, drops := [], armed := false }
    sendOpenOk (sesSet s i x) i
  | _, _ =>
    match hostKey s h.slot with
    | some key => openAnswer s port key 0x06 0 (leBytes 2 0x0902)
    | none => s

/-- A session resumes. -/
def sesResume (s : State) (i : Nat) (ks : List Byte) (c port : Nat) : State :=
  let x := sesGet s i
  let s := sesSet s i { x with ks := ks, rxHigh := c, rxSeen := [c], tx := 0, port := port, armed := false }
  let s := regSet s (R_SCH_SES_LEASE i) (BitVec.ofNat 32 x.nextLease)
  let s := sendOpenOk s i
  let s := holdCheck (setFld s (R_SCH_SES_STATE i) F_SCH_SES_STATE_STATE 1)
  let s := (sesQueues s i).foldl (fun s q => sendAck s i q) s
  (sesQueues s i).foldl (fun s q => sesSendReplies s i q (qRplHead s q) (idxDiff (qRplTail s q) (qRplHead s q))) s

/-- OPEN_CONFIRM: of a half-open session, under its new key; one that names a session and belongs to no half-open one is a message
of that session, without effect when it is accepted. (Open points: assumption 71, DEDUCED.) -/
def openConfirm (s : State) (port : Nat) (m : List Byte) : State :=
  if (mgmtSchist s port).isNone || decide (1452 < m.length) || msgType m != 0x04 then s
  else
    match s.half.find? fun h => h.sid == msgSession m with
    | none => sesMessage s port 0x04 m fun s _ => s
    | some h =>
      let ks := (hostKey s h.slot).map fun key => sessionKey key h.hostNonce h.devNonce h.sid
      if !(msgForm m) || !(ks.any fun k => msgTagOk k m) || msgCounter m = 0 then
        (if h.resume then (match sesFind s h.sid with | some i => sesDrop s i | none => s) else s)
      else
        let k := ks.getD []
        let s := { s with half := s.half.filter fun x => x.sid != h.sid }
        if h.resume then
          match sesFind s h.sid with
          | some i => if sesState s i = 2 then sesResume s i k (msgCounter m) port else s
          | none => s
        else sesOpen s h k (msgCounter m) port

/-- The meaning of OPEN_CONFIRM. -/
def execOpenConfirm (port : Fin 2) (msg : List Byte) (s : State) : Host.Outcome State Fault Refusal := .next (openConfirm s port msg)

/-- The meaning of HALF_OPEN_TIMEOUT. -/
def execHalfOpenTimeout (sid : Word) (s : State) : Host.Outcome State Fault Refusal :=
  .next { s with half := s.half.filter fun h => h.sid != sid.toNat }

/-! ### CMD, REPLY_ACK, REPLY_RESEND (15:R360, R361). -/

/-- Append packets to a session queue. -/
def appendPkts (s : State) (q : Nat) : List (List Byte) → State
  | [] => s
  | p :: t =>
    let seq := fieldLE p 4 4
    let next := nextSeq s q
    let known := (tabFind s.cmds.nextSeq q).isSome
    let ahead := (seq + 4294967296 - next) % 4294967296
    if known && decide (2147483648 ≤ ahead) then appendPkts s q t
    else if known && ahead != 0 then s
    else if 256 < idxDiff ((qTail s q + 1) % 65536) (qHead s q) then s
    else
      let s := { s with cmds := { s.cmds with sesCmd := tabPut s.cmds.sesCmd (q * 65536 + qTail s q % 256) p,
                                              nextSeq := tabPut s.cmds.nextSeq q (BitVec.ofNat 32 (seq + 1)) } }
      appendPkts (setFld s (R_SCH_Q_IDX q) F_SCH_Q_IDX_TAIL ((qTail s q + 1) % 65536)) q t

/-- CMD. -/
def cmdMessage (s : State) (port : Nat) (m : List Byte) : State :=
  sesMessage s port 0x10 m fun s i =>
    let b := msgBody m
    let q := msgQueue m
    if !((sesQueues s i).contains q) || b.length = 0 || b.length % 64 != 0 || decide (1024 < b.length) then s
    else sendAck (appendPkts s q (chunks 64 16 b)) i q

/-- The meaning of CMD. -/
def execCmd (port : Fin 2) (msg : List Byte) (s : State) : Host.Outcome State Fault Refusal := .next (cmdMessage s port msg)

/-- REPLY_ACK. -/
def replyAck (s : State) (port : Nat) (m : List Byte) : State :=
  sesMessage s port 0x13 m fun s i =>
    let q := msgQueue m
    if (sesQueues s i).contains q && (msgBody m).length == 2 then rplDoorbell s q (fieldLE (msgBody m) 0 2) else s

/-- The meaning of REPLY_ACK. -/
def execReplyAck (port : Fin 2) (msg : List Byte) (s : State) : Host.Outcome State Fault Refusal := .next (replyAck s port msg)

/-- REPLY_RESEND: the unconsumed replies of an ATTACHED session go out again. (Open points: assumption 72, DESIGN CHOICE.) -/
def replyResend (s : State) (i : Nat) : State :=
  if sesState s i = 1 then
    (sesQueues s i).foldl (fun s q => sesSendReplies s i q (qRplHead s q) (idxDiff (qRplTail s q) (qRplHead s q))) s
  else s

/-- The meaning of REPLY_RESEND. -/
def execReplyResend (idx : Fin 8) (s : State) : Host.Outcome State Fault Refusal := .next (replyResend s idx)

/-! ### DATA messages (15:R362; 19:R442). -/

/-- The Schist whose recorder window covers a read, if one does (19:R442). -/
def windowDie (s : State) (a n : Nat) : Option Nat :=
  ((List.range 4).map schDie).find? fun d => dieRunning s d && decide (regAt d 0x9100 ≤ a) && decide (a + n ≤ regAt d 0x9200) &&
    (n == 64 || n == 128 || n == 256)

/-- Whether a DATA message names a range that it may. -/
def dataRangeOk (s : State) (a n : Nat) : Bool :=
  a % 64 == 0 && (regionOf s a).isMem && inOneRange a n && decide (64 ≤ n) && decide (n ≤ 1024) && n % 64 == 0

/-- DATA_WR. (Open points: assumption 24, DEDUCED.) -/
def dataWr (s : State) (port : Nat) (m : List Byte) : State :=
  sesMessage s port 0x20 m fun s i =>
    let b := msgBody m
    let a := fieldLE b 0 8
    let bs := b.drop 8
    let ack (s : State) (st : Nat) : State := sesSend s i 0x21 0 (leBytes 8 a ++ leBytes 2 st)
    if safeMode s then ack s 0x0104
    else if !(dataRangeOk s a bs.length) then ack s 0x0102
    else
      let d := (mgmtSchist s port).getD 15
      if !(homeUp s d a) then ack s 0x0105
      else
        let r := ncWrite (wakeAccess s 3) ⟨2, d⟩ a bs
        ack r.1 (if r.2 then 0 else 0x0301)

/-- The meaning of DATA_WR. -/
def execDataWr (port : Fin 2) (msg : List Byte) (ups : List Before) (s : State) : Host.Outcome State Fault Refusal :=
  .next (dataWr (upsets s ups) port msg)

/-- DATA_RD. (Open points: assumption 71, DEDUCED.) -/
def dataRd (s : State) (port : Nat) (m : List Byte) : State :=
  sesMessage s port 0x22 m fun s i =>
    let b := msgBody m
    let a := fieldLE b 0 8
    let n := fieldLE b 8 2
    let rsp (s : State) (st : Nat) (bs : List Byte) : State := sesSend s i 0x23 0 (leBytes 8 a ++ leBytes 2 st ++ List.replicate 6 0#8 ++ bs)
    match (if a % 64 = 0 then windowDie s a n else none) with
    | some d =>
      let s := windowFilled s
      rsp s 0 ((List.range (n / 4)).flatMap fun k => leBytes 4 (rdWord s d (a - regAt d 0 + 4 * k)).toNat)
    | none =>
      if safeMode s then rsp s 0x0104 []
      else if b.length ≠ 10 || !(dataRangeOk s a n) then rsp s 0x0102 []
      else
        let d := (mgmtSchist s port).getD 15
        if !(homeUp s d a) then rsp s 0x0105 []
        else
          let r := ncRead (wakeAccess s 3) ⟨2, d⟩ a n
          if r.2.2 then rsp r.1 0x0301 [] else rsp r.1 0 r.2.1

/-- The meaning of DATA_RD. -/
def execDataRd (port : Fin 2) (msg : List Byte) (ups : List Before) (s : State) : Host.Outcome State Fault Refusal :=
  .next (dataRd (upsets s ups) port msg)

/-! ### Leases and closing (15:R363, R366). -/

/-- The meaning of KEEPALIVE. -/
def execKeepalive (port : Fin 2) (msg : List Byte) (s : State) : Host.Outcome State Fault Refusal :=
  .next (sesMessage s port 0x30 msg fun s _ => s)

/-- The meaning of KEEPALIVE_SEND. -/
def execKeepaliveSend (idx : Fin 8) (s : State) : Host.Outcome State Fault Refusal :=
  .next (if sesState s idx = 1 then sesSend s idx 0x30 0 [] else s)

/-- SESSION_DETACH. (Open points: assumption 72, DESIGN CHOICE.) -/
def sesDetach (s : State) (i : Nat) : State :=
  if sesState s i = 1 then
    let s := setFld s (R_SCH_SES_STATE i) F_SCH_SES_STATE_STATE 2
    let s := sesSet (regInc s (R_SCH_SES_DETACH_CNT i) 1) i { sesGet s i with armed := true }
    strataEvent s (sesDie s i) 0x90 0 (regGet s (R_SCH_SES_ID i)).toNat i
  else s

/-- The meaning of SESSION_DETACH. -/
def execSessionDetach (idx : Fin 8) (s : State) : Host.Outcome State Fault Refusal := .next (sesDetach s idx)

/-- A session closes: the closing message, then its queues stop and their untaken packets go. (Open points: assumption 71, DEDUCED.) -/
def sesClose (s : State) (i : Nat) : State :=
  let s := sesSend s i 0x31 0 []
  let s := setFld s (R_SCH_SES_STATE i) F_SCH_SES_STATE_STATE 3
  let s := (sesQueues s i).foldl (fun s q =>
    setFld (setFld s (R_SCH_Q_CFG q) F_SCH_Q_CFG_ENABLE 0) (R_SCH_Q_IDX q) F_SCH_Q_IDX_TAIL (qHead s q)) s
  let s := { s with half := s.half.filter fun h => h.sid != (regGet s (R_SCH_SES_ID i)).toNat }
  sesRelease (holdCheck s) i

/-- The meaning of CLOSE. -/
def execClose (port : Fin 2) (msg : List Byte) (s : State) : Host.Outcome State Fault Refusal :=
  .next (sesMessage s port 0x31 msg sesClose)

/-! ### SES_INFO, SES_CLOSE, SES_LEASE_SET (15:R371). -/

/-- SES_INFO. -/
def cmdSesInfo (idx : Byte) : CmdFn := fun _ s =>
  let i := idx.toNat
  refuseIf (decide (7 < i)) 0x0102 s
  <| let st := regGet s (R_SCH_SES_STATE i)
     okay s (leBytes 4 (regGet s (R_SCH_SES_ID i)).toNat ++ [BitVec.ofNat 8 (sesState s i), BitVec.ofNat 8 (fldGet st F_SCH_SES_STATE_KEY_SLOT),
       BitVec.ofNat 8 (fldGet st F_SCH_SES_STATE_FIRST_QUEUE), BitVec.ofNat 8 (fldGet st F_SCH_SES_STATE_QUEUES)]
       ++ leBytes 4 (regGet s (R_SCH_SES_LEASE i)).toNat ++ [BitVec.ofNat 8 (fldGet st F_SCH_SES_STATE_POLICY)])

/-- The meaning of SES_INFO. -/
def execSesInfo (src : Src) (idx : Byte) (s : State) : Host.Outcome State Fault Refusal :=
  .next (runCmd 0x0901 src (parBytes [(0, 1, idx.toNat)]) (cmdSesInfo idx) s)

/-- SES_CLOSE: the reply is written before the session closes (15:R366). (Open points: assumption 71, DEDUCED.) -/
def cmdSesClose (id : Word) : CmdFn := fun t s =>
  match sesFind s id.toNat with
  | none => refuse s 0x0903
  | some i => (sesClose (finish s t (.ok [])) i, none)

/-- The meaning of SES_CLOSE. -/
def execSesClose (src : Src) (id : Word) (s : State) : Host.Outcome State Fault Refusal :=
  .next (runCmd 0x0902 src (parBytes [(4, 4, id.toNat)]) (cmdSesClose id) s)

/-- SES_LEASE_SET. (Open points: assumption 71, DEDUCED.) -/
def cmdSesLeaseSet (id lease : Word) (policy : Byte) : CmdFn := fun _ s =>
  refuseIf (!(leaseOk lease.toNat) || decide (1 < policy.toNat)) 0x0102 s
  <| match sesFind s id.toNat with
     | none => refuse s 0x0903
     | some i =>
       let s := sesSet s i { sesGet s i with nextLease := lease.toNat }
       okay (holdCheck (setFld s (R_SCH_SES_STATE i) F_SCH_SES_STATE_POLICY policy.toNat)) []

/-- The meaning of SES_LEASE_SET. -/
def execSesLeaseSet (src : Src) (id lease : Word) (policy : Byte) (s : State) : Host.Outcome State Fault Refusal :=
  .next (runCmd 0x0903 src (parBytes [(4, 4, id.toNat), (8, 4, lease.toNat), (12, 1, policy.toNat)]) (cmdSesLeaseSet id lease policy) s)

/-! ### IPv6 control messages (15:R354; 18:R417). -/

/-- Addresses of a management port: its link-local one, and the one formed from a router advertisement. (Open points:
assumption 90, PRESUMED.) -/
def mgmtAddrs (s : State) (k : Nat) : List Nat :=
  let a := linkLocal (mgmtMac s k)
  a :: match tabFind s.prefixes k with | some x => [leNat x.reverse * 2 ^ 64 + a % 2 ^ 64] | none => []

/-- A neighbour solicitation for an address of the port and an echo to one are answered, the solicitation with the address and
the port's MAC; a router advertisement forms a global address when the strap MGMT_ADDR asks for it; everything else is
dropped. (Open points: assumption 85, DESIGN CHOICE.) -/
def icmpv6 (s : State) (k : Nat) (kind : IcmpKind) (target : Nat) (payload : List Byte) : State :=
  if (mgmtSchist s k).isNone then s
  else match kind with
  | .neighbourSolicit =>
    if (mgmtAddrs s k).contains target then emit s (.mgmt k (netBytes 16 target ++ netBytes 6 (mgmtMac s k))) else s
  | .echo => if (mgmtAddrs s k).contains target then emit s (.mgmt k payload) else s
  | .routerAdvert =>
    if bitOf (fld s R_SCH_STRAP F_SCH_STRAP_LATCHED) 6 then { s with prefixes := tabPut s.prefixes k (sliceZ payload 0 8) } else s
  | .other => s

/-- The meaning of ICMPV6_MESSAGE. -/
def execIcmpv6Message (port : Fin 2) (kind : IcmpKind) (target : BitVec 128) (payload : List Byte) (s : State) :
    Host.Outcome State Fault Refusal :=
  .next (icmpv6 s port kind target.toNat payload)

end Sys2Proof.Machine
end

