-- ==== Sys2Proof/Machine/Take.lean ====
section
/-! DEFINITION. How a Schist takes a packet (15:R345-R350, R364, R368): which queue is next, the packet's bytes, the checks
that come before the command's own, and the command that its parameters spell. -/
namespace Sys2Proof.Machine

/-! ### The command that a packet spells (15:R352). -/

/-- The words of RCP_SET. -/
def parWords (par : List Byte) : List Word := (List.range 8).map fun k => parWord par (4 + 4 * k)

/-- Refuse with BAD_PARAM: an OP or a MODE that the table does not define. -/
def cmdBad : CmdFn := fun _ s => refuse s 0x0102

/-- The commands of families 0x01 to 0x03. -/
def cmdOfLow (op : Nat) (p : List Byte) : CmdFn :=
  match op with
  | 0x0101 => cmdDevInfo
  | 0x0102 => cmdDevNop
  | 0x0103 => cmdQueueState (parByte p 0)
  | 0x0110 => cmdRcpSet (parByte p 0) (bitOf (parByte p 1).toNat 0) (parWords p) (parDWord p 36)
  | 0x0120 => cmdDieReset (parByte p 0)
  | 0x0121 => cmdDieRejoin (parByte p 0)
  | 0x0130 => cmdDevWarmReset
  | 0x0131 => cmdFrameReset (parByte p 0) (parByte p 1)
  | 0x0132 => cmdDevStateSet (parByte p 0)
  | 0x0140 => if bitOf (parByte p 0).toNat 0 then cmdPodRelease else cmdPodCfg (parDWord p 8)
  | 0x0201 => cmdSchLoad (parByte p 0) (parDWord p 8) (parWord p 16)
  | 0x0202 => cmdSchUnload (parByte p 0)
  | 0x0203 => cmdSchRun (parHalf p 0) (parByte p 2) (parWord p 4) (parHalf p 8) (parDWord p 16)
  | 0x0204 =>
    if (parByte p 0).toNat < 2 then cmdSchStep (parByte p 0).toNat (parDWord p 8)
    else if (parByte p 0).toNat = 2 then cmdSchStepSet (parDWord p 8)
    else cmdBad
  | 0x0205 => cmdSchAbort (parHalf p 0)
  | 0x0310 => cmdShlRegionSet (parByte p 0) (parByte p 1) (parWord p 4)
  | 0x0311 => cmdShlWellArm (parByte p 0) (parHalf p 2)
  | 0x0312 => cmdShlFill (parByte p 0) (parDWord p 8) (parWord p 16) (parWord p 20)
  | 0x0313 => cmdShlErrInject (parByte p 0) (parDWord p 8) (parByte p 16)
  | 0x0320 => cmdMemInterleave (parByte p 0) (parByte p 1)
  | 0x0321 => cmdMemPathBarrier (parDWord p 8)
  | _ => cmdBad

/-- The commands of families 0x04 to 0x07. -/
def cmdOfMid (op : Nat) (p : List Byte) : CmdFn :=
  match op with
  | 0x0401 => cmdRingCfg (parByte p 0) (parDWord p 8)
  | 0x0402 => cmdRingRun (parByte p 0)
  | 0x0403 => cmdRingRun (parByte p 0)
  | 0x0404 => cmdRingRelease (parByte p 0)
  | 0x0501 => cmdUpdCfg
  | 0x0502 => cmdUpd
  | 0x0503 => cmdUpd
  | 0x0601 => cmdMicaTableLoad (parByte p 0) (parDWord p 8)
  | 0x0602 => cmdMicaTableRetire (parByte p 0)
  | 0x0701 => cmdStrataInfo
  | 0x0702 => cmdStrataFreeze (parHalf p 0)
  | 0x0703 => cmdStrataThaw
  | 0x0704 => cmdStrataSeek (parByte p 0) (parDWord p 8) (parHalf p 16) (parDWord p 24)
  | 0x0710 =>
    if parByte p 0 = 0#8 then cmdReplayStart (parByte p 1) (parDWord p 8) (parWord p 16)
    else if parByte p 0 = 1#8 then cmdReplayStop (parByte p 1)
    else if parByte p 0 = 2#8 then cmdReplayMark (parByte p 1) (sliceZ p 8 32)
    else cmdBad
  | 0x0720 => cmdHealthCfg (parByte p 0) (parHalf p 2) (parWord p 4) (parDWord p 8) (parWord p 16) (parWord p 20) (parHalf p 24)
      (parDWord p 32) (parHalf p 40)
  | _ => cmdBad

/-- The commands of families 0x08 to 0x0B. -/
def cmdOfHigh (op : Nat) (p : List Byte) : CmdFn :=
  let x256 : BitVec 256 := BitVec.ofNat 256 (fieldLE p 8 32)
  let ports : BitVec 48 := BitVec.ofNat 48 (fieldLE p 0 6)
  match op with
  | 0x0801 => cmdFwOpen (parDWord p 8)
  | 0x0802 => cmdFwData (parDWord p 0) (parDWord p 8) (parWord p 16)
  | 0x0803 => if parByte p 0 = 0#8 then cmdFwCommit [] else if parByte p 0 = 1#8 then cmdFwAbort else cmdBad
  | 0x0804 => cmdFwActivate (parByte p 0)
  | 0x0805 => cmdFwStatus
  | 0x0901 => cmdSesInfo (parByte p 0)
  | 0x0902 => cmdSesClose (parWord p 4)
  | 0x0903 => cmdSesLeaseSet (parWord p 4) (parWord p 8) (parByte p 12)
  | 0x0910 =>
    if parByte p 1 = 0#8 then cmdSecKeySet (parByte p 0) x256
    else if parByte p 1 = 1#8 then cmdSecKeyClear (parByte p 0)
    else cmdBad
  | 0x0911 => cmdSecAttest (parDWord p 0) x256 (bitOf (parByte p 40).toNat 0)
  | 0x0A01 => cmdPwrStatus
  | 0x0A02 => cmdPwrClassSet (parByte p 0)
  | 0x0A03 => cmdPwrLimitSet (parHalf p 0)
  | 0x0B01 => cmdLinkCfg ports (parByte p 6) (parByte p 7) (parByte p 8) (parHalf p 10) (parDWord p 16) (parByte p 24)
  | 0x0B02 => cmdLinkTrain ports
  | 0x0B03 => cmdLinkDown ports
  | 0x0B04 => cmdLinkStatus (parByte p 0)
  | 0x0B10 => cmdPcieCfg (parByte p 0) (parByte p 1)
  | 0x0B11 => cmdPcieHotReset
  | 0x0B20 => cmdRoceQpCfg (parByte p 0) (parHalf p 2) (parDWord p 8)
  | 0x0B21 => cmdRoceMrSet (parByte p 0) (parByte p 1) (parByte p 2) (parDWord p 8) (parDWord p 16)
  | _ => cmdBad

/-- The command of an opcode with its parameters. (Open points: assumption 23, DEDUCED.) -/
def cmdOf (op : Nat) (p : List Byte) : CmdFn :=
  if op / 256 < 4 then cmdOfLow op p else if op / 256 < 8 then cmdOfMid op p else cmdOfHigh op p

/-! ### A packet that has been read (15:R342, R350, R368). -/

/-- Whether the header breaks 15:R342. (Open points: assumption 24, DEDUCED.) -/
def headerBad (pkt : List Byte) : Bool :=
  decide (48 < fieldLE pkt 8 2) || decide (4 ≤ fieldLE pkt 2 2) || fieldLE pkt 10 6 != 0

/-- The status of the first check of 15:R350 that fails, before the command's own refusals: header, opcode and undefined
parameters, safe mode, and the pod rules of 15:R368. (Open points: assumption 24, DEDUCED.) -/
def packetCheck (s : State) (queue : Nat) (pkt : List Byte) : Option Nat :=
  let op := fieldLE pkt 0 2
  let par := parsOf pkt
  let root := match s.pod with | some p => p.me == 0 | none => false
  if headerBad pkt then some 0x0102
  else if (parFields op).isNone then some 0x0101
  else if parsUndefined op par then some 0x0102
  else if safeMode s && safeRefused op par then some 0x0104
  else if bitOf (fieldLE pkt 2 2) 1 && (op / 256 == 9 || (decide (queue < 64) && !root)) then some 0x0102
  else none

/-- The root relays a packet and takes it as its own (15:R368, R369). -/
def podRoot (s : State) (t : Taken) : State :=
  match s.pod with
  | none => s
  | some p =>
    let c : PodCmd := ⟨t.id, p, some t, none, [], (regGet s R_SCH_POD_TIMEOUT).toNat⟩
    podRelay { s with podCmds := s.podCmds ++ [c] } ⟨t.id, t.pkt, p, c.timeout⟩

/-- A packet has been read by the Schist of a quadrant: it is checked and run. `id` is the identifier of its pod packet on the relay queue, where it
has one. -/
def runPacket (s : State) (quad : Nat) (src : Src) (pkt : List Byte) (id : Option Nat) : State :=
  let c := takeCount s
  let n := match id with | some i => (i, c.1) | none => newId c.1
  let op := fieldLE pkt 0 2
  let isPod := bitOf (fieldLE pkt 2 2) 1
  let t : Taken := ⟨n.1, src, op, pkt, [], id.isSome, c.2, schDie quad, .upd⟩
  match packetCheck n.2 src.queue.val pkt with
  | some st => finish n.2 t (.no st)
  | none =>
    let t := { t with pod := isPod || id.isSome }
    let s := if isPod && id.isNone then podRoot n.2 t else n.2
    runTaken t (cmdOf op (parsOf pkt)) s

/-! ### Which packet is next (15:R345-R349, R364). -/

/-- Whether a queue has a packet that may be taken: HEAD is below TAIL, its reply has a slot, and a FENCE packet waits
for the replies of earlier ones. -/
def qReady (s : State) (q : Nat) : Bool :=
  let depth := qDepth s q
  let head := qHead s q
  qFld s q F_SCH_Q_CFG_ENABLE == 1 && depth != 0 && decide (idxDiff (qTail s q) head ≠ 0) &&
    decide (idxDiff head (qRplHead s q) < depth)

/-- The 64 bytes of the packet at HEAD of a queue: from the ring in memory, read without caching by the Schist that serves
the queue, or from the session ring. None when the read meets an uncorrectable error. -/
def qPacket (s : State) (q : Nat) : State × Option (List Byte) :=
  if q < 32 then
    let a := (ctrGet s (R_SCH_Q_CMD_BASE q)).toNat + qHead s q % qDepth s q * 64
    let r := ncRead s ⟨2, qSchist s q⟩ a 64
    (r.1, if r.2.2 then none else some r.2.1)
  else (s, some (sliceZ (tabGet s.cmds.sesCmd (q * 65536 + qHead s q % 256) []) 0 64))

/-- Whether a FENCE holds the packet at HEAD of a queue. (Open points: assumption 26, DEDUCED.) -/
def qFenced (s : State) (q : Nat) : Bool :=
  match (qPacket s q).2 with
  | some p => bitOf (fieldLE p 2 2) 0 && qOwes s q
  | none => false

/-- The queues that the Schist of a quadrant serves, in the order of its turn: from the queue after the last one on. (Open points: assumption 26, DEDUCED.) -/
def qOrder (s : State) (quad : Nat) : List Nat :=
  let from_ := match tabFind s.cmds.last quad with | some q => q + 1 | none => 0
  ((List.range 64).map fun i => (from_ + i) % 64).filter fun q => schServing s (q % 4) == quad

/-- Take the packet at HEAD of a queue. -/
def qTake (s : State) (quad q : Nat) : State :=
  let r := qPacket s q
  let s := setFld r.1 (R_SCH_Q_IDX q) F_SCH_Q_IDX_HEAD ((qHead s q + 1) % 65536)
  let s := { s with cmds := { s.cmds with last := tabPut s.cmds.last quad q } }
  let queue : Fin 65 := Fin.ofNat 65 q
  match r.2 with
  | none =>
    let c := takeCount (raise s (R_SCH_Q_ERR q) F_SCH_Q_ERR_PKT_UE)
    let n := newId c.1
    finish n.2 ⟨n.1, ⟨queue, 0#32⟩, 0, List.replicate 64 0#8, [], false, c.2, schDie quad, .upd⟩ (.done 0x0301 [])
  | some pkt => runPacket s quad ⟨queue, BitVec.ofNat 32 (fieldLE pkt 4 4)⟩ pkt none

/-- Take the oldest packet of the relay queue (15:R368). (Open points: assumption 26, DEDUCED.) -/
def relayTake (s : State) (quad : Nat) : State :=
  match s.cmds.relay with
  | [] => s
  | r :: rest =>
    if bitOf (fieldLE r.pkt 2 2) 0 && s.cmds.taken.any fun t => t.src.queue.val == 64 then s
    else runPacket (quad := quad) { s with cmds := { s.cmds with relay := rest } } ⟨64, BitVec.ofNat 32 (fieldLE r.pkt 4 4)⟩ r.pkt (some r.id)

/-- PACKET_TAKE: a RUNNING Schist takes the next packet of its turn. (Open points: assumption 23, DEDUCED.) -/
def packetTake (s : State) (quad : Nat) (relay : Bool) : State :=
  let up := dieRunning s (schDie quad) && (flag s R_SCH_RST_STATUS F_SCH_RST_STATUS_READY || safeMode s)
  if !up then s
  else if relay then relayTake s quad
  else if held s then s
  else match (qOrder s quad).find? fun q => qReady s q && !(qFenced s q) with
    | some q => qTake s quad q
    | none => s

/-- The meaning of PACKET_TAKE. -/
def execPacketTake (quad : Fin 4) (relay : Bool) (ups : List Before) (s : State) : Host.Outcome State Fault Refusal :=
  .next (packetTake (upsets s ups) quad relay)

end Sys2Proof.Machine
end

