-- ==== Sys2Proof/Machine/Flags.lean ====
section
/-! DEFINITION. What a write does to a register by its access code alone (00:R5-R7): replaced fields, flags that a write
of 1 clears, and halves of 64-bit pairs. -/
namespace Sys2Proof.Machine

/-- The word that a write of `w` leaves in a register that holds `old`, the bits a write may change being `mask`:
RO and WO registers keep what they hold; RW and unlocked RWL fields are replaced; a 1 clears a W1C flag. -/
def accWrite (acc : Acc) (mask old w : Word) (locked : Bool) : Word :=
  match acc with
  | .ro => old
  | .ctr => old
  | .wo => old
  | .rw => (old &&& ~~~mask) ||| (w &&& mask)
  | .rwl => if locked then old else (old &&& ~~~mask) ||| (w &&& mask)
  | .w1c => old &&& ~~~(w &&& mask)

/-- Replace the low or the high half of a 64-bit value. -/
def putHalf (old : DWord) (hi : Bool) (w : Word) : DWord :=
  if hi then BitVec.ofNat 64 (w.toNat * 4294967296 + old.toNat % 4294967296)
  else BitVec.ofNat 64 (old.toNat / 4294967296 * 4294967296 + w.toNat)

/-- The word of one half of a 64-bit value. -/
def halfOf (v : DWord) (hi : Bool) : Word := BitVec.ofNat 32 (if hi then v.toNat / 4294967296 else v.toNat)

/-- A write by access code alone to the register at an offset; an offset absent from the map discards it. -/
def plainWrite (s : State) (d off : Nat) (w : Word) (locked : Bool) : State :=
  match regRow d off with
  | none => s
  | some (r, hi) =>
    if r.wide then
      let k := regKey d (if hi then off - 4 else off)
      let v := ctrGet s k
      ctrSet s k (putHalf v hi (accWrite r.acc r.wmask (halfOf v hi) w locked))
    else
      let k := regKey d off
      regSet s k (accWrite r.acc r.wmask (regGet s k) w locked)

end Sys2Proof.Machine
end

