-- ==== Sys2Proof/Machine/Writes.lean ====
section
/-! DEFINITION. A 32-bit write to a control block (00:R5-R7; 14:R331): the offsets whose write does more than its access
code says go to the operations of the rows that name them; everything else acts by its access code. -/
namespace Sys2Proof.Machine

/-- A write to a counter control: bit 0 is CLEAR. -/
def clearIf (s : State) (w : Word) (f : State → State) : State := if bitOf w.toNat 0 then f s else s

/-- A write of NEXT and PREV: both at once move nothing (19:R448). (Open points: assumption 28, DEDUCED.) -/
def winCtrlWrite (s : State) (w : Word) : State :=
  if bitOf w.toNat 0 && bitOf w.toNat 1 then s
  else if bitOf w.toNat 0 then strataNext s
  else if bitOf w.toNat 1 then strataPrev s
  else s

/-- A write to a queue's registers (15:R345-R347, R372). -/
def queueWrite (s : State) (off : Nat) (w : Word) : State :=
  let q := (off - 0x4000) / 0x40
  let o := (off - 0x4000) % 0x40
  if o = 0x10 then qCfgWrite s q w
  else if o = 0x20 then doorbell s q (w.toNat % 65536)
  else if o = 0x24 then rplDoorbell s q (w.toNat % 65536)
  else plainWrite s 15 off w (qLocked s q)

/-- A write to a Schist. (Open points: assumption 28, DEDUCED.) -/
def schistWrite (s : State) (d off : Nat) (w : Word) : State :=
  if 0x4000 ≤ off ∧ off < 0x5000 then queueWrite s off w
  else if off = 0x5400 then holdWrite s w
  else if off = 0x5408 then podTimeoutWrite s w
  else if off = 0x542C then clearIf s w clearCmd
  else if off = 0x607C then clearIf s w clearHlt
  else if off = 0x703C then clearIf s w clearPwr
  else if off = 0x9020 then cursorLo s w
  else if off = 0x9024 then cursorHi s w
  else if off = 0x902C then winCtrlWrite s w
  else if off = 0x9050 then clearIf s w clearStrata
  else plainWrite s d off w false

/-- A write to a Gabbro. -/
def gabbroWrite (s : State) (d off : Nat) (w : Word) : State :=
  if off = 0x100004 then frameEnableWrite s (gabOrd d) w
  else if 0x101000 ≤ off ∧ off < 0x109000 then
    let f := (off - 0x101000) / 0x1000
    let o := (off - 0x101000) % 0x1000
    if o = 0x00C then clearIf s w fun s => if winOrPending s (gabOrd d) then s else frameReset s (gabOrd d) f
    else if o = 0x050 then clearIf s w fun s => clearFrm s d f
    else if o = 0x220 then clearIf s w fun s => clearNum s d f
    else if o = 0x340 then clearIf s w fun s => clearBeam s d f
    else if o = 0x840 then clearIf s w fun s => clearBwd s d f
    else plainWrite s d off w false
  else if off = 0x110080 then clearIf s w fun s => clearSch s d
  else if off = 0x120040 then clearIf s w fun s => clearDir s d
  else if off = 0x1128 then clearIf s w fun s => clearDroop s d
  else plainWrite s d off w false

/-- A write to a Feldspar. -/
def feldsparWrite (s : State) (d off : Nat) (w : Word) : State :=
  if off = 0x61038 then clearIf s w fun s => clearRing s d
  else if off = 0x800C0 then clearIf s w fun s => clearMica s d
  else if 0x90000 ≤ off ∧ off < 0x90600 ∧ off % 0x100 = 0x60 then clearIf s w fun s => clearPort s d ((off - 0x90000) / 0x100)
  else if 0xB0000 ≤ off ∧ off < 0xBC000 then
    let p := (off - 0xB0000) / 0x2000
    let o := (off - 0xB0000) % 0x2000
    if o % 8 = 0 then roceDoorbell s (6 * fldOrd d + p) (o / 8) (w.toNat % 65536) else s
  else plainWrite s d off w false

/-- A 32-bit write to the register at an offset of a die. (Open points: assumption 28, DEDUCED; assumption 79, DESIGN CHOICE.) -/
def regWrite (s : State) (d off : Nat) (w : Word) : State :=
  if off = 0x1020 then clearIf s w fun s => clearDie s d
  else if dieKind d ≠ .shale ∧ 0x2000 ≤ off ∧ off < 0x2400 ∧ off % 0x40 = 0x28 then
    clearIf s w fun s => clearSeam s d ((off - 0x2000) / 0x40)
  else match dieKind d with
    | .gabbro => gabbroWrite s d off w
    | .shale => if off = 0x50 then clearIf s w fun s => clearShl s d else plainWrite s d off w false
    | .gneiss => if off = 0x20020 then clearIf s w fun s => clearAtom s d else plainWrite s d off w false
    | .feldspar => feldsparWrite s d off w
    | .flint =>
      if off = 0x50040 then clearIf s w fun s => clearDir s d
      else if off = 0x70040 then clearIf s w fun s => clearUpd s d
      else plainWrite s d off w false
    | .schist => schistWrite s d off w

/-- The meaning of REGISTER_WRITE: an aligned 32-bit store by a hart to the control block of a die; a die that is not
RUNNING answers with an access fault (09:R189; 14:R331). -/
def execRegisterWrite (hart : Fin 256) (die : Fin 64) (off : Nat) (word : Word) (s : State) : Host.Outcome State Fault Refusal :=
  .next (if off % 4 ≠ 0 ∨ 0x4000000 ≤ off ∨ !(dieRunning s die) then emit s (.hartFault hart .store) else regWrite s die off word)

end Sys2Proof.Machine
end

