-- ==== Sys2Proof/Machine/Dispatch.lean ====
section
/-! DEFINITION. One arm for each command of the table: its meaning, or its refusal by name. -/
namespace Sys2Proof.Machine

/-- The effect of a command on everything but the queue of commands. -/
def exec (i : Instr) (s : State) : Host.Outcome State Fault Refusal :=
  match i with
  | .devInfo src => Sys2Proof.Machine.execDevInfo src s
  | .devNop src => Sys2Proof.Machine.execDevNop src s
  | .queueState src q => Sys2Proof.Machine.execQueueState src q s
  | .podCfg src addr => Sys2Proof.Machine.execPodCfg src addr s
  | .podRelease src => Sys2Proof.Machine.execPodRelease src s
  | .rcpSet src mask seedValid words seed => Sys2Proof.Machine.execRcpSet src mask seedValid words seed s
  | .dieReset src die => Sys2Proof.Machine.execDieReset src die s
  | .dieRejoin src die => Sys2Proof.Machine.execDieRejoin src die s
  | .dieRejoinComplete die ok lanes => Sys2Proof.Machine.execDieRejoinComplete die ok lanes s
  | .devWarmReset src => Sys2Proof.Machine.execDevWarmReset src s
  | .warmReset rep => Sys2Proof.Machine.execWarmReset rep s
  | .frameReset src die mask => Sys2Proof.Machine.execFrameReset src die mask s
  | .devStateSet src st => Sys2Proof.Machine.execDevStateSet src st s
  | .schLoad src die addr len => Sys2Proof.Machine.execSchLoad src die addr len s
  | .schUnload src die => Sys2Proof.Machine.execSchUnload src die s
  | .schRun src mask sec tokens tag batch => Sys2Proof.Machine.execSchRun src mask sec tokens tag batch s
  | .schStepAdvance src step => Sys2Proof.Machine.execSchStepAdvance src step s
  | .stepBoundary written => Sys2Proof.Machine.execStepBoundary written s
  | .schStepRepeat src step => Sys2Proof.Machine.execSchStepRepeat src step s
  | .stepRepeatDone => Sys2Proof.Machine.execStepRepeatDone s
  | .schStepSet src step => Sys2Proof.Machine.execSchStepSet src step s
  | .schAbort src mask => Sys2Proof.Machine.execSchAbort src mask s
  | .shlRegionSet src die entry word => Sys2Proof.Machine.execShlRegionSet src die entry word s
  | .shlWellArm src die mask => Sys2Proof.Machine.execShlWellArm src die mask s
  | .shlFill src die off bytes pat => Sys2Proof.Machine.execShlFill src die off bytes pat s
  | .shlErrInject src die off kind => Sys2Proof.Machine.execShlErrInject src die off kind s
  | .memInterleave src quads mode ups => Sys2Proof.Machine.execMemInterleave src quads mode ups s
  | .memPathBarrier src addr => Sys2Proof.Machine.execMemPathBarrier src addr s
  | .ringCfg src slot addr => Sys2Proof.Machine.execRingCfg src slot addr s
  | .ringRs src slot step => Sys2Proof.Machine.execRingRs src slot step s
  | .ringAg src slot step => Sys2Proof.Machine.execRingAg src slot step s
  | .ringRelease src slot => Sys2Proof.Machine.execRingRelease src slot s
  | .updCfg src addr => Sys2Proof.Machine.execUpdCfg src addr s
  | .updCoefSet src mask addr => Sys2Proof.Machine.execUpdCoefSet src mask addr s
  | .updRun src step => Sys2Proof.Machine.execUpdRun src step s
  | .micaTableLoad src epoch addr => Sys2Proof.Machine.execMicaTableLoad src epoch addr s
  | .micaTableRetire src epoch => Sys2Proof.Machine.execMicaTableRetire src epoch s
  | .micaRetireComplete epoch => Sys2Proof.Machine.execMicaRetireComplete epoch s
  | .strataInfo src => Sys2Proof.Machine.execStrataInfo src s
  | .strataFreeze src seconds => Sys2Proof.Machine.execStrataFreeze src seconds s
  | .strataThaw src => Sys2Proof.Machine.execStrataThaw src s
  | .strataSeek src mode seq count dest => Sys2Proof.Machine.execStrataSeek src mode seq count dest s
  | .replayCfgStart src flags base size => Sys2Proof.Machine.execReplayCfgStart src flags base size s
  | .replayCfgStop src flags => Sys2Proof.Machine.execReplayCfgStop src flags s
  | .replayCfgMark src flags user => Sys2Proof.Machine.execReplayCfgMark src flags user s
  | .healthCfg src flags silentThr ratio lossAddr alpha meanInit warmup watchAddr watchCount => Sys2Proof.Machine.execHealthCfg src flags silentThr ratio lossAddr alpha meanInit warmup watchAddr watchCount s
  | .fwOpen src addr => Sys2Proof.Machine.execFwOpen src addr s
  | .fwData src offset addr len => Sys2Proof.Machine.execFwData src offset addr len s
  | .fwCloseCommit src bad => Sys2Proof.Machine.execFwCloseCommit src bad s
  | .fwCloseAbort src => Sys2Proof.Machine.execFwCloseAbort src s
  | .fwActivate src mode => Sys2Proof.Machine.execFwActivate src mode s
  | .fwActivation written => Sys2Proof.Machine.execFwActivation written s
  | .diePreloadReady die => Sys2Proof.Machine.execDiePreloadReady die s
  | .fwStatus src => Sys2Proof.Machine.execFwStatus src s
  | .sesInfo src idx => Sys2Proof.Machine.execSesInfo src idx s
  | .sesClose src id => Sys2Proof.Machine.execSesClose src id s
  | .sesLeaseSet src id lease policy => Sys2Proof.Machine.execSesLeaseSet src id lease policy s
  | .secKeySet src slot x => Sys2Proof.Machine.execSecKeySet src slot x s
  | .secKeyClear src slot => Sys2Proof.Machine.execSecKeyClear src slot s
  | .secAttest src dest nonce cert => Sys2Proof.Machine.execSecAttest src dest nonce cert s
  | .pwrStatus src => Sys2Proof.Machine.execPwrStatus src s
  | .pwrClassSet src cls => Sys2Proof.Machine.execPwrClassSet src cls s
  | .pwrLimitSet src watts => Sys2Proof.Machine.execPwrLimitSet src watts s
  | .linkCfg src ports mode ethRate flags netTag expectId expectPort => Sys2Proof.Machine.execLinkCfg src ports mode ethRate flags netTag expectId expectPort s
  | .linkTrain src ports => Sys2Proof.Machine.execLinkTrain src ports s
  | .linkDown src ports => Sys2Proof.Machine.execLinkDown src ports s
  | .linkStatus src port => Sys2Proof.Machine.execLinkStatus src port s
  | .pcieCfg src maxGen width => Sys2Proof.Machine.execPcieCfg src maxGen width s
  | .pcieHotReset src => Sys2Proof.Machine.execPcieHotReset src s
  | .roceQpCfg src port qpn addr => Sys2Proof.Machine.execRoceQpCfg src port qpn addr s
  | .roceMrSet src entry access tag base length => Sys2Proof.Machine.execRoceMrSet src entry access tag base length s
  | .packetTake quad relay ups => Sys2Proof.Machine.execPacketTake quad relay ups s
  | .queueDoorbell q tail => Sys2Proof.Machine.execQueueDoorbell q tail s
  | .queueRplDoorbell q head => Sys2Proof.Machine.execQueueRplDoorbell q head s
  | .queueEnable q word => Sys2Proof.Machine.execQueueEnable q word s
  | .queueDisable q word => Sys2Proof.Machine.execQueueDisable q word s
  | .holdClear word => Sys2Proof.Machine.execHoldClear word s
  | .registerWrite hart die off word => Sys2Proof.Machine.execRegisterWrite hart die off word s
  | .counterLoRead hart die off => Sys2Proof.Machine.execCounterLoRead hart die off s
  | .frmCounterClear g f => Sys2Proof.Machine.execFrmCounterClear g f s
  | .numCounterClear g f => Sys2Proof.Machine.execNumCounterClear g f s
  | .beamCounterClear g f => Sys2Proof.Machine.execBeamCounterClear g f s
  | .bwdCounterClear g f => Sys2Proof.Machine.execBwdCounterClear g f s
  | .schCounterClear g => Sys2Proof.Machine.execSchCounterClear g s
  | .shlCounterClear g => Sys2Proof.Machine.execShlCounterClear g s
  | .dirCounterClear die => Sys2Proof.Machine.execDirCounterClear die s
  | .atomCounterClear c => Sys2Proof.Machine.execAtomCounterClear c s
  | .ringCounterClear l => Sys2Proof.Machine.execRingCounterClear l s
  | .updCounterClear m => Sys2Proof.Machine.execUpdCounterClear m s
  | .micaCounterClear l => Sys2Proof.Machine.execMicaCounterClear l s
  | .portCounterClear port => Sys2Proof.Machine.execPortCounterClear port s
  | .dieCounterClear die => Sys2Proof.Machine.execDieCounterClear die s
  | .seamCounterClear die seam => Sys2Proof.Machine.execSeamCounterClear die seam s
  | .cmdCounterClear => Sys2Proof.Machine.execCmdCounterClear s
  | .hltCounterClear => Sys2Proof.Machine.execHltCounterClear s
  | .pwrCounterClear => Sys2Proof.Machine.execPwrCounterClear s
  | .droopCounterClear g => Sys2Proof.Machine.execDroopCounterClear g s
  | .strataCounterClear => Sys2Proof.Machine.execStrataCounterClear s
  | .frameEnableStart g f => Sys2Proof.Machine.execFrameEnableStart g f s
  | .frameEnableStop g f => Sys2Proof.Machine.execFrameEnableStop g f s
  | .frameStarted g f => Sys2Proof.Machine.execFrameStarted g f s
  | .frameStopped g f => Sys2Proof.Machine.execFrameStopped g f s
  | .frmResetWrite g f => Sys2Proof.Machine.execFrmResetWrite g f s
  | .strataCursorLoWrite word => Sys2Proof.Machine.execStrataCursorLoWrite word s
  | .strataCursorHiWrite word => Sys2Proof.Machine.execStrataCursorHiWrite word s
  | .strataNext => Sys2Proof.Machine.execStrataNext s
  | .strataPrev => Sys2Proof.Machine.execStrataPrev s
  | .strataWindowFill => Sys2Proof.Machine.execStrataWindowFill s
  | .roceDoorbell port qpn producer ups => Sys2Proof.Machine.execRoceDoorbell port qpn producer ups s
  | .windowOpen mask => Sys2Proof.Machine.execWindowOpen mask s
  | .runFrameNotStarted g => Sys2Proof.Machine.execRunFrameNotStarted g s
  | .loadDescriptor g f ups => Sys2Proof.Machine.execLoadDescriptor g f ups s
  | .loadComplete g f => Sys2Proof.Machine.execLoadComplete g f s
  | .passDescriptor g f absent ups => Sys2Proof.Machine.execPassDescriptor g f absent ups s
  | .passComplete g f => Sys2Proof.Machine.execPassComplete g f s
  | .gapDescriptor g f => Sys2Proof.Machine.execGapDescriptor g f s
  | .rowWordArrival g f row => Sys2Proof.Machine.execRowWordArrival g f row s
  | .frameParityError g f kind => Sys2Proof.Machine.execFrameParityError g f kind s
  | .tileDescriptor g f => Sys2Proof.Machine.execTileDescriptor g f s
  | .outputDescriptor g f => Sys2Proof.Machine.execOutputDescriptor g f s
  | .beamDelivery g f j ups => Sys2Proof.Machine.execBeamDelivery g f j ups s
  | .drainStart g f ups => Sys2Proof.Machine.execDrainStart g f ups s
  | .drainComplete g f => Sys2Proof.Machine.execDrainComplete g f s
  | .garnetDescriptor g f ups side => Sys2Proof.Machine.execGarnetDescriptor g f ups side s
  | .wellWrite g f addr row ups tagErr => Sys2Proof.Machine.execWellWrite g f addr row ups tagErr s
  | .barrierDescriptor g => Sys2Proof.Machine.execBarrierDescriptor g s
  | .finalBarrierComplete g ups => Sys2Proof.Machine.execFinalBarrierComplete g ups s
  | .sendDescriptor g => Sys2Proof.Machine.execSendDescriptor g s
  | .recvDescriptor g => Sys2Proof.Machine.execRecvDescriptor g s
  | .moveDescriptor g => Sys2Proof.Machine.execMoveDescriptor g s
  | .moveComplete g addr ups => Sys2Proof.Machine.execMoveComplete g addr ups s
  | .creditArrival g xferId runNo cable ups => Sys2Proof.Machine.execCreditArrival g xferId runNo cable ups s
  | .transferDataArrival g source port xferId runNo data => Sys2Proof.Machine.execTransferDataArrival g source port xferId runNo data s
  | .recvDeadline g xferId source => Sys2Proof.Machine.execRecvDeadline g xferId source s
  | .sendHoldDeadline g xferId => Sys2Proof.Machine.execSendHoldDeadline g xferId s
  | .moveDeadline g addr => Sys2Proof.Machine.execMoveDeadline g addr s
  | .peerStopNotice g => Sys2Proof.Machine.execPeerStopNotice g s
  | .cableStopNotice port runNo => Sys2Proof.Machine.execCableStopNotice port runNo s
  | .stallLimitAbort g => Sys2Proof.Machine.execStallLimitAbort g s
  | .refresh g bank hot => Sys2Proof.Machine.execRefresh g bank hot s
  | .scrubRow g ups => Sys2Proof.Machine.execScrubRow g ups s
  | .spareCopyComplete g row ups => Sys2Proof.Machine.execSpareCopyComplete g row ups s
  | .rds c core fetch addr late ups => Sys2Proof.Machine.execRds c core fetch addr late ups s
  | .rdo c core addr late ups => Sys2Proof.Machine.execRdo c core addr late ups s
  | .upgrade c core addr late ups => Sys2Proof.Machine.execUpgrade c core addr late ups s
  | .wb c addr data crossed => Sys2Proof.Machine.execWb c addr data crossed s
  | .cleanEvict c addr => Sys2Proof.Machine.execCleanEvict c addr s
  | .ncRd die core agent addr len io ups => Sys2Proof.Machine.execNcRd die core agent addr len io ups s
  | .ncWr die core agent addr data io ups => Sys2Proof.Machine.execNcWr die core agent addr data io ups s
  | .farAtomic c core addr amo wide operand ups => Sys2Proof.Machine.execFarAtomic c core addr amo wide operand ups s
  | .amoIssue hart addr amo wide operand late ups => Sys2Proof.Machine.execAmoIssue hart addr amo wide operand late ups s
  | .pathBarrierRead hart addr => Sys2Proof.Machine.execPathBarrierRead hart addr s
  | .pathBarrierComplete home => Sys2Proof.Machine.execPathBarrierComplete home s
  | .pathBarrierTimeout home => Sys2Proof.Machine.execPathBarrierTimeout home s
  | .ringConfigHello port ringId level pos digest => Sys2Proof.Machine.execRingConfigHello port ringId level pos digest s
  | .ringStartHello port ringId level pos digest step => Sys2Proof.Machine.execRingStartHello port ringId level pos digest step s
  | .ringBlockArrival port bytes ups => Sys2Proof.Machine.execRingBlockArrival port bytes ups s
  | .repassStart slot marks => Sys2Proof.Machine.execRepassStart slot marks s
  | .closingPhase slot v xs => Sys2Proof.Machine.execClosingPhase slot v xs s
  | .ringAbortToken port ringId status => Sys2Proof.Machine.execRingAbortToken port ringId status s
  | .ringProgressTimeout slot => Sys2Proof.Machine.execRingProgressTimeout slot s
  | .micaBlockDecode port seq pay block => Sys2Proof.Machine.execMicaBlockDecode port seq pay block s
  | .micaAdvertisement port states => Sys2Proof.Machine.execMicaAdvertisement port states s
  | .micaRetireAck port epoch => Sys2Proof.Machine.execMicaRetireAck port epoch s
  | .trainDetectDone port shorted open_ silent => Sys2Proof.Machine.execTrainDetectDone port shorted open_ silent s
  | .trainAlignDone port locked inverted => Sys2Proof.Machine.execTrainAlignDone port locked inverted s
  | .identityFrame port lane bytes => Sys2Proof.Machine.execIdentityFrame port lane bytes s
  | .trainIdentifyDone port => Sys2Proof.Machine.execTrainIdentifyDone port s
  | .trainTimeout port => Sys2Proof.Machine.execTrainTimeout port s
  | .linkFrameReceive port crcOk seq ack fec => Sys2Proof.Machine.execLinkFrameReceive port crcOk seq ack fec s
  | .linkNak port seq block => Sys2Proof.Machine.execLinkNak port seq block s
  | .laneRetire port lane => Sys2Proof.Machine.execLaneRetire port lane s
  | .signalLoss port => Sys2Proof.Machine.execSignalLoss port s
  | .signalReturn port => Sys2Proof.Machine.execSignalReturn port s
  | .autoRetrain port => Sys2Proof.Machine.execAutoRetrain port s
  | .portWake port => Sys2Proof.Machine.execPortWake port s
  | .roceCnp port qpn => Sys2Proof.Machine.execRoceCnp port qpn s
  | .roceRateIncrease port qpn => Sys2Proof.Machine.execRoceRateIncrease port qpn s
  | .roceInbound port qpn key addr req ups => Sys2Proof.Machine.execRoceInbound port qpn key addr req ups s
  | .pcieInbound addr len data ups => Sys2Proof.Machine.execPcieInbound addr len data ups s
  | .pcieMsiWrite n => Sys2Proof.Machine.execPcieMsiWrite n s
  | .pcieCompletionTimeout hart store => Sys2Proof.Machine.execPcieCompletionTimeout hart store s
  | .seamFlitNak die seam flits errs => Sys2Proof.Machine.execSeamFlitNak die seam flits errs s
  | .seamLaneFailing die seam lane errs => Sys2Proof.Machine.execSeamLaneFailing die seam lane errs s
  | .seamUrgentSwap die seam lane => Sys2Proof.Machine.execSeamUrgentSwap die seam lane s
  | .seamClockSwitch die seam both => Sys2Proof.Machine.execSeamClockSwitch die seam both s
  | .dieFence die cause ups => Sys2Proof.Machine.execDieFence die cause ups s
  | .budgetMessageTimeout die => Sys2Proof.Machine.execBudgetMessageTimeout die s
  | .budgetDemand die mw hot attached current failed => Sys2Proof.Machine.execBudgetDemand die mw hot attached current failed s
  | .grantCompute => Sys2Proof.Machine.execGrantCompute s
  | .grantReceive die => Sys2Proof.Machine.execGrantReceive die s
  | .budgetFallback die => Sys2Proof.Machine.execBudgetFallback die s
  | .rateStepUp g => Sys2Proof.Machine.execRateStepUp g s
  | .droopEvent g => Sys2Proof.Machine.execDroopEvent g s
  | .powerSample watts volt => Sys2Proof.Machine.execPowerSample watts volt s
  | .wearUpdate die => Sys2Proof.Machine.execWearUpdate die s
  | .allowanceRecompute => Sys2Proof.Machine.execAllowanceRecompute s
  | .thermalCapStep die => Sys2Proof.Machine.execThermalCapStep die s
  | .coolantEval inletA inletB flowA flowB => Sys2Proof.Machine.execCoolantEval inletA inletB flowA flowB s
  | .thermalTrip cause => Sys2Proof.Machine.execThermalTrip cause s
  | .rootTakeover lostLock => Sys2Proof.Machine.execRootTakeover lostLock s
  | .refLoss => Sys2Proof.Machine.execRefLoss s
  | .refFreerun => Sys2Proof.Machine.execRefFreerun s
  | .refReturn => Sys2Proof.Machine.execRefReturn s
  | .coldPowerOn straps rep => Sys2Proof.Machine.execColdPowerOn straps rep s
  | .modResetAssert => Sys2Proof.Machine.execModResetAssert s
  | .moduleReset straps rep => Sys2Proof.Machine.execModuleReset straps rep s
  | .powerFault torn => Sys2Proof.Machine.execPowerFault torn s
  | .mateDisconnect => Sys2Proof.Machine.execMateDisconnect s
  | .overvoltageClamp => Sys2Proof.Machine.execOvervoltageClamp s
  | .strapPinChange pins => Sys2Proof.Machine.execStrapPinChange pins s
  | .wake cause opcode => Sys2Proof.Machine.execWake cause opcode s
  | .strataCommit => Sys2Proof.Machine.execStrataCommit s
  | .strataAutoThaw => Sys2Proof.Machine.execStrataAutoThaw s
  | .openReq port msg sid nonce => Sys2Proof.Machine.execOpenReq port msg sid nonce s
  | .resumeReq port msg nonce => Sys2Proof.Machine.execResumeReq port msg nonce s
  | .openConfirm port msg => Sys2Proof.Machine.execOpenConfirm port msg s
  | .halfOpenTimeout sid => Sys2Proof.Machine.execHalfOpenTimeout sid s
  | .cmd port msg => Sys2Proof.Machine.execCmd port msg s
  | .replyAck port msg => Sys2Proof.Machine.execReplyAck port msg s
  | .replyResend idx => Sys2Proof.Machine.execReplyResend idx s
  | .dataWr port msg ups => Sys2Proof.Machine.execDataWr port msg ups s
  | .dataRd port msg ups => Sys2Proof.Machine.execDataRd port msg ups s
  | .keepalive port msg => Sys2Proof.Machine.execKeepalive port msg s
  | .keepaliveSend idx => Sys2Proof.Machine.execKeepaliveSend idx s
  | .sessionDetach idx => Sys2Proof.Machine.execSessionDetach idx s
  | .close port msg => Sys2Proof.Machine.execClose port msg s
  | .podRelayFrame port timeout pkt => Sys2Proof.Machine.execPodRelayFrame port timeout pkt s
  | .podReport port child id rep => Sys2Proof.Machine.execPodReport port child id rep s
  | .podWaitExpiry id => Sys2Proof.Machine.execPodWaitExpiry id s
  | .cblPwrOvercurrent q => Sys2Proof.Machine.execCblPwrOvercurrent q s
  | .cblPwrRetry q ok => Sys2Proof.Machine.execCblPwrRetry q ok s
  | .cableMate q mated => Sys2Proof.Machine.execCableMate q mated s
  | .pciePresenceChange present => Sys2Proof.Machine.execPciePresenceChange present s
  | .strapPuFault => Sys2Proof.Machine.execStrapPuFault s
  | .i3cPointerWrite addr bytes => Sys2Proof.Machine.execI3cPointerWrite addr bytes s
  | .i3cRead addr words => Sys2Proof.Machine.execI3cRead addr words s
  | .i3cIbi => Sys2Proof.Machine.execI3cIbi s
  | .jtagInstruction op => Sys2Proof.Machine.execJtagInstruction op s
  | .ringHelloTimeout slot => Sys2Proof.Machine.execRingHelloTimeout slot s
  | .linkTrainReplyTimeout id => Sys2Proof.Machine.execLinkTrainReplyTimeout id s
  | .pcieLinkChange link => Sys2Proof.Machine.execPcieLinkChange link s
  | .aerUncorrectableReport => Sys2Proof.Machine.execAerUncorrectableReport s
  | .ethernetLinkChange port up => Sys2Proof.Machine.execEthernetLinkChange port up s
  | .roceResponse port qpn rep ups => Sys2Proof.Machine.execRoceResponse port qpn rep ups s
  | .roceRetryExceeded port qpn => Sys2Proof.Machine.execRoceRetryExceeded port qpn s
  | .icmpv6Message port kind target payload => Sys2Proof.Machine.execIcmpv6Message port kind target payload s
  | .operatingMinute => Sys2Proof.Machine.execOperatingMinute s
  | .stateReached => Sys2Proof.Machine.execStateReached s
  | .i3cDynamicAddress addr => Sys2Proof.Machine.execI3cDynamicAddress addr s

end Sys2Proof.Machine
end

