-- ==== Sys2Proof/Machine/Tick.lean ====
section
/-! DEFINITION. One arithmetic cycle without a command (assumption 3): what the frame groups do in it (02:R29-R35, R46,
R47; 05:R117; 06:R124, R127, R136, R137; 17:R401). Everything else that happens in time has a row of its own. -/
namespace Sys2Proof.Machine

/-! ### What acts by itself in a cycle (02:R24, 06:R124; assumption 3). -/

/-- What ends in a frame at the start of a cycle: slots whose load or pass has run its length become HELD, and tiles whose
drain has written its last become DONE (02:R24; 04:R81). -/
def frameDone (s : State) (g f : Nat) : State :=
  let s := passComplete (loadComplete s g f) g f
  (List.range (frameGet s g f).drains.length).foldl (fun s _ => drainComplete s g f) s

/-- The head of stream `i` acts if its AT has come and nothing holds the group. -/
def actStream (s : State) (g i : Nat) : State :=
  match streamHead s g i with
  | some d => match d.body with
    | .load _ => loadDescriptor s g i
    | .pass _ => passDescriptor s g i []
    | .gap _ => gapDescriptor s g i
    | .tile _ => tileDescriptor s g i
    | .output _ => outputDescriptor s g i
    | .garnet _ => garnetDescriptor s g i []
    | .send _ => sendDescriptor s g
    | .recv _ => recvDescriptor s g
    | .move _ => moveDescriptor s g
    | .barrier _ => s
  | none => s

/-- Descriptors of the open window of a Gabbro that have yet to act. -/
def descsLeft (s : State) (g : Nat) : Nat :=
  match winGet s g with
  | some w => (w.streams.map List.length).sum
  | none => 0

/-- Every descriptor of a Gabbro whose AT has come acts, stream by stream, and a barrier once all nine streams have reached
it; the fuel bounds the number of rounds. (Open points: assumption 3, DESIGN CHOICE.) -/
def actDue : Nat → State → Nat → State
  | 0, s, _ => s
  | n + 1, s, g =>
    let t := barrierDescriptor ((List.range 9).foldl (fun s i => actStream s g i) s) g
    if descsLeft t g = descsLeft s g then t else actDue n t g

/-! ### Holds and issue. -/

/-- The counter that an issue cycle of a frame advances (02:R47). -/
def issueCounter (d f : Nat) : IssueSlot → Nat
  | .wave _ => R_GAB_FRM_VALID_CYC d f
  | .dummy => R_GAB_FRM_DUMMY_CYC d f
  | .bubble => R_GAB_FRM_BUBBLE_CYC d f

/-- A frame's cycle: it fetches, the beam has its cycle and then Garnet (05:R105), and its feeders and load lanes move. (Open points: assumption 34, DEDUCED.) -/
def frameMove (s : State) (g f : Nat) : State :=
  let s := garnetCycle (beamCycle (fetchCycle s g f) g f) g f
  frameMod s g f fun x => feed s g f x

/-- A frame has used `n` issue cycles more in this aligned window of 16 (02:R33). -/
def useCycle (s : State) (g f n : Nat) : State := frameMod s g f fun x => { x with used16 := (s.cyc / 16, usedNow s x + n) }

/-- One issue cycle of a frame, which is counted. (Open points: assumption 34, DEDUCED.) -/
def issueCycle (s : State) (g f : Nat) : State :=
  count (frameMove (useCycle s g f 1) g f) (issueCounter (gabDie g) f (slotAhead s g f (frameGet s g f) 0)) 1

/-- Whether the window of a Gabbro waits at its FINAL barrier. -/
def finalWaits (s : State) (g : Nat) : Bool := match winGet s g with | some w => w.finalWait | none => false

/-- Whether a frame has work that a FINAL barrier waits for: wavefronts in the array, accumulations, drains, or a Garnet run
(06:R127). (Open points: assumption 34, DEDUCED.) -/
def finalWork (s : State) (g f : Nat) : Bool := finalWaits s g && !(frameIdle (frameGet s g f))

/-- Whether a frame goes on in a hold: what the hold waits for is in it, a slot of its own or work that a FINAL barrier waits for, and
no other cause holds the group (02:R25, R33). (Open points: assumption 34, DEDUCED.) -/
def holdGoes (s : State) (g : Nat) (c : Stall) (rate : Bool) (f : Nat) : Bool :=
  !c.queue && !rate && (finalWork s g f || (!c.arrival && slotBlocked s g f))

/-- One hold cycle of a frame: it stands still, but for one that holds what the hold waits for, which has its cycle. Such a cycle
is an issue cycle where its feeders have a pass or a gap in issue, and is counted as one; every other one counts as held (02:R33,
R47). (Open points: assumption 34, DEDUCED.) -/
def holdCycle (s : State) (g : Nat) (c : Stall) (rate : Bool) (f : Nat) : State :=
  let x := frameGet s g f
  if holdGoes s g c rate f then
    (if x.issue == .idle then count (frameMove s g f) (R_GAB_FRM_HOLD_CYC (gabDie g) f) 1 else issueCycle s g f)
  else count s (R_GAB_FRM_HOLD_CYC (gabDie g) f) 1

/-- A stall cycle of a Gabbro is counted, in all and by cause; a limit that is reached aborts the window (06:R136, R137). (Open points: assumption 3, DESIGN CHOICE.) -/
def stallCycle (s : State) (g : Nat) (c : Stall) : State :=
  let d := gabDie g
  let one (s : State) (b : Bool) (k : Nat) : State := if b then count s k 1 else s
  let s := one (one (one (count s (R_GAB_SCH_STALL_CYC d) 1) c.queue (R_GAB_SCH_STALL_QUEUE d)) c.arrival (R_GAB_SCH_STALL_ARRIVAL d))
    c.slot (R_GAB_SCH_STALL_SLOT d)
  let s := schSet s g F_GAB_SCH_STATUS_STALLING 1
  match winGet s g with
  | none => s
  | some w =>
    let n := w.stallRun + 1
    let s := regInc (winMod s g fun w => { w with stallRun := n }) (R_GAB_SCH_WIN_STALL d) 1
    stallAbort (regSet s (R_GAB_SCH_WIN_RUN_MAX d) (BitVec.ofNat 32 (Nat.max n (regGet s (R_GAB_SCH_WIN_RUN_MAX d)).toNat))) g

/-- A cycle that is no stall: a run of stall cycles is over (06:R137, R154). -/
def stallOver (s : State) (g : Nat) : State :=
  let s := winMod s g fun w => { w with stallRun := 0 }
  if flag s (R_GAB_SCH_STATUS (gabDie g)) F_GAB_SCH_STATUS_STALLING then schSet s g F_GAB_SCH_STATUS_STALLING 0 else s

/-- The writes issued in a window of a Gabbro come one cycle nearer to being readable (06:R130). (Open points: assumption 35, DEDUCED.) -/
def writesOn (s : State) (g : Nat) : State := winMod s g fun w => { w with readable := w.readable - 1 }

/-- HOLD of every frame of a group. -/
def showHold (s : State) (g : Nat) (fs : List Nat) (on : Bool) : State :=
  fs.foldl (fun s f => setFld s (R_GAB_FRM_STATUS (gabDie g) f) F_GAB_FRM_STATUS_HOLD (b2n on)) s

/-- A hold cycle of a group, counted as a stall when a stall cause is present (02:R33; 06:R136). -/
def groupHold (s : State) (g : Nat) (c : Stall) : State :=
  let fs := groupFrames s g
  let rate := rateHold s g
  let s := fs.foldl (fun s f => holdCycle s g c rate f) (showHold s g fs true)
  let s := if finalWaits s g then writesOn s g else s
  if c.any then stallCycle s g c else stallOver s g

/-- An issue cycle of a group, in which schedule time advances (06:R124). -/
def groupIssue (s : State) (g : Nat) : State :=
  let fs := groupFrames s g
  let s := stallOver (writesOn (fs.foldl (fun s f => issueCycle s g f) (showHold s g fs false)) g) g
  if winOpen s g then regInc s (R_GAB_SCH_TIME (gabDie g)) 1 else s

/-- The first part of a cycle of a group: what has run its length ends; then, unless a cause of R33 holds the group, the
descriptors that are due act. The answer is the causes that held it, if any did. (Open points: assumption 3, DESIGN CHOICE; assumption 34, DEDUCED.) -/
def groupAct (s : State) (g : Nat) : State × Option Stall :=
  let s := finalComplete ((groupFrames s g).foldl (fun s f => frameDone s g f) s) g
  let c := stallNow s g
  if c.any || rateHold s g then (s, some c) else (actDue (descsLeft s g + 1) s g, none)

/-- The second part, once every group has had its first and the SENDs that may send have sent: a group that a cause held in the first
part holds; a window at a FINAL barrier whose conditions hold ends without a hold cycle (06:R127); a cause that a descriptor of
this cycle brought holds the group; else it issues. (Open points: assumption 3, DESIGN CHOICE.) -/
def groupMove (s : State) (g : Nat) (held : Option Stall) : State :=
  match held with
  | some c => groupHold s g c
  | none =>
    let s := finalComplete s g
    let c := stallNow s g
    if c.any then groupHold s g c else groupIssue s g

/-- The Gabbros that hold a frame or a schedule and are RUNNING. -/
def groupsInUse (s : State) : List Nat :=
  (List.range 16).filter fun g =>
    (s.frames.any (fun e => e.1 / 8 == g) || s.scheds.any fun e => e.1 == g) && dieRunning s (gabDie g)

/-- What the frame groups do in a cycle. (Open points: assumption 3, DESIGN CHOICE.) -/
def groupsCycle (s : State) : State :=
  let gs := groupsInUse s
  let r := gs.foldl (fun (acc : State × Tab (Option Stall)) g =>
    let a := groupAct acc.1 g
    (a.1, tabPut acc.2 g a.2)) (s, [])
  gs.foldl (fun s g => groupMove s g (tabGet r.2 g none)) (sendsGo r.1)

/-- One arithmetic cycle; in every power state but RUN the frames stand still (18:R425). (Open points: assumption 3, DESIGN CHOICE.) -/
def tick (s : State) : State :=
  let t := if pwState s = 0 then groupsCycle s else s
  { t with cyc := s.cyc + 1 }

end Sys2Proof.Machine
end

