-- ==== Sys2Proof/WellFormed.lean ====
section
/-! DEFINITION. Well-formed commands: operands that the boundary of the block can carry. Every meaning is total; an
ill-formed command is one that no agent of 15:R341, 15:R355, 09:R188 or 09:R196 can send. -/
namespace Sys2Proof
open Sys2Proof.Machine

/-- A command packet is taken from one of the 64 queues or from the relay queue; given directly, from a queue (15:R345). -/
def srcOk (src : Src) : Bool := decide (src.queue.val < 64)
/-- An address has 48 bits (09:R188). -/
def addrOk (a : Nat) : Bool := decide (a < 2 ^ 48)
/-- What happens in the stores happens at addresses, and a store stays in its line (09:R193). -/
def upsOk (ups : List Before) : Bool :=
  ups.all fun u => match u with
    | .upset a _ => addrOk a
    | .parity a => addrOk a
    | .store _ a bs => addrOk a && decide (a % 128 + bs.length ≤ 128)
    | .evict _ a => addrOk a
    | .level _ a l2 llc => addrOk a && (llc || l2 != 0)
/-- The request that a write-back crossed is for its line (09:R198). -/
def crossOk (addr : Nat) (x : Option Crossing) : Bool :=
  match x with
  | some (.read _ _ _ a n) => a / 128 == addr / 128 && decide (a % 128 + n ≤ 128)
  | some (.write _ _ _ a bs) => a / 128 == addr / 128 && decide (a % 128 + bs.length ≤ 128)
  | some (.atomic _ _ a _ _ _) => a / 128 == addr / 128
  | some (.line _ _) | none => true
/-- An access to a control block is an aligned 32-bit access inside its 64 MiB (09:R188, R189). -/
def offOk (off : Nat) : Bool := off % 4 == 0 && decide (off < 0x4000000)
/-- A list of a fixed length. -/
def lenOk {α : Type} (n : Nat) (l : List α) : Bool := l.length == n
/-- A Shale row of 1,024 bytes (08:R174). -/
def rowOk (r : Nat) : Bool := addrOk r && r % 1024 == 0
/-- A management message fits a UDP datagram on the management port (15:R355). -/
def msgOk (m : List Byte) : Bool := decide (m.length ≤ 1452)
/-- Side-memory records are numbered in 16 bits (05:R112). -/
def sideOk (l : List (Nat × Bool)) : Bool := l.all fun e => decide (e.1 < 65536)

/-- Whether a command is well formed. (Open points: assumption 78, DESIGN CHOICE.) -/
def Instr.wellFormed (i : Instr) : Bool :=
  match i with
  | .devInfo src => srcOk src
  | .devNop src => srcOk src
  | .queueState src _ => srcOk src
  | .podCfg src _ => srcOk src
  | .podRelease src => srcOk src
  | .rcpSet src _ _ words _ => srcOk src && lenOk 8 words
  | .dieReset src _ => srcOk src
  | .dieRejoin src _ => srcOk src
  | .dieRejoinComplete _ _ _ => true
  | .devWarmReset src => srcOk src
  | .warmReset _ => true
  | .frameReset src _ _ => srcOk src
  | .devStateSet src _ => srcOk src
  | .schLoad src _ _ _ => srcOk src
  | .schUnload src _ => srcOk src
  | .schRun src _ _ _ _ _ => srcOk src
  | .schStepAdvance src _ => srcOk src
  | .stepBoundary _ => true
  | .schStepRepeat src _ => srcOk src
  | .stepRepeatDone => true
  | .schStepSet src _ => srcOk src
  | .schAbort src _ => srcOk src
  | .shlRegionSet src _ _ _ => srcOk src
  | .shlWellArm src _ _ => srcOk src
  | .shlFill src _ _ _ _ => srcOk src
  | .shlErrInject src _ _ _ => srcOk src
  | .memInterleave src _ _ ups => srcOk src && upsOk ups
  | .memPathBarrier src _ => srcOk src
  | .ringCfg src _ _ => srcOk src
  | .ringRs src _ _ => srcOk src
  | .ringAg src _ _ => srcOk src
  | .ringRelease src _ => srcOk src
  | .updCfg src _ => srcOk src
  | .updCoefSet src _ _ => srcOk src
  | .updRun src _ => srcOk src
  | .micaTableLoad src _ _ => srcOk src
  | .micaTableRetire src _ => srcOk src
  | .micaRetireComplete _ => true
  | .strataInfo src => srcOk src
  | .strataFreeze src _ => srcOk src
  | .strataThaw src => srcOk src
  | .strataSeek src _ _ _ _ => srcOk src
  | .replayCfgStart src _ _ _ => srcOk src
  | .replayCfgStop src _ => srcOk src
  | .replayCfgMark src _ user => srcOk src && lenOk 32 user
  | .healthCfg src _ _ _ _ _ _ _ _ _ => srcOk src
  | .fwOpen src _ => srcOk src
  | .fwData src _ _ _ => srcOk src
  | .fwCloseCommit src _ => srcOk src
  | .fwCloseAbort src => srcOk src
  | .fwActivate src _ => srcOk src
  | .fwActivation _ => true
  | .diePreloadReady _ => true
  | .fwStatus src => srcOk src
  | .sesInfo src _ => srcOk src
  | .sesClose src _ => srcOk src
  | .sesLeaseSet src _ _ _ => srcOk src
  | .secKeySet src _ _ => srcOk src
  | .secKeyClear src _ => srcOk src
  | .secAttest src _ _ _ => srcOk src
  | .pwrStatus src => srcOk src
  | .pwrClassSet src _ => srcOk src
  | .pwrLimitSet src _ => srcOk src
  | .linkCfg src _ _ _ _ _ _ _ => srcOk src
  | .linkTrain src _ => srcOk src
  | .linkDown src _ => srcOk src
  | .linkStatus src _ => srcOk src
  | .pcieCfg src _ _ => srcOk src
  | .pcieHotReset src => srcOk src
  | .roceQpCfg src _ _ _ => srcOk src
  | .roceMrSet src _ _ _ _ _ => srcOk src
  | .packetTake _ _ ups => upsOk ups
  | .queueDoorbell _ _ => true
  | .queueRplDoorbell _ _ => true
  | .queueEnable _ _ => true
  | .queueDisable _ _ => true
  | .holdClear _ => true
  | .registerWrite _ _ off _ => offOk off
  | .counterLoRead _ _ off => offOk off
  | .frmCounterClear _ _ => true
  | .numCounterClear _ _ => true
  | .beamCounterClear _ _ => true
  | .bwdCounterClear _ _ => true
  | .schCounterClear _ => true
  | .shlCounterClear _ => true
  | .dirCounterClear _ => true
  | .atomCounterClear _ => true
  | .ringCounterClear _ => true
  | .updCounterClear _ => true
  | .micaCounterClear _ => true
  | .portCounterClear _ => true
  | .dieCounterClear _ => true
  | .seamCounterClear _ _ => true
  | .cmdCounterClear => true
  | .hltCounterClear => true
  | .pwrCounterClear => true
  | .droopCounterClear _ => true
  | .strataCounterClear => true
  | .frameEnableStart _ _ => true
  | .frameEnableStop _ _ => true
  | .frameStarted _ _ => true
  | .frameStopped _ _ => true
  | .frmResetWrite _ _ => true
  | .strataCursorLoWrite _ => true
  | .strataCursorHiWrite _ => true
  | .strataNext => true
  | .strataPrev => true
  | .strataWindowFill => true
  | .roceDoorbell _ _ _ ups => upsOk ups
  | .windowOpen _ => true
  | .runFrameNotStarted _ => true
  | .loadDescriptor _ _ ups => upsOk ups
  | .loadComplete _ _ => true
  | .passDescriptor _ _ _ ups => upsOk ups
  | .passComplete _ _ => true
  | .gapDescriptor _ _ => true
  | .rowWordArrival _ _ _ => true
  | .frameParityError _ _ _ => true
  | .tileDescriptor _ _ => true
  | .outputDescriptor _ _ => true
  | .beamDelivery _ _ _ ups => upsOk ups
  | .drainStart _ _ ups => upsOk ups
  | .drainComplete _ _ => true
  | .garnetDescriptor _ _ ups side => upsOk ups && sideOk side
  | .wellWrite _ _ addr row ups _ => addrOk addr && lenOk 256 row && upsOk ups
  | .barrierDescriptor _ => true
  | .finalBarrierComplete _ ups => upsOk ups
  | .sendDescriptor _ => true
  | .recvDescriptor _ => true
  | .moveDescriptor _ => true
  | .moveComplete _ addr ups => addrOk addr && upsOk ups
  | .creditArrival _ _ _ _ ups => upsOk ups
  | .transferDataArrival _ _ _ _ _ _ => true
  | .recvDeadline _ _ _ => true
  | .sendHoldDeadline _ _ => true
  | .moveDeadline _ addr => addrOk addr
  | .peerStopNotice _ => true
  | .cableStopNotice _ _ => true
  | .stallLimitAbort _ => true
  | .refresh _ _ _ => true
  | .scrubRow _ ups => upsOk ups
  | .spareCopyComplete _ row ups => rowOk row && upsOk ups
  | .rds _ _ _ addr _ ups => addrOk addr && upsOk ups
  | .rdo _ _ addr _ ups => addrOk addr && upsOk ups
  | .upgrade _ _ addr _ ups => addrOk addr && upsOk ups
  | .wb _ addr data crossed => addrOk addr && lenOk 128 data && crossOk addr crossed
  | .cleanEvict _ addr => addrOk addr
  | .ncRd _ _ _ addr _ _ ups => addrOk addr && upsOk ups
  | .ncWr _ _ _ addr _ _ ups => addrOk addr && upsOk ups
  | .farAtomic _ _ addr _ _ _ ups => addrOk addr && upsOk ups
  | .amoIssue _ addr _ _ _ _ ups => addrOk addr && upsOk ups
  | .pathBarrierRead _ addr => addrOk addr
  | .pathBarrierComplete _ => true
  | .pathBarrierTimeout _ => true
  | .ringConfigHello _ _ _ _ digest => lenOk 16 digest
  | .ringStartHello _ _ _ _ digest _ => lenOk 16 digest
  | .ringBlockArrival _ _ ups => upsOk ups
  | .repassStart _ _ => true
  | .closingPhase _ _ _ => true
  | .ringAbortToken _ _ _ => true
  | .ringProgressTimeout _ => true
  | .micaBlockDecode _ _ _ _ => true
  | .micaAdvertisement _ states => lenOk 4 states
  | .micaRetireAck _ _ => true
  | .trainDetectDone _ _ _ _ => true
  | .trainAlignDone _ _ _ => true
  | .identityFrame _ _ _ => true
  | .trainIdentifyDone _ => true
  | .trainTimeout _ => true
  | .linkFrameReceive _ _ _ _ _ => true
  | .linkNak _ _ _ => true
  | .laneRetire _ _ => true
  | .signalLoss _ => true
  | .signalReturn _ => true
  | .autoRetrain _ => true
  | .portWake _ => true
  | .roceCnp _ _ => true
  | .roceRateIncrease _ _ => true
  | .roceInbound _ _ _ _ _ ups => upsOk ups
  | .pcieInbound _ _ _ ups => upsOk ups
  | .pcieMsiWrite _ => true
  | .pcieCompletionTimeout _ _ => true
  | .seamFlitNak _ _ _ _ => true
  | .seamLaneFailing _ _ _ _ => true
  | .seamUrgentSwap _ _ _ => true
  | .seamClockSwitch _ _ _ => true
  | .dieFence _ _ ups => upsOk ups
  | .budgetMessageTimeout _ => true
  | .budgetDemand _ _ _ _ _ _ => true
  | .grantCompute => true
  | .grantReceive _ => true
  | .budgetFallback _ => true
  | .rateStepUp _ => true
  | .droopEvent _ => true
  | .powerSample _ _ => true
  | .wearUpdate _ => true
  | .allowanceRecompute => true
  | .thermalCapStep _ => true
  | .coolantEval _ _ _ _ => true
  | .thermalTrip _ => true
  | .rootTakeover _ => true
  | .refLoss => true
  | .refFreerun => true
  | .refReturn => true
  | .coldPowerOn _ _ => true
  | .modResetAssert => true
  | .moduleReset _ _ => true
  | .powerFault _ => true
  | .mateDisconnect => true
  | .overvoltageClamp => true
  | .strapPinChange _ => true
  | .wake _ _ => true
  | .strataCommit => true
  | .strataAutoThaw => true
  | .openReq _ msg _ nonce => msgOk msg && lenOk 32 nonce
  | .resumeReq _ msg nonce => msgOk msg && lenOk 32 nonce
  | .openConfirm _ msg => msgOk msg
  | .halfOpenTimeout _ => true
  | .cmd _ msg => msgOk msg
  | .replyAck _ msg => msgOk msg
  | .replyResend _ => true
  | .dataWr _ msg ups => msgOk msg && upsOk ups
  | .dataRd _ msg ups => msgOk msg && upsOk ups
  | .keepalive _ msg => msgOk msg
  | .keepaliveSend _ => true
  | .sessionDetach _ => true
  | .close _ msg => msgOk msg
  | .podRelayFrame _ _ pkt => lenOk 64 pkt
  | .podReport _ _ _ _ => true
  | .podWaitExpiry _ => true
  | .cblPwrOvercurrent _ => true
  | .cblPwrRetry _ _ => true
  | .cableMate _ _ => true
  | .pciePresenceChange _ => true
  | .strapPuFault => true
  | .i3cPointerWrite _ _ => true
  | .i3cRead _ _ => true
  | .i3cIbi => true
  | .jtagInstruction _ => true
  | .ringHelloTimeout _ => true
  | .linkTrainReplyTimeout _ => true
  | .pcieLinkChange _ => true
  | .aerUncorrectableReport => true
  | .ethernetLinkChange _ _ => true
  | .roceResponse _ _ _ ups => upsOk ups
  | .roceRetryExceeded _ _ => true
  | .icmpv6Message _ _ _ _ => true
  | .operatingMinute => true
  | .stateReached => true
  | .i3cDynamicAddress _ => true

end Sys2Proof
end

