-- ==== Sys2Proof/Safety.lean ====
section
/-! DEFINITION. What the claims call a safe run, the invariants that they speak of, and the terms they share: a block that
serves commands, the command as it was taken, the state it was taken in. -/
namespace Sys2Proof.Machine

/-- A step is safe when the block goes on: it answers a next state. -/
def Safe (s : State) : Prop := ∃ t, step s = .next t

/-- Memory is in its canonical form (assumption 5): addresses rise strictly, and no byte is listed that an unlisted address
would read as. -/
def State.memOk (s : State) : Prop := memWf s.mem = true

/-- Every command that waits is well formed. -/
def State.queueOk (s : State) : Prop := s.pending.all Instr.wellFormed = true

/-- The block serves every command: the package is not in safe mode (14:R327), the power state is RUN and no state change is
in progress (18:R427). -/
def State.Serving (s : State) : Prop := safeMode s = false ∧ pwState s = 0 ∧ stateEntry s = none

/-- The state in which a command given directly begins its own part: the packet is counted, numbered while the replay log
runs, and has an identifier (15:R374; 16:R387). -/
def begun (s : State) : State := (takeCount (newId s).2).1

/-- The command as it was taken. -/
def takenAs (op : Nat) (src : Src) (params : List Byte) (s : State) : Taken :=
  ⟨(newId s).1, src, op, packetOf op src params, [], false, (takeCount (newId s).2).2, qSchist s (src.queue.val % 64), .upd⟩

/-- A command given directly on a queue ends in this step: after its effect, which leaves a state of which `P` holds, its
reply is `r`. What `finish` then does is the end of every command. -/
def Ends (i : Instr) (s : State) (src : Src) (op : Nat) (r : Reply) (P : State → Prop) : Prop :=
  ∃ (u : State) (t : Taken), exec i s = .next (finish u t r) ∧ t.src = src ∧ t.op = op ∧ t.pod = false ∧ t.id = s.nextId ∧ P u

/-- A command given directly on a queue is taken and waits: the step leaves a state of which `P` holds, with the command
among those taken, waiting for `w`. -/
def Waits (i : Instr) (s : State) (src : Src) (op : Nat) (w : Wait) (P : State → Prop) : Prop :=
  ∃ (u : State) (t : Taken), exec i s = .next u ∧ t ∈ u.cmds.taken ∧ t.src = src ∧ t.op = op ∧ t.pod = false ∧
    t.id = s.nextId ∧ t.wait = w ∧ P u

/-- A command that takes effect on nothing before its reply. -/
def Unchanged (s u : State) : Prop :=
  u.regs = s.regs ∧ u.mem = s.mem ∧ u.cmds = s.cmds ∧ u.frames = s.frames ∧ u.scheds = s.scheds ∧ u.runs = s.runs ∧
    u.tags = s.tags ∧ u.ecc = s.ecc ∧ u.coh = s.coh ∧ u.ports = s.ports ∧ u.rings = s.rings ∧ u.upd = s.upd ∧ u.fw = s.fw ∧
    u.ses = s.ses ∧ u.strata = s.strata ∧ u.pwr = s.pwr ∧ u.io = s.io ∧ u.mica = s.mica ∧ u.outs = s.outs

/-- Every 32-bit register but those named is unchanged. -/
def RegsBut (s u : State) (ks : List Nat) : Prop := ∀ k, k ∉ ks → regGet u k = regGet s k

/-- Every 64-bit register but those named is unchanged. -/
def CtrsBut (s u : State) (ks : List Nat) : Prop := ∀ k, k ∉ ks → ctrGet u k = ctrGet s k

/-- Everything but the registers is unchanged. -/
def RestSame (s u : State) : Prop := { u with regs := s.regs, ctrs := s.ctrs } = s

/-- A command that zeroes 64-bit counters `ks` and 32-bit counts `rs`, and changes nothing else. -/
def Clears (i : Instr) (s : State) (ks rs : List Nat) : Prop :=
  ∃ t, exec i s = .next t ∧ (∀ k ∈ ks, ctrGet t k = 0) ∧ CtrsBut s t ks ∧ (∀ k ∈ rs, regGet t k = 0) ∧ RegsBut s t rs ∧
    RestSame s t

/-- The counter controls: die, offset, and the row that a write of 1 to the CLEAR bit there performs (02:R47). -/
def clearRows : List (Fin 64 × Nat × Instr) :=
  ((List.finRange 16).flatMap fun (g : Fin 16) =>
    let d := Fin.ofNat 64 (gabDie g)
    [(d, 0x110080, .schCounterClear g), (d, 0x120040, .dirCounterClear d), (d, 0x1128, .droopCounterClear g),
      (Fin.ofNat 64 (shlDie g), 0x50, .shlCounterClear g)]
    ++ (List.finRange 8).flatMap fun (f : Fin 8) =>
      let o := 0x101000 + 0x1000 * f.val
      [(d, o + 0x50, .frmCounterClear g f), (d, o + 0x220, .numCounterClear g f), (d, o + 0x340, .beamCounterClear g f), (d, o + 0x840, .bwdCounterClear g f)])
  ++ ((List.finRange 12).flatMap fun (m : Fin 12) =>
    let d := Fin.ofNat 64 (fltDie m)
    [(d, 0x50040, .dirCounterClear d), (d, 0x70040, .updCounterClear m)])
  ++ ((List.finRange 8).flatMap fun (l : Fin 8) =>
    let d := Fin.ofNat 64 (fldDie l)
    [(Fin.ofNat 64 (gnsDie l), 0x20020, .atomCounterClear l), (d, 0x61038, .ringCounterClear l), (d, 0x800C0, .micaCounterClear l)])
  ++ ((List.finRange 48).map fun (p : Fin 48) => (Fin.ofNat 64 (portDie p), 0x90060 + 0x100 * portLoc p, .portCounterClear p))
  ++ ((List.finRange 64).map fun (d : Fin 64) => (d, 0x1020, .dieCounterClear d))
  ++ ((List.finRange 64).flatMap fun (d : Fin 64) =>
    if dieKind d = .shale then [] else (List.finRange 16).map fun (q : Fin 16) => (d, 0x2028 + 0x40 * q.val, .seamCounterClear d q))
  ++ [(15, 0x542C, .cmdCounterClear), (15, 0x607C, .hltCounterClear), (15, 0x703C, .pwrCounterClear), (15, 0x9050, .strataCounterClear)]

/-- A message that an ATTACHED session `i` accepts on a port: well formed, under its key, with a new counter (15:R355-R357). -/
def Accepted (s : State) (port ty : Nat) (m : List Byte) (i : Nat) : Prop :=
  (mgmtSchist s port).isSome = true ∧ m.length ≤ 1452 ∧ msgType m = ty ∧ sesFind s (msgSession m) = some i ∧
    msgForm m = true ∧ msgTagOk (sesGet s i).ks m = true ∧ counterOk (sesGet s i) (msgCounter m) = true ∧ sesState s i = 1

/-- What a session notes of a message that it accepts: the counter, the port, and a new lease (15:R357, R363). -/
def Noted (s u : State) (port : Nat) (m : List Byte) (i : Nat) : Prop :=
  (sesGet u i).rxHigh = Nat.max (sesGet s i).rxHigh (msgCounter m) ∧ msgCounter m ∈ (sesGet u i).rxSeen ∧
    (sesGet u i).port = port ∧ (sesGet u i).ks = (sesGet s i).ks ∧
    regGet u (R_SCH_SES_LEASE i) = BitVec.ofNat 32 (sesGet s i).nextLease

/-- The cursor stands at a SEQ, WIN_BUSY is set, and the window holds what the SEQ's slot held. -/
def WindowAt (s t : State) (q : Nat) : Prop :=
  strataCursor t = q ∧ flag t R_SCH_STRATA_STATUS F_SCH_STRATA_STATUS_WIN_BUSY = true ∧
    ∀ n < 64, (regGet t (R_SCH_STRATA_WIN n)).toNat = fieldLE (strataSlot s q) (4 * n) 4

/-- A management message that goes out: its port, its type and its body; what stands before it is as it was. -/
def Said (s u : State) (port ty : Nat) (body : List Byte) : Prop :=
  ∃ m, u.outs = .mgmt port m :: s.outs ∧ msgType m = ty ∧ msgBody m = body

/-- A range of memory that accesses meet plainly: memory, uncached, without stored errors, outside wells, the replay region,
busy tiles and the unused bytes of W48 containers (04:R77, R85; 05:R107; 08:R178; 09:R196; 16:R385). -/
def Plain (s : State) (a n : Nat) : Prop :=
  ∀ i < n, (regionOf s (a + i)).isMem = true ∧ dirGet s (lineOf (a + i)) = none ∧ tabFind s.ecc (granule (a + i)).1 = none ∧
    inWell s (a + i) = false ∧ inReplay s (a + i) = false ∧
    ∀ g f, regionOf s (a + i) = .beam g f → tileBusyAt s g f (a + i) = false ∧ w48Pad s g f (a + i) = false

/-- Memory after bytes were stored at an address: they read back, and every byte outside them reads as before. -/
def Stored (s u : State) (a : Nat) (bs : List Byte) : Prop :=
  memRead u.mem a bs.length = bs ∧ ∀ x, (x < a ∨ a + bs.length ≤ x) → memGet u.mem x = memGet s.mem x

/-- A command's packet is the command: its header is legal and names the opcode, its parameters are ones that the opcode has,
and what they decode to is what the command runs (15:R342, R352). -/
def Spells (i : Instr) (op : Nat) (src : Src) (params : List Byte) : Prop :=
  headerBad (packetOf op src params) = false ∧ fieldLE (packetOf op src params) 0 2 = op ∧
    BitVec.ofNat 32 (fieldLE (packetOf op src params) 4 4) = src.seq ∧ (parFields op).isSome = true ∧
    ∀ s, exec i s = .next (runCmd op src params (cmdOf op (parsOf (packetOf op src params))) s)

/-- A logical frame as a frame reset leaves it: neither started nor stopping, waiting to start again if its EN bit says so,
its slots EMPTY, its errors cleared (02:R42; 18:R422). -/
def FrameWasReset (s u : State) (g f : Nat) : Prop :=
  frameGet u g f = Frame.empty ∧ fld u (R_GAB_FRM_STATUS (gabDie g) f) F_GAB_FRM_STATUS_STARTED = 0 ∧
    fld u (R_GAB_FRM_STATUS (gabDie g) f) F_GAB_FRM_STATUS_START_PENDING =
      b2n (bitOf (regGet s (R_GAB_FRAME_ENABLE (gabDie g))).toNat f) ∧
    slotState u g f 0 = 0 ∧ slotState u g f 1 = 0 ∧ regGet u (R_GAB_FRM_ERR (gabDie g) f) = 0 ∧
    regGet u (R_GAB_BEAM_ERR (gabDie g) f) = 0 ∧ regGet u (R_GAB_FRM_BWD_ERR (gabDie g) f) = 0

/-- The block after a reset and its boot: nothing is in progress, and it is READY, or in safe mode, or no set boots and every
die is held (14:R327; 18:R420-R424, R429). -/
def AfterReset (u : State) (kind : Nat) : Prop :=
  u.cmds.taken = [] ∧ u.runs = [] ∧ u.scheds = [] ∧ u.frames = [] ∧ u.xfers = [] ∧ u.credits = [] ∧
    fld u R_SCH_RST_STATUS F_SCH_RST_STATUS_LAST_RESET = kind ∧
    ((flag u R_SCH_RST_STATUS F_SCH_RST_STATUS_READY = true ∧ safeMode u = false) ∨
      (flag u R_SCH_RST_STATUS F_SCH_RST_STATUS_READY = false ∧ safeMode u = true) ∨
      (flag u R_SCH_RST_STATUS F_SCH_RST_STATUS_READY = false ∧ ∀ d < 64, dieState u d = 4))

/-- Every byte outside frame store and beam store is as it was (18:R429). -/
def StoresOnlyLost (s u : State) : Prop :=
  ∀ a, (∀ g < 16, isFrameStore g a = false) → memGet u.mem a = memGet s.mem a

/-- The next descriptor of stream `i` of a Gabbro's open window, its AT being come and nothing holding the group, is the one
given (06:R124). -/
def HeadIs (s : State) (g i : Nat) (b : DescBody) : Prop := ∃ n at_, streamHead s g i = some ⟨n, at_, b⟩

/-- The descriptor at the head of stream `i` of a Gabbro's open window, its AT being come, is the one given, whether or not a
hold keeps it from acting. -/
def DueIs (s : State) (g i : Nat) (b : DescBody) : Prop := ∃ n at_, dueHead s g i = some ⟨n, at_, b⟩

/-- The streams left of a Gabbro's open window. -/
def streamsOf (s : State) (g : Nat) : Option (List (List Desc)) := (winGet s g).map (·.streams)

/-- The head of stream `i` was consumed, and no other descriptor of any stream. -/
def Popped (s t : State) (g i : Nat) : Prop :=
  streamsOf t g = (streamsOf s g).map fun l => l.set i ((l.getD i []).drop 1)

/-- No logical frame but the one given changed in what no register holds. -/
def OnlyFrame (s t : State) (g f : Nat) : Prop := ∀ h j : Nat, j < 8 → (h ≠ g ∨ j ≠ f) → frameGet t h j = frameGet s h j

/-- A fault is pending in the open window of a Gabbro, under the status of the first (06:R127, R128). -/
def Faulted (s t : State) (g st : Nat) : Prop :=
  ∀ w, winGet s g = some w → flag t (R_GAB_SCH_STATUS (gabDie g)) F_GAB_SCH_STATUS_FAULT_PENDING = true ∧
    (winGet t g).bind (·.fault) = some (w.fault.getD st)

/-- The window of a Gabbro stops with a status and waits for the work already issued: its nine barriers are consumed if `at_`
says so, its SENDs and RECVs not complete are cancelled (06:R128). -/
def Stopping (w : Window) (at_ : Bool) (st : Nat) : Window :=
  { w with streams := if at_ then (List.range 9).foldl (fun l i => l.set i ((l.getD i []).drop 1)) w.streams else w.streams,
           stop := some st, finalWait := false, sends := w.sends.filter fun x => x.read,
           recvs := w.recvs.filter fun r => r.complete }

/-- No tag of a gradient well has a parity error (08:R176). -/
def TagsClean (s : State) : Prop := ∀ row, (tagGet s row).parity = false

/-- In a frame nothing ends or is delivered this cycle: no load or pass has run its length, no column sum is due, no result stands
in the beam's pipeline, and no drain and no Garnet descriptor runs. -/
def FrameQuiet (x : Frame) : Prop :=
  (∀ l ∈ x.loads, l.held = true ∨ x.age < l.start + 256) ∧ (∀ sl n turn, x.issue ≠ .pass sl 0 n turn) ∧
    (∀ j < 256, nextDelivery x j = none) ∧ x.pipe = [] ∧ x.drains = [] ∧ x.gnt = []

/-- One group alone is in use, its window is open and neither waits at FINAL nor stops, no frame ends or delivers anything
and no SEND may send in this cycle, and what the frames fetch meets no error. -/
def GroupQuiet (s : State) (g : Nat) (w : Window) : Prop :=
  pwState s = 0 ∧ groupsInUse s = [g] ∧ winGet s g = some w ∧ w.finalWait = false ∧ w.stop = none ∧ sendsReady s = [] ∧
    s.ecc = [] ∧ TagsClean s ∧ ∀ f ∈ groupFrames s g, FrameQuiet (frameGet s g f)

/-- A counter advanced by `n` if its enable lets it (02:R47). -/
def Counted (s t : State) (k n : Nat) : Prop := ctrGet t k = ctrGet s k + BitVec.ofNat 64 (if cntOn s k then n else 0)

/-- The window of a Gabbro ended with a status (06:R126-R128). -/
def WindowEnded (s t : State) (g st : Nat) : Prop :=
  winOpen t g = false ∧ fld t (R_GAB_SCH_STATUS (gabDie g)) F_GAB_SCH_STATUS_WINDOW_OPEN = 0 ∧
    fld t (R_GAB_SCH_STATUS (gabDie g)) F_GAB_SCH_STATUS_LAST_STATUS = st ∧
    fld t (R_SHL_STATUS (shlDie g)) F_SHL_STATUS_WINDOW_OPEN = 0 ∧ (st ≠ 0 → t.stepFailed = true) ∧
    (schedGet t g).image = (schedGet s g).image

/-- The bytes of a range as a reader sees them. -/
def seen (s : State) (a n : Nat) : List Byte := (List.range n).map fun i => byteSeen s (a + i)

/-- Nothing is cached and no stored byte and no tag has an error, so that a command reads what memory holds. -/
def PlainReads (s : State) : Prop := s.ecc = [] ∧ s.coh.dir = [] ∧ TagsClean s

/-- A frame of a kind leaves on a port with a payload, in the form that cables carry; what went out before stands (13:R303). -/
def SentOn (s u : State) (p kind : Nat) (pay : List Byte) : Prop :=
  ∃ q, u.outs = .frame p kind q (linkFrame kind q (portAckSeq s p) pay) :: s.outs

/-- The payload of a reduction block on the wire, without MICA_RS: FP32 words bare, Tally words in four raw Mica blocks (10:R224). -/
def ringPayload (tally : Bool) (pay : List Byte) : List Byte :=
  if tally then (List.range 4).flatMap fun i => micaRawBlock 8 (sliceZ pay (256 * i) 256) else pay

/-- A table of entries of `w` bytes stands in memory, ended by one whose word at `o` is 0. -/
def TableAt (s : State) (base w o most : Nat) (l : List (List Byte)) : Prop :=
  l.length < most ∧ inOneRange base (w * (l.length + 1)) = true ∧ fieldLE (seen s (base + w * l.length) w) o 4 = 0 ∧
    ∀ i < l.length, l.getD i [] = seen s (base + w * i) w ∧ fieldLE (l.getD i []) o 4 ≠ 0

/-- No ring or update command is in progress. -/
def NoRings (s : State) : Prop :=
  (∀ t ∈ s.cmds.taken, (∀ k, t.wait ≠ .ring k) ∧ t.wait ≠ .upd) ∧ s.rings.updRun = none ∧
    ∀ e ∈ s.rings.slots, e.2.run = none ∧ e.2.exch = none

/-- The run of a ring slot ended with a status (10:R240, R244). -/
def RingEnded (u : State) (k st : Nat) : Prop :=
  (slotGet u k).run = none ∧ fld u (R_FLD_RING_STATUS k) F_FLD_RING_STATUS_ACTIVE = 0 ∧ fld u (R_FLD_RING_STATUS k) F_FLD_RING_STATUS_LAST_STATUS = st

/-- An event of a ring leaves a state of which `P` holds, and then the commands whose turn has come begin. -/
def Pumped (i : Instr) (s : State) (P : State → Prop) : Prop := ∃ u, exec i s = .next (ringPump u) ∧ P u

end Sys2Proof.Machine
end

