-- ==== Sys2Proof/Certificates/Slice0/Obligations.lean ====
section
/-! DEFINITION. The statements for the provers. -/

open Sys2Proof Sys2Proof.Machine

/-! ### The block. -/

/-- The block has no program counter: a step runs the command at the front of the queue on the state with the queue's rest. -/
def Obligations.StepRunsFront : Prop :=
  ∀ (c : Instr) (rest : List Instr) (s : State), step { s with pending := c :: rest } = exec c { s with pending := rest }

/-! ### Queues (15_command_interface.md). -/

/-- R347: a doorbell of a local queue that is enabled takes a TAIL within the depth of HEAD and of the old TAIL and changes
nothing else; another sets DB_OVERRUN alone. A new RPL_HEAD up to RPL_TAIL is taken; one beyond it sets RPL_DB_BAD alone. R346:
a write of ENABLE 1 that leaves DEPTH_LOG2 legal on an idle local queue enables it with all four indices zero and PHASE 1; a
write of ENABLE 0 to an enabled queue disables it, and DRAINING says whether it still owes replies. -/
def Obligations.LocalQueues : Prop :=
  (∀ (s : State) (q : Fin 64) (x : Half),
     (q.val < 32 → qFld s q F_SCH_Q_CFG_ENABLE = 1 → idxDiff x.toNat (qHead s q) ≤ qDepth s q →
       idxDiff x.toNat (qTail s q) ≤ qDepth s q →
       ∃ t, exec (.queueDoorbell q x) s = .next t ∧ qTail t q = x.toNat ∧ qHead t q = qHead s q ∧
         (∀ k, k ≠ R_SCH_Q_IDX q → regGet t k = regGet s k) ∧ t.mem = s.mem ∧ t.ctrs = s.ctrs ∧ t.cmds = s.cmds) ∧
     (q.val < 32 → qFld s q F_SCH_Q_CFG_ENABLE = 1 →
       (qDepth s q < idxDiff x.toNat (qHead s q) ∨ qDepth s q < idxDiff x.toNat (qTail s q)) →
       ∃ t, exec (.queueDoorbell q x) s = .next t ∧ flag t (R_SCH_Q_ERR q) F_SCH_Q_ERR_DB_OVERRUN = true ∧
         (∀ k, k ≠ R_SCH_Q_ERR q → regGet t k = regGet s k) ∧ t.mem = s.mem) ∧
     (32 ≤ q.val ∨ qFld s q F_SCH_Q_CFG_ENABLE = 0 → exec (.queueDoorbell q x) s = .next s) ∧
     (idxDiff x.toNat (qRplHead s q) ≤ idxDiff (qRplTail s q) (qRplHead s q) →
       ∃ t, exec (.queueRplDoorbell q x) s = .next t ∧ qRplHead t q = x.toNat ∧ qRplTail t q = qRplTail s q ∧
         (∀ k, k ≠ R_SCH_Q_RPL_IDX q → regGet t k = regGet s k) ∧ t.mem = s.mem ∧ t.cmds = s.cmds) ∧
     (idxDiff (qRplTail s q) (qRplHead s q) < idxDiff x.toNat (qRplHead s q) →
       ∃ t, exec (.queueRplDoorbell q x) s = .next t ∧ flag t (R_SCH_Q_ERR q) F_SCH_Q_ERR_RPL_DB_BAD = true ∧
         (∀ k, k ≠ R_SCH_Q_ERR q → regGet t k = regGet s k) ∧ t.mem = s.mem)) ∧
  (∀ (s : State) (q : Fin 64) (w : Word), q.val < 32 →
     (qFld s q F_SCH_Q_CFG_ENABLE = 0 → qFld s q F_SCH_Q_CFG_DRAINING = 0 →
       4 ≤ fldGet w F_SCH_Q_CFG_DEPTH_LOG2 → fldGet w F_SCH_Q_CFG_DEPTH_LOG2 ≤ 12 →
       ∃ t, exec (.queueEnable q w) s = .next t ∧ qFld t q F_SCH_Q_CFG_ENABLE = 1 ∧ qFld t q F_SCH_Q_CFG_PHASE = 1 ∧
         qFld t q F_SCH_Q_CFG_DEPTH_LOG2 = fldGet w F_SCH_Q_CFG_DEPTH_LOG2 ∧ qFld t q F_SCH_Q_CFG_DRAINING = 0 ∧
         qTail t q = 0 ∧ qHead t q = 0 ∧ qRplTail t q = 0 ∧ qRplHead t q = 0 ∧
         (∀ k, k ≠ R_SCH_Q_CFG q → k ≠ R_SCH_Q_IDX q → k ≠ R_SCH_Q_RPL_IDX q → regGet t k = regGet s k) ∧ t.mem = s.mem) ∧
     (qFld s q F_SCH_Q_CFG_ENABLE = 1 → exec (.queueEnable q w) s = .next s) ∧
     (qFld s q F_SCH_Q_CFG_ENABLE = 1 →
       ∃ t, exec (.queueDisable q w) s = .next t ∧ qFld t q F_SCH_Q_CFG_ENABLE = 0 ∧
         qFld t q F_SCH_Q_CFG_DRAINING = b2n (qOwes s q) ∧
         qFld t q F_SCH_Q_CFG_DEPTH_LOG2 = qFld s q F_SCH_Q_CFG_DEPTH_LOG2 ∧ qFld t q F_SCH_Q_CFG_PHASE = qFld s q F_SCH_Q_CFG_PHASE ∧
         (∀ k, k ≠ R_SCH_Q_CFG q → regGet t k = regGet s k) ∧ t.mem = s.mem ∧ t.cmds = s.cmds))

/-- The commands that read: each, in a block that serves commands, answers OK with the values that its table names, and
changes nothing (15:R371; 13:R311; 19:R446). -/
def Obligations.ReadingCommands : Prop :=
  ∀ (s : State) (src : Src), s.Serving →
    (∃ d, Ends (.devInfo src) s src 0x0101 (.ok d) (Unchanged s) ∧ fieldLE d 0 8 = moduleId s % 2 ^ 64 ∧
      fieldLE d 8 1 = fld s (R_DIE_ID (qSchist s (src.queue.val % 64))) F_DIE_ID_FLOOR ∧ fieldLE d 9 1 = 2 * b2n (held s) ∧
      fieldLE d 12 1 = sesCount s 1 ∧ fieldLE d 13 1 = sesCount s 2 ∧ fieldLE d 16 4 = s.step.toNat % 2 ^ 32) ∧
    Ends (.devNop src) s src 0x0102 (.ok []) (Unchanged s) ∧
    (∀ q : Byte, q.toNat < 64 → ∃ d, Ends (.queueState src q) s src 0x0103 (.ok d) (Unchanged s) ∧
      fieldLE d 0 2 = qTail s q.toNat ∧ fieldLE d 2 2 = qHead s q.toNat ∧ fieldLE d 4 2 = qRplTail s q.toNat ∧
      fieldLE d 6 2 = qRplHead s q.toNat) ∧
    (∀ i : Byte, i.toNat < 8 → ∃ d, Ends (.sesInfo src i) s src 0x0901 (.ok d) (Unchanged s) ∧
      fieldLE d 0 4 = (regGet s (R_SCH_SES_ID i.toNat)).toNat ∧ fieldLE d 4 1 = sesState s i.toNat ∧
      fieldLE d 8 4 = (regGet s (R_SCH_SES_LEASE i.toNat)).toNat) ∧
    (∀ p : Byte, p.toNat < 48 → ∃ d, Ends (.linkStatus src p) s src 0x0B04 (.ok d) (Unchanged s) ∧
      fieldLE d 0 4 = (regGet s (R_FLD_PORT_STATUS (portDie p.toNat) (portLoc p.toNat))).toNat ∧
      fieldLE d 4 4 = (regGet s (R_FLD_PORT_LANES (portDie p.toNat) (portLoc p.toNat))).toNat ∧
      fieldLE d 8 8 = (ctrGet s (R_FLD_PORT_PEER_ID (portDie p.toNat) (portLoc p.toNat))).toNat ∧
      fieldLE d 16 4 = (regGet s (R_FLD_PORT_PEER_INFO (portDie p.toNat) (portLoc p.toNat))).toNat) ∧
    (∃ d, Ends (.strataInfo src) s src 0x0701 (.ok d) (Unchanged s) ∧ fieldLE d 0 8 = strataNewest s ∧
      fieldLE d 12 4 = (regGet s R_SCH_STRATA_GEN).toNat) ∧
    (∃ d, Ends (.pwrStatus src) s src 0x0A01 (.ok d) (Unchanged s) ∧
      fieldLE d 0 4 = fld s R_SCH_PWR_INPUT F_SCH_PWR_INPUT_INPUT_W ∧
      fieldLE d 4 2 = fld s R_SCH_PWR_INPUT F_SCH_PWR_INPUT_VOLT ∧ fieldLE d 6 1 = pwClass s ∧ fieldLE d 7 1 = pwStage s)

/-! ### Power (17_clocks_power_thermal.md). -/

/-- R412, R413, R399: PWR_CLASS_SET takes a class from the strap's to 3, and PWR_LIMIT_SET 0 or a limit from 3,000 W to L_c;
both wait for the next grant interval, whose GRANT_COMPUTE sets CLASS, LIMIT_W and L together. Others are refused. R396, R397: loss of
the reference sets REF_HOLDOVER and REF_LOST; still absent after 1 s it sets REF_FREERUN; its return clears both. When the owner's root
fails, the next locked RUNNING Schist in ascending quadrant owns it. -/
def Obligations.PowerSettingsAndRoot : Prop :=
  (∀ (s : State) (src : Src),
    (s.Serving → ∀ c : Byte,
      (strapClass s ≤ c.toNat → c.toNat ≤ 3 →
        Ends (.pwrClassSet src c) s src 0x0A02 (.ok []) fun u => u.pwr.nextClass = some c.toNat ∧ u.regs = s.regs ∧ u.mem = s.mem) ∧
      (3 < c.toNat → Ends (.pwrClassSet src c) s src 0x0A02 (.no 0x0102) (Unchanged s)) ∧
      (c.toNat < strapClass s → c.toNat ≤ 3 → Ends (.pwrClassSet src c) s src 0x0A02 (.no 0x0A01) (Unchanged s))) ∧
    (s.Serving → ∀ w : Half,
      (w.toNat = 0 ∨ 3000 ≤ w.toNat → w.toNat ≤ classLimit (s.pwr.nextClass.getD (pwClass s)) →
        Ends (.pwrLimitSet src w) s src 0x0A03 (.ok (leBytes 2 (effLimit (s.pwr.nextClass.getD (pwClass s)) (pwStage s) w.toNat)))
          fun u => u.pwr.nextLimit = some w.toNat ∧ u.regs = s.regs ∧ u.mem = s.mem) ∧
      (1 ≤ w.toNat → w.toNat ≤ 2999 → Ends (.pwrLimitSet src w) s src 0x0A03 (.no 0x0102) (Unchanged s)) ∧
      (3000 ≤ w.toNat → classLimit (s.pwr.nextClass.getD (pwClass s)) < w.toNat →
        Ends (.pwrLimitSet src w) s src 0x0A03 (.no 0x0A01) (Unchanged s))) ∧
    ((∀ c, s.pwr.nextClass = some c → c ≤ 3) → (∀ w, s.pwr.nextLimit = some w → w < 65536) →
      ∃ t, exec .grantCompute s = .next t ∧ pwClass t = s.pwr.nextClass.getD (pwClass s) ∧
        fld t R_SCH_PWR_LIMIT F_SCH_PWR_LIMIT_LIMIT_W = s.pwr.nextLimit.getD (fld s R_SCH_PWR_LIMIT F_SCH_PWR_LIMIT_LIMIT_W) ∧
        pwLimit t = effLimit (pwClass t) (pwStage s) (fld t R_SCH_PWR_LIMIT F_SCH_PWR_LIMIT_LIMIT_W) ∧
        pwStage t = pwStage s ∧ t.pwr.nextClass = none ∧ t.pwr.nextLimit = none ∧ t.mem = s.mem)) ∧
  (∀ s : State,
    (∃ t, exec .refLoss s = .next t ∧ pwFld t F_SCH_PWR_STATUS_REF_HOLDOVER = 1 ∧
      flag t R_SCH_PWR_ERR F_SCH_PWR_ERR_REF_LOST = true ∧ t.mem = s.mem ∧
      ∀ k, k ≠ R_SCH_PWR_STATUS → k ≠ R_SCH_PWR_ERR → k ≠ R_SCH_STRATA_ERR → regGet t k = regGet s k) ∧
    (pwFld s F_SCH_PWR_STATUS_REF_HOLDOVER = 1 → ∃ t, exec .refFreerun s = .next t ∧
      pwFld t F_SCH_PWR_STATUS_REF_FREERUN = 1 ∧ pwFld t F_SCH_PWR_STATUS_REF_HOLDOVER = 1 ∧ t.mem = s.mem ∧
      ∀ k, k ≠ R_SCH_PWR_STATUS → regGet t k = regGet s k) ∧
    (s.pwr.waiting = none → ∃ t, exec .refReturn s = .next t ∧ pwFld t F_SCH_PWR_STATUS_REF_HOLDOVER = 0 ∧
      pwFld t F_SCH_PWR_STATUS_REF_FREERUN = 0 ∧ t.mem = s.mem ∧ ∀ k, k ≠ R_SCH_PWR_STATUS → regGet t k = regGet s k) ∧
    (∀ q < 4, q = (pwFld s F_SCH_PWR_STATUS_ROOT_OWNER + 1) % 4 → bitOf (pwFld s F_SCH_PWR_STATUS_PLL_LOCKED) q = true →
      dieRunning s (schDie q) = true → ∀ lost : Bool,
      ∃ t, exec (.rootTakeover lost) s = .next t ∧ pwFld t F_SCH_PWR_STATUS_ROOT_OWNER = q ∧
        regGet t R_SCH_CLK_TAKEOVER = regGet s R_SCH_CLK_TAKEOVER + 1 ∧
        flag t R_SCH_PWR_ERR F_SCH_PWR_ERR_TAKEOVER = true ∧ t.mem = s.mem))

/-- R336, R337, R400-R402, R409: a DEMAND is taken into the die's registers and reported; a die whose sensors have all
failed, or that receives no GRANT, falls back to at most 75 % of its allocation; a GRANT ends the fallback of a die with a
sensor, and a Gabbro's rate falls to what it allows at once and rises by one; a droop limits the Gabbro for 1 µs, 1,050 cycles, and no longer. (That a rate which falls acts at once is the model's reading of R401:
assumption 65.) -/
def Obligations.BudgetsAndGrants : Prop :=
  ∀ (s : State) (d : Fin 64), dieRunning s d = true → dieKind d ≠ .shale →
    (∀ (mw : Word) (hot att : Half) (cur : Bool), ∃ t, exec (.budgetDemand d mw hot att cur false) s = .next t ∧
      regGet t (R_PWR_DEMAND d) = mw ∧ fld t (R_PWR_TEMP d) F_PWR_TEMP_HOT = hot.toNat ∧
      fld t (R_PWR_STATE d) F_PWR_STATE_SENSORS_FAILED = 0 ∧ flag t (R_PWR_STATE d) F_PWR_STATE_THROTTLE = hotter t d 1600 1520 ∧
      regGet t (R_PWR_GRANT d) = regGet s (R_PWR_GRANT d) ∧
      t.mem = s.mem ∧ t.ctrs = s.ctrs ∧ ∃ b, t.outs = .budget d b :: s.outs) ∧
    (∀ (mw : Word) (hot att : Half) (cur : Bool), ∃ t, exec (.budgetDemand d mw hot att cur true) s = .next t ∧
      regGet t (R_PWR_DEMAND d) = mw ∧ regGet t (R_PWR_TEMP d) = regGet s (R_PWR_TEMP d) ∧
      fld t (R_PWR_STATE d) F_PWR_STATE_SENSORS_FAILED = 1 ∧ fld t (R_PWR_STATE d) F_PWR_STATE_FALLBACK = 1 ∧
      (regGet t (R_PWR_GRANT d)).toNat = Nat.min (regGet s (R_PWR_GRANT d)).toNat (dieAlloc (pwClass s) d * 3 / 4)) ∧
    (∃ t, exec (.budgetFallback d) s = .next t ∧ fld t (R_PWR_STATE d) F_PWR_STATE_FALLBACK = 1 ∧
      (regGet t (R_PWR_GRANT d)).toNat = Nat.min (regGet s (R_PWR_GRANT d)).toNat (dieAlloc (pwClass s) d * 3 / 4) ∧
      (∀ k, k ≠ R_PWR_GRANT d → k ≠ R_PWR_STATE d → regGet t k = regGet s k) ∧ t.mem = s.mem ∧ t.pwr = s.pwr) ∧
    (∀ g, tabFind s.pwr.grants d = some g → flag s (R_PWR_STATE d) F_PWR_STATE_SENSORS_FAILED = false →
      ∃ t, exec (.grantReceive d) s = .next t ∧ regGet t (R_PWR_GRANT d) = BitVec.ofNat 32 g ∧
        fld t (R_PWR_STATE d) F_PWR_STATE_FALLBACK = 0 ∧ tabFind t.pwr.grants d = none ∧ t.mem = s.mem ∧
        (dieKind d = .gabbro → g < 2 ^ 32 → rateFor s d g < rateNow s d → ∀ f < 8,
          fld t (R_GAB_FRM_RATE d f) F_GAB_FRM_RATE_ISSUE_PER_16 = rateFor s d g)) ∧
    (∀ g : Fin 16, ∀ r, tabFind s.pwr.target (gabDie g) = some r → rateNow s (gabDie g) < r → r ≤ 16 →
      ∃ t, exec (.rateStepUp g) s = .next t ∧ t.mem = s.mem ∧ t.pwr = s.pwr ∧
        ∀ f < 8, fld t (R_GAB_FRM_RATE (gabDie g) f) F_GAB_FRM_RATE_ISSUE_PER_16 = rateNow s (gabDie g) + 1) ∧
    (∀ g : Fin 16, ∃ t, exec (.droopEvent g) s = .next t ∧ t.regs = s.regs ∧ t.mem = s.mem ∧
      (∀ f, issueLimit t g f ≤ 8) ∧ t.cyc = s.cyc ∧
      (∀ c f, s.cyc ≤ c → c < s.cyc + 1050 → issueLimit { t with cyc := c } g f ≤ 8) ∧
      (tabFind s.pwr.droop g = none → ∀ c f, s.cyc + 1050 ≤ c →
        issueLimit { t with cyc := c } g f = issueLimit { s with cyc := c } g f))

/-- R405: a sample at or below L lowers E by 0.1 µs and one above L raises it by 1 µs up to A; R406: a second at or below 85 °C
adds one second of wear, and A is recomputed from the largest Gabbro wear. R407-R409: above its throttle point a die's cap falls by
a step, at or below its release point it rises by one; an inlet above 45 °C or a flow below 6.0 L/min raises STAGE by one, up to
12, with a record of unit byte 0xB2 where R438 and R439 accept one. -/
def Obligations.PowerAndHeat : Prop :=
  (∀ s : State,
     (∀ w v : Half, ∃ t, exec (.powerSample w v) s = .next t ∧ fld t R_SCH_PWR_INPUT F_SCH_PWR_INPUT_VOLT = v.toNat ∧
       t.pwr.used = (if pwLimit s < w.toNat then Nat.min (10 * allowance s) (s.pwr.used + 10) else s.pwr.used - 1) ∧ t.mem = s.mem ∧
       (pwLimit s < w.toNat → 0 < allowance s → 10 * allowance s ≤ s.pwr.used + 10 → pwFld t F_SCH_PWR_STATUS_CLAMPED = 1) ∧
       (w.toNat ≤ pwLimit s → s.pwr.used ≤ 1 → pwFld t F_SCH_PWR_STATUS_CLAMPED = 0)) ∧
     (∀ d : Fin 64, dieKind d ≠ .shale → tempOf (fld s (R_PWR_TEMP d) F_PWR_TEMP_HOT) ≤ 1360 →
       ∃ t, exec (.wearUpdate d) s = .next t ∧ tabGet t.pwr.wear d 0 = tabGet s.pwr.wear d 0 + 1000000 ∧
         regGet t (R_PWR_WEAR d) = BitVec.ofNat 32 ((tabGet s.pwr.wear d 0 + 1000000) / 3600000000) ∧ t.mem = s.mem ∧
         ∀ k, k ≠ R_PWR_WEAR d → regGet t k = regGet s k) ∧
     (∃ t, exec .allowanceRecompute s = .next t ∧ allowance t = allowanceOf s ∧ t.mem = s.mem ∧
       ∀ k, k ≠ R_SCH_PWR_PEAK → regGet t k = regGet s k)) ∧
  (∀ s : State,
     (∀ d : Fin 64, dieKind d ≠ .shale → hotter s d 1600 1520 = true → ∃ t, exec (.thermalCapStep d) s = .next t ∧
       fld t (R_PWR_STATE d) F_PWR_STATE_CAP_STEP = Nat.min 12 (fld s (R_PWR_STATE d) F_PWR_STATE_CAP_STEP + 1) ∧
       fld t (R_PWR_STATE d) F_PWR_STATE_THROTTLE = 1 ∧ t.mem = s.mem ∧
       ∀ k, k ≠ R_PWR_STATE d → k ≠ R_SCH_PWR_ERR → regGet t k = regGet s k) ∧
     (∀ d : Fin 64, dieKind d ≠ .shale → hotter s d 1520 1440 = false → hotter s d 1600 1520 = false →
       ∃ t, exec (.thermalCapStep d) s = .next t ∧
       fld t (R_PWR_STATE d) F_PWR_STATE_CAP_STEP = fld s (R_PWR_STATE d) F_PWR_STATE_CAP_STEP - 1 ∧
       fld t (R_PWR_STATE d) F_PWR_STATE_THROTTLE = 0 ∧ t.mem = s.mem ∧
       ∀ k, k ≠ R_PWR_STATE d → regGet t k = regGet s k) ∧
     (∀ ia ib fa fb : Half, inletOk ia.toNat = true → inletOk ib.toNat = true → flowOk fa.toNat = true → flowOk fb.toNat = true →
       (720 < tempOf ia.toNat ∨ 720 < tempOf ib.toNat ∨ fa.toNat < 600 ∨ fb.toNat < 600) → pwStage s < 12 →
       s.pwr.holdInlet = false → s.pwr.holdFlow = false →
       ∃ t, exec (.coolantEval ia ib fa fb) s = .next t ∧ pwStage t = pwStage s + 1 ∧
         flag t R_SCH_PWR_ERR F_SCH_PWR_ERR_STAGE_DOWN = true ∧ fld t R_SCH_COOL_INLET F_SCH_COOL_INLET_INLET_A = ia.toNat ∧
         fld t R_SCH_COOL_INLET F_SCH_COOL_INLET_INLET_B = ib.toNat ∧ fld t R_SCH_COOL_FLOW F_SCH_COOL_FLOW_FLOW_A = fa.toNat ∧
         fld t R_SCH_COOL_FLOW F_SCH_COOL_FLOW_FLOW_B = fb.toNat ∧ t.mem = s.mem ∧
         (eventHeld s (writerDie s * 256 + 0xB2) 0xB2 (fld s R_SCH_PWR_INPUT F_SCH_PWR_INPUT_INPUT_W) = false →
           sliceCount s (writerDie s / 16) < 256 → ∃ p : PendRec, t.strata.slice = s.strata.slice ++ [p] ∧
             p.source = writerDie s * 256 + 0xB2 ∧ p.uptime = uptimeUs s)))

/-! ### The recorder (19_strata_recorder.md). -/

/-- R444, R446: STRATA_FREEZE freezes for SECONDS, 0 meaning 60, and is refused above 3,600 or while frozen; STRATA_THAW thaws
and replies the events suppressed during the freeze; a freeze whose time has run out ends by itself. -/
def Obligations.StrataFreezing : Prop :=
  ∀ (s : State) (src : Src),
    (s.Serving → ∀ n : Half, n.toNat ≤ 3600 → frozen s = false →
      ∃ d, (Ends (.strataFreeze src n) s src 0x0702 (.ok d) fun u => frozen u = true ∧
        u.strata.freezeEnd = uptimeUs s + 1000000 * (if n.toNat = 0 then 60 else n.toNat) ∧ u.strata.freezeSupp = 0 ∧
        (∀ k, k ≠ R_SCH_STRATA_STATUS → regGet u k = regGet s k) ∧ u.mem = s.mem) ∧
        fieldLE d 0 8 = strataNewest s ∧ fieldLE d 12 4 = (regGet s R_SCH_STRATA_GEN).toNat) ∧
    (s.Serving → ∀ n : Half, 3600 < n.toNat → Ends (.strataFreeze src n) s src 0x0702 (.no 0x0102) (Unchanged s)) ∧
    (s.Serving → ∀ n : Half, n.toNat ≤ 3600 → frozen s = true →
      Ends (.strataFreeze src n) s src 0x0702 (.no 0x0701) (Unchanged s)) ∧
    (s.Serving → ∃ d, (Ends (.strataThaw src) s src 0x0703 (.ok d) fun u => frozen u = false ∧
        (∀ k, k ≠ R_SCH_STRATA_STATUS → regGet u k = regGet s k) ∧ u.mem = s.mem) ∧
        fieldLE d 0 4 = (if frozen s then s.strata.freezeSupp else 0) % 2 ^ 32 ∧
        fieldLE d 12 4 = (regGet s R_SCH_STRATA_GEN).toNat) ∧
    (frozen s = true → s.strata.freezeEnd ≤ uptimeUs s → ∃ t, exec .strataAutoThaw s = .next t ∧ frozen t = false ∧
      flag t R_SCH_STRATA_ERR F_SCH_STRATA_ERR_AUTO_THAW = true ∧ t.mem = s.mem)

/-- R442, R446, R448: a write of the cursor's high half moves the cursor to both halves, and NEXT and PREV by one record within
OLDEST to NEWEST; each move sets WIN_BUSY and fills the window from the record's slot, and the fill's end clears it;
STRATA_SEEK with COUNT 0 moves the cursor to SEQ, or refuses a SEQ outside OLDEST to NEWEST. R436, R437: a commit writes the
pending record that stands first to slot SEQ modulo 1,048,576, SEQ being the first above NEWEST whose write was not cut short, and
NEWEST becomes SEQ. R435: an operating minute is counted when 60 s with the input in range have passed since the last one. -/
def Obligations.StrataCursorAndCommits : Prop :=
  (∀ s : State,
     (∀ w : Word, ∃ t, exec (.strataCursorLoWrite w) s = .next t ∧ t.strata.staged = some w ∧ strataCursor t = strataCursor s ∧
       t.regs = s.regs ∧ t.mem = s.mem) ∧
     (∀ lo hi : Word, s.strata.staged = some lo → ∃ t, exec (.strataCursorHiWrite hi) s = .next t ∧
       WindowAt s t (hi.toNat * 2 ^ 32 + lo.toNat) ∧ t.mem = s.mem) ∧
     (strataCursor s < strataNewest s → ∃ t, exec .strataNext s = .next t ∧
       WindowAt s t (strataCursor s + 1) ∧ t.mem = s.mem) ∧
     (strataCursor s = strataNewest s → exec .strataNext s = .next s) ∧
     (strataFirst s < strataCursor s → ∃ t, exec .strataPrev s = .next t ∧ WindowAt s t (strataCursor s - 1) ∧
       t.mem = s.mem) ∧
     (strataCursor s = strataFirst s → exec .strataPrev s = .next s) ∧
     (∃ t, exec .strataWindowFill s = .next t ∧ flag t R_SCH_STRATA_STATUS F_SCH_STRATA_STATUS_WIN_BUSY = false ∧
       (∀ k, k ≠ R_SCH_STRATA_STATUS → regGet t k = regGet s k) ∧ t.mem = s.mem) ∧
     (s.Serving → ∀ (src : Src) (q dest : DWord), strataHeld s q.toNat = true →
       ∃ d, (Ends (.strataSeek src 0 q 0 dest) s src 0x0704 (.ok d) fun u => WindowAt s u q.toNat ∧ u.mem = s.mem) ∧
         fieldLE d 0 8 = q.toNat ∧ fieldLE d 8 4 = 0) ∧
     (s.Serving → ∀ (src : Src) (q dest : DWord), strataHeld s q.toNat = false →
       Ends (.strataSeek src 0 q 0 dest) s src 0x0704 (.no 0x0702) (Unchanged s))) ∧
  (∀ s : State,
     (∀ p, nextRecord s.strata.slice = some p → strataNextSeq s < 2 ^ 64 →
       ∃ t, exec .strataCommit s = .next t ∧ strataNewest t = strataNextSeq s ∧
         (∃ flags, strataSlot t (strataNextSeq s) = recordBytes (strataNextSeq s) p flags) ∧ t.mem = s.mem) ∧
     strataNewest s < strataNextSeq s ∧ strataNextSeq s ∉ s.strata.torn ∧
     (∀ q, strataNewest s < q → q < strataNextSeq s → q ∈ s.strata.torn) ∧
     (s.strata.slice = [] → exec .strataCommit s = .next s) ∧
     (standby s = true → s.pwr.minute + minuteCycles ≤ s.cyc → ∃ t, exec .operatingMinute s = .next t ∧
       regGet t R_SCH_STRATA_OP_MIN = regGet s R_SCH_STRATA_OP_MIN + 1 ∧ t.pwr.minute = s.pwr.minute + minuteCycles ∧
       (∀ k, k ≠ R_SCH_STRATA_OP_MIN → regGet t k = regGet s k) ∧ t.mem = s.mem) ∧
     (standby s = false ∨ s.cyc < s.pwr.minute + minuteCycles → exec .operatingMinute s = .next s))

/-- R438: an event is accepted only if its source had none accepted within the last 1 ms and no freeze keeps it out (R444). One that
is not accepted adds one to its source's suppressed count, up to 2^32 - 1, and to SCH_STRATA_SUPPRESSED, and does not restart the
interval; the next one accepted carries the count, which restarts at zero. R439: an accepted event finds its place in the slice
unless that holds 256 records, and then it is lost and OVERFLOW is set. -/
def Obligations.StrataAcceptance : Prop :=
  ∀ (s : State) (die unit status ctx aux : Nat) (src : Nat) (t : State), src = die * 256 + unit → t = strataEvent s die unit status ctx aux →
    (eventHeld s src unit ctx = true ↔ (∃ l, (rateOf s src).last = some l ∧ uptimeUs s < l + 1000) ∨ (frozen s = true ∧
      unit ≠ 0xB0 ∧ unit ≠ 0xB4 ∧ unit ≠ 0xB5 ∧ unit ≠ 0xB6 ∧ ¬(unit = 0xF0 ∧ (ctx = 2 ∨ ctx = 4)))) ∧
    (eventHeld s src unit ctx = true → t.strata.slice = s.strata.slice ∧ (rateOf t src).last = (rateOf s src).last ∧
      (rateOf t src).suppressed = Nat.min ((rateOf s src).suppressed + 1) (2 ^ 32 - 1) ∧
      Counted s t R_SCH_STRATA_SUPPRESSED 1 ∧ CtrsBut s t [R_SCH_STRATA_SUPPRESSED] ∧ t.regs = s.regs) ∧
    (eventHeld s src unit ctx = false → (rateOf t src).last = some (uptimeUs s) ∧ (rateOf t src).suppressed = 0 ∧
      ctrGet t R_SCH_STRATA_SUPPRESSED = ctrGet s R_SCH_STRATA_SUPPRESSED) ∧
    (eventHeld s src unit ctx = false → sliceCount s (die / 16) < 256 → ∃ p : PendRec, t.strata.slice = s.strata.slice ++ [p] ∧
      p.source = src ∧ p.uptime = uptimeUs s ∧ fieldLE p.bytes 24 4 = (rateOf s src).suppressed % 2 ^ 32 ∧ t.regs = s.regs) ∧
    (eventHeld s src unit ctx = false → 256 ≤ sliceCount s (die / 16) → t.strata.slice = s.strata.slice ∧
      flag t R_SCH_STRATA_ERR F_SCH_STRATA_ERR_OVERFLOW = true ∧ RegsBut s t [R_SCH_STRATA_ERR]) ∧
    (∀ k, k ≠ src → rateOf t k = rateOf s k) ∧ t.mem = s.mem

/-! ### The end of a command (15_command_interface.md). -/

/-- R343, R347: a command taken from a queue that no session owns ends with one 32-byte reply that carries its status, its
OPCODE and SEQ, the queue's PHASE and number, and its DATA, each where R343 puts it; a local queue's reply stands in its ring, 32 bytes at the base plus 32 times RPL_TAIL modulo the depth; RPL_TAIL advances by one modulo
65,536, the command is no longer among those taken, and no register changes but the queue's own and the error registers of memory. -/
def Obligations.CommandReplies : Prop :=
  (∀ (u : State) (t : Taken) (r : Reply), t.src.queue.val < 64 → qSession u t.src.queue = none → t.pod = false → t.take = 0 →
     (finish u t r).outs.head? = some (.reply t.src.queue
       (replyBytes r.status t.op t.src.seq.toNat (qFld u t.src.queue F_SCH_Q_CFG_PHASE) 0 t.src.queue r.data)) ∧
     qRplTail (finish u t r) t.src.queue = (qRplTail u t.src.queue + 1) % 65536 ∧
     (finish u t r).cmds.taken = u.cmds.taken.filter (fun x => x.id != t.id) ∧
     (∀ a, a = (ctrGet u (R_SCH_Q_RPL_BASE t.src.queue)).toNat + qRplTail u t.src.queue % qDepth u t.src.queue * 32 → t.src.queue.val < 32 →
       qDepth u t.src.queue ≠ 0 → homeUp u (qSchist u t.src.queue) a = true → Plain u a 32 → Stored u (finish u t r) a
         (replyBytes r.status t.op t.src.seq.toNat (qFld u t.src.queue F_SCH_Q_CFG_PHASE) 0 t.src.queue r.data)) ∧
     (∀ k, ¬(k = R_SCH_STRATA_ERR ∨ k = R_SCH_RPL_WR_DISCARD ∨ ∃ d, k = R_SHL_ERR d ∨ k = R_SHL_UE_SRC d ∨ k = R_SHL_SPARE_USED d ∨
         k = R_SHL_STATUS d ∨ k = R_FLT_DIR_CE d ∨ ∃ f, k = R_GAB_BEAM_ERR d f) →
       k ≠ R_SCH_Q_CFG t.src.queue → k ≠ R_SCH_Q_RPL_IDX t.src.queue → regGet (finish u t r) k = regGet u k) ∧
     (finish u t r).frames = u.frames ∧ (finish u t r).scheds = u.scheds ∧ (finish u t r).runs = u.runs ∧
     (finish u t r).pwr = u.pwr ∧ (finish u t r).fw = u.fw ∧ (finish u t r).pending = u.pending) ∧
  (∀ (status op seq phase summary q : Nat) (data : List Byte), phase ≤ 1 → summary ≤ 1 → q < 64 →
     (replyBytes status op seq phase summary q data).length = 32 ∧
     fieldLE (replyBytes status op seq phase summary q data) 0 2 = status % 65536 ∧
     fieldLE (replyBytes status op seq phase summary q data) 2 2 = op % 65536 ∧
     fieldLE (replyBytes status op seq phase summary q data) 4 4 = seq % 2 ^ 32 ∧
     fieldLE (replyBytes status op seq phase summary q data) 8 1 = phase + 2 * summary ∧
     fieldLE (replyBytes status op seq phase summary q data) 9 1 = q ∧
     fieldLE (replyBytes status op seq phase summary q data) 10 2 = 0 ∧
     sliceZ (replyBytes status op seq phase summary q data) 12 20 = sliceZ data 0 20)

/-! ### Health and replay (16_training_health_replay.md). -/

/-- R384: HEALTH_CFG without a watch table is accepted with sound values and waits for the next sample. R385, R386, R390:
REPLAY_CFG START runs the log over a region that keeps R385, from offset 0; STOP stops it with STOP_CAUSE 0 and MARK writes a
record into it, both only while it runs; a START while it runs is refused. -/
def Obligations.HealthAndReplay : Prop :=
  (∀ (s : State) (src : Src), s.Serving → ∀ (fl : Byte) (thr : Half) (ratio : Word) (la : DWord) (al mi : Word) (wu : Half) (wa : DWord),
     fl.toNat < 32 → thr.toNat ≤ 1000 → fp32NonFinite ratio = false → valLt (.fin false 1 0) (fp32Val ratio) = true →
     valLt (.fin false 0 0) (fp32Val al) = true → valLt (fp32Val al) (.fin false 1 0) = true →
     bitOf fl.toNat 3 = false → (bitOf fl.toNat 2 = true → fp32NonFinite mi = false) →
     Ends (.healthCfg src fl thr ratio la al mi wu wa 0) s src 0x0720 (.ok []) fun u =>
       u.hlt.pend = s.hlt.pend ++ [⟨fl.toNat, thr.toNat, ratio, la.toNat, al, mi, wu.toNat, []⟩] ∧ u.regs = s.regs ∧ u.mem = s.mem) ∧
  (∀ (s : State) (src : Src), s.Serving → ∀ fl : Byte, fl.toNat ≤ 3 →
     (rplRunning s = false → ∀ (b : DWord) (n : Word), rplRegionOk b.toNat n.toNat = true →
       ∃ d, Ends (.replayCfgStart src fl b n) s src 0x0710 (.ok d) fun u =>
         d = leBytes 8 (ctrGet u R_SCH_RPL_SEQ).toNat ++ leBytes 8 (ctrGet u R_SCH_RPL_OFFSET).toNat ∧
         ∃ v c, u = rplWrite v 0x01 c ∧ rplRunning v = true ∧ ctrGet v R_SCH_RPL_BASE = b ∧ regGet v R_SCH_RPL_SIZE = n ∧
           flag v R_SCH_RPL_STATUS F_SCH_RPL_STATUS_STOP_WHEN_FULL = bitOf fl.toNat 0 ∧ ctrGet v R_SCH_RPL_OFFSET = 0 ∧
           ctrGet v R_SCH_RPL_SEQ = 0 ∧ v.mem = s.mem) ∧
     (rplRunning s = true → ∀ (b : DWord) (n : Word), Ends (.replayCfgStart src fl b n) s src 0x0710 (.no 0x0102) fun u => u.mem = s.mem) ∧
     (rplRunning s = true → ∃ d, Ends (.replayCfgStop src fl) s src 0x0710 (.ok d) fun u => rplRunning u = false ∧
         fld u R_SCH_RPL_STATUS F_SCH_RPL_STATUS_STOP_CAUSE = 0 ∧ u.mem = s.mem ∧
         (∀ k, k ≠ R_SCH_RPL_STATUS → regGet u k = regGet s k)) ∧
     (rplRunning s = true → ∀ user : List Byte, ∃ d, Ends (.replayCfgMark src fl user) s src 0x0710 (.ok d) fun u =>
         ∃ v, u = rplWrite v 0x07 (sliceZ user 0 32) ∧ v.regs = s.regs ∧ v.mem = s.mem) ∧
     (rplRunning s = false → ∀ user : List Byte, Ends (.replayCfgStop src fl) s src 0x0710 (.no 0x0102) (Unchanged s) ∧
       Ends (.replayCfgMark src fl user) s src 0x0710 (.no 0x0102) (Unchanged s)))

/-! ### Registers and counters. -/

/-- 02:R47 and the counter paragraphs of each file: writing 1 to a CLEAR bit zeroes the counters of its block and nothing
else. 00:R6, 09:R189, 14:R331, 02:R47: a store to a register of a RUNNING die acts by the register's access code, and a load of
a counter's low half answers it and latches its high half; a die that is not RUNNING answers the hart with the access fault of
the matching kind. A write of 1 to a CLEAR bit is the row of its counter block, and a write to a WO register without its action bits,
or to half of a read-only pair, changes nothing. 15:R346, R372: the ring bases of a queue change by halves, unless the queue is a
session's, enabled or draining. 15:R369, R372: SCH_POD_TIMEOUT takes 100 to 600,000, on a configured root at least 20 times the
depth plus 1. -/
def Obligations.RegistersAndCounters : Prop :=
  (∀ s : State,
     (∀ (g : Fin 16) (f : Fin 8),
       Clears (.frmCounterClear g f) s [R_GAB_FRM_VALID_CYC (gabDie g) f, R_GAB_FRM_DUMMY_CYC (gabDie g) f, R_GAB_FRM_BUBBLE_CYC (gabDie g) f,
         R_GAB_FRM_HOLD_CYC (gabDie g) f, R_GAB_FRM_PASS_CNT (gabDie g) f, R_GAB_FRM_LOAD_CNT (gabDie g) f] [] ∧
       Clears (.numCounterClear g f) s [R_GAB_FRM_LONG_CHAIN (gabDie g) f, R_GAB_FRM_PROD_FLUSH (gabDie g) f,
         R_GAB_FRM_RANGE_OVF (gabDie g) f, R_GAB_FRM_SATURATE (gabDie g) f] [] ∧
       Clears (.beamCounterClear g f) s [R_GAB_BEAM_NF_IN (gabDie g) f, R_GAB_BEAM_NF_ACC (gabDie g) f, R_GAB_BEAM_NF_OUT (gabDie g) f,
         R_GAB_BEAM_ECC_CORR (gabDie g) f, R_GAB_BEAM_DRAIN_ROWS (gabDie g) f] [] ∧
       Clears (.bwdCounterClear g f) s [R_GAB_GNT_ROWS (gabDie g) f, R_GAB_GNT_NF (gabDie g) f, R_GAB_GNT_EMPTY_ROW (gabDie g) f,
         R_GAB_FRM_TURN_ROUND (gabDie g) f, R_GAB_FRM_TURN_CNT (gabDie g) f, R_GAB_GNT_ECC_CORR (gabDie g) f] []) ∧
     (∀ g : Fin 16,
       Clears (.schCounterClear g) s [R_GAB_SCH_STALL_CYC (gabDie g), R_GAB_SCH_STALL_QUEUE (gabDie g), R_GAB_SCH_STALL_ARRIVAL (gabDie g),
         R_GAB_SCH_STALL_SLOT (gabDie g)] [R_GAB_SCH_STALE_XFER (gabDie g)] ∧
       Clears (.shlCounterClear g) s [R_SHL_CE_CNT (shlDie g), R_SHL_UE_CNT (shlDie g), R_SHL_WELL_WR (shlDie g),
         R_SHL_WELL_DISCARD (shlDie g)] [] ∧
       Clears (.droopCounterClear g) s [R_GAB_PWR_DROOP (gabDie g)] [] ∧
       Clears (.dirCounterClear (Fin.ofNat 64 (gabDie g))) s [R_GAB_DIR_RECALL (gabDie g), R_GAB_DIR_SNOOP (gabDie g),
         R_GAB_DIR_WB_CROSS (gabDie g), R_GAB_DIR_FAR_ATOMIC (gabDie g), R_GAB_DIR_BARRIER (gabDie g), R_GAB_DIR_DROP (gabDie g)]
         [R_GAB_DIR_BARRIER_TMO (gabDie g)]) ∧
     (∀ m : Fin 12,
       Clears (.dirCounterClear (Fin.ofNat 64 (fltDie m))) s [R_FLT_DIR_RECALL (fltDie m), R_FLT_DIR_SNOOP (fltDie m),
         R_FLT_DIR_WB_CROSS (fltDie m), R_FLT_DIR_FAR_ATOMIC (fltDie m), R_FLT_DIR_BARRIER (fltDie m), R_FLT_DIR_DROP (fltDie m)]
         [R_FLT_DIR_BARRIER_TMO (fltDie m), R_FLT_DIR_CE (fltDie m)] ∧
       Clears (.updCounterClear m) s [R_FLT_UPD_PARAMS (fltDie m), R_FLT_UPD_NF_IN (fltDie m), R_FLT_UPD_NF_OUT (fltDie m),
         R_FLT_UPD_ZERO_DEN (fltDie m)] []) ∧
     (∀ l : Fin 8,
       Clears (.atomCounterClear l) s [R_GNS_ATOM_NEAR (gnsDie l), R_GNS_ATOM_FAR (gnsDie l), R_GNS_ATOM_LLC (gnsDie l)] [] ∧
       Clears (.ringCounterClear l) s [R_FLD_RING_ADDS (fldDie l), R_FLD_RING_NF (fldDie l), R_FLD_RING_OVF (fldDie l),
         R_FLD_RING_MISMATCH (fldDie l), R_FLD_RING_SAMPLED (fldDie l), R_FLD_RING_BEAD_RANGE (fldDie l)] [] ∧
       Clears (.micaCounterClear l) s [R_FLD_MICA_IN_BYTES (fldDie l), R_FLD_MICA_WIRE_BYTES (fldDie l), R_FLD_MICA_CODED (fldDie l),
         R_FLD_MICA_RAW (fldDie l), R_FLD_MICA_FALLBACK (fldDie l), R_FLD_MICA_LEN_MISMATCH (fldDie l),
         R_FLD_MICA_EPOCH_ABSENT (fldDie l)] []) ∧
     (∀ p : Fin 48, Clears (.portCounterClear p) s [R_FLD_PORT_FRAMES (portDie p) (portLoc p), R_FLD_PORT_RETRY (portDie p) (portLoc p),
         R_FLD_PORT_FEC_CORR (portDie p) (portLoc p)] []) ∧
     (∀ d : Fin 64, Clears (.dieCounterClear d) s [R_DIE_FENCE_DROP d] []) ∧
     (∀ (d : Fin 64) (q : Fin 16), dieKind d ≠ .shale → Clears (.seamCounterClear d q) s [R_SEAM_REPLAY d q, R_SEAM_LANE_ERR d q] []) ∧
     (∀ (d : Fin 64) (q : Fin 16), dieKind d = .shale → exec (.seamCounterClear d q) s = .next s) ∧
     Clears .cmdCounterClear s [R_SCH_CMD_TAKEN, R_SCH_CMD_REFUSED, R_SCH_POD_LATE] [] ∧
     Clears .hltCounterClear s [R_SCH_HLT_NF_STEPS, R_SCH_HLT_SPIKES, R_SCH_HLT_MISSING] [] ∧
     Clears .pwrCounterClear s [R_SCH_PWR_CLAMP_CNT, R_SCH_PWR_STAGE_DOWN_CNT, R_SCH_PWR_PEAK_HIT_CNT] [] ∧
     Clears .strataCounterClear s [R_SCH_STRATA_SUPPRESSED, R_SCH_STRATA_LOST, R_SCH_STRATA_WRITTEN] []) ∧
  (∀ (s : State) (h : Fin 256) (d : Fin 64) (off : Nat),
     (off % 4 ≠ 0 ∨ 0x4000000 ≤ off ∨ dieRunning s d = false → ∀ w : Word,
       exec (.registerWrite h d off w) s = .next (emit s (.hartFault h .store)) ∧
       exec (.counterLoRead h d off) s = .next (emit s (.hartFault h .load))) ∧
     (off % 4 = 0 → off < 0x4000000 → dieRunning s d = true →
       (∀ (r : RegRow) (w : Word), regRow d off = some (r, false) → r.wide = false →
         ¬(dieKind d = .gabbro ∧ off = 0x100004) →
         ¬(dieKind d = .schist ∧ (0x4000 ≤ off ∧ off < 0x5000 ∨ off = 0x5400 ∨ off = 0x5408)) →
         (r.acc = .rw → ∃ t, exec (.registerWrite h d off w) s = .next t ∧
           regGet t (regKey d off) = (regGet s (regKey d off) &&& ~~~r.wmask) ||| (w &&& r.wmask) ∧
           RegsBut s t [regKey d off] ∧ CtrsBut s t [] ∧ RestSame s t) ∧
         (r.acc = .w1c → ∃ t, exec (.registerWrite h d off w) s = .next t ∧
           regGet t (regKey d off) = regGet s (regKey d off) &&& ~~~(w &&& r.wmask) ∧
           RegsBut s t [regKey d off] ∧ CtrsBut s t [] ∧ RestSame s t) ∧
         (r.acc = .ro → ∃ t, exec (.registerWrite h d off w) s = .next t ∧ RegsBut s t [] ∧ CtrsBut s t [] ∧ RestSame s t) ∧
         (r.acc = .wo → w.toNat % 4 = 0 → exec (.registerWrite h d off w) s = .next s)) ∧
       (∀ (r : RegRow) (hi : Bool) (w : Word), regRow d off = some (r, hi) → r.wide = true → r.acc = .ro ∨ r.acc = .ctr →
         ∃ t, exec (.registerWrite h d off w) s = .next t ∧ RegsBut s t [] ∧ CtrsBut s t [] ∧ RestSame s t) ∧
       (∀ (r : RegRow), regRow d off = some (r, false) → r.wide = true → r.acc = .ctr →
         ∃ t, exec (.counterLoRead h d off) s = .next t ∧
           t.outs = .reg (regAt d off) (BitVec.ofNat 32 (rdPair s (regKey d off)).toNat) :: s.outs ∧
           tabFind t.latch (regKey d off) = some (BitVec.ofNat 32 ((rdPair s (regKey d off)).toNat / 2 ^ 32)) ∧
           { t with latch := s.latch, outs := s.outs } = s) ∧
       (regRow d off = none → exec (.counterLoRead h d off) s = .next (emit s (.reg (regAt d off) 0))))) ∧
  (∀ (s : State) (h : Fin 256) (w : Word),
     (∀ e ∈ clearRows, dieRunning s e.1 = true → bitOf w.toNat 0 = true → exec (.registerWrite h e.1 e.2.1 w) s = exec e.2.2 s) ∧
     (∀ (d : Fin 64) (q : Fin 64) (hi : Bool), dieKind d = .schist → dieRunning s d = true →
       ∀ e ∈ [(0x4000, R_SCH_Q_CMD_BASE q), (0x4008, R_SCH_Q_RPL_BASE q)], ∃ t,
         exec (.registerWrite h d (e.1 + 0x40 * q.val + if hi then 4 else 0) w) s = .next t ∧
         ctrGet t e.2 = (if 32 ≤ q.val ∨ qFld s q F_SCH_Q_CFG_ENABLE = 1 ∨ qFld s q F_SCH_Q_CFG_DRAINING = 1 then ctrGet s e.2
           else putHalf (ctrGet s e.2) hi w) ∧
         RegsBut s t [] ∧ CtrsBut s t [e.2] ∧ RestSame s t) ∧
     (∀ d : Fin 64, dieKind d = .schist → dieRunning s d = true →
       (100 ≤ w.toNat → w.toNat ≤ 600000 → (∀ p, s.pod = some p → p.me = 0 → 20 * (podMaxDepth p.entries + 1) ≤ w.toNat) →
         ∃ t, exec (.registerWrite h d 0x5408 w) s = .next t ∧ regGet t R_SCH_POD_TIMEOUT = w ∧ RegsBut s t [R_SCH_POD_TIMEOUT] ∧
           CtrsBut s t [] ∧ RestSame s t) ∧
       (w.toNat < 100 ∨ 600000 < w.toNat ∨ (∃ p, s.pod = some p ∧ p.me = 0 ∧ w.toNat < 20 * (podMaxDepth p.entries + 1)) →
         exec (.registerWrite h d 0x5408 w) s = .next s)))

/-- 15:R364: writing 1 to HELD clears the hold, and every pod packet that waited for it goes on; writing 0 does nothing.
15:R354: a management port answers neighbour solicitations for its addresses (their answer's layout is the model's choice,
assumption 85) and echoes to them, takes its prefix from a router advertisement when the strap asks for it, and drops
everything else. -/
def Obligations.HoldAndNeighbours : Prop :=
  ∀ s : State,
    (∀ w : Word, bitOf w.toNat 0 = false → exec (.holdClear w) s = .next s) ∧
    (∀ w : Word, bitOf w.toNat 0 = true → held s = true → s.cmds.unsent = [] →
      ∃ t, exec (.holdClear w) s = .next t ∧ held t = false ∧ RegsBut s t [R_SCH_HOLD] ∧ t.cmds = s.cmds ∧ t.mem = s.mem ∧
        CtrsBut s t [] ∧ t.outs = s.outs) ∧
    (∀ w : Word, bitOf w.toNat 0 = true → held s = true → ∃ t, exec (.holdClear w) s = .next t ∧ held t = false ∧
      t.cmds.unsent = []) ∧
    (∀ (k : Fin 2) (a : BitVec 128) (p : List Byte), (mgmtSchist s k).isSome = true →
      (a.toNat ∈ mgmtAddrs s k →
        exec (.icmpv6Message k .neighbourSolicit a p) s = .next (emit s (.mgmt k (netBytes 16 a.toNat ++ netBytes 6 (mgmtMac s k)))) ∧
        exec (.icmpv6Message k .echo a p) s = .next (emit s (.mgmt k p))) ∧
      (a.toNat ∉ mgmtAddrs s k → exec (.icmpv6Message k .neighbourSolicit a p) s = .next s ∧
        exec (.icmpv6Message k .echo a p) s = .next s) ∧
      (∃ t, exec (.icmpv6Message k .routerAdvert a p) s = .next t ∧
        tabFind t.prefixes k = (if bitOf (fld s R_SCH_STRAP F_SCH_STRAP_LATCHED) 6 then some (sliceZ p 0 8) else tabFind s.prefixes k) ∧
        t.regs = s.regs ∧ t.mem = s.mem ∧ t.outs = s.outs) ∧
      exec (.icmpv6Message k .other a p) s = .next s) ∧
    (∀ (k : Fin 2) (i : IcmpKind) (a : BitVec 128) (p : List Byte), (mgmtSchist s k).isSome = false →
      exec (.icmpv6Message k i a p) s = .next s)

/-! ### Host sessions and the pod (15_command_interface.md). -/

/-- R358, R359, R365: an OPEN_REQ under a host key with legal values gets a half-open session and OPEN_CHAL, one beyond the
limits OPEN_REFUSE; a RESUME_REQ of a DETACHED session the same; the OPEN_CONFIRM under the new session key opens or resumes the
session and is answered OPEN_OK; a half-open session whose time is up is discarded. (That BAD_PARAM is found before SESSION_LIMIT is the
model's reading: assumption 71.) -/
def Obligations.SessionOpening : Prop :=
  ∀ (s : State) (port : Fin 2) (m : List Byte), (mgmtSchist s port).isSome = true → msgForm m = true →
    (∀ (sid : Word) (nonce key : List Byte), msgType m = 0x01 → msgSession m = 0 → (msgBody m).length = 40 →
      hostKey s (fieldLE (msgBody m) 0 1) = some key → msgTagOk key m = true →
      (fieldLE (msgBody m) 1 1 ≤ 1 → 1 ≤ fieldLE (msgBody m) 2 1 → fieldLE (msgBody m) 2 1 ≤ 8 →
        leaseOk (leaseOf (fieldLE (msgBody m) 4 4)) = true →
        (sesCount s 0 ≠ 0 → (freeQueues s (fieldLE (msgBody m) 2 1)).isSome = true →
          ∃ t h, exec (.openReq port m sid nonce) s = .next t ∧ t.half = s.half ++ [h] ∧ h.slot = fieldLE (msgBody m) 0 1 ∧
            h.resume = false ∧ h.policy = fieldLE (msgBody m) 1 1 ∧ h.queues = fieldLE (msgBody m) 2 1 ∧
            h.lease = leaseOf (fieldLE (msgBody m) 4 4) ∧ h.hostNonce = sliceZ (msgBody m) 8 32 ∧ h.devNonce = sliceZ nonce 0 32 ∧
            Said s t port 0x03 (h.devNonce ++ leBytes 4 h.sid) ∧ t.regs = s.regs ∧ t.mem = s.mem) ∧
        (sesCount s 0 = 0 ∨ freeQueues s (fieldLE (msgBody m) 2 1) = none →
          ∃ t, exec (.openReq port m sid nonce) s = .next t ∧ Said s t port 0x06 (leBytes 2 0x0902) ∧ t.half = s.half ∧
            t.regs = s.regs ∧ t.mem = s.mem)) ∧
      (1 < fieldLE (msgBody m) 1 1 ∨ fieldLE (msgBody m) 2 1 = 0 ∨ 8 < fieldLE (msgBody m) 2 1 ∨
        leaseOk (leaseOf (fieldLE (msgBody m) 4 4)) = false →
        ∃ t, exec (.openReq port m sid nonce) s = .next t ∧ Said s t port 0x06 (leBytes 2 0x0102) ∧ t.half = s.half ∧
          t.regs = s.regs ∧ t.mem = s.mem)) ∧
    (∀ nonce key : List Byte, msgType m = 0x02 → (msgBody m).length = 40 → msgSession m = fieldLE (msgBody m) 4 4 →
      hostKey s (fieldLE (msgBody m) 0 1) = some key → msgTagOk key m = true →
      (∀ i, sesFind s (msgSession m) = some i → sesState s i = 2 →
        fld s (R_SCH_SES_STATE i) F_SCH_SES_STATE_KEY_SLOT = fieldLE (msgBody m) 0 1 → counterOk (sesGet s i) (msgCounter m) = true →
        ∃ t h, exec (.resumeReq port m nonce) s = .next t ∧ t.half = (s.half.filter fun x => x.sid != msgSession m) ++ [h] ∧
          h.sid = msgSession m ∧ h.resume = true ∧ h.hostNonce = sliceZ (msgBody m) 8 32 ∧ h.devNonce = sliceZ nonce 0 32 ∧
          Said s t port 0x03 (h.devNonce ++ leBytes 4 h.sid) ∧ t.regs = s.regs ∧ t.mem = s.mem) ∧
      (sesFind s (msgSession m) = none → ∃ t, exec (.resumeReq port m nonce) s = .next t ∧
        Said s t port 0x06 (leBytes 2 0x0903) ∧ t.half = s.half ∧ t.regs = s.regs ∧ t.mem = s.mem)) ∧
    (∀ (h : HalfOpen) (key : List Byte), s.half.find? (fun x => x.sid == msgSession m) = some h → hostKey s h.slot = some key →
      msgType m = 0x04 → msgTagOk (sessionKey key h.hostNonce h.devNonce h.sid) m = true → msgCounter m ≠ 0 →
      (∀ i a, h.resume = false → (List.range 8).find? (fun k => sesState s k == 0) = some i → freeQueues s h.queues = some a →
        1 ≤ h.queues → h.queues ≤ 8 → h.policy ≤ 1 → h.slot < 8 →
        ∃ t, exec (.openConfirm port m) s = .next t ∧ sesState t i = 1 ∧
          regGet t (R_SCH_SES_ID i) = BitVec.ofNat 32 h.sid ∧ regGet t (R_SCH_SES_LEASE i) = BitVec.ofNat 32 h.lease ∧
          fld t (R_SCH_SES_STATE i) F_SCH_SES_STATE_POLICY = h.policy ∧
          fld t (R_SCH_SES_STATE i) F_SCH_SES_STATE_KEY_SLOT = h.slot ∧ sesQueues t i = (List.range h.queues).map (32 + a + ·) ∧
          (∀ q ∈ sesQueues t i, qFld t q F_SCH_Q_CFG_ENABLE = 1 ∧ qSession t q = some i ∧ qFld t q F_SCH_Q_CFG_PHASE = 1 ∧
            qTail t q = 0 ∧ qHead t q = 0 ∧ qRplTail t q = 0 ∧ qRplHead t q = 0) ∧
          (sesGet t i).ks = sessionKey key h.hostNonce h.devNonce h.sid ∧ (sesGet t i).rxHigh = msgCounter m ∧
          (∀ x ∈ t.half, x.sid ≠ h.sid) ∧ t.mem = s.mem ∧
          Said s t port 0x05 ([BitVec.ofNat 8 (32 + a), BitVec.ofNat 8 h.queues, BitVec.ofNat 8 h.policy, 0#8] ++ leBytes 4 h.lease)) ∧
      (∀ i, h.resume = true → sesFind s h.sid = some i → sesState s i = 2 → s.cmds.unsent = [] →
        ∃ t, exec (.openConfirm port m) s = .next t ∧ sesState t i = 1 ∧
          regGet t (R_SCH_SES_ID i) = regGet s (R_SCH_SES_ID i) ∧
          regGet t (R_SCH_SES_LEASE i) = BitVec.ofNat 32 (sesGet s i).nextLease ∧ sesQueues t i = sesQueues s i ∧
          (sesGet t i).ks = sessionKey key h.hostNonce h.devNonce h.sid ∧ (sesGet t i).rxHigh = msgCounter m ∧
          (∀ x ∈ t.half, x.sid ≠ h.sid) ∧ t.mem = s.mem)) ∧
    (∀ sid : Word, ∃ t, exec (.halfOpenTimeout sid) s = .next t ∧ (∀ h, h ∈ t.half ↔ h ∈ s.half ∧ h.sid ≠ sid.toNat) ∧
      { t with half := s.half } = s)

/-- R360-R363, R366: a message of an ATTACHED session is noted and its lease restarts. A CMD with the packet expected
next appends it to the session queue; a REPLY_ACK moves RPL_HEAD; a KEEPALIVE does no more; a CLOSE ends the session: its
queues stop, and it is FREE once no command is owed a reply. The device sends KEEPALIVE, resends every unconsumed reply, and
detaches a session whose lease has run out. -/
def Obligations.SessionMessages : Prop :=
  ∀ (s : State) (port : Fin 2) (m : List Byte) (i : Fin 8),
    (Accepted s port 0x30 m i → ∃ t, exec (.keepalive port m) s = .next t ∧ Noted s t port m i ∧
      RegsBut s t [R_SCH_SES_LEASE i] ∧ t.mem = s.mem ∧ t.cmds = s.cmds ∧ t.outs = s.outs) ∧
    (Accepted s port 0x10 m i → msgQueue m ∈ sesQueues s i → msgQueue m < 64 → (msgBody m).length = 64 →
      (∀ w, tabFind s.cmds.nextSeq (msgQueue m) = some w → w.toNat = fieldLE (msgBody m) 4 4) →
      idxDiff ((qTail s (msgQueue m) + 1) % 65536) (qHead s (msgQueue m)) ≤ 256 →
      ∃ t, exec (.cmd port m) s = .next t ∧ Noted s t port m i ∧ qTail t (msgQueue m) = (qTail s (msgQueue m) + 1) % 65536 ∧
        tabFind t.cmds.sesCmd (msgQueue m * 65536 + qTail s (msgQueue m) % 256) = some (msgBody m) ∧
        nextSeq t (msgQueue m) = (fieldLE (msgBody m) 4 4 + 1) % 2 ^ 32 ∧ t.cmds.taken = s.cmds.taken ∧
        RegsBut s t [R_SCH_SES_LEASE i, R_SCH_Q_IDX (msgQueue m)] ∧ t.mem = s.mem ∧
        Said s t port 0x11 (leBytes 4 (nextSeq t (msgQueue m)))) ∧
    (Accepted s port 0x13 m i → msgQueue m ∈ sesQueues s i → msgQueue m < 64 → (msgBody m).length = 2 →
      (idxDiff (fieldLE (msgBody m) 0 2) (qRplHead s (msgQueue m)) ≤ idxDiff (qRplTail s (msgQueue m)) (qRplHead s (msgQueue m)) →
        ∃ t, exec (.replyAck port m) s = .next t ∧ Noted s t port m i ∧ qRplHead t (msgQueue m) = fieldLE (msgBody m) 0 2 ∧
          RegsBut s t [R_SCH_SES_LEASE i, R_SCH_Q_RPL_IDX (msgQueue m)] ∧ t.mem = s.mem ∧ t.cmds = s.cmds ∧ t.outs = s.outs) ∧
      (idxDiff (qRplTail s (msgQueue m)) (qRplHead s (msgQueue m)) < idxDiff (fieldLE (msgBody m) 0 2) (qRplHead s (msgQueue m)) →
        ∃ t, exec (.replyAck port m) s = .next t ∧ Noted s t port m i ∧
          flag t (R_SCH_Q_ERR (msgQueue m)) F_SCH_Q_ERR_RPL_DB_BAD = true ∧
          RegsBut s t [R_SCH_SES_LEASE i, R_SCH_Q_ERR (msgQueue m)] ∧ t.mem = s.mem ∧ t.cmds = s.cmds)) ∧
    (Accepted s port 0x31 m i → (∀ q ∈ sesQueues s i, q < 64) → s.cmds.unsent = [] →
      ∃ t, exec (.close port m) s = .next t ∧ Said s t port 0x31 [] ∧ t.mem = s.mem ∧
        ((∀ q ∈ sesQueues s i, qOwes s q = false) → sesState t i = 0 ∧ ∀ q ∈ sesQueues s i, regGet t (R_SCH_Q_CFG q) = 0) ∧
        ((∃ q ∈ sesQueues s i, qOwes s q = true) → sesState t i = 3 ∧
          ∀ q ∈ sesQueues s i, qFld t q F_SCH_Q_CFG_ENABLE = 0 ∧ qTail t q = qHead s q)) ∧
    (sesState s i = 1 → (mgmtSchist s (sesGet s i).port).isSome = true →
      (∃ t, exec (.keepaliveSend i) s = .next t ∧ Said s t (sesGet s i).port 0x30 [] ∧ (sesGet t i).tx = (sesGet s i).tx + 1 ∧
        t.regs = s.regs ∧ t.mem = s.mem ∧ t.cmds = s.cmds) ∧
      ∃ t ms, exec (.replyResend i) s = .next t ∧ t.outs = ms ++ s.outs ∧
        (∀ o ∈ ms, ∃ r, o = .mgmt (sesGet s i).port r ∧ msgType r = 0x12) ∧
        ms.length = ((sesQueues s i).map fun q => (idxDiff (qRplTail s q) (qRplHead s q) + 31) / 32).sum ∧
        t.regs = s.regs ∧ t.mem = s.mem ∧ t.cmds = s.cmds) ∧
    (sesState s i = 1 → ∃ t, exec (.sessionDetach i) s = .next t ∧ sesState t i = 2 ∧ (sesGet t i).armed = true ∧
      regGet t (R_SCH_SES_DETACH_CNT i) = regGet s (R_SCH_SES_DETACH_CNT i) + 1 ∧
      RegsBut s t [R_SCH_SES_STATE i, R_SCH_SES_DETACH_CNT i, R_SCH_STRATA_ERR] ∧ t.mem = s.mem ∧ t.cmds = s.cmds) ∧
    (sesState s i ≠ 1 → exec (.keepaliveSend i) s = .next s ∧ exec (.replyResend i) s = .next s ∧
      exec (.sessionDetach i) s = .next s)

/-- R362; 19:R442: a DATA_WR of whole 64-byte units of one memory range is stored and acknowledged, a DATA_RD answered with
the bytes that stand there, or with the recorder's window; another range is refused with BAD_PARAM. R366, R371: SES_LEASE_SET sets
LEASE_MS for the lease that follows and the policy at once (the model's reading of R371: assumption 71), and refuses values outside its table; SES_CLOSE of a session writes
its reply and closes it; a session identifier that no session holds is refused. -/
def Obligations.SessionDataAndCommands : Prop :=
  (∀ (s : State) (port : Fin 2) (m : List Byte) (i : Fin 8) (ups : List Before), safeMode s = false → memAsleep s = false →
     (Accepted s port 0x20 m i →
       (dataRangeOk s (fieldLE (msgBody m) 0 8) ((msgBody m).drop 8).length = true →
         homeUp s ((mgmtSchist s port).getD 15) (fieldLE (msgBody m) 0 8) = true →
         Plain (upsets s ups) (fieldLE (msgBody m) 0 8) ((msgBody m).drop 8).length →
         ∃ t, exec (.dataWr port m ups) s = .next t ∧ Noted s t port m i ∧ Stored s t (fieldLE (msgBody m) 0 8) ((msgBody m).drop 8) ∧
           Said s t port 0x21 (leBytes 8 (fieldLE (msgBody m) 0 8) ++ leBytes 2 0)) ∧
       (dataRangeOk s (fieldLE (msgBody m) 0 8) ((msgBody m).drop 8).length = false →
         ∃ t, exec (.dataWr port m ups) s = .next t ∧ Noted s t port m i ∧ t.mem = s.mem ∧
           Said s t port 0x21 (leBytes 8 (fieldLE (msgBody m) 0 8) ++ leBytes 2 0x0102))) ∧
     (Accepted s port 0x22 m i → (msgBody m).length = 10 →
       windowDie s (fieldLE (msgBody m) 0 8) (fieldLE (msgBody m) 8 2) = none →
       (dataRangeOk s (fieldLE (msgBody m) 0 8) (fieldLE (msgBody m) 8 2) = true →
         homeUp s ((mgmtSchist s port).getD 15) (fieldLE (msgBody m) 0 8) = true →
         Plain (upsets s ups) (fieldLE (msgBody m) 0 8) (fieldLE (msgBody m) 8 2) →
         ∃ t, exec (.dataRd port m ups) s = .next t ∧ Noted s t port m i ∧ t.mem = s.mem ∧
           Said s t port 0x23 (leBytes 8 (fieldLE (msgBody m) 0 8) ++ leBytes 2 0 ++ List.replicate 6 0#8 ++
             memRead s.mem (fieldLE (msgBody m) 0 8) (fieldLE (msgBody m) 8 2))) ∧
       (dataRangeOk s (fieldLE (msgBody m) 0 8) (fieldLE (msgBody m) 8 2) = false →
         ∃ t, exec (.dataRd port m ups) s = .next t ∧ Noted s t port m i ∧ t.mem = s.mem ∧
           Said s t port 0x23 (leBytes 8 (fieldLE (msgBody m) 0 8) ++ leBytes 2 0x0102 ++ List.replicate 6 0#8))) ∧
     (∀ d, Accepted s port 0x22 m i → fieldLE (msgBody m) 0 8 % 64 = 0 →
       windowDie s (fieldLE (msgBody m) 0 8) (fieldLE (msgBody m) 8 2) = some d →
       ∃ t, exec (.dataRd port m ups) s = .next t ∧ Noted s t port m i ∧ t.mem = s.mem ∧
         flag t R_SCH_STRATA_STATUS F_SCH_STRATA_STATUS_WIN_BUSY = false ∧
         Said s t port 0x23 (leBytes 8 (fieldLE (msgBody m) 0 8) ++ leBytes 2 0 ++ List.replicate 6 0#8 ++
           (List.range (fieldLE (msgBody m) 8 2 / 4)).flatMap fun k =>
             leBytes 4 (rdWord t d (fieldLE (msgBody m) 0 8 - regAt d 0 + 4 * k)).toNat))) ∧
  (∀ (s : State) (src : Src) (id : Word), s.Serving →
     (∀ (lease : Word) (policy : Byte) (i : Nat), leaseOk lease.toNat = true → policy.toNat ≤ 1 → sesFind s id.toNat = some i →
       s.cmds.unsent = [] →
       Ends (.sesLeaseSet src id lease policy) s src 0x0903 (.ok []) fun u => (sesGet u i).nextLease = lease.toNat ∧
         fld u (R_SCH_SES_STATE i) F_SCH_SES_STATE_POLICY = policy.toNat ∧
         regGet u (R_SCH_SES_LEASE i) = regGet s (R_SCH_SES_LEASE i) ∧ RegsBut s u [R_SCH_SES_STATE i, R_SCH_HOLD] ∧ u.mem = s.mem) ∧
     (∀ (lease : Word) (policy : Byte), leaseOk lease.toNat = false ∨ 1 < policy.toNat →
       Ends (.sesLeaseSet src id lease policy) s src 0x0903 (.no 0x0102) (Unchanged s)) ∧
     (∀ (lease : Word) (policy : Byte), leaseOk lease.toNat = true → policy.toNat ≤ 1 → sesFind s id.toNat = none →
       Ends (.sesLeaseSet src id lease policy) s src 0x0903 (.no 0x0903) (Unchanged s)) ∧
     (sesFind s id.toNat = none → Ends (.sesClose src id) s src 0x0902 (.no 0x0903) (Unchanged s)) ∧
     (∀ i, sesFind s id.toNat = some i → ∃ (u t : State) (x : Taken), exec (.sesClose src id) s = .next t ∧ x.op = 0x0902 ∧
       x.src = src ∧ Unchanged s u ∧ t = sesClose (finish u x (.ok [])) i))

/-! ### Packets (15_command_interface.md). -/

/-- R342, R352: a packet whose parameter bytes hold a command's operands at the places of its table is that command, with
every operand at every value: encoding a command into its packet and decoding the packet gives the command back. (FW_CLOSE's
packet carries no operand for the dies whose images fail, which only a command given directly has.) -/
def Obligations.PacketsSpellCommands : Prop :=
  ∀ src : Src,
    (Spells (.devInfo src) 0x0101 src []) ∧
    (Spells (.devNop src) 0x0102 src []) ∧
    (∀ (q : Byte), Spells (.queueState src q) 0x0103 src (parBytes [(0, 1, q.toNat)])) ∧
    (∀ (mask : Byte) (seedValid : Bool) (words : List Word) (seed : DWord), words.length = 8 → Spells
      (.rcpSet src mask seedValid words seed) 0x0110 src (parBytes ([(0, 1, mask.toNat), (1, 1, b2n seedValid), (36, 8, seed.toNat)] ++ (List.range 8).map fun k => (4 + 4 * k, 4, (words.getD k 0).toNat)))) ∧
    (∀ (die : Byte), Spells (.dieReset src die) 0x0120 src (parBytes [(0, 1, die.toNat)])) ∧
    (∀ (die : Byte), Spells (.dieRejoin src die) 0x0121 src (parBytes [(0, 1, die.toNat)])) ∧
    (Spells (.devWarmReset src) 0x0130 src []) ∧
    (∀ (die mask : Byte), Spells (.frameReset src die mask) 0x0131 src (parBytes [(0, 1, die.toNat), (1, 1, mask.toNat)])) ∧
    (∀ (st : Byte), Spells (.devStateSet src st) 0x0132 src (parBytes [(0, 1, st.toNat)])) ∧
    (∀ (addr : DWord), Spells (.podCfg src addr) 0x0140 src (parBytes [(8, 8, addr.toNat)])) ∧
    (Spells (.podRelease src) 0x0140 src (parBytes [(0, 1, 1)])) ∧
    (∀ (die : Byte) (addr : DWord) (len : Word), Spells (.schLoad src die addr len) 0x0201 src (parBytes [(0, 1, die.toNat),
      (8, 8, addr.toNat), (16, 4, len.toNat)])) ∧
    (∀ (die : Byte), Spells (.schUnload src die) 0x0202 src (parBytes [(0, 1, die.toNat)])) ∧
    (∀ (mask : Half) (sec : Byte) (tokens : Word) (tag : Half) (batch : DWord), Spells
      (.schRun src mask sec tokens tag batch) 0x0203 src (parBytes [(0, 2, mask.toNat), (2, 1, sec.toNat), (4, 4, tokens.toNat), (8, 2, tag.toNat), (16, 8, batch.toNat)])) ∧
    (∀ (step : DWord), Spells (.schStepAdvance src step) 0x0204 src (parBytes [(8, 8, step.toNat)])) ∧
    (∀ (step : DWord), Spells (.schStepSet src step) 0x0204 src (parBytes [(0, 1, 2), (8, 8, step.toNat)])) ∧
    (∀ (step : DWord), Spells (.schStepRepeat src step) 0x0204 src (parBytes [(0, 1, 1), (8, 8, step.toNat)])) ∧
    (∀ (mask : Half), Spells (.schAbort src mask) 0x0205 src (parBytes [(0, 2, mask.toNat)])) ∧
    (∀ (die entry : Byte) (word : Word), Spells (.shlRegionSet src die entry word) 0x0310 src (parBytes [(0, 1, die.toNat),
      (1, 1, entry.toNat), (4, 4, word.toNat)])) ∧
    (∀ (die : Byte) (mask : Half), Spells (.shlWellArm src die mask) 0x0311 src (parBytes [(0, 1, die.toNat),
      (2, 2, mask.toNat)])) ∧
    (∀ (die : Byte) (off : DWord) (bytes pat : Word), Spells (.shlFill src die off bytes pat) 0x0312 src
      (parBytes [(0, 1, die.toNat), (8, 8, off.toNat), (16, 4, bytes.toNat), (20, 4, pat.toNat)])) ∧
    (∀ (die : Byte) (off : DWord) (kind : Byte), Spells (.shlErrInject src die off kind) 0x0313 src
      (parBytes [(0, 1, die.toNat), (8, 8, off.toNat), (16, 1, kind.toNat)])) ∧
    (∀ (quads mode : Byte), Spells (.memInterleave src quads mode []) 0x0320 src (parBytes [(0, 1, quads.toNat),
      (1, 1, mode.toNat)])) ∧
    (∀ (addr : DWord), Spells (.memPathBarrier src addr) 0x0321 src (parBytes [(8, 8, addr.toNat)])) ∧
    (∀ (slot : Byte) (addr : DWord), Spells (.ringCfg src slot addr) 0x0401 src (parBytes [(0, 1, slot.toNat),
      (8, 8, addr.toNat)])) ∧
    (∀ (slot : Byte) (step : DWord), Spells (.ringRs src slot step) 0x0402 src (parBytes [(0, 1, slot.toNat),
      (8, 8, step.toNat)])) ∧
    (∀ (slot : Byte) (step : DWord), Spells (.ringAg src slot step) 0x0403 src (parBytes [(0, 1, slot.toNat),
      (8, 8, step.toNat)])) ∧
    (∀ (slot : Byte), Spells (.ringRelease src slot) 0x0404 src (parBytes [(0, 1, slot.toNat)])) ∧
    (∀ (addr : DWord), Spells (.updCfg src addr) 0x0501 src (parBytes [(8, 8, addr.toNat)])) ∧
    (∀ (mask addr : DWord), Spells (.updCoefSet src mask addr) 0x0502 src (parBytes [(0, 8, mask.toNat), (8, 8, addr.toNat)])) ∧
    (∀ (step : DWord), Spells (.updRun src step) 0x0503 src (parBytes [(8, 8, step.toNat)])) ∧
    (∀ (epoch : Byte) (addr : DWord), Spells (.micaTableLoad src epoch addr) 0x0601 src (parBytes [(0, 1, epoch.toNat),
      (8, 8, addr.toNat)])) ∧
    (∀ (epoch : Byte), Spells (.micaTableRetire src epoch) 0x0602 src (parBytes [(0, 1, epoch.toNat)])) ∧
    (Spells (.strataInfo src) 0x0701 src []) ∧
    (∀ (seconds : Half), Spells (.strataFreeze src seconds) 0x0702 src (parBytes [(0, 2, seconds.toNat)])) ∧
    (Spells (.strataThaw src) 0x0703 src []) ∧
    (∀ (mode : Byte) (seq : DWord) (count : Half) (dest : DWord), Spells (.strataSeek src mode seq count dest) 0x0704 src
      (parBytes [(0, 1, mode.toNat), (8, 8, seq.toNat), (16, 2, count.toNat), (24, 8, dest.toNat)])) ∧
    (∀ (flags : Byte) (base : DWord) (size : Word), Spells (.replayCfgStart src flags base size) 0x0710 src
      (parBytes [(1, 1, flags.toNat), (8, 8, base.toNat), (16, 4, size.toNat)])) ∧
    (∀ (flags : Byte), Spells (.replayCfgStop src flags) 0x0710 src (parBytes [(0, 1, 1), (1, 1, flags.toNat)])) ∧
    (∀ (flags : Byte) (user : List Byte), user.length = 32 → Spells (.replayCfgMark src flags user) 0x0710 src
      (parBytes [(0, 1, 2), (1, 1, flags.toNat), (8, 32, fieldLE user 0 32)])) ∧
    (∀ (flags : Byte) (silentThr : Half) (ratio : Word) (lossAddr : DWord) (alpha meanInit : Word) (warmup : Half)
      (watchAddr : DWord) (watchCount : Half), Spells (.healthCfg src flags silentThr ratio lossAddr alpha meanInit warmup watchAddr watchCount) 0x0720 src (parBytes [(0, 1, flags.toNat), (2, 2, silentThr.toNat), (4, 4, ratio.toNat), (8, 8, lossAddr.toNat), (16, 4, alpha.toNat), (20, 4, meanInit.toNat), (24, 2, warmup.toNat), (32, 8, watchAddr.toNat), (40, 2, watchCount.toNat)])) ∧
    (∀ (addr : DWord), Spells (.fwOpen src addr) 0x0801 src (parBytes [(8, 8, addr.toNat)])) ∧
    (∀ (offset addr : DWord) (len : Word), Spells (.fwData src offset addr len) 0x0802 src (parBytes [(0, 8, offset.toNat),
      (8, 8, addr.toNat), (16, 4, len.toNat)])) ∧
    (Spells (.fwCloseAbort src) 0x0803 src (parBytes [(0, 1, 1)])) ∧
    (Spells (.fwCloseCommit src []) 0x0803 src []) ∧
    (∀ (mode : Byte), Spells (.fwActivate src mode) 0x0804 src (parBytes [(0, 1, mode.toNat)])) ∧
    (Spells (.fwStatus src) 0x0805 src []) ∧
    (∀ (idx : Byte), Spells (.sesInfo src idx) 0x0901 src (parBytes [(0, 1, idx.toNat)])) ∧
    (∀ (id : Word), Spells (.sesClose src id) 0x0902 src (parBytes [(4, 4, id.toNat)])) ∧
    (∀ (id lease : Word) (policy : Byte), Spells (.sesLeaseSet src id lease policy) 0x0903 src (parBytes [(4, 4, id.toNat),
      (8, 4, lease.toNat), (12, 1, policy.toNat)])) ∧
    (∀ (slot : Byte) (x : BitVec 256), Spells (.secKeySet src slot x) 0x0910 src (parBytes [(0, 1, slot.toNat),
      (8, 32, x.toNat)])) ∧
    (∀ (slot : Byte), Spells (.secKeyClear src slot) 0x0910 src (parBytes [(0, 1, slot.toNat), (1, 1, 1)])) ∧
    (∀ (dest : DWord) (nonce : BitVec 256) (cert : Bool), Spells (.secAttest src dest nonce cert) 0x0911 src
      (parBytes [(0, 8, dest.toNat), (8, 32, nonce.toNat), (40, 1, b2n cert)])) ∧
    (Spells (.pwrStatus src) 0x0A01 src []) ∧
    (∀ (cls : Byte), Spells (.pwrClassSet src cls) 0x0A02 src (parBytes [(0, 1, cls.toNat)])) ∧
    (∀ (watts : Half), Spells (.pwrLimitSet src watts) 0x0A03 src (parBytes [(0, 2, watts.toNat)])) ∧
    (∀ (ports : BitVec 48) (mode ethRate flags : Byte) (netTag : Half) (expectId : DWord) (expectPort : Byte), Spells
      (.linkCfg src ports mode ethRate flags netTag expectId expectPort) 0x0B01 src (parBytes [(0, 6, ports.toNat), (6, 1, mode.toNat), (7, 1, ethRate.toNat), (8, 1, flags.toNat), (10, 2, netTag.toNat), (16, 8, expectId.toNat), (24, 1, expectPort.toNat)])) ∧
    (∀ (ports : BitVec 48), Spells (.linkTrain src ports) 0x0B02 src (parBytes [(0, 6, ports.toNat)])) ∧
    (∀ (ports : BitVec 48), Spells (.linkDown src ports) 0x0B03 src (parBytes [(0, 6, ports.toNat)])) ∧
    (∀ (port : Byte), Spells (.linkStatus src port) 0x0B04 src (parBytes [(0, 1, port.toNat)])) ∧
    (∀ (maxGen width : Byte), Spells (.pcieCfg src maxGen width) 0x0B10 src (parBytes [(0, 1, maxGen.toNat),
      (1, 1, width.toNat)])) ∧
    (Spells (.pcieHotReset src) 0x0B11 src []) ∧
    (∀ (port : Byte) (qpn : Half) (addr : DWord), Spells (.roceQpCfg src port qpn addr) 0x0B20 src
      (parBytes [(0, 1, port.toNat), (2, 2, qpn.toNat), (8, 8, addr.toNat)])) ∧
    (∀ (entry access tag : Byte) (base length : DWord), Spells (.roceMrSet src entry access tag base length) 0x0B21 src
      (parBytes [(0, 1, entry.toNat), (1, 1, access.toNat), (2, 1, tag.toNat), (8, 8, base.toNat), (16, 8, length.toNat)]))

/-- R345, R347, R349, R350, R364, R368: a RUNNING Schist takes the packet at HEAD of the next queue of its turn that has one:
HEAD advances and the packet runs; a held Schist takes from the relay queue alone; a packet that fails a check ends with that
check's status, and one that passes runs its opcode's command. -/
def Obligations.PacketsTaken : Prop :=
  ∀ (s : State) (quad : Fin 4) (ups : List Before),
    (dieRunning s (schDie quad) = true → (flag s R_SCH_RST_STATUS F_SCH_RST_STATUS_READY || safeMode s) = true →
      (∀ q, held s = false → ((qOrder (upsets s ups) quad).find? fun q => qReady (upsets s ups) q && !(qFenced (upsets s ups) q)) = some q →
        (q < 32 → Plain (upsets s ups) ((ctrGet s (R_SCH_Q_CMD_BASE q)).toNat + qHead s q % qDepth s q * 64) 64) →
        ∃ u pkt, exec (.packetTake quad false ups) s = .next (runPacket u quad ⟨Fin.ofNat 65 q, BitVec.ofNat 32 (fieldLE pkt 4 4)⟩ pkt none) ∧
          (q < 32 → pkt = memRead s.mem ((ctrGet s (R_SCH_Q_CMD_BASE q)).toNat + qHead s q % qDepth s q * 64) 64) ∧
          (32 ≤ q → pkt = sliceZ (tabGet s.cmds.sesCmd (q * 65536 + qHead s q % 256) []) 0 64) ∧
          qHead u q = (qHead s q + 1) % 65536 ∧ RegsBut s u [R_SCH_Q_IDX q] ∧ u.mem = s.mem ∧ u.cmds.taken = s.cmds.taken ∧
          tabFind u.cmds.last quad = some q) ∧
      (held s = true → exec (.packetTake quad false ups) s = .next (upsets s ups)) ∧
      (∀ r rest, s.cmds.relay = r :: rest → bitOf (fieldLE r.pkt 2 2) 0 = false →
        ∃ u, exec (.packetTake quad true ups) s =
            .next (runPacket u quad ⟨64, BitVec.ofNat 32 (fieldLE r.pkt 4 4)⟩ r.pkt (some r.id)) ∧
          u.cmds.relay = rest ∧ u.regs = s.regs ∧ u.mem = s.mem ∧ u.cmds.taken = s.cmds.taken)) ∧
    (dieRunning s (schDie quad) = false → ∀ relay : Bool, exec (.packetTake quad relay ups) s = .next (upsets s ups)) ∧
    (∀ (src : Src) (pkt : List Byte), src.queue.val < 64 →
      (∀ st, packetCheck s src.queue.val pkt = some st → ∃ (u : State) (t : Taken), runPacket s quad src pkt none = finish u t (.no st) ∧ t.src = src ∧
        t.op = fieldLE pkt 0 2 ∧ Unchanged s u) ∧
      (packetCheck s src.queue.val pkt = none → bitOf (fieldLE pkt 2 2) 1 = false → ∃ (u : State) (t : Taken),
        runPacket s quad src pkt none = runTaken t (cmdOf (fieldLE pkt 0 2) (parsOf pkt)) u ∧ t.src = src ∧ t.op = fieldLE pkt 0 2 ∧
        t.pkt = pkt ∧ t.pod = false ∧ Unchanged s u))

/-- R367: POD_CFG takes the table at its address up to the first MODULE_ID 0 or 64 entries, finds this module in it and its
depth, and refuses a table that breaks the rules or does not name this module; RELEASE clears it. -/
def Obligations.PodConfigured : Prop :=
  ∀ (s : State) (src : Src), s.Serving →
    (Ends (.podRelease src) s src 0x0140 (.ok []) fun u => u.pod = none ∧ regGet u R_SCH_POD_STATUS = 0 ∧
      RegsBut s u [R_SCH_POD_STATUS] ∧ u.mem = s.mem) ∧
    (∀ (a : DWord) (es : List (Nat × Nat)), es.length ≤ 64 → inOneRange a.toNat (16 * Nat.min 64 (es.length + 1)) = true →
      (∀ x, a.toNat ≤ x → x < a.toNat + 16 → homeUp s (qSchist s (src.queue.val % 64)) x = true) →
      Plain s a.toNat (16 * Nat.min 64 (es.length + 1)) →
      (∀ k, (h : k < es.length) → fieldLE (memRead s.mem (a.toNat + 16 * k) 16) 0 8 = es[k].1 ∧ es[k].1 ≠ 0 ∧
        fieldLE (memRead s.mem (a.toNat + 16 * k) 16) 8 1 = es[k].2) →
      (es.length < 64 → fieldLE (memRead s.mem (a.toNat + 16 * es.length) 16) 0 8 = 0) →
      (∀ me, (es.findIdx? fun e => e.1 == moduleId s) = some me → podTableOk es = true →
        (me = 0 → 20 * (podMaxDepth es + 1) ≤ (regGet s R_SCH_POD_TIMEOUT).toNat) →
        Ends (.podCfg src a) s src 0x0140 (.ok [BitVec.ofNat 8 me, BitVec.ofNat 8 (podDepth es 64 me)]) fun u =>
          u.pod = some ⟨es, me, podDepth es 64 me⟩ ∧ fld u R_SCH_POD_STATUS F_SCH_POD_STATUS_CONFIGURED = 1 ∧
          fld u R_SCH_POD_STATUS F_SCH_POD_STATUS_MEMBER = me ∧ fld u R_SCH_POD_STATUS F_SCH_POD_STATUS_ROOT = b2n (me == 0) ∧
          RegsBut s u [R_SCH_POD_STATUS] ∧ u.mem = s.mem) ∧
      ((es.findIdx? fun e => e.1 == moduleId s) = none ∨ podTableOk es = false →
        Ends (.podCfg src a) s src 0x0140 (.no 0x0102) fun u => u.pod = s.pod ∧ u.regs = s.regs ∧ u.mem = s.mem))

/-- R368-R370: a member takes a pod packet from its parent into its relay queue, and merges each child's first report; a
report of a packet that it no longer holds is counted late; when POD_TIMEOUT has passed it reports with what is missing
marked, the root by its summary reply. -/
def Obligations.PodFrames : Prop :=
  ∀ (s : State) (port : Fin 48),
    (∀ (p : Pod) (timeout : Word) (pkt : List Byte), s.pod = some p → p.me ≠ 0 → portYoger s port = true →
      portPeer s port = (p.entries.getD (p.entries.getD p.me (0, 0)).2 (0, 0)).1 → s.cmds.relay.length < 256 →
      (s.podCmds.find? fun c => c.id == s.nextId) = none →
      ∃ t, exec (.podRelayFrame port timeout pkt) s = .next t ∧
        t.cmds.relay = s.cmds.relay ++ [⟨s.nextId, sliceZ pkt 0 64, p, timeout.toNat⟩] ∧
        t.cmds.unsent = s.cmds.unsent ++ (if held s then [⟨s.nextId, sliceZ pkt 0 64, p, timeout.toNat⟩] else []) ∧ t.cmds.taken = s.cmds.taken ∧
        (∃ c, (t.podCmds.find? fun c => c.id == s.nextId) = some c ∧ c.pod = p ∧ c.root = none ∧ c.own = none ∧ c.timeout = timeout.toNat) ∧
        t.regs = s.regs ∧ t.mem = s.mem) ∧
    (∀ (timeout : Word) (pkt : List Byte), s.pod = none → exec (.podRelayFrame port timeout pkt) s = .next s) ∧
    (∀ (child : Fin 64) (id : Nat) (rep : PodRep) (c : PodCmd), (s.podCmds.find? fun x => x.id == id) = some c → c.own = none →
      child.val ∈ podChildren c.pod → portYoger s port = true → portPeer s port = (c.pod.entries.getD child (0, 0)).1 →
      tabFind c.reps child = none →
      ∃ t, exec (.podReport port child id rep) s = .next t ∧
        (∃ c', (t.podCmds.find? fun x => x.id == id) = some c' ∧ tabFind c'.reps child = some rep) ∧ t.regs = s.regs ∧ t.mem = s.mem ∧
        t.outs = s.outs) ∧
    (∀ (child : Fin 64) (id : Nat) (rep : PodRep), (s.podCmds.find? fun x => x.id == id) = none →
      flag s R_SCH_CMD_CTRL F_SCH_CMD_CTRL_CNT_EN = true →
      ∃ t, exec (.podReport port child id rep) s = .next t ∧ ctrGet t R_SCH_POD_LATE = ctrGet s R_SCH_POD_LATE + 1 ∧
        CtrsBut s t [R_SCH_POD_LATE] ∧ t.regs = s.regs ∧ RestSame s t) ∧
    (∀ (id : Nat) (c : PodCmd), (s.podCmds.find? fun x => x.id == id) = some c →
      (∀ k, c.root = none → podPort s c.pod (c.pod.entries.getD c.pod.me (0, 0)).2 = some k →
        ∃ t n, exec (.podWaitExpiry id) s = .next t ∧ (t.podCmds.find? fun x => x.id == id) = none ∧
          t.outs = .frame k frPodReport n (linkFrame frPodReport n (portAckSeq s k) (podData (podReport c))) :: s.outs ∧ t.regs = s.regs ∧ t.mem = s.mem) ∧
      (∀ x, c.root = some x → ∃ u, exec (.podWaitExpiry id) s =
          .next (answer u x 1 (if (podReport c).failMask = 0 then 0 else 0x0108) (podData (podReport c))) ∧
        (u.podCmds.find? fun x => x.id == id) = none ∧ u.regs = s.regs ∧ u.mem = s.mem))

/-! ### Recipes, steps and schedules (03_numerics.md, 06_schedule_contract.md). -/

/-- 03:R57, R58: RCP_SET of valid words takes effect at once when no run is accepted and no window is open, replacing the
words and the seed that it selects and advancing the generation; otherwise it waits for a boundary; an invalid word, or nothing
selected, is refused. -/
def Obligations.RecipesSet : Prop :=
  ∀ (s : State) (src : Src) (mask : Byte) (sv : Bool) (words : List Word) (seed : DWord), s.Serving →
    ((mask.toNat ≠ 0 ∨ sv = true) → (∀ k ∈ setBits 8 mask.toNat, rcpValid k (words.getD k 0) = true) →
      (s.runs = [] → anyWindow s = false → s.rcp.staged = [] →
        Ends (.rcpSet src mask sv words seed) s src 0x0110 (.ok (leBytes 4 (s.rcp.gen + 1).toNat)) fun u =>
          u.rcp.gen = s.rcp.gen + 1 ∧ u.rcp.seed = (if sv then seed else s.rcp.seed) ∧ u.rcp.staged = [] ∧
          (∀ k w, s.rcp.words[k]? = some w → u.rcp.words[k]? = some (if bitOf mask.toNat k then words.getD k w else w)) ∧
          (rplRunning s = false → u.mem = s.mem)) ∧
      (s.runs ≠ [] ∨ anyWindow s = true →
        Ends (.rcpSet src mask sv words seed) s src 0x0110
          (.ok (leBytes 4 (s.rcp.gen + BitVec.ofNat 32 (s.rcp.staged.length + 1)).toNat)) fun u =>
          u.rcp = { s.rcp with staged := s.rcp.staged ++ [(mask.toNat, sv, words, seed)] } ∧ u.regs = s.regs ∧ u.mem = s.mem)) ∧
    ((mask.toNat = 0 ∧ sv = false) ∨ (∃ k ∈ setBits 8 mask.toNat, rcpValid k (words.getD k 0) = false) →
      Ends (.rcpSet src mask sv words seed) s src 0x0110 (.no 0x0102) fun u => Unchanged s u ∧ u.rcp = s.rcp)

/-- 06:R129, R149: SCH_STEP in mode ADVANCE or REPEAT waits for the runs accepted before it; then ADVANCE to the step after the
current one makes it the current one, unless the step is marked failed, and REPEAT keeps it; both clear the mark. SET changes
the step at once, and is refused while a window is open or a run waits for one. -/
def Obligations.StepsAdvance : Prop :=
  ∀ (s : State),
    (s.Serving → ∀ (src : Src) (n : DWord),
      (Waits (.schStepAdvance src n) s src 0x0204 (.step 0 n.toNat (runIds s)) fun u => u.step = s.step ∧ u.regs = s.regs ∧ u.mem = s.mem) ∧
      (Waits (.schStepRepeat src n) s src 0x0204 (.step 1 n.toNat (runIds s)) fun u => u.step = s.step ∧ u.regs = s.regs ∧ u.mem = s.mem) ∧
      ((List.range 16).any (winOrPending s) = true → Ends (.schStepSet src n) s src 0x0204 (.no 0x020B) (Unchanged s)) ∧
      ((List.range 16).any (winOrPending s) = false → stepReady s [] = true → (s.cmds.taken.any fun u => u.wait.isStep) = false →
        Ends (.schStepSet src n) s src 0x0204 (.ok (leBytes 8 n.toNat)) fun u => u.step = n ∧ u.stepFailed = false)) ∧
    (∀ w, (s.cmds.taken.find? fun t => t.wait.isStep) = none → exec (.stepBoundary w) s = .next s ∧ exec .stepRepeatDone s = .next s) ∧
    (∀ (w : Bool) (t : Taken) (n : Nat) (rs : List Nat), (s.cmds.taken.find? fun t => t.wait.isStep) = some t → stepReady s rs = true →
      (t.wait = .step 0 n rs →
        (n = (s.step + 1).toNat → s.stepFailed = false → ∃ u, exec (.stepBoundary w) s = .next (finish u t (.ok (leBytes 8 n))) ∧
          u.step = s.step + 1 ∧ u.stepFailed = false) ∧
        (n ≠ (s.step + 1).toNat → exec (.stepBoundary w) s = .next (finish s t (.no 0x0102))) ∧
        (n = (s.step + 1).toNat → s.stepFailed = true → exec (.stepBoundary w) s = .next (finish s t (.no 0x020E)))) ∧
      (t.wait = .step 1 n rs → ∃ u, exec .stepRepeatDone s = .next (finish u t (.ok (leBytes 8 s.step.toNat))) ∧
        u.step = s.step ∧ u.stepFailed = false)) ∧
    (∀ (w : Bool) (t : Taken) (m n : Nat) (rs : List Nat), (s.cmds.taken.find? fun t => t.wait.isStep) = some t → t.wait = .step m n rs →
      stepReady s rs = false → exec (.stepBoundary w) s = .next s ∧ exec .stepRepeatDone s = .next s)

/-- 06:R146-R149: SCH_LOAD takes an image that keeps the rules from the Gabbro's Shale and replies the head of its hash;
SCH_UNLOAD takes it away; SCH_RUN of a loaded section waits for its windows; SCH_ABORT ends every window and discards every
run of the Gabbros named. A Gabbro with a window or a run refuses the first two. -/
def Obligations.SchedulesLoaded : Prop :=
  ∀ (s : State) (src : Src), s.Serving →
    (∀ (g : Fin 16) (a : DWord) (len : Word), 1 ≤ len.toNat → len.toNat ≤ 268435456 → ownRange g a.toNat len.toNat = true →
      regionBelow 0 a.toNat = .shale g → cmdReach (begun s) (takenAs 0x0201 src (parBytes [(0, 1, gabDie g), (8, 8, a.toNat),
        (16, 4, len.toNat)]) s) a.toNat len.toNat = true → Plain s a.toNat len.toNat →
      (∀ im, parseImage (begun s) g a.toNat (memRead s.mem a.toNat len.toNat) = some im →
        (∀ m < 12, shareSum s g m + im.shares.getD m 0 ≤ 16) →
        (winOrPending s g = false →
          Ends (.schLoad src (BitVec.ofNat 8 (gabDie g)) a len) s src 0x0201
            (.ok ((shake256 (memRead s.mem a.toNat len.toNat) 32).take 16)) fun u => (schedGet u g).image = some im ∧
            fld u (R_GAB_SCH_STATUS (gabDie g)) F_GAB_SCH_STATUS_LOADED = 1 ∧
            (∀ n < 8, (regGet u (R_GAB_SCH_HASH (gabDie g) n)).toNat = fieldLE (shake256 (memRead s.mem a.toNat len.toNat) 32) (4 * n) 4) ∧
            (∀ h, h ≠ g.val → schedGet u h = schedGet s h) ∧ u.mem = s.mem) ∧
        (winOrPending s g = true → Ends (.schLoad src (BitVec.ofNat 8 (gabDie g)) a len) s src 0x0201 (.no 0x020B) fun u =>
          u.scheds = s.scheds ∧ u.regs = s.regs ∧ u.mem = s.mem)) ∧
      (parseImage (begun s) g a.toNat (memRead s.mem a.toNat len.toNat) = none →
        Ends (.schLoad src (BitVec.ofNat 8 (gabDie g)) a len) s src 0x0201 (.no 0x0209) fun u =>
          u.scheds = s.scheds ∧ u.regs = s.regs ∧ u.mem = s.mem)) ∧
    (∀ g : Fin 16,
      (winOrPending s g = false → Ends (.schUnload src (BitVec.ofNat 8 (gabDie g))) s src 0x0202 (.ok []) fun u =>
        (schedGet u g).image = none ∧ ((schedGet s g).image ≠ none → fld u (R_GAB_SCH_STATUS (gabDie g)) F_GAB_SCH_STATUS_LOADED = 0) ∧
        (∀ h, h ≠ g.val → schedGet u h = schedGet s h) ∧ u.mem = s.mem) ∧
      (winOrPending s g = true → Ends (.schUnload src (BitVec.ofNat 8 (gabDie g))) s src 0x0202 (.no 0x020B) (Unchanged s))) ∧
    (∀ (mask tag : Half) (sec : Byte) (tokens : Word) (batch : DWord), mask.toNat ≠ 0 →
      (∀ g ∈ setBits 16 mask.toNat, ∃ im, (schedGet s g).image = some im ∧ sec.toNat < im.sections ∧
        (classOf im tokens.toNat).isSome = true ∧ runsPending s g < 16) →
      Waits (.schRun src mask sec tokens tag batch) s src 0x0203 (.run s.nextId) fun u => ∃ r, u.runs = s.runs ++ [r] ∧ r.id = s.nextId ∧
        r.mask = mask.toNat ∧ r.section_ = sec.toNat ∧ r.tokens = tokens.toNat ∧ r.tag = tag.toNat ∧ r.batch = batch.toNat ∧
        r.parts = (setBits 16 mask.toNat).map (fun g => (g, .waiting)) ∧ u.scheds = s.scheds ∧ u.regs = s.regs ∧ u.mem = s.mem) ∧
    (∀ mask : Half, mask.toNat ≠ 0 → Ends (.schAbort src mask) s src 0x0205 (.ok []) fun u => u.stepFailed = true ∧
      (∀ g ∈ setBits 16 mask.toNat, winOpen u g = false ∧ ∀ r ∈ u.runs, runWaits r g = false)) ∧
    (∀ mask : Half, mask.toNat = 0 → Ends (.schAbort src mask) s src 0x0205 (.no 0x0102) (Unchanged s))

/-- 06:R125, R148: the first run whose Gabbros are all ready opens its windows together, with the run count advanced and
the time at 0; a run that needs a frame which is not STARTED and not starting is discarded with RUN_FRAME_NOT_STARTED. -/
def Obligations.WindowsOpen : Prop :=
  ∀ s : State,
    (∀ (mask : Half) (r : Run), (s.runs.find? fun r => r.mask == mask.toNat && (setBits 16 mask.toNat).all fun g => runReady s r g) = some r →
      (∀ g ∈ setBits 16 mask.toNat, (schedGet s g).image ≠ none) →
      ∃ t, exec (.windowOpen mask) s = .next t ∧
        (∀ g ∈ setBits 16 mask.toNat, winOpen t g = true ∧ fld t (R_GAB_SCH_STATUS (gabDie g)) F_GAB_SCH_STATUS_WINDOW_OPEN = 1 ∧
          regGet t (R_GAB_SCH_RUN_CNT (gabDie g)) = regGet s (R_GAB_SCH_RUN_CNT (gabDie g)) + 1 ∧ schTime t g = 0 ∧
          regGet t (R_GAB_SCH_TOKENS (gabDie g)) = BitVec.ofNat 32 r.tokens ∧
          fld t (R_SHL_STATUS (shlDie g)) F_SHL_STATUS_WINDOW_OPEN = 1) ∧
        (∀ g < 16, g ∉ setBits 16 mask.toNat → winGet t g = winGet s g) ∧
        (∀ x ∈ t.runs, x.id = r.id → ∀ p ∈ x.parts, p.2 = RunPart.opened) ∧ (rplRunning s = false → t.mem = s.mem)) ∧
    (∀ mask : Half, (s.runs.find? fun r => r.mask == mask.toNat && (setBits 16 mask.toNat).all fun g => runReady s r g) = none →
      exec (.windowOpen mask) s = .next s) ∧
    (∀ (g : Fin 16) (r : Run), runHead s g = some r → (s.runs.find? fun x => x.id == r.id) = some r → stepHolds s r = false →
      (∃ f < 8, runNeeds s r g f = true ∧ frameStartedNow s g f = false ∧
        flag s (R_GAB_FRM_STATUS (gabDie g) f) F_GAB_FRM_STATUS_START_PENDING = false) →
      ∃ t, exec (.runFrameNotStarted g) s = .next t ∧ t.stepFailed = true ∧ (∀ x ∈ t.runs, x.id ≠ r.id) ∧
        (∀ c, (s.cmds.taken.find? fun c => c.wait == .run r.id) = some c → ∃ u d, t = finish u c (.done 0x0204 d) ∧ u.mem = s.mem ∧
          u.regs = s.regs)) ∧
    (∀ g : Fin 16, runHead s g = none → exec (.runFrameNotStarted g) s = .next s)

/-! ### Frames start, stop and are reset (02_bead_frame.md, 18_resets_states_straps.md). -/

/-- 02:R24, R42, R43; 17:R403; 18:R422, R431: a written EN bit asks for a start or a stop; a pending start takes effect in its
turn with both slots EMPTY, a pending stop once nothing needs the frame; a frame reset clears the frame, and is discarded or
refused while a window is open or pending. -/
def Obligations.FramesStartAndStop : Prop :=
  ∀ (s : State) (g : Fin 16) (f : Fin 8),
    (∃ t, exec (.frameEnableStart g f) s = .next t ∧
      (∀ j < 8, bitOf (regGet t (R_GAB_FRAME_ENABLE (gabDie g))).toNat j = (bitOf (regGet s (R_GAB_FRAME_ENABLE (gabDie g))).toNat j || j == f.val)) ∧
      fld t (R_GAB_FRM_STATUS (gabDie g) f) F_GAB_FRM_STATUS_STOP_PENDING = 0 ∧
      (flag s (R_GAB_FRM_STATUS (gabDie g) f) F_GAB_FRM_STATUS_STARTED = false →
        fld t (R_GAB_FRM_STATUS (gabDie g) f) F_GAB_FRM_STATUS_START_PENDING = 1) ∧
      RegsBut s t [R_GAB_FRAME_ENABLE (gabDie g), R_GAB_FRM_STATUS (gabDie g) f] ∧ CtrsBut s t [] ∧ RestSame s t) ∧
    (∃ t, exec (.frameEnableStop g f) s = .next t ∧
      (∀ j < 8, bitOf (regGet t (R_GAB_FRAME_ENABLE (gabDie g))).toNat j = (bitOf (regGet s (R_GAB_FRAME_ENABLE (gabDie g))).toNat j && j != f.val)) ∧
      fld t (R_GAB_FRM_STATUS (gabDie g) f) F_GAB_FRM_STATUS_START_PENDING = 0 ∧
      (flag s (R_GAB_FRM_STATUS (gabDie g) f) F_GAB_FRM_STATUS_STARTED = true →
        fld t (R_GAB_FRM_STATUS (gabDie g) f) F_GAB_FRM_STATUS_STOP_PENDING = 1) ∧
      RegsBut s t [R_GAB_FRAME_ENABLE (gabDie g), R_GAB_FRM_STATUS (gabDie g) f] ∧ CtrsBut s t [] ∧ RestSame s t) ∧
    (flag s (R_GAB_FRM_STATUS (gabDie g) f) F_GAB_FRM_STATUS_START_PENDING = true → startTurn s g f = true →
      ∃ t, exec (.frameStarted g f) s = .next t ∧ frameStartedNow t g f = true ∧
        fld t (R_GAB_FRM_STATUS (gabDie g) f) F_GAB_FRM_STATUS_START_PENDING = 0 ∧ slotState t g f 0 = 0 ∧ slotState t g f 1 = 0 ∧
        RegsBut s t [R_GAB_FRM_STATUS (gabDie g) f] ∧ CtrsBut s t [] ∧ t.mem = s.mem) ∧
    (flag s (R_GAB_FRM_STATUS (gabDie g) f) F_GAB_FRM_STATUS_START_PENDING = false → exec (.frameStarted g f) s = .next s) ∧
    (flag s (R_GAB_FRM_STATUS (gabDie g) f) F_GAB_FRM_STATUS_STOP_PENDING = true → inFlight (frameGet s g f) = false →
      (frameGet s g f).issue = .idle → frameNeeded s g f = false →
      ∃ t, exec (.frameStopped g f) s = .next t ∧ frameStartedNow t g f = false ∧
        fld t (R_GAB_FRM_STATUS (gabDie g) f) F_GAB_FRM_STATUS_STOP_PENDING = 0 ∧
        RegsBut s t [R_GAB_FRM_STATUS (gabDie g) f] ∧ CtrsBut s t [] ∧ RestSame s t) ∧
    (flag s (R_GAB_FRM_STATUS (gabDie g) f) F_GAB_FRM_STATUS_STOP_PENDING = false ∨ frameNeeded s g f = true →
      exec (.frameStopped g f) s = .next s) ∧
    (winOrPending s g = false → ∃ t, exec (.frmResetWrite g f) s = .next t ∧ FrameWasReset s t g f ∧
      (∀ h j : Nat, j < 8 → (h ≠ g.val ∨ j ≠ f.val) → frameGet t h j = frameGet s h j) ∧ t.mem = s.mem ∧ CtrsBut s t [] ∧ t.scheds = s.scheds) ∧
    (winOrPending s g = true → exec (.frmResetWrite g f) s = .next s) ∧
    (∀ (src : Src) (mask : Byte), s.Serving → mask.toNat ≠ 0 → winOrPending s g = false → dieRunning s (gabDie g) = true →
      Ends (.frameReset src (BitVec.ofNat 8 (gabDie g)) mask) s src 0x0131 (.ok []) fun u =>
        (∀ j ∈ setBits 8 mask.toNat, FrameWasReset s u g j) ∧
        (∀ h j : Nat, j < 8 → (h ≠ g.val ∨ j ∉ setBits 8 mask.toNat) → frameGet u h j = frameGet s h j) ∧ u.mem = s.mem ∧ u.scheds = s.scheds) ∧
    (∀ (src : Src) (mask : Byte), s.Serving → mask.toNat ≠ 0 → winOrPending s g = true →
      Ends (.frameReset src (BitVec.ofNat 8 (gabDie g)) mask) s src 0x0131 (.no 0x020B) (Unchanged s))

/-! ### Resets and power states (18_resets_states_straps.md; 21_module_connectors.md; 17_clocks_power_thermal.md). -/

/-- 18:R420-R424, R429, R434; 21:R474, R486: a cold power-on, a released MOD_RESET_N and a waiting warm reset each reset and boot
the block and are counted; MOD_RESET_N holds every die in reset, and losing the input or a trip point turns every die off, the recorder having committed what hold-up energy allows (19:R437, R440). What
the row's condition does not meet has no effect (the model's choice: assumptions 9, 16 and 18). Without a reference a cold power-on or module
reset waits with its straps latched and no die started, and the reference's return lets it go on (18:R424; 21:R489). -/
def Obligations.ResetsAndBoots : Prop :=
  ∀ s : State,
    (∀ (straps : Byte) (rep : BootReport), rep.reference = true → ∃ t, exec (.coldPowerOn straps rep) s = .next t ∧ AfterReset t 0 ∧ t.pwr.supply = .on ∧
      regGet t R_SCH_RST_COLD_CNT = regGet s R_SCH_RST_COLD_CNT + 1 ∧ fld t R_SCH_STRAP F_SCH_STRAP_LATCHED = straps.toNat ∧
      t.cyc = 0 ∧ t.ecc = [] ∧ standby t = true) ∧
    (∀ (straps : Byte) (rep : BootReport), rep.reference = false →
      (∃ t, exec (.coldPowerOn straps rep) s = .next t ∧ t.pwr.waiting = some (0, rep) ∧ t.pwr.supply = .held ∧ (∀ d < 64, dieState t d = 4) ∧
        flag t R_SCH_RST_STATUS F_SCH_RST_STATUS_READY = false ∧ fld t R_SCH_STRAP F_SCH_STRAP_LATCHED = straps.toNat ∧ standby t = true) ∧
      (s.pwr.supply ≠ .off → ∃ t, exec (.moduleReset straps rep) s = .next t ∧ t.pwr.waiting = some (1, rep) ∧ t.pwr.supply = .held ∧
        (∀ d < 64, dieState t d = 4) ∧ fld t R_SCH_STRAP F_SCH_STRAP_LATCHED = straps.toNat ∧ StoresOnlyLost s t)) ∧
    (∀ kind rep, s.pwr.waiting = some (kind, rep) → kind ≤ 1 → ∃ t, exec .refReturn s = .next t ∧ t.pwr.supply = .on ∧ t.pwr.waiting = none ∧
      fld t R_SCH_RST_STATUS F_SCH_RST_STATUS_LAST_RESET = kind ∧
      fld t R_SCH_STRAP F_SCH_STRAP_LATCHED = fld s R_SCH_STRAP F_SCH_STRAP_LATCHED) ∧
    (∀ (straps : Byte) (rep : BootReport), s.pwr.supply ≠ .off → rep.reference = true → ∃ t, exec (.moduleReset straps rep) s = .next t ∧ AfterReset t 1 ∧
      t.pwr.supply = .on ∧ regGet t R_SCH_RST_MODULE_CNT = regGet s R_SCH_RST_MODULE_CNT + 1 ∧
      fld t R_SCH_STRAP F_SCH_STRAP_LATCHED = straps.toNat ∧ StoresOnlyLost s t ∧ t.cyc = s.cyc) ∧
    (∀ (straps : Byte) (rep : BootReport), s.pwr.supply = .off → exec (.moduleReset straps rep) s = .next s) ∧
    (∀ src : Src, s.Serving → Waits (.devWarmReset src) s src 0x0130 (.warm (runIds s)) fun u => u.regs = s.regs ∧ u.mem = s.mem) ∧
    (∀ (x : Taken) (rs : List Nat) (rep : BootReport), (s.cmds.taken.find? fun t => t.wait.isStep) = some x → x.wait = .warm rs →
      stepReady s rs = true → changing s = false → ∃ u t, exec (.warmReset rep) s = .next t ∧ AfterReset t 2 ∧
        u = finish (goRun s 1 x.op) x (.ok []) ∧ regGet t R_SCH_RST_WARM_CNT = regGet u R_SCH_RST_WARM_CNT + 1 ∧ StoresOnlyLost u t ∧
        fld t R_SCH_STRAP F_SCH_STRAP_LATCHED = fld u R_SCH_STRAP F_SCH_STRAP_LATCHED) ∧
    (∀ rep : BootReport, (s.cmds.taken.find? fun t => t.wait.isStep) = none → exec (.warmReset rep) s = .next s) ∧
    (s.pwr.supply = .on → ∃ t, exec .modResetAssert s = .next t ∧ t.pwr.supply = .held ∧
      flag t R_SCH_RST_STATUS F_SCH_RST_STATUS_READY = false ∧ (∀ d < 64, dieState t d = 4) ∧ t.cmds.taken = [] ∧
      t.outs = .pin 2 false :: .pin 0 false :: s.outs ∧ StoresOnlyLost s t) ∧
    (s.pwr.supply ≠ .on → exec .modResetAssert s = .next { s with pwr := { s.pwr with waiting := none } }) ∧
    (∀ (torn : List Byte), s.pwr.supply = .on → ∃ t, exec (.powerFault torn) s = .next t ∧ t.strata.slice = [] ∧
      t.strata.store = (strataPowerFault s torn).strata.store ∧ t.strata.torn = (strataPowerFault s torn).strata.torn) ∧
    (∀ (torn : List Byte), ∀ i ∈ [Instr.powerFault torn, .mateDisconnect, .overvoltageClamp],
      (s.pwr.supply ≠ .off → ∃ t, exec i s = .next t ∧ t.pwr.supply = .off ∧ flag t R_SCH_RST_STATUS F_SCH_RST_STATUS_READY = false ∧
        (∀ d < 64, dieState t d = 4) ∧ t.cmds.taken = [] ∧ t.outs = .pin 2 false :: .pin 0 false :: s.outs ∧ standby t = false) ∧
      (s.pwr.supply = .off → exec i s = .next { s with pwr := { s.pwr with input := false } })) ∧
    (∀ c : TripCause,
      (tripMet c = true → s.pwr.supply = .on → ∃ t, exec (.thermalTrip c) s = .next t ∧ t.pwr.supply = .off ∧ t.pwr.trip = true ∧
        (∀ d < 64, dieState t d = 4) ∧ t.cmds.taken = [] ∧ t.outs = .pin 1 false :: .pin 2 false :: .pin 0 false :: s.outs ∧
        standby t = standby s) ∧
      (tripMet c = false → exec (.thermalTrip c) s = .next s)) ∧
    (∀ pins : Byte, ∃ t, exec (.strapPinChange pins) s = .next t ∧ fld t R_SCH_STRAP F_SCH_STRAP_PINS = pins.toNat ∧
      fld t R_SCH_STRAP F_SCH_STRAP_LATCHED = fld s R_SCH_STRAP F_SCH_STRAP_LATCHED ∧
      fld t R_SCH_RST_STATUS F_SCH_RST_STATUS_STRAP_DIFF = b2n (pins.toNat != fld s R_SCH_STRAP F_SCH_STRAP_LATCHED) ∧
      RegsBut s t [R_SCH_STRAP, R_SCH_RST_STATUS] ∧ CtrsBut s t [] ∧ RestSame s t)

/-- 18:R425-R428, R431: DEV_STATE_SET waits for its change; when the change ends the block is in that state and the command
is answered, or back in RUN after a wake; leaving RUN or IDLE for HOLD or REST loses the frames; a wake in HOLD or REST begins
the return to RUN and notes its cause. -/
def Obligations.PowerStates : Prop :=
  ∀ s : State,
    (∀ (src : Src) (st : Byte), safeMode s = false → st.toNat ≤ 3 →
      Waits (.devStateSet src st) s src 0x0132 (.state st.toNat false) fun u => u.regs = s.regs ∧ u.mem = s.mem) ∧
    (∀ (src : Src) (st : Byte), safeMode s = false → 3 < st.toNat → Ends (.devStateSet src st) s src 0x0132 (.no 0x0102) (Unchanged s)) ∧
    (flag s R_SCH_RST_STATUS F_SCH_RST_STATUS_CHANGING = true → ∃ t, exec .stateReached s = .next t ∧ pwState t = 0 ∧
      flag t R_SCH_RST_STATUS F_SCH_RST_STATUS_CHANGING = false) ∧
    (flag s R_SCH_RST_STATUS F_SCH_RST_STATUS_CHANGING = false → stateEntry s = none → exec .stateReached s = .next s) ∧
    (∀ (x : Taken) (st : Nat) (back : Bool), flag s R_SCH_RST_STATUS F_SCH_RST_STATUS_CHANGING = false → stateEntry s = some x →
      x.wait = .state st back → st ≤ 3 → ∃ u, pwState u = st ∧ (2 ≤ st → pwState s < 2 → u.frames = []) ∧
        exec .stateReached s = .next (if back && st != 0 then
          raise (finish u x (.ok [BitVec.ofNat 8 st])) R_SCH_RST_STATUS F_SCH_RST_STATUS_CHANGING
          else finish u x (.ok [BitVec.ofNat 8 st]))) ∧
    (∀ (c : Fin 5) (op : Half), stateEntry s = none → 2 ≤ pwState s → c.val ≠ 4 →
      ∃ t, exec (.wake c op) s = .next t ∧ flag t R_SCH_RST_STATUS F_SCH_RST_STATUS_CHANGING = true ∧
        fld t R_SCH_RST_WAKE F_SCH_RST_WAKE_CAUSE = c.val ∧ fld t R_SCH_RST_WAKE F_SCH_RST_WAKE_OPCODE = op.toNat ∧
        RegsBut s t [R_SCH_RST_STATUS, R_SCH_RST_WAKE] ∧ CtrsBut s t [] ∧ RestSame s t) ∧
    (∀ (c : Fin 5) (op : Half), stateEntry s = none → pwState s = 0 → exec (.wake c op) s = .next s) ∧
    (∀ (c : Fin 5) (op : Half) (x : Taken) (st : Nat), stateEntry s = some x → x.wait = .state st false → st ≠ 0 →
      ∃ t, exec (.wake c op) s = .next t ∧ (∃ y ∈ t.cmds.taken, y.id = x.id ∧ y.wait = .state st true) ∧
        fld t R_SCH_RST_WAKE F_SCH_RST_WAKE_CAUSE = c.val ∧ RegsBut s t [R_SCH_RST_WAKE] ∧ t.mem = s.mem)

/-! ### Fences and rejoins (14_in_package_dies.md). -/

/-- R328, R331-R335, R338: a trigger fences the die it names, a Shale's with its Gabbro: STATE FENCED, CAUSE, and one more
fence counted; a die already FENCED is only recorded. DIE_RESET and DIE_REJOIN refuse a Shale. DIE_RESET fences by command and refuses a Shale and the last RUNNING
Schist; DIE_REJOIN of a FENCED die makes it REJOINING and waits; a completed rejoin makes it RUNNING, a failed one FENCED. -/
def Obligations.DiesFenced : Prop :=
  (∀ (s : State) (d : Fin 64), dieKind d = .shale →
    (∀ (c : Fin 7) (ups : List Before), c.val = 3 ∨ c.val = 4 → dieState s (d.val - 4) = 0 ∨ dieState s (d.val - 4) = 3 →
      ∃ t, exec (.dieFence d c ups) s = .next t ∧ ∀ x ∈ [d.val, d.val - 4], dieState t x = 1 ∧
        fld t (R_SCH_DIE_STATE x) F_SCH_DIE_STATE_CAUSE = c.val ∧
        fld t (R_SCH_DIE_STATE x) F_SCH_DIE_STATE_FENCE_CNT = (fld s (R_SCH_DIE_STATE x) F_SCH_DIE_STATE_FENCE_CNT + 1) % 256) ∧
    (∀ (c : Fin 7) (ups : List Before), c.val = 3 ∨ c.val = 4 → dieState s (d.val - 4) = 1 ∨ dieState s (d.val - 4) = 2 →
      ∃ t, exec (.dieFence d c ups) s = .next t ∧ RegsBut s t [R_SCH_STRATA_ERR] ∧ t.mem = s.mem ∧ t.cmds = s.cmds) ∧
    (∀ src : Src, s.Serving → Ends (.dieReset src (BitVec.ofNat 8 d)) s src 0x0120 (.no 0x0102) (Unchanged s) ∧
      Ends (.dieRejoin src (BitVec.ofNat 8 d)) s src 0x0121 (.no 0x0102) (Unchanged s))) ∧
  ∀ (s : State) (d : Fin 64), dieKind d ≠ .shale →
    (∀ (c : Fin 7) (ups : List Before), c.val = 2 ∨ c.val = 3 ∨ c.val = 4 ∨ c.val = 5 → dieState s d = 0 ∨ dieState s d = 3 →
      ∃ t, exec (.dieFence d c ups) s = .next t ∧ dieState t d = 1 ∧ fld t (R_SCH_DIE_STATE d) F_SCH_DIE_STATE_CAUSE = c.val ∧
        fld t (R_SCH_DIE_STATE d) F_SCH_DIE_STATE_FENCE_CNT = (fld s (R_SCH_DIE_STATE d) F_SCH_DIE_STATE_FENCE_CNT + 1) % 256 ∧
        (dieKind d = .gabbro → dieState t (d + 4) = 1)) ∧
    (dieState s d = 0 ∨ dieState s d = 3 → ∃ t, exec (.budgetMessageTimeout d) s = .next t ∧ dieState t d = 1 ∧
      fld t (R_SCH_DIE_STATE d) F_SCH_DIE_STATE_CAUSE = 5) ∧
    (∀ (c : Fin 7) (ups : List Before), c.val = 2 ∨ c.val = 3 ∨ c.val = 4 ∨ c.val = 5 → dieState s d = 1 ∨ dieState s d = 2 →
      ∃ t, exec (.dieFence d c ups) s = .next t ∧ RegsBut s t [R_SCH_STRATA_ERR] ∧ t.mem = s.mem ∧ t.cmds = s.cmds) ∧
    (∀ src : Src, s.Serving →
      (lastSchist s d = false → dieState s d = 0 →
        Ends (.dieReset src (BitVec.ofNat 8 d)) s src 0x0120
          (if qSchist s (src.queue.val % 64) = d.val then .done 0x0107 [] else .ok []) fun u => dieState u d = 1 ∧
          fld u (R_SCH_DIE_STATE d) F_SCH_DIE_STATE_CAUSE = 1 ∧
          fld u (R_SCH_DIE_STATE d) F_SCH_DIE_STATE_FENCE_CNT = (fld s (R_SCH_DIE_STATE d) F_SCH_DIE_STATE_FENCE_CNT + 1) % 256) ∧
      (lastSchist s d = true → Ends (.dieReset src (BitVec.ofNat 8 d)) s src 0x0120 (.no 0x0102) (Unchanged s)) ∧
      (dieState s d = 1 → Waits (.dieRejoin src (BitVec.ofNat 8 d)) s src 0x0121 (.rejoin d) fun u =>
        (∀ x ∈ fencePair d, dieState u x = 3) ∧ RegsBut s u ((fencePair d).map R_SCH_DIE_STATE) ∧ u.mem = s.mem) ∧
      (dieState s d ≠ 1 → Ends (.dieRejoin src (BitVec.ofNat 8 d)) s src 0x0121 (.no 0x0102) (Unchanged s))) ∧
    (∀ (x : Taken) (lanes : List (Fin 64 × Fin 16 × Fin 70)), (s.cmds.taken.find? fun t => t.wait == .rejoin d) = some x →
      (∃ u, exec (.dieRejoinComplete d false lanes) s = .next (finish u x (.done 0x0106 [])) ∧ dieState u d = 1 ∧
        fld u (R_SCH_DIE_STATE d) F_SCH_DIE_STATE_LAST_STATUS = 0x0106 ∧ u.mem = s.mem) ∧
      ((∀ y < 64, y ∉ fencePair d → dieState s y = 0) →
        (∀ y q, y < 64 → seamExists y q = true → y ≠ d.val → (seamEnd y q).1 ≠ d.val → seamState s y q ≠ 3) →
        ∃ u, exec (.dieRejoinComplete d true []) s = .next (finish u x (.ok [])) ∧ dieState u d = 0 ∧
          fld u (R_SCH_DIE_STATE d) F_SCH_DIE_STATE_LAST_STATUS = 0)) ∧
    (∀ lanes : List (Fin 64 × Fin 16 × Fin 70), (s.cmds.taken.find? fun t => t.wait == .rejoin d) = none →
      ∀ ok : Bool, exec (.dieRejoinComplete d ok lanes) s = .next s)

/-! ### Loads, passes and gaps (02_bead_frame.md, 05_backward_pass.md, 06_schedule_contract.md). -/

/-- 02:R24, R25, R32, R36, R38: a LOAD on a slot that is not in use makes it LOADING with the descriptor's masks and format, and its
words go on to be fetched; on a busy slot, or behind another load, it waits and holds the group; a faulty one is skipped and
faults the window. 256 cycles after it began a LOAD is HELD and counted. -/
def Obligations.FrameLoads : Prop :=
  ∀ (s : State) (g : Fin 16) (f : Fin 8) (ups : List Before),
    (∀ d, HeadIs s g f (.load d) → loadFaulty d = false →
      ∃ t got, exec (.loadDescriptor g f ups) s = .next t ∧ slotState t g f d.slot = 1 ∧
        (frameGet t g f).loads = (frameGet s g f).loads ++ [⟨d, (frameGet s g f).age, false, got⟩] ∧
        ((frameGet s g f).ahead = [] → got = .empty) ∧
        (∀ a l, (frameGet s g f).ahead = ⟨(regGet s (R_GAB_SCH_RUN_CNT (gabDie g))).toNat, .load d, a⟩ :: l → got = a ∧ (frameGet t g f).ahead = l) ∧
        getMask t (rowMaskReg (gabDie g) f d.slot) = d.rowMask % 2 ^ 256 ∧ getMask t (colMaskReg (gabDie g) f d.slot) = d.colMask % 2 ^ 256 ∧
        fld t (slotReg (gabDie g) f d.slot) F_GAB_FRM_SLOT_FMT = d.fmt ∧ fld t (slotReg (gabDie g) f d.slot) F_GAB_FRM_SLOT_SCALED = b2n d.scaled ∧
        (frameGet t g f).tileH = (frameGet s g f).tileH ∧ (frameGet t g f).tileE = (frameGet s g f).tileE ∧
        (frameGet t g f).tsclH = (frameGet s g f).tsclH ∧ (frameGet t g f).tsclE = (frameGet s g f).tsclE ∧
        Popped s t g f ∧ OnlyFrame s t g f ∧ t.mem = s.mem ∧ CtrsBut s t [] ∧
        RegsBut s t (R_GAB_FRM_STATUS (gabDie g) f :: slotReg (gabDie g) f d.slot ::
          ((List.range 8).map (rowMaskReg (gabDie g) f d.slot) ++ (List.range 8).map (colMaskReg (gabDie g) f d.slot)))) ∧
    (∀ d, DueIs s g f (.load d) → f.val ∈ groupFrames s g → (winGet s g).bind (·.stop) = none →
      ((∃ l ∈ (frameGet s g f).loads, l.held = false) ∨ slotState s g f d.slot = 1 ∨ slotState s g f d.slot = 3) →
      (stallNow s g).slot = true ∧ exec (.loadDescriptor g f ups) s = .next (upsets s ups)) ∧
    (∀ d, HeadIs s g f (.load d) → loadFaulty d = true →
      ∃ t, exec (.loadDescriptor g f ups) s = .next t ∧ Popped s t g f ∧ Faulted s t g 0x0204 ∧
        flag t (R_GAB_FRM_ERR (gabDie g) f) F_GAB_FRM_ERR_DESC_FAULT = true ∧
        RegsBut s t [R_GAB_FRM_ERR (gabDie g) f, R_GAB_SCH_STATUS (gabDie g)] ∧ CtrsBut s t [] ∧ OnlyFrame s t g f ∧ t.mem = s.mem) ∧
    (∀ i (l : LoadRec), ((indexed (frameGet s g f).loads).find? fun l => !l.2.held && decide (l.2.start + 256 ≤ (frameGet s g f).age)) = some (i, l) →
      ∃ t, exec (.loadComplete g f) s = .next t ∧ slotState t g f l.desc.slot = 2 ∧
        (frameGet t g f).loads = (frameGet s g f).loads.set i { l with held := true } ∧
        Counted s t (R_GAB_FRM_LOAD_CNT (gabDie g) f) 1 ∧ RegsBut s t [R_GAB_FRM_STATUS (gabDie g) f] ∧
        CtrsBut s t [R_GAB_FRM_LOAD_CNT (gabDie g) f, R_GAB_FRM_TURN_CNT (gabDie g) f] ∧ OnlyFrame s t g f ∧ t.mem = s.mem) ∧
    ((∀ l ∈ (frameGet s g f).loads, l.held = true ∨ (frameGet s g f).age < l.start + 256) → exec (.loadComplete g f) s = .next s)

/-- 02:R26, R27, R30, R31, R36; 06:R130: what a frame fetches where memory has no error. A load word has its element or pair, its row
and its group's scale, 0 in what is masked; a row word has its DATA and XS, a masked row's DATA is 0. After a cycle's fetching
each unturned LOAD and PASS has the words of each lane that the latency table has issued by then, 32 or 64 cycles ahead, those it
had before among them. A load's column latches in its cycle L + 255 + j: the unmasked rows of an unmasked column, and no other
column. The leads follow SRC (assumption 91). -/
def Obligations.OperandFetch : Prop :=
  ∀ (s : State) (g : Fin 16) (f : Fin 8), s.ecc = [] → TagsClean s →
    (∀ (d : LoadDesc) (j k : Nat), k < 256 → ∃ w, loadWord g d s j k = (s, w) ∧ bitsOf w.toNat 16 8 = 255 - k ∧
      (bitOf d.colMask j = false → bitsOf w.toNat 0 16 = 0 ∧ bitsOf w.toNat 24 8 = 0) ∧
      (bitOf d.colMask j = true → 1 ≤ d.fmt → d.fmt ≤ 7 →
        (bitOf d.rowMask (255 - k) = false → bitsOf w.toNat 0 16 = 0) ∧
        (bitOf d.rowMask (255 - k) = true → ∀ x < perRow d.fmt, bitsOf w.toNat (x * (fmtInfo d.fmt).width) (fmtInfo d.fmt).width =
          (unpackCodes d.fmt (256 * perRow d.fmt) (seen s (d.addr + j * fmtBytes d.fmt (256 * perRow d.fmt))
            (fmtBytes d.fmt (256 * perRow d.fmt)))).getD ((255 - k) * perRow d.fmt + x) 0) ∧
        bitsOf w.toNat 24 8 = if d.scaled = true ∧ lastRow d.fmt (255 - k) = true then
          (byteSeen s (d.scaleAddr + j * groupCount d.fmt + (255 - k) / groupRows d.fmt)).toNat else 0)) ∧
    (∀ (d : PassDesc) (mask k i : Nat), i < 256 → 1 ≤ d.fmt → d.fmt ≤ 7 → ∃ w, passWord g d mask s k i = (s, w) ∧
      (bitOf mask i = false → bitsOf w.toNat 0 16 = 0) ∧
      (bitOf mask i = true → ∀ x < perRow d.fmt, bitsOf w.toNat (x * (fmtInfo d.fmt).width) (fmtInfo d.fmt).width =
        (unpackCodes d.fmt (256 * perRow d.fmt) (seen s (d.addr + k * d.stride) (fmtBytes d.fmt (256 * perRow d.fmt)))).getD
          (i * perRow d.fmt + x) 0) ∧
      bitsOf w.toNat 24 8 = if d.scaled = true ∧ lastRow d.fmt i = true then
        (byteSeen s (passScaleAddr d k (i / groupRows d.fmt))).toNat else 0) ∧
    (∀ x : Frame, x = frameGet s g f → { fetchCycle s g f with frames := s.frames, ctrs := s.ctrs } = s ∧ OnlyFrame s (fetchCycle s g f) g f ∧
      (∀ (n : Nat) (l : LoadRec), x.loads[n]? = some l → l.desc.turn = false → x.age < l.start + 446 → l.got.lanes.length ≤ 256 →
        ∃ got : Fetch, (frameGet (fetchCycle s g f) g f).loads[n]? = some { l with got := got } ∧
          ∀ j < 256, l.got.lanes.getD j [] <+: got.lanes.getD j [] ∧
            ∀ c, c = wordsDue 1 l.start x.age (if l.desc.src = 1 then 64 else 32) j →
              (l.got.lanes.getD j []).length ≤ c → (got.lanes.getD j []).length = c) ∧
      (∀ (n : Nat) (p : PassRec), x.passes[n]? = some p → p.desc.turn = false → ∃ got : Fetch,
        (frameGet (fetchCycle s g f) g f).passes[n]? = some { p with got := got } ∧
          ∀ k, tabGet p.done 255 0 ≤ k → k ≤ p.desc.w →
            waveLane p k <+: waveLane { p with got := got } k ∧
            (passFetched p = false → ∀ c, c = wordsDue (issueCycles p.desc.fmt) p.start x.age (if p.desc.src = 1 then 64 else 32) k →
              (waveLane p k).length ≤ c → (waveLane { p with got := got } k).length = c))) ∧
    (∀ (x : Frame) (l : LoadRec) (j : Nat), x.loads = [l] → l.desc.slot < 2 → j < 256 → x.age = l.start + 255 + j →
      let old := (if l.desc.slot = 0 then x.tileH else x.tileE)
      let new := (if l.desc.slot = 0 then (feed s g f x).tileH else (feed s g f x).tileE)
      (∀ i < 256, i ≠ j ∨ bitOf l.desc.colMask j = false → new.getD i [] = old.getD i []) ∧
      (bitOf l.desc.colMask j = true → new.getD j [] = mergeColumn (perRow l.desc.fmt) l.desc.rowMask (old.getD j [])
        (loadColumn l.desc.fmt (l.got.lanes.getD j [])).1) ∧
      (if l.desc.slot = 0 then (feed s g f x).tileE = x.tileE else (feed s g f x).tileH = x.tileH))

/-- 02:R24-R30, R34, R38, R41: a PASS from a slot that is not LOADING makes it ACTIVE and enters the array with the slot's format and masks,
its words going on to be fetched, and completes as HELD, counted; on a LOADING slot it waits and holds the group, and a faulty one is skipped and
faults the window. A GAP issues its cycles, smoothed as its bit, the enable as it begins (assumption 91) and its length say; the group
holds while a row word is absent in the cycle in which its row issues it, and one that arrives is no longer absent; a parity error sets its bit and faults the window. -/
def Obligations.FramePasses : Prop :=
  ∀ (s : State) (g : Fin 16) (f : Fin 8) (ups : List Before) (absent : List (Nat × Fin 256)),
    (∀ d, HeadIs s g f (.pass d) → (frameGet s g f).issue = .idle → passFaulty s g f d = false →
      ∃ t p, exec (.passDescriptor g f absent ups) s = .next t ∧ slotState t g f d.slot = 3 ∧
        (frameGet t g f).passes = (frameGet s g f).passes ++ [p] ∧ p.desc = d ∧
        p.statFmt = fld s (slotReg (gabDie g) f d.slot) F_GAB_FRM_SLOT_FMT ∧ p.start = (frameGet s g f).age ∧
        p.rowMask = getMask s (rowMaskReg (gabDie g) f d.slot) ∧ p.colMask = getMask s (colMaskReg (gabDie g) f d.slot) ∧
        p.done = [] ∧ p.verdicts = [] ∧ ((frameGet s g f).ahead = [] → p.got = .empty) ∧
        (∀ a l, (frameGet s g f).ahead = ⟨(regGet s (R_GAB_SCH_RUN_CNT (gabDie g))).toNat, .pass d, a⟩ :: l →
          p.got = a ∧ (frameGet t g f).ahead = l) ∧
        (frameGet t g f).issue = .pass d.slot ((d.w + 1) * issueCycles p.statFmt) ((d.w + 1) * issueCycles p.statFmt) d.turn ∧
        (frameGet t g f).absent = (frameGet s g f).absent ++
          absent.map (fun e => (e.2.val, (frameGet s g f).age + e.1 + e.2.val)) ∧
        fld t (R_GAB_FRM_STATUS (gabDie g) f) F_GAB_FRM_STATUS_LAST_S = d.slot % 2 ∧
        (frameGet t g f).tileH = (frameGet s g f).tileH ∧ (frameGet t g f).tileE = (frameGet s g f).tileE ∧
        Popped s t g f ∧ OnlyFrame s t g f ∧ t.mem = s.mem ∧ RegsBut s t [R_GAB_FRM_STATUS (gabDie g) f] ∧ CtrsBut s t []) ∧
    (∀ d, DueIs s g f (.pass d) → f.val ∈ groupFrames s g → (winGet s g).bind (·.stop) = none → slotState s g f d.slot = 1 →
      (stallNow s g).slot = true ∧ exec (.passDescriptor g f absent ups) s = .next (upsets s ups)) ∧
    (∀ d, HeadIs s g f (.pass d) → (frameGet s g f).issue ≠ .idle → exec (.passDescriptor g f absent ups) s = .next (upsets s ups)) ∧
    (∀ d, HeadIs s g f (.pass d) → (frameGet s g f).issue = .idle → passFaulty s g f d = true →
      ∃ t, exec (.passDescriptor g f absent ups) s = .next t ∧ Popped s t g f ∧ Faulted s t g 0x0204 ∧
        flag t (R_GAB_FRM_ERR (gabDie g) f) F_GAB_FRM_ERR_DESC_FAULT = true ∧
        RegsBut s t [R_GAB_FRM_ERR (gabDie g) f, R_GAB_SCH_STATUS (gabDie g)] ∧ CtrsBut s t [] ∧ OnlyFrame s t g f ∧ t.mem = s.mem) ∧
    (∀ slot total turn, (frameGet s g f).issue = .pass slot 0 total turn →
      ∃ t, exec (.passComplete g f) s = .next t ∧ slotState t g f slot = 2 ∧ (frameGet t g f).issue = .idle ∧
        Counted s t (R_GAB_FRM_PASS_CNT (gabDie g) f) 1 ∧ RegsBut s t [R_GAB_FRM_STATUS (gabDie g) f] ∧
        CtrsBut s t [R_GAB_FRM_PASS_CNT (gabDie g) f, R_GAB_FRM_TURN_CNT (gabDie g) f] ∧ OnlyFrame s t g f ∧ t.mem = s.mem) ∧
    ((∀ slot total turn, (frameGet s g f).issue ≠ .pass slot 0 total turn) → exec (.passComplete g f) s = .next s) ∧
    (∀ d, HeadIs s g f (.gap d) → (frameGet s g f).issue = .idle →
      ∃ t, exec (.gapDescriptor g f) s = .next t ∧ Popped s t g f ∧ OnlyFrame s t g f ∧ t.mem = s.mem ∧ t.regs = s.regs ∧ t.ctrs = s.ctrs ∧
        (frameGet t g f).issue = .gap d.g (flag s (R_GAB_FRM_CTRL (gabDie g) f) F_GAB_FRM_CTRL_SMOOTH_EN && d.smooth && decide (d.g ≤ 63))) ∧
    (∀ d, HeadIs s g f (.gap d) → (frameGet s g f).issue ≠ .idle → exec (.gapDescriptor g f) s = .next s) ∧
    (∀ row : Fin 256, ∃ t, exec (.rowWordArrival g f row) s = .next t ∧
      (frameGet t g f).absent = (frameGet s g f).absent.eraseP (fun e => e.1 == row.val) ∧
      OnlyFrame s t g f ∧ { t with frames := s.frames } = s) ∧
    ((stallNow s g).queue = true ↔ ∃ h ∈ groupFrames s g, ∃ e ∈ (frameGet s g h).absent, e.2 ≤ (frameGet s g h).age) ∧
    (∀ kind : Fin 4, ∃ t, exec (.frameParityError g f kind) s = .next t ∧ bitOf (regGet t (R_GAB_FRM_ERR (gabDie g) f)).toNat kind = true ∧
      Faulted s t g 0x0203 ∧ RegsBut s t [R_GAB_FRM_ERR (gabDie g) f, R_GAB_SCH_STATUS (gabDie g), R_SCH_STRATA_ERR] ∧
      t.frames = s.frames ∧ t.mem = s.mem)

/-! ### Tiles, deliveries and drains (03_numerics.md, 04_beam_accumulators.md). -/

/-- 04:R86, R87: a TILE sets up a FREE or DONE entry with its configuration and clears its status; an OUTPUT becomes the entry's
program, with the time it was consumed at; a faulty one is skipped and faults the window. -/
def Obligations.TilesAndPrograms : Prop :=
  ∀ (s : State) (g : Fin 16) (f : Fin 8),
    (∀ d, HeadIs s g f (.tile d) → d.entry < 64 →
      ∀ c, c = fldSet (fldSet (fldSet (fldSet 0 F_TILE_CFG_VALID 1) F_TILE_CFG_ACC d.acc) F_TILE_CFG_ROWS_LOG2 d.rowsLog2)
        F_TILE_CFG_BASE_KIB d.baseKib →
      (tileState s g f d.entry ≠ 1 → tileState s g f d.entry ≠ 2 → 5 ≤ d.rowsLog2 → d.rowsLog2 ≤ 12 → (cfgSpan c).2 ≤ 4194304 →
        overlapsBusy s g f d.entry (cfgSpan c) = false →
        ∃ t, exec (.tileDescriptor g f) s = .next t ∧ tileCfg t g f d.entry = c ∧ regGet t (R_GAB_BEAM_TILE_STATUS (gabDie g) f d.entry) = 0 ∧
          regGet t (R_GAB_BEAM_TILE_GROUPS (gabDie g) f d.entry) = 0 ∧ tabFind (frameGet t g f).progs d.entry = none ∧
          tabGet (frameGet t g f).touched d.entry 0 = 0 ∧ Popped s t g f ∧ OnlyFrame s t g f ∧
          RegsBut s t [R_GAB_BEAM_TILE_CFG (gabDie g) f d.entry, R_GAB_BEAM_TILE_STATUS (gabDie g) f d.entry,
            R_GAB_BEAM_TILE_GROUPS (gabDie g) f d.entry] ∧ t.ctrs = s.ctrs ∧ t.mem = s.mem) ∧
      (tileState s g f d.entry = 1 ∨ tileState s g f d.entry = 2 ∨ d.rowsLog2 < 5 ∨ 12 < d.rowsLog2 ∨ 4194304 < (cfgSpan c).2 ∨
          overlapsBusy s g f d.entry (cfgSpan c) = true →
        ∃ t, exec (.tileDescriptor g f) s = .next t ∧ flag t (R_GAB_BEAM_ERR (gabDie g) f) F_GAB_BEAM_ERR_DESC_FAULT = true ∧
          Faulted s t g 0x0205 ∧ Popped s t g f ∧ t.frames = s.frames ∧
          RegsBut s t [R_GAB_BEAM_ERR (gabDie g) f, R_GAB_SCH_STATUS (gabDie g)] ∧ t.ctrs = s.ctrs ∧ t.mem = s.mem)) ∧
    (∀ d, HeadIs s g f (.output d) → outputFaulty s g f d = false →
      ∃ t, exec (.outputDescriptor g f) s = .next t ∧
        (∃ old, tabFind (frameGet t g f).progs d.entry = some ((d, (frameGet s g f).age) :: old) ∧
          ∀ p ∈ old, p ∈ tabGet (frameGet s g f).progs d.entry []) ∧
        (∀ e, e ≠ d.entry → tabFind (frameGet t g f).progs e = tabFind (frameGet s g f).progs e) ∧
        Popped s t g f ∧ OnlyFrame s t g f ∧ t.regs = s.regs ∧ t.ctrs = s.ctrs ∧ t.mem = s.mem) ∧
    (∀ d, HeadIs s g f (.output d) → outputFaulty s g f d = true →
      ∃ t, exec (.outputDescriptor g f) s = .next t ∧ flag t (R_GAB_BEAM_ERR (gabDie g) f) F_GAB_BEAM_ERR_DESC_FAULT = true ∧
        Faulted s t g 0x0205 ∧ Popped s t g f ∧ t.frames = s.frames ∧
        RegsBut s t [R_GAB_BEAM_ERR (gabDie g) f, R_GAB_SCH_STATUS (gabDie g)] ∧ t.ctrs = s.ctrs ∧ t.mem = s.mem)

/-- 03:R69, R70; 04:R79-R84: a column sum that the beam takes adds into its element of the tile, or to the latest result for it in the
pipeline, rounded to the accumulator format, and marks the column touched; the result is written six cycles later, 4 or 8 bytes.
A masked column, a refused wavefront and one beyond the rows bring no result. Column 0 of a
wavefront decides: taken makes the entry ACCUM, the others flag it and fault the window. -/
def Obligations.BeamDeliveries : Prop :=
  ∀ (s : State) (g : Fin 16) (f : Fin 8) (j : Fin 256) (ups : List Before),
    (nextDelivery (frameGet s g f) j = none → exec (.beamDelivery g f j ups) s = .next (pipeOut (upsets s ups) g f)) ∧
    (∀ c : Accum, c.lost = false → Stored s (pipeWrite s c) c.addr (leBytes (if c.wide then 8 else 4) c.code)) ∧
    (∀ i p k, nextDelivery (frameGet s g f) j = some (i, p, k) →
      ∀ v, v = (if j.val = 0 then verdict s g f p k else p.verdicts.getD k .refused) →
      ∃ t, exec (.beamDelivery g f j ups) s = .next t ∧ OnlyFrame s t g f ∧
        (¬(j.val = 255 ∧ k + 1 = p.desc.w + 1) → ∃ q, (frameGet t g f).passes[i]? = some q ∧ tabGet q.done j 0 = k + 1 ∧
          (j.val = 0 → q.verdicts = p.verdicts ++ [v]) ∧ (j.val ≠ 0 → q.verdicts = p.verdicts)) ∧
        (j.val = 255 → k + 1 = p.desc.w + 1 → (frameGet t g f).passes = (frameGet s g f).passes.eraseIdx i) ∧
        t.mem = (((frameGet s g f).pipe.filter fun c => decide (c.due ≤ (frameGet s g f).age)).foldl pipeWrite (upsets s ups)).mem ∧
        (bitOf p.colMask j = false ∨ v ≠ .taken →
          (frameGet t g f).pipe = (frameGet s g f).pipe.filter fun c => decide ((frameGet s g f).age < c.due)) ∧
        (j.val = 0 → v = .taken → tileState t g f (tagEntry p.desc.outTag) = 1) ∧
        (j.val = 0 → v = .refused → Faulted s t g 0x0205 ∧ fld t (R_GAB_BEAM_TILE_STATUS (gabDie g) f (tagEntry p.desc.outTag)) F_TILE_STATUS_STATE_FAULT = 1 ∧
          flag t (R_GAB_BEAM_ERR (gabDie g) f) F_GAB_BEAM_ERR_STATE_FAULT = true) ∧
        (j.val = 0 → v = .overrun → Faulted s t g 0x0205 ∧ fld t (R_GAB_BEAM_TILE_STATUS (gabDie g) f (tagEntry p.desc.outTag)) F_TILE_STATUS_ROW_OVERRUN = 1 ∧
          flag t (R_GAB_BEAM_ERR (gabDie g) f) F_GAB_BEAM_ERR_ROW_OVERRUN = true) ∧
        (bitOf p.colMask j = true → v = .taken → s.ecc = [] → ups = [] → (∀ c ∈ (frameGet s g f).pipe, (frameGet s g f).age < c.due) →
          let e := tagEntry p.desc.outTag
          let w := cfgFld s g f e F_TILE_CFG_ACC
          let a := elemAddr s g f e k j
          let col := if p.desc.slot = 0 then (frameGet s g f).tileH.getD j [] else (frameGet s g f).tileE.getD j []
          let scl := if p.desc.slot = 0 then (frameGet s g f).tsclH.getD j [] else (frameGet s g f).tsclE.getD j []
          let old := if tagStarts p.desc.outTag then Val.fin false 0 0
            else match (frameGet s g f).pipe.reverse.find? fun c => c.addr == a with
              | some c => if w = 1 then codeVal 39 c.code else codeVal 23 c.code
              | none => accValue s g f e k j
          let sum := valAdd old (columnSum p col scl k).1
          bitOf (tabGet (frameGet t g f).touched e 0) j = true ∧
          (frameGet t g f).pipe = (frameGet s g f).pipe ++
            [⟨(frameGet s g f).age + 6, a, if w = 1 then valCode 39 sum else valCode 23 sum, w == 1, false⟩]))

/-- 04:R81, R86, R87, R92: the tile that waits first drains once its cycle D has come, no earlier than the cycle after the last
read of the drain before it: the entry is in DRAIN, DRAINING is shown, and its program is the latest OUTPUT consumed 512 cycles
or more before D; a later one is a fault and takes no effect. A drain whose last write has issued is counted in DRAIN_CNT and its
entry is DONE, unless a second drain of the entry is to come, which keeps it in DRAIN (assumption 82). -/
def Obligations.Drains : Prop :=
  ∀ (s : State) (g : Fin 16) (f : Fin 8) (ups : List Before),
    (∀ i q, ((indexed (frameGet s g f).drains).find? fun x => !x.2.started) = some (i, q) → q.entry < 64 →
      ∀ d, d = Nat.max q.d (frameGet s g f).readEnd →
      ((frameGet s g f).age < d → exec (.drainStart g f ups) s = .next (upsets s ups)) ∧
      (d ≤ (frameGet s g f).age →
        ∀ p, p = ((tabGet (frameGet s g f).progs q.entry []).dropWhile fun x => decide (d < x.2 + 512)).head?.map Prod.fst →
        ∃ t, exec (.drainStart g f ups) s = .next t ∧ tileState t g f q.entry = 2 ∧
          flag t (R_GAB_BEAM_STATUS (gabDie g) f) F_GAB_BEAM_STATUS_DRAINING = true ∧
          fld t (R_GAB_BEAM_STATUS (gabDie g) f) F_GAB_BEAM_STATUS_DRAIN_ENTRY = q.entry ∧ OnlyFrame s t g f ∧
          (∃ y, (frameGet t g f).drains = (frameGet s g f).drains.set i y ∧ y.entry = q.entry ∧ y.rows = q.rows ∧ y.d = d ∧
            y.started = true ∧ y.prog = p ∧ y.t = q.t ∧ (frameGet t g f).readEnd = (if drainReads y then d + q.rows else d + 1)) ∧
          ((∃ x ∈ (tabGet (frameGet s g f).progs q.entry []).head?, d < x.2 + 512) → Faulted s t g 0x0205 ∧
            flag t (R_GAB_BEAM_ERR (gabDie g) f) F_GAB_BEAM_ERR_DESC_FAULT = true) ∧
          (tabGet (frameGet s g f).progs q.entry [] = [] → t.mem = s.mem ∧ t.ctrs = s.ctrs ∧
            RegsBut s t [R_GAB_BEAM_TILE_STATUS (gabDie g) f q.entry, R_GAB_BEAM_STATUS (gabDie g) f]))) ∧
    ((∀ q ∈ (frameGet s g f).drains, q.started = true) → exec (.drainStart g f ups) s = .next (upsets s ups)) ∧
    (∀ i q, ((indexed (frameGet s g f).drains).find? fun x => x.2.started && decide (drainLength x.2 ≤ x.2.t) &&
        decide (x.2.d + drainLength x.2 ≤ (frameGet s g f).age)) = some (i, q) → q.entry < 64 →
      ∃ t, exec (.drainComplete g f) s = .next t ∧
        ((∀ r ∈ (frameGet s g f).drains.eraseIdx i, r.entry ≠ q.entry) → tileState t g f q.entry = 3) ∧
        ((∃ r ∈ (frameGet s g f).drains.eraseIdx i, r.entry = q.entry) → tileState t g f q.entry = tileState s g f q.entry) ∧
        (∀ r, (((frameGet s g f).drains.eraseIdx i).filter (·.started)).getLast? = some r → r.entry < 64 →
          fld t (R_GAB_BEAM_STATUS (gabDie g) f) F_GAB_BEAM_STATUS_DRAIN_ENTRY = r.entry) ∧
        (frameGet t g f).drains = (frameGet s g f).drains.eraseIdx i ∧
        fld t (R_GAB_BEAM_TILE_STATUS (gabDie g) f q.entry) F_TILE_STATUS_DRAIN_CNT =
          (fld s (R_GAB_BEAM_TILE_STATUS (gabDie g) f q.entry) F_TILE_STATUS_DRAIN_CNT + 1) % 4096 ∧
        ((∀ r ∈ (frameGet s g f).drains.eraseIdx i, r.started = false) →
          flag t (R_GAB_BEAM_STATUS (gabDie g) f) F_GAB_BEAM_STATUS_DRAINING = false) ∧
        ((∃ r ∈ (frameGet s g f).drains.eraseIdx i, r.started = true) → flag t (R_GAB_BEAM_STATUS (gabDie g) f) F_GAB_BEAM_STATUS_DRAINING =
          flag s (R_GAB_BEAM_STATUS (gabDie g) f) F_GAB_BEAM_STATUS_DRAINING) ∧ OnlyFrame s t g f ∧
        RegsBut s t [R_GAB_BEAM_TILE_STATUS (gabDie g) f q.entry, R_GAB_BEAM_STATUS (gabDie g) f] ∧ t.ctrs = s.ctrs ∧ t.mem = s.mem) ∧
    ((∀ q ∈ (frameGet s g f).drains, q.started = false ∨ q.t < drainLength q ∨ (frameGet s g f).age < q.d + drainLength q) →
      exec (.drainComplete g f) s = .next s)

/-- 05:R104, R105, R111, R118; 08:R176: a GARNET descriptor without a fault starts, and runs cycle by cycle; a faulty one
is skipped and faults the window. A row written to a well line of the own Shale is stored, or added to what the same frame
wrote, and tags the line; a line that another frame wrote, or of another Shale, is a conflict and stores nothing. -/
def Obligations.GarnetAndWells : Prop :=
  ∀ (s : State) (g : Fin 16) (f : Fin 8) (ups : List Before),
    (∀ (d : GarnetDesc) (side : List (Nat × Bool)), HeadIs s g f (.garnet d) → garnetFaulty s d = false →
      ∃ t, exec (.garnetDescriptor g f ups side) s = .next t ∧ Popped s t g f ∧ OnlyFrame s t g f ∧
        ∃ q, (frameGet t g f).gnt = (frameGet s g f).gnt ++ [q] ∧ q.desc = d ∧ q.t = 0 ∧ q.rows = [] ∧ q.recs = [] ∧ q.chunks = [] ∧ q.tails = []) ∧
    (∀ (d : GarnetDesc) (side : List (Nat × Bool)), HeadIs s g f (.garnet d) → garnetFaulty s d = true →
      ∃ t, exec (.garnetDescriptor g f ups side) s = .next t ∧ Popped s t g f ∧ OnlyFrame s t g f ∧ Faulted s t g 0x0207 ∧
        flag t (R_GAB_FRM_BWD_ERR (gabDie g) f) F_GAB_FRM_BWD_ERR_GNT_DESC_FAULT = true ∧ t.mem = s.mem ∧
        RegsBut s t [R_GAB_FRM_BWD_ERR (gabDie g) f, R_GAB_SCH_STATUS (gabDie g), R_SCH_STRATA_ERR]) ∧
    (∀ (a : Nat) (row : List Word) (bad : Bool), inWell s a = false ∨ winOpen s g = false → exec (.wellWrite g f a row ups bad) s = .next s) ∧
    (∀ (a : Nat) (row : List Word), inWell s a = true → winOpen s g = true → regionBelow 0 (rowOf a) = .shale g →
      (tagGet (upsets s ups) (rowOf a)).parity = false →
      ((tagGet s (rowOf a)).written = true → (tagGet s (rowOf a)).writer = f.val ∧ s.ecc = [] ∧ ups = []) →
      ∃ t, exec (.wellWrite g f a row ups false) s = .next t ∧
        Stored s t (rowOf a) ((List.range 256).flatMap fun i => leBytes 4 (fp32Of (valAdd
          (if (tagGet s (rowOf a)).written then codeVal 23 (fieldLE (memRead s.mem (rowOf a) 1024) (4 * i) 4) else .fin false 0 0)
          (fp32Val (row.getD i 0)))).toNat) ∧
        (tagGet t (rowOf a)).written = true ∧ (tagGet t (rowOf a)).writer = f.val ∧ (tagGet t (rowOf a)).parity = false ∧
        Counted s t (R_SHL_WELL_WR (shlDie g)) 1 ∧ t.frames = s.frames ∧ t.scheds = s.scheds) ∧
    (∀ (a o : Nat) (row : List Word), inWell s a = true → winOpen s g = true → regionBelow 0 (rowOf a) = .shale o →
      (o ≠ g.val ∨ ((tagGet s (rowOf a)).written = true ∧ (tagGet (upsets s ups) (rowOf a)).parity = false ∧ (tagGet s (rowOf a)).writer ≠ f.val)) →
      ∃ t, exec (.wellWrite g f a row ups false) s = .next t ∧ t.mem = s.mem ∧ Faulted s t g 0x0208 ∧
        flag t (R_GAB_FRM_BWD_ERR (gabDie g) f) F_GAB_FRM_BWD_ERR_WELL_CONFLICT = true ∧ t.frames = s.frames ∧
        RegsBut s t [R_GAB_FRM_BWD_ERR (gabDie g) f, R_GAB_SCH_STATUS (gabDie g), R_SCH_STRATA_ERR])

/-! ### Barriers, stops and aborts (06_schedule_contract.md, 07_spatial_pipelines.md). -/

/-- 06:R126-R128, R137; 07:R166, R167: at a barrier that all nine streams have reached, a pending fault stops the window with its
status and a notice with 0x020A, else the streams go on; a window that stops cancels its SENDs and RECVs and ends once the work
already issued is complete. At FINAL the window waits until its transfers are done and every write issued in it is readable and
ends OK, or stops on a fault or a notice that comes meanwhile. A stall limit that is reached aborts the window and resets its frames. A notice stops the windows that it
reaches at their next barrier; one that no open window has the number of is kept for its port, unless a higher one is kept or
every Gabbro that could take it has counted past it. (The stop at a waiting FINAL and the wait for the work issued are the model's reading:
assumption 35; the kept notices: assumption 38.) -/
def Obligations.WindowsEnd : Prop :=
  ∀ (s : State) (g : Fin 16),
    (∀ w b, winGet s g = some w → barrierHead s g = some b →
      (w.fault = none → w.notice = false →
        ∃ t, exec (.barrierDescriptor g) s = .next t ∧
          winGet t g = some { w with streams := (List.range 9).foldl (fun l i => l.set i ((l.getD i []).drop 1)) w.streams,
                                     finalWait := b.final || w.finalWait } ∧
          (∀ h : Nat, h ≠ g → schedGet t h = schedGet s h) ∧ { t with scheds := s.scheds } = s) ∧
      (∀ st, stopStatus w = some st → st ≠ 0 → st < 65536 →
        (workDone s g w = true → ∃ t, exec (.barrierDescriptor g) s = .next t ∧ WindowEnded s t g st) ∧
        (workDone s g w = false → ∃ t, exec (.barrierDescriptor g) s = .next t ∧ winGet t g = some (Stopping w true st) ∧
          (∀ h : Nat, h ≠ g → schedGet t h = schedGet s h) ∧ { t with scheds := s.scheds } = s))) ∧
    (winGet s g = none ∨ barrierHead s g = none → exec (.barrierDescriptor g) s = .next s) ∧
    (∀ w, stopStatus w = if w.fault.isSome then w.fault else if w.notice then some 0x020A else none) ∧
    (∀ w, winGet s g = some w → (finalReady s g = true ↔ (∀ r ∈ w.recvs, r.complete = true) ∧ (∀ x ∈ w.sends, x.read = true) ∧
      (∀ m ∈ w.moves, m.complete = true) ∧ w.readable = 0 ∧
      ∀ f < 8, (frameGet s g f).passes = [] ∧ (frameGet s g f).pipe = [] ∧ (frameGet s g f).drains = [] ∧ (frameGet s g f).gnt = [])) ∧
    (∀ w ups, winGet s g = some w → w.stop = none → w.finalWait = true →
      (stopStatus w = none → finalReady s g = true → ∃ t, exec (.finalBarrierComplete g ups) s = .next t ∧ WindowEnded s t g 0) ∧
      (stopStatus w = none → finalReady s g = false → exec (.finalBarrierComplete g ups) s = .next (upsets s ups)) ∧
      (∀ st, stopStatus w = some st → st ≠ 0 → st < 65536 →
        (workDone s g w = true → ∃ t, exec (.finalBarrierComplete g ups) s = .next t ∧ WindowEnded s t g st) ∧
        (workDone s g w = false → ∃ t, exec (.finalBarrierComplete g ups) s = .next t ∧ winGet t g = some (Stopping w false st) ∧
          { t with scheds := s.scheds } = upsets s ups))) ∧
    (∀ w st ups, winGet s g = some w → w.stop = some st → w.finalWait = false → st ≠ 0 → st < 65536 →
      (workDone s g w = true → ∃ t, exec (.finalBarrierComplete g ups) s = .next t ∧ WindowEnded s t g st) ∧
      (workDone s g w = false → exec (.finalBarrierComplete g ups) s = .next (upsets s ups))) ∧
    (∀ w ups, winGet s g = some w → w.stop = none → w.finalWait = false → exec (.finalBarrierComplete g ups) s = .next (upsets s ups)) ∧
    (∀ ups, winGet s g = none → exec (.finalBarrierComplete g ups) s = .next (upsets s ups)) ∧
    (∀ w, winGet s g = some w →
      ((w.stallRun ≠ 0 ∧ (regGet s (R_GAB_SCH_STALL_RUN_LIMIT (gabDie g))).toNat ≤ w.stallRun) ∨
        (regGet s (R_GAB_SCH_STALL_SUM_LIMIT (gabDie g)) ≠ 0 ∧
          (regGet s (R_GAB_SCH_STALL_SUM_LIMIT (gabDie g))).toNat ≤ (regGet s (R_GAB_SCH_WIN_STALL (gabDie g))).toNat) →
        ∃ t, exec (.stallLimitAbort g) s = .next t ∧ WindowEnded s t g 0x0202 ∧ ∀ f < 8, FrameWasReset s t g f) ∧
      ((w.stallRun = 0 ∨ w.stallRun < (regGet s (R_GAB_SCH_STALL_RUN_LIMIT (gabDie g))).toNat) →
        (regGet s (R_GAB_SCH_STALL_SUM_LIMIT (gabDie g)) = 0 ∨
          (regGet s (R_GAB_SCH_WIN_STALL (gabDie g))).toNat < (regGet s (R_GAB_SCH_STALL_SUM_LIMIT (gabDie g))).toNat) →
        exec (.stallLimitAbort g) s = .next s)) ∧
    (∀ w, winGet s g = some w → ∃ t, exec (.peerStopNotice g) s = .next t ∧ winGet t g = some { w with notice := true } ∧
      (∀ h : Nat, h ≠ g → schedGet t h = schedGet s h) ∧ { t with scheds := s.scheds } = s) ∧
    (winGet s g = none → exec (.peerStopNotice g) s = .next s) ∧
    (∀ (p : Fin 48) (n : Word), (∀ h < 16, winOpen s h = true → runNo s h ≠ n.toNat) →
      (stopDead s p n.toNat = false → (∀ m, tabFind s.stops p = some m → m ≤ n.toNat) →
        ∃ t, exec (.cableStopNotice p n) s = .next t ∧ tabFind t.stops p = some n.toNat ∧ { t with stops := s.stops } = s) ∧
      (stopDead s p n.toNat = true ∨ (∃ m, tabFind s.stops p = some m ∧ n.toNat < m) → exec (.cableStopNotice p n) s = .next s)) ∧
    (∀ (p : Fin 48) (n : Word), (∃ h < 16, winOpen s h = true ∧ runNo s h = n.toNat) →
      ∃ t, exec (.cableStopNotice p n) s = .next t ∧ { t with scheds := s.scheds } = s ∧
        ∀ h < 16, ∀ w, winGet s h = some w → winGet t h = some { w with notice :=
          w.notice || (runNo s h == n.toNat && (streamPorts (w.all.getD 8 [])).contains p.val) })

/-! ### Transfers (06_schedule_contract.md, 07_spatial_pipelines.md). -/

/-- 06:R134, R135, R145; 07:R159, R162, R166; 14:R330: a RECV opens and grants its sender credit, in the package or in a frame on its
port; a SEND waits for credit, and may send when it comes, with a fault in both windows if the two ends name different BYTES; one
whose port is not in Yoger mode, or whose route or range
crosses a fence, fails with its status, a RECV's destination alone being lost.
In each cycle (see EmptyQueueTicks) the SENDs that may send leave in the order of their cycle, their
source's ordinal and their XFER_ID. The data of a SEND that may send leave with its source's bytes: into the package's network,
or in frames on its port; its credit is used, and it has been read. -/
def Obligations.TransfersGranted : Prop :=
  (∀ (s : State) (g : Fin 16),
    (∀ n at_ (d : RecvDesc), streamHead s g 8 = some ⟨n, at_, .recv d⟩ →
      ∀ up, up = (xferPathUp s d.xferId (if d.source = 255 then portDie d.port else d.source) (gabDie g) && rangeUp s g d.dstAddr d.bytes) →
      (up = true → d.source ≠ 255 ∨ portYoger s d.port = true →
        ∃ t, exec (.recvDescriptor g) s = .next t ∧ Popped s t g 8 ∧
          (winGet t g).map (·.recvs) = (winGet s g).map (fun w => w.recvs ++ [⟨d, at_, false, false, none, 0⟩]) ∧
          t.regs = s.regs ∧ t.ctrs = s.ctrs ∧ t.mem = s.mem ∧ t.frames = s.frames ∧
          (d.source ≠ 255 → t.credits = s.credits ++ [⟨gabOrd d.source, d.xferId, runNo s g, d.bytes, false, false⟩] ∧ t.outs = s.outs) ∧
          (d.source = 255 → t.credits = s.credits ∧
            ∃ q, t.outs = .frame d.port frCredit q (linkFrame frCredit q (portAckSeq s d.port)
              (leBytes 2 d.xferId ++ leBytes 4 (runNo s g) ++ leBytes 4 d.bytes)) :: s.outs)) ∧
      ((d.source = 255 ∧ portYoger s d.port = false) ∨ up = false →
        ∃ t, exec (.recvDescriptor g) s = .next t ∧ Popped s t g 8 ∧
          Faulted s t g (if d.source = 255 ∧ portYoger s d.port = false then 0x0210 else 0x0105) ∧
          (∃ r, recvFind t g d.xferId = some r ∧ r.complete = true) ∧ t.credits = s.credits ∧ t.outs = s.outs ∧
          (∀ a, (a < d.dstAddr ∨ d.dstAddr + d.bytes ≤ a) → memGet t.mem a = memGet s.mem a) ∧
          RegsBut s t [R_GAB_SCH_STATUS (gabDie g)] ∧ t.ctrs = s.ctrs ∧ t.frames = s.frames)) ∧
    (∀ n at_ (d : SendDesc), streamHead s g 8 = some ⟨n, at_, .send d⟩ →
      ∀ up, up = (xferPathUp s d.xferId (gabDie g) (sendEnd d) && rangeUp s g d.srcAddr d.bytes) →
      (up = true → d.dest ≠ 255 ∨ portYoger s d.port = true →
        (∀ c ∈ s.credits, c.dest = g.val → c.xferId = d.xferId → c.runNo = runNo s g → c.arrived = false) →
        ∃ t, exec (.sendDescriptor g) s = .next t ∧ Popped s t g 8 ∧
          (winGet t g).map (·.sends) = (winGet s g).map (fun w => w.sends ++ [⟨d, at_, false, none, false, false⟩]) ∧
          t.xfers = s.xfers ∧ t.credits = s.credits ∧ t.outs = s.outs ∧ t.regs = s.regs ∧ t.ctrs = s.ctrs ∧ t.mem = s.mem ∧ t.frames = s.frames) ∧
      ((d.dest = 255 ∧ portYoger s d.port = false) ∨ up = false →
        ∃ t, exec (.sendDescriptor g) s = .next t ∧ Popped s t g 8 ∧
          Faulted s t g (if d.dest = 255 ∧ portYoger s d.port = false then 0x0210 else 0x0105) ∧
          (winGet t g).map (·.sends) = (winGet s g).map (fun w => w.sends ++ [⟨d, at_, false, none, true, false⟩]) ∧
          t.xfers = s.xfers ∧ t.credits = s.credits ∧ t.outs = s.outs ∧ t.mem = s.mem ∧
          RegsBut s t [R_GAB_SCH_STATUS (gabDie g)] ∧ t.ctrs = s.ctrs ∧ t.frames = s.frames)) ∧
    (∀ (id : Half) (n : Word) (ups : List Before) (x : SendRec), sendFind s g id.toNat = some x → x.read = false → x.ready = none →
        n.toNat = runNo s g →
      (x.desc.dest ≠ 255 → (∃ c ∈ s.credits, c.dest = g.val ∧ c.xferId = id.toNat ∧ c.runNo = n.toNat ∧ c.cable = false) →
        ∃ t, exec (.creditArrival g id n none ups) s = .next t ∧
          (∃ y, sendFind t g id.toNat = some y ∧ y.ready = some s.cyc ∧ y.credit = true ∧ y.read = false ∧ y.desc = x.desc) ∧
          t.xfers = s.xfers ∧ t.outs = s.outs ∧ t.ctrs = s.ctrs ∧ t.mem = s.mem ∧ t.frames = s.frames ∧
          (∀ c ∈ t.credits, c.dest = g.val → c.xferId = id.toNat → c.runNo = n.toNat → c.cable = false → c.arrived = true) ∧
          ((∀ c ∈ s.credits, c.dest = g.val → c.xferId = id.toNat → c.runNo = n.toNat → c.cable = false → c.bytes = x.desc.bytes) →
            t.regs = s.regs) ∧
          ((∀ c ∈ s.credits, c.dest = g.val → c.xferId = id.toNat → c.runNo = n.toNat → c.cable = false → c.bytes ≠ x.desc.bytes) →
            Faulted s t g 0x020F ∧ RegsBut s t [R_GAB_SCH_STATUS (gabDie g), R_GAB_SCH_STATUS (gabDie (gabOrd x.desc.dest))] ∧
            (winOpen s (gabOrd x.desc.dest) = true → runNo s (gabOrd x.desc.dest) = n.toNat → Faulted s t (gabOrd x.desc.dest) 0x020F))) ∧
      (x.desc.dest = 255 → (∀ c ∈ s.credits, c.dest = g.val → c.xferId = id.toNat → c.runNo = n.toNat → c.cable = false) → ∀ b : Word,
        ∃ t, exec (.creditArrival g id n (some b) ups) s = .next t ∧
          (∃ y, sendFind t g id.toNat = some y ∧ y.ready = some s.cyc ∧ y.credit = true ∧ y.read = false ∧ y.desc = x.desc) ∧
          t.xfers = s.xfers ∧ t.outs = s.outs ∧ t.ctrs = s.ctrs ∧ t.mem = s.mem ∧ t.frames = s.frames ∧
          (b.toNat = x.desc.bytes → t.regs = s.regs) ∧
          (b.toNat ≠ x.desc.bytes → Faulted s t g 0x020F ∧ RegsBut s t [R_GAB_SCH_STATUS (gabDie g)]))) ∧
    (∀ (id : Half) (n : Word) (ups : List Before), sendFind s g id.toNat = none →
      (∃ t, exec (.creditArrival g id n none ups) s = .next t ∧ { t with credits := s.credits } = upsets s ups ∧
        ∀ c ∈ t.credits, c.dest = g.val → c.xferId = id.toNat → c.runNo = n.toNat → c.cable = false → c.arrived = true) ∧
      ∀ b : Word, exec (.creditArrival g id n (some b) ups) s =
        .next { upsets s ups with credits := s.credits ++ [⟨g, id.toNat, n.toNat, b.toNat, true, true⟩] })) ∧
  (∀ s : State, (sendsReady s).Pairwise fun a b =>
    a.1 < b.1 ∨ (a.1 = b.1 ∧ (a.2.1 < b.2.1 ∨ (a.2.1 = b.2.1 ∧ a.2.2 ≤ b.2.2)))) ∧
  (∀ (s : State) (at_ g id : Nat), g < 16 → ((at_, g, id) ∈ sendsReady s ↔
    ∃ w, winGet s g = some w ∧ ∃ x ∈ w.sends, x.read = false ∧ x.ready = some at_ ∧ x.desc.xferId = id)) ∧
  (∀ s : State, sendsReady s = [] → sendsGo s = s) ∧
  (∀ (s : State) (at_ g id : Nat) (x : SendRec), sendsReady s = [(at_, g, id)] → sendFind s g id = some x → x.read = false →
    (∃ y, sendFind (sendsGo s) g id = some y ∧ y.read = true ∧ y.credit = true ∧ y.desc = x.desc) ∧
    (sendsGo s).mem = s.mem ∧ (sendsGo s).frames = s.frames ∧
    (∀ c ∈ (sendsGo s).credits, ¬(c.dest = g ∧ c.xferId = id ∧ c.runNo = runNo s g)) ∧
    (x.desc.dest ≠ 255 → (sendsGo s).outs = s.outs ∧ ∃ bs,
      (sendsGo s).xfers = s.xfers ++ [⟨gabDie g, 255, gabOrd x.desc.dest, id, runNo s g, bs⟩] ∧
      (s.ecc = [] → TagsClean s → homeUp s (gabDie g) x.desc.srcAddr = true →
        bs = (List.range x.desc.bytes).map (fun i => byteSeen s (x.desc.srcAddr + i)) ∧
        (sendsGo s).regs = s.regs ∧ (sendsGo s).ctrs = s.ctrs)) ∧
    (x.desc.dest = 255 → x.desc.mica = false → s.ecc = [] → TagsClean s → homeUp s (gabDie g) x.desc.srcAddr = true →
      (sendsGo s).xfers = s.xfers ∧ (sendsGo s).regs = s.regs ∧ (sendsGo s).ctrs = s.ctrs ∧
      ∃ l, (sendsGo s).outs = l ++ s.outs ∧ (0 < x.desc.bytes → l ≠ []) ∧
        ∀ o ∈ l, ∃ q bs, o = .frame x.desc.port frData q (linkFrame frData q (portAckSeq s x.desc.port)
          (leBytes 2 id ++ leBytes 4 (runNo s g) ++ bs))))

/-- 06:R134, R135; 07:R160, R161; 09:R202: data that reach the RECV they match are stored whole at its destination, and it is complete;
ends that differ in BYTES fault and lose the destination; data that match nothing are counted and dropped. A MOVE copies its
source when it completes. A transfer late at its deadline holds the group. -/
def Obligations.TransfersArrive : Prop :=
  ∀ (s : State) (g : Fin 16),
    (∀ (source : Byte) (p : Fin 48) (id : Half) (n : Word) (bs : List Byte), source.toNat ≠ 255 →
      (∀ x, (s.xfers.find? fun x => x.source == source.toNat && x.dest == g.val && x.xferId == id.toNat && x.runNo == n.toNat) = some x →
        (∀ r, recvFind s g id.toNat = some r → recvMatches r source.toNat 255 id.toNat = true → winOpen s g = true → runNo s g = n.toNat →
          (x.data.length = r.desc.bytes → ∃ t, exec (.transferDataArrival g source p id n bs) s = .next t ∧
            (∃ y, recvFind t g id.toNat = some y ∧ y.complete = true ∧ y.holding = false) ∧ t.xfers = s.xfers.erase x ∧ t.frames = s.frames ∧
            (homeUp s (gabDie g) r.desc.dstAddr = true → Plain s r.desc.dstAddr r.desc.bytes →
              Stored s t r.desc.dstAddr x.data ∧ (s.ecc = [] → t.regs = s.regs))) ∧
          (x.data.length ≠ r.desc.bytes → ∃ t, exec (.transferDataArrival g source p id n bs) s = .next t ∧ Faulted s t g 0x020F ∧
            (∀ a, (a < r.desc.dstAddr ∨ r.desc.dstAddr + r.desc.bytes ≤ a) → memGet t.mem a = memGet s.mem a) ∧
            t.xfers = s.xfers.erase x ∧ t.frames = s.frames)) ∧
        ((∀ r, recvFind s g id.toNat = some r → recvMatches r source.toNat 255 id.toNat = false ∨ winOpen s g = false ∨ runNo s g ≠ n.toNat) →
          ∃ t, exec (.transferDataArrival g source p id n bs) s = .next t ∧ t.xfers = s.xfers.erase x ∧
            regGet t (R_GAB_SCH_STALE_XFER (gabDie g)) = regGet s (R_GAB_SCH_STALE_XFER (gabDie g)) + 1 ∧
            RegsBut s t [R_GAB_SCH_STALE_XFER (gabDie g)] ∧ t.ctrs = s.ctrs ∧ t.mem = s.mem ∧ t.scheds = s.scheds)) ∧
      ((s.xfers.find? fun x => x.source == source.toNat && x.dest == g.val && x.xferId == id.toNat && x.runNo == n.toNat) = none →
        exec (.transferDataArrival g source p id n bs) s = .next s)) ∧
    (∀ (p : Fin 48) (id : Half) (n : Word) (bs : List Byte),
      (portYoger s p = false → exec (.transferDataArrival g 255 p id n bs) s = .next s) ∧
      (portYoger s p = true → ∀ h r, h < 16 → runNo s h = n.toNat → recvFind s h id.toNat = some r → recvMatches r 255 p id.toNat = true →
        (∀ k < h, runNo s k ≠ n.toNat ∨ ∀ y, recvFind s k id.toNat = some y → recvMatches y 255 p id.toNat = false) → bs.length = r.desc.bytes →
        ∃ t, exec (.transferDataArrival g 255 p id n bs) s = .next t ∧ (∃ y, recvFind t h id.toNat = some y ∧ y.complete = true) ∧
          t.frames = s.frames ∧ (homeUp s (gabDie h) r.desc.dstAddr = true → Plain s r.desc.dstAddr r.desc.bytes → Stored s t r.desc.dstAddr bs)) ∧
      (portYoger s p = true → (∀ k < 16, runNo s k ≠ n.toNat ∨ ∀ y, recvFind s k id.toNat = some y → recvMatches y 255 p id.toNat = false) →
        ∃ t, exec (.transferDataArrival g 255 p id n bs) s = .next t ∧
          regGet t (R_FLD_PORT_STALE_XFER (portDie p) (portLoc p)) = regGet s (R_FLD_PORT_STALE_XFER (portDie p) (portLoc p)) + 1 ∧
          RegsBut s t [R_FLD_PORT_STALE_XFER (portDie p) (portLoc p)] ∧ CtrsBut s t [] ∧ RestSame s t)) ∧
    (∀ n at_ (d : MoveDesc), streamHead s g 8 = some ⟨n, at_, .move d⟩ →
      ∀ up, up = (rangeUp s g d.srcAddr d.bytes && rangeUp s g d.dstAddr d.bytes) →
      ∃ t, exec (.moveDescriptor g) s = .next t ∧ Popped s t g 8 ∧
        (winGet t g).map (·.moves) = (winGet s g).map (fun w => w.moves ++ [⟨d, at_, !up, false⟩]) ∧ t.ctrs = s.ctrs ∧ t.frames = s.frames ∧
        (up = true → t.mem = s.mem ∧ t.regs = s.regs) ∧
        (up = false → Faulted s t g 0x0105 ∧ RegsBut s t [R_GAB_SCH_STATUS (gabDie g)] ∧
          ∀ a, (a < d.dstAddr ∨ d.dstAddr + d.bytes ≤ a) → memGet t.mem a = memGet s.mem a)) ∧
    (∀ w (a : Nat) (ups : List Before) i m, winGet s g = some w → (w.moves.findIdx? fun m => !m.complete && m.desc.dstAddr == a) = some i → w.moves[i]? = some m →
      ∃ t, exec (.moveComplete g a ups) s = .next t ∧ t.frames = s.frames ∧
        (winGet t g).map (·.moves) = some (w.moves.set i { m with complete := true, holding := false }) ∧
        (s.ecc = [] → TagsClean s → ups = [] → homeUp s (gabDie g) m.desc.srcAddr = true → homeUp s (gabDie g) a = true → Plain s a m.desc.bytes →
          Stored s t a ((List.range m.desc.bytes).map fun i => byteSeen s (m.desc.srcAddr + i)) ∧ t.regs = s.regs)) ∧
    (∀ w (a : Nat) (ups : List Before), winGet s g = some w → (∀ m ∈ w.moves, m.complete = true ∨ m.desc.dstAddr ≠ a) →
      exec (.moveComplete g a ups) s = .next (upsets s ups)) ∧
    (∀ (id : Half) (source : Byte) r, recvFind s g id.toNat = some r → ∃ t, exec (.recvDeadline g id source) s = .next t ∧
      recvFind t g id.toNat = some (if r.desc.source = source.toNat ∧ r.complete = false ∧ r.time + r.desc.slack ≤ schTime s g then
        { r with holding := true } else r) ∧ { t with scheds := s.scheds } = s) ∧
    (∀ (id : Half) x, sendFind s g id.toNat = some x → ∃ t, exec (.sendHoldDeadline g id) s = .next t ∧
      sendFind t g id.toNat = some (if x.read = false ∧ x.time + x.desc.hold ≤ schTime s g then { x with holding := true } else x) ∧
      { t with scheds := s.scheds } = s) ∧
    (∀ (w : Window) (a i : Nat) (m : MoveRec), winGet s g = some w → w.moves[i]? = some m → ∃ t, exec (.moveDeadline g a) s = .next t ∧
      ((winGet t g).bind fun (v : Window) => v.moves[i]?) = some (if m.desc.dstAddr = a ∧ m.complete = false ∧ m.time + m.desc.doneIn ≤ schTime s g then
        { m with holding := true } else m) ∧ { t with scheds := s.scheds } = s)

/-! ### Time. -/

/-- The model's choice (assumption 3), with 02:R29, R33, R47, 06:R124, R136, R137 and 18:R425: on an empty queue the block runs for
one arithmetic cycle. Out of RUN nothing else moves. Where one group alone is in use, with no descriptor due and nothing in its
frames that ends or delivers, its schedule time advances by one in a cycle that no cause stalls and no issue limit stops, each
frame ages, fetches, latches what its loads bring and issues one slot, which its counter counts; at the issue limit and in a stall its time stands still; a stall is
counted, a limit is not. -/
def Obligations.EmptyQueueTicks : Prop :=
  ∀ s : State, s.pending = [] →
    step s = .next (tick s) ∧ (tick s).cyc = s.cyc + 1 ∧
    (pwState s ≠ 0 → tick s = { s with cyc := s.cyc + 1 }) ∧
    (∀ g < 16, ∀ w, GroupQuiet s g w →
      ((stallNow s g).any = false → rateHold s g = false → (∀ i < 9, dueHead s g i = none) →
        regGet (tick s) (R_GAB_SCH_TIME (gabDie g)) = regGet s (R_GAB_SCH_TIME (gabDie g)) + 1 ∧ (tick s).mem = s.mem ∧
        fld (tick s) (R_GAB_SCH_STATUS (gabDie g)) F_GAB_SCH_STATUS_STALLING = 0 ∧ winGet (tick s) g = some { w with stallRun := 0, readable := w.readable - 1 } ∧
        ∀ f ∈ groupFrames s g, (frameGet (tick s) g f).age = (frameGet s g f).age + 1 ∧
          (frameGet (tick s) g f).trail = (slotAhead s g f (frameGet s g f) 0 :: (frameGet s g f).trail).take 256 ∧
          (∀ y, y = latchLoads (frameGet (fetchCycle s g f) g f) → (frameGet (tick s) g f).passes = y.passes ∧ (frameGet (tick s) g f).ahead = y.ahead ∧
            (frameGet (tick s) g f).loads = y.loads ∧ (frameGet (tick s) g f).tileH = y.tileH ∧ (frameGet (tick s) g f).tileE = y.tileE ∧
            (frameGet (tick s) g f).tsclH = y.tsclH ∧ (frameGet (tick s) g f).tsclE = y.tsclE) ∧
          (∀ slot n total turn, (frameGet s g f).issue = .pass slot (n + 1) total turn → (frameGet s g f).passes ≠ [] →
            (frameGet (tick s) g f).issue = .pass slot n total turn ∧ Counted s (tick s) (R_GAB_FRM_VALID_CYC (gabDie g) f) 1) ∧
          (∀ n, (frameGet s g f).issue = .gap (n + 1) true → Counted s (tick s) (R_GAB_FRM_DUMMY_CYC (gabDie g) f) 1) ∧
          ((frameGet s g f).issue = .idle ∨ (∃ n, (frameGet s g f).issue = .gap n false) →
            Counted s (tick s) (R_GAB_FRM_BUBBLE_CYC (gabDie g) f) 1)) ∧
      ((stallNow s g).any = false → rateHold s g = true →
        regGet (tick s) (R_GAB_SCH_TIME (gabDie g)) = regGet s (R_GAB_SCH_TIME (gabDie g)) ∧ (tick s).mem = s.mem ∧
        fld (tick s) (R_GAB_SCH_STATUS (gabDie g)) F_GAB_SCH_STATUS_STALLING = 0 ∧ winGet (tick s) g = some { w with stallRun := 0 } ∧
        ∀ f ∈ groupFrames s g, (frameGet (tick s) g f).age = (frameGet s g f).age ∧
          Counted s (tick s) (R_GAB_FRM_HOLD_CYC (gabDie g) f) 1) ∧
      ((stallNow s g).any = true → w.stallRun + 1 < (regGet s (R_GAB_SCH_STALL_RUN_LIMIT (gabDie g))).toNat →
        regGet s (R_GAB_SCH_STALL_SUM_LIMIT (gabDie g)) = 0 →
        regGet (tick s) (R_GAB_SCH_TIME (gabDie g)) = regGet s (R_GAB_SCH_TIME (gabDie g)) ∧ (tick s).mem = s.mem ∧
        fld (tick s) (R_GAB_SCH_STATUS (gabDie g)) F_GAB_SCH_STATUS_STALLING = 1 ∧ winGet (tick s) g = some { w with stallRun := w.stallRun + 1 } ∧
        Counted s (tick s) (R_GAB_SCH_STALL_CYC (gabDie g)) 1 ∧
        regGet (tick s) (R_GAB_SCH_WIN_STALL (gabDie g)) = regGet s (R_GAB_SCH_WIN_STALL (gabDie g)) + 1))

/-! ### Shale (08_shale_near_memory.md). -/

/-- R171, R173, R175, R184: SHL_REGION_SET replaces an entry, refusing an illegal word, an overlap, and a SCHEDULE or WELL entry of a
Gabbro with an image; nothing outside the wells it makes or ends is lost. SHL_WELL_ARM clears the tags of its wells and replies
the arming count, or waits for the window's end; SHL_FILL stores its pattern; SHL_ERR_INJECT puts an error in a granule, with
debug on. -/
def Obligations.ShaleCommands : Prop :=
  ∀ (s : State) (src : Src) (g : Fin 16), s.Serving → homeUp s (qSchist s (src.queue.val % 64)) (shaleBase g) = true →
    ∀ die : Byte, die = BitVec.ofNat 8 (shlDie g) →
    (∀ (n : Byte) (w : Word),
      (n.toNat ≤ 15 → (fldGet w F_SHL_RGN_TYPE = 0 → w = 0) → (rgnSpan w).2 ≤ 16384 * 1048576 → bitsOf w.toNat 14 2 = 0 →
        (∀ m < 16, m ≠ n.toNat → rgnOverlap w (regGet s (R_SHL_RGN (shlDie g) m)) = false) →
        ((schedGet s g).image = none ∨ (fldGet w F_SHL_RGN_TYPE < 2 ∧ fld s (R_SHL_RGN (shlDie g) n.toNat) F_SHL_RGN_TYPE < 2)) →
        shaleWaits s g = false →
        Ends (.shlRegionSet src die n w) s src 0x0310 (.ok []) fun u => regGet u (R_SHL_RGN (shlDie g) n.toNat) = w ∧
          RegsBut s u [R_SHL_RGN (shlDie g) n.toNat, R_SHL_ARM_GEN (shlDie g)] ∧ u.frames = s.frames ∧ u.scheds = s.scheds ∧
          (∀ a, (∀ x ∈ [wellSpan w, wellSpan (regGet s (R_SHL_RGN (shlDie g) n.toNat))], a < shaleBase g + x.1 ∨ shaleBase g + x.2 ≤ a) →
            memGet u.mem a = memGet s.mem a) ∧
          (wellSpan w = wellSpan (regGet s (R_SHL_RGN (shlDie g) n.toNat)) → u.mem = s.mem ∧ u.tags = s.tags)) ∧
      (15 < n.toNat ∨ (fldGet w F_SHL_RGN_TYPE = 0 ∧ w ≠ 0) ∨ 16384 * 1048576 < (rgnSpan w).2 ∨ bitsOf w.toNat 14 2 ≠ 0 →
        Ends (.shlRegionSet src die n w) s src 0x0310 (.no 0x0102) (Unchanged s)) ∧
      (n.toNat ≤ 15 → (fldGet w F_SHL_RGN_TYPE = 0 → w = 0) → (rgnSpan w).2 ≤ 16384 * 1048576 → bitsOf w.toNat 14 2 = 0 →
        (∃ m < 16, m ≠ n.toNat ∧ rgnOverlap w (regGet s (R_SHL_RGN (shlDie g) m)) = true) →
        Ends (.shlRegionSet src die n w) s src 0x0310 (.no 0x0303) (Unchanged s)) ∧
      (n.toNat ≤ 15 → (fldGet w F_SHL_RGN_TYPE = 0 → w = 0) → (rgnSpan w).2 ≤ 16384 * 1048576 → bitsOf w.toNat 14 2 = 0 →
        (∀ m < 16, m ≠ n.toNat → rgnOverlap w (regGet s (R_SHL_RGN (shlDie g) m)) = false) → (schedGet s g).image ≠ none →
        2 ≤ fldGet w F_SHL_RGN_TYPE ∨ 2 ≤ fld s (R_SHL_RGN (shlDie g) n.toNat) F_SHL_RGN_TYPE →
        Ends (.shlRegionSet src die n w) s src 0x0310 (.no 0x0304) (Unchanged s))) ∧
    (∀ mask : Half,
      (mask ≠ 0 → (∀ n ∈ setBits 16 mask.toNat, fld s (R_SHL_RGN (shlDie g) n) F_SHL_RGN_TYPE = 3) → shaleWaits s g = false →
        (winOpen s g = false →
          Ends (.shlWellArm src die mask) s src 0x0311 (.ok (leBytes 4 (regGet s (R_SHL_ARM_GEN (shlDie g)) + 1).toNat)) fun u =>
            regGet u (R_SHL_ARM_GEN (shlDie g)) = regGet s (R_SHL_ARM_GEN (shlDie g)) + 1 ∧ RegsBut s u [R_SHL_ARM_GEN (shlDie g)] ∧
            (∀ n ∈ setBits 16 mask.toNat, ∀ row, shaleBase g + (rgnSpan (regGet s (R_SHL_RGN (shlDie g) n))).1 ≤ row →
              row < shaleBase g + (rgnSpan (regGet s (R_SHL_RGN (shlDie g) n))).2 → tagGet u row = ⟨false, 0, false, false⟩) ∧ u.mem = s.mem) ∧
        (winOpen s g = true → Waits (.shlWellArm src die mask) s src 0x0311 (.wellArm g mask.toNat) fun u => u.regs = s.regs ∧ u.mem = s.mem ∧
          u.tags = s.tags)) ∧
      (mask = 0 ∨ (∃ n ∈ setBits 16 mask.toNat, fld s (R_SHL_RGN (shlDie g) n) F_SHL_RGN_TYPE ≠ 3) →
        Ends (.shlWellArm src die mask) s src 0x0311 (.no 0x0102) (Unchanged s))) ∧
    (∀ (off : DWord) (bytes pat : Word),
      (off.toNat % 1024 = 0 → bytes.toNat ≠ 0 → bytes.toNat % 1024 = 0 → off.toNat + bytes.toNat ≤ 0x000400000000 →
        meetsType s (shlDie g) off.toNat (off.toNat + bytes.toNat) 3 = false →
        (meetsType s (shlDie g) off.toNat (off.toNat + bytes.toNat) 2 = false ∨ winOrPending s g = false) → shaleWaits s g = false →
        Ends (.shlFill src die off bytes pat) s src 0x0312 (.ok []) fun u =>
          Stored s u (shaleBase g + off.toNat) (List.replicate (bytes.toNat / 4) (leBytes 4 pat.toNat)).flatten) ∧
      (off.toNat % 1024 ≠ 0 ∨ bytes.toNat = 0 ∨ bytes.toNat % 1024 ≠ 0 ∨ 0x000400000000 < off.toNat + bytes.toNat ∨
          meetsType s (shlDie g) off.toNat (off.toNat + bytes.toNat) 3 = true →
        Ends (.shlFill src die off bytes pat) s src 0x0312 (.no 0x0102) (Unchanged s))) ∧
    (∀ (off : DWord) (kind : Byte), off.toNat % 128 = 0 → off.toNat < 0x000400000000 → kind = 1 ∨ kind = 2 →
      (flag s R_SCH_RST_STATUS F_SCH_RST_STATUS_DEBUG_ON = true → shaleWaits s g = false →
        Ends (.shlErrInject src die off kind) s src 0x0313 (.ok []) fun u => u.regs = s.regs ∧ u.mem = s.mem ∧
          tabFind u.ecc (shaleBase g + off.toNat) = some (kind == 2 || tabGet s.ecc (shaleBase g + off.toNat) false) ∧
          ∀ a, a ≠ shaleBase g + off.toNat → tabFind u.ecc a = tabFind s.ecc a) ∧
      (flag s R_SCH_RST_STATUS F_SCH_RST_STATUS_DEBUG_ON = false →
        Ends (.shlErrInject src die off kind) s src 0x0313 (.no 0x0305) (Unchanged s)))

/-- R177-R182: a refresh shows whether any vault is hot; the scrubber reads the next row, corrects its correctable errors, and counts a
pass at the last one; a completed copy has read its row as any read does, and remaps it to a spare of its bank with the
uncorrectable errors that it holds, or reports that none is left. -/
def Obligations.ShaleUpkeep : Prop :=
  ∀ (s : State) (g : Fin 16),
    (∀ (b : Fin 512) (hot : Bool), hotVaults s (shlDie g) < 2 ^ 32 → ∃ t, exec (.refresh g b hot) s = .next t ∧
      (∀ v < 32, bitOf (hotVaults t (shlDie g)) v = if v = b.val % 32 then hot else bitOf (hotVaults s (shlDie g)) v) ∧
      hotVaults t (shlDie g) < 2 ^ 32 ∧ fld t (R_SHL_STATUS (shlDie g)) F_SHL_STATUS_REFRESH_2X = b2n (hotVaults t (shlDie g) != 0) ∧
      RegsBut s t [R_SHL_STATUS (shlDie g)] ∧ t.ctrs = s.ctrs ∧ t.mem = s.mem ∧ t.ecc = s.ecc) ∧
    (∀ ups : List Before, flag s (R_SHL_CTRL (shlDie g)) F_SHL_CTRL_SCRUB_EN = false ∨ memAsleep s = true →
      exec (.scrubRow g ups) s = .next (upsets s ups)) ∧
    (∀ (ups : List Before) (off : Nat), memAsleep s = false → flag s (R_SHL_CTRL (shlDie g)) F_SHL_CTRL_SCRUB_EN = true → off = tabGet s.shl.scrub (shlDie g) 0 →
      ∃ t, exec (.scrubRow g ups) s = .next t ∧ t.mem = s.mem ∧
        (off + 1024 < 0x000400000000 → tabGet t.shl.scrub (shlDie g) 0 = off + 1024 ∧ flag t (R_SHL_STATUS (shlDie g)) F_SHL_STATUS_SCRUB_ACTIVE = true) ∧
        (0x000400000000 ≤ off + 1024 → tabGet t.shl.scrub (shlDie g) 0 = 0 ∧ flag t (R_SHL_STATUS (shlDie g)) F_SHL_STATUS_SCRUB_ACTIVE = false ∧
          regGet t (R_SHL_SCRUB_PASS (shlDie g)) = regGet s (R_SHL_SCRUB_PASS (shlDie g)) + 1) ∧
        (∀ i < 8, off + 1024 ≤ 0x000400000000 → off % 1024 = 0 → s.shl.copies.contains (shaleBase g + off) = false →
          tabFind (upsets s ups).ecc (shaleBase g + off + 128 * i) = some false →
          tabFind t.ecc (shaleBase g + off + 128 * i) = none)) ∧
    (∀ (row r : Nat) (ups : List Before), r = rowOf row → memAsleep s = false → s.shl.copies.contains r = true → regionBelow 0 r = .shale g →
      ∃ t, exec (.spareCopyComplete g row ups) s = .next t ∧ t.shl.copies = s.shl.copies.filter (· != r) ∧ t.mem = s.mem ∧
        (∀ i < 8, tabFind t.ecc (r + 128 * i) = if tabFind (upsets s ups).ecc (r + 128 * i) = some true then some true else none) ∧
        (bankUsed s (shlDie g) (bankOf g r) < 64 → r ∈ t.shl.remapped ∧
          fld t (R_SHL_SPARE_USED (shlDie g)) F_SHL_SPARE_USED_USED = (fld s (R_SHL_SPARE_USED (shlDie g)) F_SHL_SPARE_USED_USED + 1) % 65536) ∧
        (64 ≤ bankUsed s (shlDie g) (bankOf g r) → flag t (R_SHL_ERR (shlDie g)) F_SHL_ERR_SPARE_EXHAUSTED = true ∧
          t.shl.remapped = s.shl.remapped) ∧
        ((∀ x ∈ s.shl.copies, x ≠ r → regionBelow 0 x ≠ .shale g) → flag t (R_SHL_STATUS (shlDie g)) F_SHL_STATUS_SPARE_COPY = false)) ∧
    (∀ (row : Nat) (ups : List Before), s.shl.copies.contains (rowOf row) = false ∨ regionBelow 0 (rowOf row) ≠ .shale g ∨ memAsleep s = true →
      exec (.spareCopyComplete g row ups) s = .next (upsets s ups))

/-! ### Coherence (09_memory_coherence.md). -/

/-- R189, R195-R198: a request for a line reaches its home, or faults the hart with a fault of the access's kind; memory that
sleeps wakes first. RdS gives E of an UNCACHED line, and F of an owned one with the owner going to S and its dirty data written;
RdO and Upgrade give ownership, every other copy invalidated and the line in the asking cluster's L2 alone, and an Upgrade whose
bit is gone is an RdO; a forwarder whose CleanEvict is on its way answers with it, and memory is read; WB writes the line and
ends ownership, serving a request that it crossed with its data, and CleanEvict ends what it names. -/
def Obligations.CachedLines : Prop :=
  ∀ (s : State) (c : Fin 8) (core : Fin 32) (a line hart : Nat), line = lineOf a → hart = 32 * c.val + core.val →
    (lineAsk s c a = false →
      (∀ (fetch late : Bool) (ups : List Before),
        exec (.rds c core fetch a late ups) s = .next (emit (upsets s ups) (.hartFault hart (if fetch then .fetch else .load))) ∧
        exec (.rdo c core a late ups) s = .next (emit (upsets s ups) (.hartFault hart .store)) ∧
        exec (.upgrade c core a late ups) s = .next (emit (upsets s ups) (.hartFault hart .store))) ∧
      (∀ (d : List Byte) (x : Option Crossing), exec (.wb c a d x) s = .next s) ∧ exec (.cleanEvict c a) s = .next s) ∧
    (lineAsk s c a = true → ∀ (fetch late : Bool) (ups : List Before) (u : State), u = wakeAccess (upsets s ups) 2 →
      ∃ t v, exec (.rds c core fetch a late ups) s = .next t ∧ exec (.rdo c core a late ups) s = .next v ∧
      (dirGet u line = none → u.ecc = [] → u.coh.dir.length < 16 →
        ∀ x ∈ [t, v], copyGet x c line = some ⟨.e, (List.range 128).map fun i => byteSeen u (line * 128 + i)⟩ ∧
          bitOf (lineAt x c line).l2 (core.val / 4) = true ∧
          (∃ e, dirGet x line = some e ∧ e.owner = some c.val) ∧ x.mem = u.mem ∧ (∀ l, l ≠ line → dirGet x l = dirGet u l)) ∧
      (∀ e o, dirGet u line = some e → e.owner = some o → o ≠ c.val → ∀ y, y = ownerCopy u o line →
        copyGet t c line = some ⟨.f, y.data⟩ ∧ copyGet t o line = some ⟨.s, y.data⟩ ∧
        (∃ e, dirGet t line = some e ∧ e.owner = none ∧ e.fwd = some c.val ∧ e.mask = 2 ^ o ||| 2 ^ c.val) ∧
        (y.st ≠ .m → t.mem = u.mem) ∧
        (y.st = .m → rplRunning u = false → (∃ m, regionOf u (line * 128) = .lpddr m) → y.data.length = 128 → Stored u t (line * 128) y.data) ∧
        copyGet v c line = some ⟨if y.st = .m then .m else .e, y.data⟩ ∧ copyGet v o line = none ∧
        (lineAt v c line).l2 = 2 ^ (core.val / 4) ∧
        (∃ e, dirGet v line = some e ∧ e.owner = some c.val) ∧ v.mem = u.mem) ∧
      (∀ e p, dirGet u line = some e → e.owner = none → e.fwd = some p → late = true → p ≠ c.val → u.ecc = [] →
        copyGet t c line = some ⟨.f, (List.range 128).map fun i => byteSeen u (line * 128 + i)⟩ ∧ copyGet t p line = none ∧
        (∃ e', dirGet t line = some e' ∧ e'.fwd = some c.val) ∧ t.mem = u.mem) ∧
      (∀ e p y, dirGet u line = some e → e.owner = none → e.fwd = some p → late = false → copyGet u p line = some y → p ≠ c.val →
        copyGet t c line = some ⟨.f, y.data⟩ ∧ copyGet t p line = some ⟨.s, y.data⟩ ∧ t.mem = u.mem ∧
        (∃ e', dirGet t line = some e' ∧ e'.owner = none ∧ e'.fwd = some c.val ∧ e'.mask = e.mask ||| 2 ^ c.val) ∧
        copyGet v c line = some ⟨.e, y.data⟩ ∧ (∀ k ∈ holders e, k ≠ c.val → copyGet v k line = none) ∧
        (∃ e', dirGet v line = some e' ∧ e'.owner = some c.val) ∧ v.mem = u.mem)) ∧
    (lineAsk s c a = true → ∀ (late : Bool) (ups : List Before) (u : State), u = wakeAccess (upsets s ups) 2 →
      ∃ t, exec (.upgrade c core a late ups) s = .next t ∧
      (∀ e y, dirGet u line = some e → e.owner = none → bitOf e.mask c = true → copyGet u c line = some y →
        copyGet t c line = some ⟨.e, y.data⟩ ∧ (∀ k ∈ holders e, k ≠ c.val → copyGet t k line = none) ∧
        (lineAt t c line).l2 = 2 ^ (core.val / 4) ∧
        (∃ e', dirGet t line = some e' ∧ e'.owner = some c.val) ∧ t.mem = u.mem ∧ t.regs = u.regs) ∧
      ((∀ e, dirGet u line = some e → e.owner ≠ none ∨ bitOf e.mask c = false) → exec (.rdo c core a late ups) s = .next t)) ∧
    (lineAsk s c a = true → ∀ (d : List Byte) (x : Option Crossing) (u : State), u = wakeAccess s 2 → d.length = 128 →
      ∃ t, exec (.wb c a d x) s = .next t ∧
      ((dirGet u line).bind (·.owner) ≠ some c.val → t = u) ∧
      ((dirGet u line).bind (·.owner) = some c.val → u.coh.dir.length ≤ 16 →
        ((∀ q k b op wide y, x ≠ some (.atomic q k b op wide y)) → (∀ die k ag b bs, x ≠ some (.write die k ag b bs)) → rplRunning u = false → (∃ m, regionOf u (line * 128) = .lpddr m) →
          Stored u t (line * 128) d) ∧
        (x = none → copyGet t c line = none ∧ dirGet t line = none) ∧
        (∀ (q : Fin 8) (k : Fin 32), x = some (.line q k) → copyGet t q line = some ⟨.e, d⟩ ∧ ∃ e, dirGet t line = some e ∧ e.owner = some q.val) ∧
        (∀ (die : Fin 64) (k : Fin 32) (ag : Byte) (b n : Nat), x = some (.read die k ag b n) → copyGet t c line = none ∧
          dirGet t line = none ∧ t.outs.head? = some (if ag = 1 then .hart (hartOf die k) (leNat ((d.drop (b % 128)).take n))
            else .io 0 ((d.drop (b % 128)).take n))) ∧
        (∀ (die : Fin 64) (k : Fin 32) (ag : Byte) (b : Nat) (bs : List Byte), x = some (.write die k ag b bs) → ncRange u b bs.length = true →
          lineOf b = line → b % 128 + bs.length ≤ 128 → rplRunning u = false → (∃ m, regionOf u (line * 128) = .lpddr m) →
          copyGet t c line = none ∧ dirGet t line = none ∧
          memRead t.mem (line * 128) 128 = d.take (b % 128) ++ bs ++ d.drop (b % 128 + bs.length)) ∧
        (∀ (q : Fin 8) (k : Fin 32) (b : Nat) (op : AmoOp) (wide : Bool) (y : DWord), x = some (.atomic q k b op wide y) →
          amoAligned wide b = true → lineOf b = line → rplRunning u = false → (∃ m, regionOf u (line * 128) = .lpddr m) →
          copyGet t c line = none ∧ dirGet t line = none ∧
          t.outs.head? = some (.hart (32 * q.val + k.val) (amoOnBytes d (b % 128) op wide y.toNat).2) ∧
          memRead t.mem (line * 128) 128 = (amoOnBytes d (b % 128) op wide y.toNat).1))) ∧
    (lineAsk s c a = true → ∃ t, exec (.cleanEvict c a) s = .next t ∧ t.mem = s.mem ∧ t.regs = s.regs ∧ t.ctrs = s.ctrs ∧
      ((dirGet s line).bind (·.owner) = some c.val → copyGet t c line = none ∧ dirGet t line = none) ∧
      (∀ e, dirGet s line = some e → e.owner = none → e.fwd = some c.val → copyGet t c line = none ∧
        ∃ e', dirGet t line = some e' ∧ e'.owner = none ∧ e'.fwd = none ∧ e'.mask = (e.mask &&& (255 ^^^ 2 ^ c.val))) ∧
      ((∀ e, dirGet s line = some e → e.owner ≠ some c.val ∧ e.fwd ≠ some c.val) → t = s))

/-- R189, R196, R199-R201; 14:R331: a read gives the reader, a hart or an engine, the bytes of memory, or of the cache that owns
the line; a write stores its bytes, and toward a fenced home is dropped and counted, or faults a hart; an atomic answers the
old value and stores the new one at the home, or in the cache that owns the line; a misaligned atomic, and what cannot be
reached, faults its hart with a fault of the access's kind, and an engine has a status (the model's choice, assumption 79). -/
def Obligations.UncachedAccesses : Prop :=
  ∀ (s : State) (core : Fin 32) (ups : List Before),
    (∀ (die : Fin 64) (ag : Byte) (a n : Nat) (io : PcieEnd) (u : State), ¬(ag = 1 ∧ regionBelow s.intlv a = .pcie) →
      u = (if ag = 1 then wakeAccess (upsets s ups) 2 else upsets s ups) →
      (ncRange s a n = true → homeUp s die a = true → u.ecc = [] → (∀ i < n, (dirGet u (lineOf (a + i))).bind (·.owner) = none) →
        ∃ t, exec (.ncRd die core ag a n io ups) s = .next t ∧ t.mem = u.mem ∧
          t.outs = (if ag = 1 then .hart (hartOf die core) (leNat ((List.range n).map fun i => byteSeen u (a + i)))
            else .io 0 ((List.range n).map fun i => byteSeen u (a + i))) :: u.outs) ∧
      (∀ o y, ncRange s a n = true → homeUp s die a = true → a % 128 + n ≤ 128 → (dirGet u (lineOf a)).bind (·.owner) = some o →
        y = ownerCopy u o (lineOf a) →
        ∃ t, exec (.ncRd die core ag a n io ups) s = .next t ∧ t.mem = u.mem ∧ t.coh = u.coh ∧
          t.outs.head? = some (if ag = 1 then .hart (hartOf die core) (leNat ((y.data.drop (a % 128)).take n))
            else .io 0 ((y.data.drop (a % 128)).take n))) ∧
      (ncRange s a n = false ∨ homeUp s die a = false → exec (.ncRd die core ag a n io ups) s = .next (emit (upsets s ups)
        (if ag = 1 then .hartFault (hartOf die core) .load else .io (if ncRange s a n then 0x0105 else 0x0102) []))) ∧
      (∀ bs : List Byte, bs.length = n →
        (ncRange s a n = true → homeUp s die a = true → Plain u a n →
          ∃ t, exec (.ncWr die core ag a bs io ups) s = .next t ∧ Stored u t a bs ∧ (u.ecc = [] → t.regs = u.regs)) ∧
        (ncRange s a n = false ∨ (homeUp s die a = false ∧ ag = 1) → exec (.ncWr die core ag a bs io ups) s = .next (emit (upsets s ups)
          (if ag = 1 then .hartFault (hartOf die core) .store else .io 0x0102 []))) ∧
        (ncRange s a n = true → homeUp s die a = false → ag ≠ 1 →
          ∃ t, exec (.ncWr die core ag a bs io ups) s = .next t ∧ Counted s t (R_DIE_FENCE_DROP die) 1 ∧ t.mem = s.mem ∧ t.regs = s.regs ∧
            t.outs = s.outs))) ∧
    (∀ (c : Fin 8) (a : Nat) (op : AmoOp) (wide : Bool) (x : DWord) (u : State), u = wakeAccess (upsets s ups) 2 →
      (amoAligned wide a = true → lineAsk s c a = true → Plain u a (if wide then 8 else 4) →
        ∃ t, exec (.farAtomic c core a op wide x ups) s = .next t ∧
          t.outs = .hart (32 * c.val + core.val) (leNat (memRead u.mem a (if wide then 8 else 4))) :: u.outs ∧
          Stored u t a (leBytes (if wide then 8 else 4) (amoApply op wide (leNat (memRead u.mem a (if wide then 8 else 4))) x.toNat))) ∧
      (amoAligned wide a = false ∨ lineAsk s c a = false →
        exec (.farAtomic c core a op wide x ups) s = .next (emit (upsets s ups) (.hartFault (32 * c.val + core.val) .store)))) ∧
    (∀ (h : Fin 256) (a c : Nat) (op : AmoOp) (wide : Bool) (x : DWord) (late : Bool) (u : State), u = wakeAccess (upsets s ups) 2 → c = h.val / 32 →
      ∀ far : Bool, far = (fld u (R_GNS_ATOM_CTRL (gnsDie c)) F_GNS_ATOM_CTRL_MODE == 2 ||
        (fld u (R_GNS_ATOM_CTRL (gnsDie c)) F_GNS_ATOM_CTRL_MODE != 1 && decide (2 ≤ tabGet u.coh.pred (predKey (h.val / 4) (lineOf a)) 0))) →
      (amoAligned wide a = true → lineAsk s c a = true →
        (∀ y, copyGet u c (lineOf a) = some y → y.st = .m ∨ y.st = .e → (far = false ∨ (lineAt u c (lineOf a)).llc = true) →
          ∃ t, exec (.amoIssue h a op wide x late ups) s = .next t ∧
            (lineAt t c (lineOf a)).l2 = (if far then 0 else 2 ^ (h.val / 4 % 8)) ∧
            copyGet t c (lineOf a) = some ⟨.m, (amoOnBytes y.data (a % 128) op wide x.toNat).1⟩ ∧
            t.outs = .hart h (amoOnBytes y.data (a % 128) op wide x.toNat).2 :: u.outs ∧ t.mem = u.mem ∧ t.regs = u.regs ∧
            Counted u t (if far then R_GNS_ATOM_LLC (gnsDie c) else R_GNS_ATOM_NEAR (gnsDie c)) 1) ∧
        (copyGet u c (lineOf a) = none ∨ (lineAt u c (lineOf a)).llc = false → far = true → Plain u a (if wide then 8 else 4) →
          ∃ t, exec (.amoIssue h a op wide x late ups) s = .next t ∧ Counted u t (R_GNS_ATOM_FAR (gnsDie c)) 1 ∧
            t.outs = .hart h (leNat (memRead u.mem a (if wide then 8 else 4))) :: u.outs ∧
            Stored u t a (leBytes (if wide then 8 else 4) (amoApply op wide (leNat (memRead u.mem a (if wide then 8 else 4))) x.toNat)))) ∧
      (amoAligned wide a = false ∨ lineAsk s c a = false →
        exec (.amoIssue h a op wide x late ups) s = .next (emit (upsets s ups) (.hartFault h .store))))

/-- R207, R208, R210, R211; 16:R385: MEM_INTERLEAVE sets the mode of the quadrants it names and loses the contents of those
that change alone, and stops a replay log whose region lies in one; a path barrier, by command or by a load from the barrier window, starts toward the home of its address; it completes, or times
out with its record, with its word for the hart or the command that waits. -/
def Obligations.MemoryCommands : Prop :=
  ∀ s : State,
    (∀ (src : Src) (quads mode : Byte) (ups : List Before), s.Serving →
      (quads.toNat ≠ 0 → quads.toNat < 16 → mode.toNat < 16 → (∀ g < 16, (schedGet s g).image = none) → memCmdBusy s = false →
        ∃ d, Ends (.memInterleave src quads mode ups) s src 0x0320 (.ok d) fun u => d = [BitVec.ofNat 8 u.intlv] ∧
          (∀ q < 4, bitOf u.intlv q = if bitOf quads.toNat q then bitOf mode.toNat q else bitOf s.intlv q) ∧
          (∀ a, (∀ q < 4, bitOf quads.toNat q = true → bitOf s.intlv q ≠ bitOf mode.toNat q →
            a < q * 0x003000000000 ∨ (q + 1) * 0x003000000000 ≤ a) → memGet u.mem a = memGet s.mem a) ∧
          (∀ q < 4, bitOf quads.toNat q = true → bitOf s.intlv q ≠ bitOf mode.toNat q → rplRunning s = true → rplQuad s = some q →
            rplRunning u = false ∧ fld u R_SCH_RPL_STATUS F_SCH_RPL_STATUS_STOP_CAUSE = 2) ∧
          ((∀ q < 4, bitOf quads.toNat q = true → bitOf s.intlv q = bitOf mode.toNat q) → s.upd = none → u.mem = s.mem ∧ u.regs = s.regs)) ∧
      (quads.toNat = 0 ∨ 16 ≤ quads.toNat ∨ 16 ≤ mode.toNat → Ends (.memInterleave src quads mode ups) s src 0x0320 (.no 0x0102) (Unchanged (upsets s ups))) ∧
      (quads.toNat ≠ 0 → quads.toNat < 16 → mode.toNat < 16 → ((∃ g < 16, (schedGet s g).image ≠ none) ∨ memCmdBusy s = true) →
        Ends (.memInterleave src quads mode ups) s src 0x0320 (.no 0x0304) (Unchanged (upsets s ups)))) ∧
    (∀ (src : Src) (a : DWord), s.Serving →
      (homeDie s a.toNat = none → Ends (.memPathBarrier src a) s src 0x0321 (.no 0x0102) (Unchanged s)) ∧
      (∀ h, homeDie s a.toNat = some h →
        (pathUp s (qSchist s (src.queue.val % 64)) h = true → Waits (.memPathBarrier src a) s src 0x0321 (.barrier (s.nextId + 1)) fun u =>
          (∃ b ∈ u.coh.bars, b.id = s.nextId + 1 ∧ b.home = h ∧ b.addr = a.toNat ∧ b.hart = none) ∧ u.regs = s.regs ∧ u.mem = s.mem) ∧
        (pathUp s (qSchist s (src.queue.val % 64)) h = false →
          Ends (.memPathBarrier src a) s src 0x0321 (.done 0x0105 []) (Unchanged s)))) ∧
    (∀ (h : Fin 256) (a : Nat),
      (∀ b d, regionOf s a = .mirror b → homeDie s b = some d → a % 8 = 0 → pathUp s (gnsDie (h.val / 32)) d = true →
        ∃ t x, exec (.pathBarrierRead h a) s = .next t ∧ t.coh.bars = s.coh.bars ++ [x] ∧ x.home = d ∧ x.addr = b ∧ x.hart = some h.val ∧
          x.id = s.nextId ∧ t.regs = s.regs ∧ t.ctrs = s.ctrs ∧ t.mem = s.mem ∧ t.outs = s.outs) ∧
      ((∀ b, regionOf s a ≠ .mirror b) ∨ a % 8 ≠ 0 → exec (.pathBarrierRead h a) s = .next (emit s (.hartFault h .load)))) ∧
    (∀ (home : Fin 64) (b : PathBar),
      ((s.coh.bars.find? fun b => b.home == home.val && barrierClear s b) = some b →
        ∃ u, u = barrierEnd s b 0 ∧ Counted s u (dirReg home R_GAB_DIR_BARRIER R_FLT_DIR_BARRIER) 1 ∧
          u.coh.bars = s.coh.bars.filter (fun x => x.id != b.id) ∧ u.regs = s.regs ∧ u.mem = s.mem ∧
          (∀ h, b.hart = some h → u.outs = .hart h (barrierWord u home 0) :: s.outs) ∧
          ((∀ x ∈ s.cmds.taken, x.wait ≠ .barrier b.id) → exec (.pathBarrierComplete home) s = .next u) ∧
          (∀ x, (s.cmds.taken.find? fun x => x.wait == .barrier b.id) = some x →
            exec (.pathBarrierComplete home) s = .next (finish u x (.done 0 (leBytes 8 (barrierWord u home 0)))))) ∧
      ((s.coh.bars.find? fun b => b.home == home.val && !(barrierClear s b)) = some b →
        ∃ u, u = barrierEnd s b 0x0302 ∧ Counted s u (dirReg home R_GAB_DIR_BARRIER R_FLT_DIR_BARRIER) 1 ∧
          u.coh.bars = s.coh.bars.filter (fun x => x.id != b.id) ∧ u.mem = s.mem ∧
          regGet u (dirReg home R_GAB_DIR_BARRIER_TMO R_FLT_DIR_BARRIER_TMO) = regGet s (dirReg home R_GAB_DIR_BARRIER_TMO R_FLT_DIR_BARRIER_TMO) + 1 ∧
          RegsBut s u [dirReg home R_GAB_DIR_BARRIER_TMO R_FLT_DIR_BARRIER_TMO, R_SCH_STRATA_ERR] ∧
          ((∀ x ∈ s.cmds.taken, x.wait ≠ .barrier b.id) → exec (.pathBarrierTimeout home) s = .next u) ∧
          (∀ x, (s.cmds.taken.find? fun x => x.wait == .barrier b.id) = some x →
            exec (.pathBarrierTimeout home) s = .next (finish u x (.done 0x0302 (leBytes 8 (barrierWord u home 0x0302))))))) ∧
    (∀ home : Fin 64, (∀ b ∈ s.coh.bars, b.home ≠ home.val) →
      exec (.pathBarrierComplete home) s = .next s ∧ exec (.pathBarrierTimeout home) s = .next s)

/-! ### Rings and updates (10_rod_ring_reduction.md, 11_flint_update.md). -/

/-- 10:R220-R222, R225, R226, R244; 11:R257, R258, R262, R263, R269: with no other in progress, a RING_CFG whose record and tables are well
formed greets its peers and waits for them; RING_RS and RING_AG of a configured slot start their run, held back by an open
window on its data; RING_RELEASE frees the slot; UPD_CFG and UPD_COEF_SET take their record and rows; UPD_RUN checks its
conditions in order and waits for windows. -/
def Obligations.RingAndUpdateCommands : Prop :=
  ∀ (s : State) (src : Src) (k : Byte), s.Serving → NoRings s → k.toNat ≤ 7 →
    (∀ (a : DWord) r segs ags, PlainReads s → inOneRange a.toNat 256 = true → cmdReach s (takenAs 0x0401 src [] s) a.toNat 256 = true →
      r = seen s a.toNat 256 → rcOk s r = true → (∀ l < 3, rcN r l ≤ 512) → rcMembers r ≤ 262144 →
      TableAt s (fieldLE r 168 8) 16 8 64 segs → TableAt s (fieldLE r 208 8) 32 16 64 ags → rcTablesOk s r segs ags = true →
      (∀ e ∈ rcPorts r, portYoger s e.1 = true ∧ tabFind s.rings.cfgHellos e.1 = none) →
      Waits (.ringCfg src k a) s src 0x0401 (.ring k.toNat) fun u => u.mem = s.mem ∧ fld u (R_FLD_RING_STATUS k.toNat) F_FLD_RING_STATUS_ACTIVE = 1 ∧
        (slotGet u k.toNat).cfg = (slotGet s k.toNat).cfg ∧
        ∃ c, (slotGet u k.toNat).exch = some (s.nextId, c, (rcPorts r).map Prod.fst) ∧ c.record = r ∧ c.digest = shake256 (r.take 64) 16) ∧
    (∀ a : DWord, inOneRange a.toNat 256 = false → Ends (.ringCfg src k a) s src 0x0401 (.no 0x0102) fun u => u.mem = s.mem ∧ u.regs = s.regs) ∧
    (∀ step : DWord,
      (step ≠ s.step → (Ends (.ringRs src k step) s src 0x0402 (.no 0x0102) fun u => u.mem = s.mem ∧ u.regs = s.regs) ∧
        (Ends (.ringAg src k step) s src 0x0403 (.no 0x0102) fun u => u.mem = s.mem ∧ u.regs = s.regs)) ∧
      (step = s.step → (slotGet s k.toNat).cfg = none →
        (Ends (.ringRs src k step) s src 0x0402 (.no 0x040B) fun u => u.mem = s.mem ∧ u.regs = s.regs) ∧
        (Ends (.ringAg src k step) s src 0x0403 (.no 0x040B) fun u => u.mem = s.mem ∧ u.regs = s.regs)) ∧
      (∀ c, step = s.step → (slotGet s k.toNat).cfg = some c → rcTable c.record = false →
        (∀ e ∈ rcPorts c.record, portYoger s e.1 = true) → keptHello s k.toNat c s.step.toNat = none →
        (ringReach s c false = true → (∃ g ∈ heldGabbros s (ringRanges c false), winOpen s g = true) →
          Waits (.ringRs src k step) s src 0x0402 (.ring k.toNat) fun u => u.mem = s.mem ∧ fld u (R_FLD_RING_STATUS k.toNat) F_FLD_RING_STATUS_ACTIVE = 2 ∧
            ctrGet u (R_FLD_RING_STEP k.toNat) = step ∧ (∀ g ∈ heldGabbros s (ringRanges c false), excluded u g = true) ∧
            ∃ r, (slotGet u k.toNat).run = some r ∧ r.id = s.nextId ∧ r.ag = false ∧ r.step = step.toNat ∧ r.live = false) ∧
        (ringReach s c false = true → (∀ g ∈ heldGabbros s (ringRanges c false), winOpen s g = false) → s.excl = [] → s.ecc = [] → rcPolicy c.record ≠ 1 →
          Waits (.ringRs src k step) s src 0x0402 (.ring k.toNat) fun u => u.mem = s.mem ∧ fld u (R_FLD_RING_STATUS k.toNat) F_FLD_RING_STATUS_ACTIVE = 2 ∧
            ∃ r, (slotGet u k.toNat).run = some r ∧ r.id = s.nextId ∧ r.live = true ∧ r.level = 0 ∧ r.phase = 0 ∧
              r.todo = (blocksOf (0, rcB c.record)).filter fun b => !(rcFirst c.record 0 b)) ∧
        (ringReach s c true = true → (∃ g ∈ heldGabbros s (ringRanges c true), winOpen s g = true) →
          Waits (.ringAg src k step) s src 0x0403 (.ring k.toNat) fun u => u.mem = s.mem ∧ fld u (R_FLD_RING_STATUS k.toNat) F_FLD_RING_STATUS_ACTIVE = 3 ∧
            ctrGet u (R_FLD_RING_STEP k.toNat) = step ∧ ∃ r, (slotGet u k.toNat).run = some r ∧ r.id = s.nextId ∧ r.ag = true ∧ r.live = false))) ∧
    ((slotGet s k.toNat).cfg ≠ none → Ends (.ringRelease src k) s src 0x0404 (.ok []) fun u => (slotGet u k.toNat).cfg = none ∧
      fld u (R_FLD_RING_STATUS k.toNat) F_FLD_RING_STATUS_CONFIGURED = 0 ∧
      fld u (R_FLD_RING_STATUS k.toNat) F_FLD_RING_STATUS_LAST_STATUS = 0 ∧ u.mem = s.mem ∧ ∀ j, j ≠ k.toNat → slotGet u j = slotGet s j) ∧
    ((slotGet s k.toNat).cfg = none → Ends (.ringRelease src k) s src 0x0404 (.no 0x040B) fun u => u.mem = s.mem ∧ u.regs = s.regs) ∧
    (∀ (a : DWord) rec c ps, PlainReads s → inOneRange a.toNat 832 = true → cmdReach s (takenAs 0x0501 src [] s) a.toNat 832 = true →
      rec = seen s a.toNat 832 → fieldLE rec 0 1 = k.toNat → (sliceZ rec 1 63).all (· == 0#8) = true → (slotGet s k.toNat).cfg = some c →
      ps.length = 12 →
      (∀ m < 12, ∀ p, p = ps.getD m ⟨0, 0, 0, 0, [], 0, []⟩ →
        p.first = fieldLE rec (64 + 64 * m) 4 ∧ p.count = fieldLE rec (68 + 64 * m) 4 ∧ p.wBase = fieldLE rec (72 + 64 * m) 8 ∧
        p.tailBase = fieldLE rec (80 + 64 * m) 8 ∧ p.table = fieldLE rec (120 + 64 * m) 8 ∧ p.slots = (List.range 4).map (fun i => fieldLE rec (88 + 64 * m + 8 * i) 8) ∧
        (p.count = 0 → p.table = 0 ∧ p.tensors = []) ∧
        (p.count ≠ 0 → partOk s m p = true ∧ cmdReach s (takenAs 0x0501 src [] s) p.table 32 = true ∧
          ∃ es, TableAt s p.table 32 4 4096 es ∧ inFlint s m p.table (32 * (es.length + 1)) = true ∧ p.tensors = es.map tensorOf ∧ es.all (tensorOk s m) = true ∧
            tensorsRise p.count 0 p.tensors = true)) →
      partsDivide ((shardBlocks c).2 - (shardBlocks c).1) 0 ps = true →
      ∃ r : Reply, r.status = 0 ∧ r.data = [] ∧ Ends (.updCfg src a) s src 0x0501 r fun u => u.upd = some ⟨k.toNat, ps⟩ ∧ u.mem = s.mem ∧
        ∀ m < 12, fld u (R_FLT_UPD_STATUS (fltDie m)) F_FLT_UPD_STATUS_CONFIGURED = 1) ∧
    (∀ (mask a : DWord) bs, PlainReads s → mask.toNat ≠ 0 → inOneRange a.toNat 6144 = true → cmdReach s (takenAs 0x0502 src [] s) a.toNat 6144 = true →
      bs = seen s a.toNat 6144 →
      (∀ j ∈ setBits 64 mask.toNat, coefOk (coefOf fun n => BitVec.ofNat 32 (fieldLE bs (96 * j + 4 * n) 4))
        ((List.range 5).map fun i => BitVec.ofNat 32 (fieldLE bs (96 * j + 4 * (19 + i)) 4)) = true) →
      ∃ r : Reply, r.status = 0 ∧ r.data = leBytes 4 (regGet s (R_FLT_UPD_COEF_GEN (fltDie 0)) + 1).toNat ∧
        Ends (.updCoefSet src mask a) s src 0x0502 r fun u => u.mem = s.mem ∧
          (∀ m < 12, regGet u (R_FLT_UPD_COEF_GEN (fltDie m)) = regGet s (R_FLT_UPD_COEF_GEN (fltDie m)) + 1 ∧
            ∀ j < 64, ∀ n < 24, regGet u (R_FLT_UPD_COEF (fltDie m) j n) =
              if bitOf mask.toNat j then BitVec.ofNat 32 (fieldLE bs (96 * j + 4 * n) 4) else regGet s (R_FLT_UPD_COEF (fltDie m) j n))) ∧
    (∀ a : DWord, Ends (.updCoefSet src 0 a) s src 0x0502 (.no 0x0102) fun u => u.mem = s.mem ∧ u.regs = s.regs) ∧
    (∀ step : DWord,
      (∀ st, updCheck s step.toNat = some st → Ends (.updRun src step) s src 0x0503 (.no st) fun u => u.mem = s.mem ∧ u.regs = s.regs) ∧
      (∀ c rc, updCheck s step.toNat = none → s.upd = some c → (slotGet s c.slot).cfg = some rc →
        (∃ g ∈ heldGabbros s (updRanges rc), winOpen s g = true) →
        Waits (.updRun src step) s src 0x0503 .upd fun u => u.mem = s.mem ∧ (∃ x, u.rings.updRun = some x ∧ x.id = s.nextId) ∧
          (∀ g ∈ heldGabbros s (updRanges rc), excluded u g = true) ∧ ∀ m < 12, fld u (R_FLT_UPD_STATUS (fltDie m)) F_FLT_UPD_STATUS_BUSY = 1 ∧
            regGet u (R_FLT_UPD_DONE_BLOCKS (fltDie m)) = 0 ∧ ctrGet u (R_FLT_UPD_STEP (fltDie m)) = step))

/-- 10:R222, R225, R228, R236-R241, R243: a configuration hello that the exchange requires counts off its port, and the last one installs the
configuration; another ends the exchange. A start hello for a slot that is idle is kept for it; one that agrees lets go what
was held back from its port; one that disagrees, an abort token and a lack of progress end the run with their status and fail
the step. A block that its pass owes is added to and sent on, or stored at its all-gather place; an early one waits; a
block that NEXT asks for again leaves again. A level without marks gives way to the closing phase, which ends the run with its verdict. (The kept hellos and NEXT's request by a header
without payload are the model's: assumptions 50 and 80.) -/
def Obligations.RingEvents : Prop :=
  ∀ s : State,
    (∀ (p : Fin 48) (id : Word) (lv : Byte) (pos : Half) (dig : List Byte) (h : Hello), h = ⟨id.toNat, lv.toNat, pos.toNat, dig, 0⟩ →
      ((∀ k < 8, ∀ x, (slotGet s k).exch = some x → x.2.2.contains p.val = false) →
        ∃ t, exec (.ringConfigHello p id lv pos dig) s = .next t ∧ tabFind t.rings.cfgHellos p = some (uptimeUs s, h) ∧
          (∀ k, slotGet t k = slotGet s k) ∧ t.regs = s.regs ∧ t.ctrs = s.ctrs ∧ t.mem = s.mem ∧ t.cmds = s.cmds) ∧
      (∀ k i c left, k < 8 → (slotGet s k).exch = some (i, c, left) → left.contains p.val = true →
        (∀ j < k, ∀ x, (slotGet s j).exch = some x → x.2.2.contains p.val = false) →
        (helloOk c p h = true → left.filter (· ≠ p.val) ≠ [] → Pumped (.ringConfigHello p id lv pos dig) s fun u =>
          (slotGet u k).exch = some (i, c, left.filter (· ≠ p.val)) ∧ u.regs = s.regs ∧ u.mem = s.mem) ∧
        (helloOk c p h = true → left.filter (· ≠ p.val) = [] → rcTable c.record = false → Pumped (.ringConfigHello p id lv pos dig) s fun u =>
          (slotGet u k).exch = none ∧ (slotGet u k).cfg = some c ∧ fld u (R_FLD_RING_STATUS k) F_FLD_RING_STATUS_CONFIGURED = 1 ∧
          fld u (R_FLD_RING_STATUS k) F_FLD_RING_STATUS_LAST_STATUS = 0 ∧
          ∀ n < 4, (regGet u (R_FLD_RING_DIGEST k n)).toNat = fieldLE c.digest (4 * n) 4) ∧
        (helloOk c p h = false → Pumped (.ringConfigHello p id lv pos dig) s fun u => (slotGet u k).exch = none ∧ (slotGet u k).cfg = none ∧
          fld u (R_FLD_RING_STATUS k) F_FLD_RING_STATUS_LAST_STATUS = 0x0405))) ∧
    (∀ k : Fin 8,
      ((slotGet s k).exch ≠ none → Pumped (.ringHelloTimeout k) s fun u => (slotGet u k).exch = none ∧ (slotGet u k).cfg = none ∧
        fld u (R_FLD_RING_STATUS k) F_FLD_RING_STATUS_LAST_STATUS = 0x040A) ∧
      ((slotGet s k).exch = none → Pumped (.ringHelloTimeout k) s fun u => u = s)) ∧
    (∀ (p : Fin 48) (id : Word) (lv : Byte) (pos : Half) (dig : List Byte) (step : DWord) (h : Hello),
      h = ⟨id.toNat, lv.toNat, pos.toNat, dig, step.toNat⟩ →
      ((∀ k < 8, (slotGet s k).run = none) → Pumped (.ringStartHello p id lv pos dig step) s fun u => tabFind u.rings.hellos (helloKey p id.toNat) = some h ∧
        (∀ k, slotGet u k = slotGet s k) ∧ u.regs = s.regs ∧ u.mem = s.mem) ∧
      (∀ j < 8, ∀ d, (slotGet s j).cfg = some d → namesPort d p = true → fieldLE d.record 0 4 = id.toNat → ringSlotOf s p id.toNat = none →
        Pumped (.ringStartHello p id lv pos dig step) s fun u => tabFind u.rings.hellos (helloKey p id.toNat) = some h ∧
          (∀ k, slotGet u k = slotGet s k) ∧ u.regs = s.regs ∧ u.mem = s.mem ∧ u.outs = s.outs) ∧
      (∀ k c r, ringSlotOf s p id.toNat = some k → (slotGet s k).cfg = some c → (slotGet s k).run = some r →
        (helloOk c p h = true → r.step = step.toNat →
          (p.val ∈ r.greeted → Pumped (.ringStartHello p id lv pos dig step) s fun u => tabFind u.rings.hellos (helloKey p id.toNat) = some h ∧
            (∀ j, slotGet u j = slotGet s j) ∧ u.regs = s.regs ∧ u.mem = s.mem ∧ u.outs = s.outs) ∧
          (p.val ∉ r.greeted → r.ag = false → r.kept = [] → Pumped (.ringStartHello p id lv pos dig step) s fun u =>
            (slotGet u k).run = some { r with greeted := p.val :: r.greeted } ∧ u.regs = s.regs ∧ u.mem = s.mem ∧ u.outs = s.outs) ∧
          (∀ ph ta hd pay, p.val ∉ r.greeted → r.ag = false → r.kept = [(p.val, ph, ta, hd, pay)] → ph ≠ 3 → bitOf (fieldLE c.record 7 1) 0 = false →
            pay.length = 1024 → Pumped (.ringStartHello p id lv pos dig step) s fun u => (slotGet u k).run = some { r with greeted := p.val :: r.greeted, kept := [] } ∧
              u.mem = s.mem ∧ SentOn s u p frRingBlock (hd ++ ringPayload ta pay))) ∧
        ((∀ j < 8, ∀ d, (slotGet s j).cfg = some d → helloOk d p h = false) → Pumped (.ringStartHello p id lv pos dig step) s fun u => RingEnded u k 0x0405 ∧ u.stepFailed = true) ∧
        (helloOk c p h = true → r.step ≠ step.toNat →
          Pumped (.ringStartHello p id lv pos dig step) s fun u => RingEnded u k 0x0408 ∧ u.stepFailed = true))) ∧
    (∀ (p : Fin 48) (id : Word) (st : Half),
      (∀ k, ringSlotOf s p id.toNat = some k → Pumped (.ringAbortToken p id st) s fun u => RingEnded u k 0x0409 ∧ u.stepFailed = true) ∧
      (ringSlotOf s p id.toNat = none → ∃ t, exec (.ringAbortToken p id st) s = .next t ∧ tabFind t.rings.hellos (helloKey p id.toNat) = none ∧
        (∀ q, q ≠ helloKey p id.toNat → tabFind t.rings.hellos q = tabFind s.rings.hellos q) ∧ { t with rings := s.rings } = s ∧ t.rings.slots = s.rings.slots)) ∧
    (∀ k : Fin 8,
      (∀ c r, (slotGet s k).cfg = some c → (slotGet s k).run = some r → r.live = true → (passDone r = false ∨ r.kept ≠ []) →
        Pumped (.ringProgressTimeout k) s fun u => RingEnded u k 0x040A ∧ u.stepFailed = true) ∧
      ((∀ r, (slotGet s k).run = some r → r.live = false ∨ (passDone r = true ∧ r.kept = [])) → Pumped (.ringProgressTimeout k) s fun u => u = s)) ∧
    (∀ (p : Fin 48) (bs : List Byte) (ups : List Before), bs.length = 64 → bitOf (fieldLE bs 16 2) 5 = false →
      ((∀ k < 8, ∀ c, (slotGet s k).cfg = some c → fieldLE c.record 0 4 ≠ fieldLE bs 0 4 ∨ nextOf c.record p = none) →
        Pumped (.ringBlockArrival p bs ups) s fun u => u = upsets s ups) ∧
      (∀ k c r l i a, k < 8 → (slotGet s k).cfg = some c → fieldLE c.record 0 4 = fieldLE bs 0 4 → nextOf c.record p = some (l, i) →
        (∀ j < k, ∀ d, (slotGet s j).cfg = some d → fieldLE d.record 0 4 ≠ fieldLE bs 0 4 ∨ nextOf d.record p = none) →
        (slotGet s k).run = none → (slotGet s k).lastAg = some r → fieldLE bs 4 8 = r.step → agHolds c r l (fieldLE bs 12 4) = true →
        a = (agAt (rcElemBytes c.record) c.ags (fieldLE bs 12 4)).1 → rcAgScaled c.record = false → bitOf (fieldLE c.record 7 1) 1 = false →
        PlainReads s → ups = [] → Pumped (.ringBlockArrival p bs ups) s fun u => u.mem = s.mem ∧ u.regs = s.regs ∧
          ∃ head, SentOn s u p frRingBlock (head ++ agPayload c (seen s a (rcElemBytes c.record)) []) ∧ head.length = 64)) ∧
    (∀ (p : Fin 48) (bs : List Byte) (ups : List Before), (bs.length = 64 → bitOf (fieldLE bs 16 2) 5 = true) →
      (ringSlotOf s p (fieldLE bs 0 4) = none → Pumped (.ringBlockArrival p bs ups) s fun u => u = upsets s ups) ∧
      (∀ k c r, ringSlotOf s p (fieldLE bs 0 4) = some k → (slotGet s k).cfg = some c → (slotGet s k).run = some r →
        (bitOf (fieldLE bs 16 2) 5 = true → Pumped (.ringBlockArrival p bs ups) s fun u => RingEnded u k 0x0409 ∧ u.stepFailed = true) ∧
        (bitOf (fieldLE bs 16 2) 5 = false → fieldLE bs 4 8 ≠ r.step →
          Pumped (.ringBlockArrival p bs ups) s fun u => RingEnded u k 0x0408 ∧ u.stepFailed = true) ∧
        (bitOf (fieldLE bs 16 2) 5 = false → fieldLE bs 4 8 = r.step → ringNow r bs = false →
          Pumped (.ringBlockArrival p bs ups) s fun u => (slotGet u k).run = some { r with early := r.early ++ [(p.val, bs)] } ∧ u.mem = s.mem) ∧
        (∀ stripe b, bitOf (fieldLE bs 16 2) 5 = false → fieldLE bs 4 8 = r.step → ringNow r bs = true → r.early = [] →
          ((rcStripes c.record r.level).find? fun i => (rcPair c.record r.level i).1 == p.val) = some stripe →
          fieldLE bs 52 4 = tabGet r.seqRx (r.level * 16 + stripe) 0 → (crc32c (bs.drop 64)).toNat = fieldLE bs 48 4 →
          b = fieldLE bs 12 4 → bitOf (fieldLE bs 16 2) 6 = false → b ∈ r.todo → (∃ x ∈ r.todo, x ≠ b) → s.ecc = [] → ups = [] →
          (r.phase = 3 → ∀ a, a = (agAt (rcElemBytes c.record) c.ags b).1 → rcAgScaled c.record = false →
            (rcPos c.record r.level + 1) % rcN c.record r.level = rcOwner c.record r.level b → homeUp s (stripeDie c r stripe) a = true →
            Plain s a (rcElemBytes c.record) → Pumped (.ringBlockArrival p bs ups) s fun u =>
              Stored s u a (sliceZ (bs.drop 64) 0 (rcElemBytes c.record)) ∧
              ∃ x, (slotGet u k).run = some x ∧ x.todo = r.todo.filter (· ≠ b) ∧ x.got = r.got + 1) ∧
          (r.phase = 0 → r.level = 0 → r.dropped = false → bitOf (fieldLE c.record 7 1) 0 = false → r.ready = [] →
            rcOwner c.record 0 b ≠ rcPos c.record 0 → s.coh.dir = [] → (rcPair c.record 0 stripe).2 ∈ r.greeted → ∀ y b' rest,
            y = (hopAdd (readBlk bs (bs.drop 64))
              (entryBlk (rcTally c.record) (ringX c r b) 1 (payloadWords (seen s (segAt c.segs b) 1024))).1).1 →
            tabGet r.turn stripe [] = b' :: rest → Pumped (.ringBlockArrival p bs ups) s fun u => u.mem = s.mem ∧
              (∃ x, (slotGet u k).run = some x ∧ x.todo = r.todo.filter (· ≠ b) ∧
                (b' ≠ b → x.ready = [(stripe, b, y)]) ∧ (b' = b → x.ready = [] ∧ tabGet x.turn stripe [] = rest)) ∧
              (b' ≠ b → u.outs = s.outs) ∧
              (b' = b → ∃ head, SentOn s u (rcPair c.record 0 stripe).2 frRingBlock (head ++ ringPayload y.tally (wordsPayload y.words)) ∧
                head.length = 64))))) ∧
    (∀ (k : Fin 8) (marks : List (Nat × Fin 4)),
      (∀ c r, (slotGet s k).cfg = some c → (slotGet s k).run = some r → r.live = true → r.phase = 0 → passDone r = true → r.ag = false →
        r.early = [] → r.marks = [] → (∀ m ∈ marks, m.2.val = 0 ∨ m.1 < (rcVector c.record r.level).1 ∨ (rcVector c.record r.level).2 ≤ m.1) →
        r.level + 1 = rcLevels c.record → Pumped (.repassStart k marks) s fun u => (∃ x, (slotGet u k).run = some x ∧ x.phase = 2) ∧
          fld u (R_FLD_RING_STATUS k) F_FLD_RING_STATUS_PHASE = 2 ∧ u.mem = s.mem ∧
          ∃ l m q, (rcTable c.record = false → l = []) ∧ (rcN c.record r.level ≤ 2 → m = []) ∧ u.outs = l ++ .frame (rcPair c.record 0 0).1 frRingMap q (linkFrame frRingMap q
            (portAckSeq s (rcPair c.record 0 0).1) (verdictBytes r.step (verdictJoin r.verdict (verdictOf (r.mains.map Prod.snd))))) :: (m ++ s.outs)) ∧
      (∀ c r b, (slotGet s k).cfg = some c → (slotGet s k).run = some r → r.live = true → r.phase = 0 → passDone r = true → r.ag = false →
        r.early = [] → s.ecc = [] → (∃ m ∈ r.marks, m.1 = b) → b ∈ blocksOf (rcVector c.record r.level) → rcFirst c.record r.level b = false →
        Pumped (.repassStart k marks) s fun u => (∃ x, (slotGet u k).run = some x ∧ x.phase = 1 ∧ b ∈ x.todo) ∧
          fld u (R_FLD_RING_STATUS k) F_FLD_RING_STATUS_PHASE = 1 ∧ u.mem = s.mem) ∧
      ((∀ r, (slotGet s k).run = some r → r.live = false ∨ r.phase ≠ 0 ∨ passDone r = false ∨ r.ag = true) →
        Pumped (.repassStart k marks) s fun u => u = s)) ∧
    (∀ (k : Fin 8) (v : RingVote) (xs : List Byte),
      (∀ c r, (slotGet s k).cfg = some c → (slotGet s k).run = some r → r.phase = 2 →
        (∀ a, a = fieldLE c.record 200 8 + (1 - fld s (R_FLD_RING_STATUS k) F_FLD_RING_STATUS_EXP_BUF) * rcExpBytes c.record →
          rcTable c.record = true → homeUp s (fldDie 0) a = true ∧ Plain s a (64 + r.xs.length)) →
        ∀ j, j = verdictJoin r.verdict ⟨v.flags.toNat, v.nonfinite, v.repassed, v.retried, some v.low, v.high, v.scale⟩ →
        Pumped (.closingPhase k v xs) s fun u =>
          RingEnded u k (if (rcPolicy c.record = 0 ∧ bitOf j.flags 0 = true) ∨ (rcPolicy c.record = 1 ∧ (bitOf j.flags 2 = true ∨ j.low.getD 0 = 0)) then 0x0402
            else if j.scale then 0x0403 else 0) ∧
          regGet u (R_FLD_RING_CONTRIB k) = BitVec.ofNat 32 (j.low.getD 0) ∧ regGet u (R_FLD_RING_REPASS k) = BitVec.ofNat 32 j.repassed ∧
          regGet u (R_FLD_RING_RETRY k) = BitVec.ofNat 32 j.retried ∧ regGet u (R_FLD_RING_NF_BLOCKS k) = BitVec.ofNat 32 j.nonfinite) ∧
      ((∀ r, (slotGet s k).run = some r → r.phase ≠ 2) → Pumped (.closingPhase k v xs) s fun u => u = s))

/-! ### Mica (12_mica_codec.md). -/

/-- R277-R279, R283, R284, R287-R292: MICA_TABLE_LOAD holds a valid table in a FREE epoch; MICA_TABLE_RETIRE begins a retirement, which is
complete once every port has acknowledged and no reference is left; advertisements and acknowledgements are noted; a block of a
payload that the receiver waits for is delivered, or flagged and asked for again, its frame being awaited anew; what an earlier
reception of the frame gave is not counted twice. -/
def Obligations.MicaEpochs : Prop :=
  ∀ s : State,
    (∀ (src : Src) (e : Byte) (a : DWord), s.Serving →
      (∀ bs, e.toNat ≤ 3 → a.toNat % 64 = 0 → (regionOf s a.toNat).isMem = true → cmdReach s (takenAs 0x0601 src [] s) a.toNat 64 = true →
        PlainReads s → bs = seen s a.toNat 64 → micaImageOk bs = true →
        (micaState s e.toNat = 0 → ∃ r : Reply, r.status = 0 ∧ r.data = leBytes 4 ((s.mica.last + 1) % 2 ^ 32) ++ leBytes 4 0 ++ leBytes 8 (micaHashOf bs) ∧
          Ends (.micaTableLoad src e a) s src 0x0601 r fun u => micaState u e.toNat = 1 ∧ tabFind u.mica.tables e.toNat = some bs ∧
            micaHash u e.toNat = micaHashOf bs ∧ u.mem = s.mem) ∧
        (micaState s e.toNat ≠ 0 → ∃ r : Reply, r.status = 0x0603 ∧ Ends (.micaTableLoad src e a) s src 0x0601 r fun u => u.mem = s.mem ∧ u.mica = s.mica)) ∧
      (3 < e.toNat ∨ a.toNat % 64 ≠ 0 ∨ (regionOf s a.toNat).isMem = false → Ends (.micaTableLoad src e a) s src 0x0601 (.no 0x0102) (Unchanged s)) ∧
      (e.toNat ≤ 3 → micaState s e.toNat = 1 → Waits (.micaTableRetire src e) s src 0x0602 (.micaRetire e.toNat) fun u => micaState u e.toNat = 2 ∧
        micaHash u e.toNat = micaHash s e.toNat ∧ u.mem = s.mem ∧ u.mica = s.mica) ∧
      (e.toNat ≤ 3 → micaState s e.toNat = 0 → Ends (.micaTableRetire src e) s src 0x0602 (.no 0x0602) (Unchanged s)) ∧
      (e.toNat ≤ 3 → micaState s e.toNat = 2 → Ends (.micaTableRetire src e) s src 0x0602 (.no 0x0603) (Unchanged s))) ∧
    (∀ e : Fin 4,
      (micaState s e = 2 → (∀ p < 48, portYoger s p = true → (e.val, p) ∈ s.mica.acks) → (∀ l < 8, micaRefs s l e = 0) →
        ∃ u, micaState u e = 0 ∧ tabFind u.mica.tables e = none ∧ u.mem = s.mem ∧
          ((∀ x ∈ s.cmds.taken, x.wait ≠ .micaRetire e) → exec (.micaRetireComplete e) s = .next u) ∧
          (∀ x, (s.cmds.taken.find? fun x => x.wait == .micaRetire e) = some x →
            exec (.micaRetireComplete e) s = .next (finish u x (.ok (leBytes 8 (tabGet s.mica.decoded e 0)))))) ∧
      (micaState s e ≠ 2 ∨ (∃ p < 48, portYoger s p = true ∧ (e.val, p) ∉ s.mica.acks) ∨ (∃ l < 8, micaRefs s l e ≠ 0) →
        exec (.micaRetireComplete e) s = .next s)) ∧
    (∀ (p : Fin 48) (states : List (Fin 3 × DWord)),
      (portYoger s p = true → ∃ t, exec (.micaAdvertisement p states) s = .next t ∧
        (portGet t p).ads = (states.map fun a => (a.1.val, a.2.toNat)).take 4 ∧ t.regs = s.regs ∧ t.ctrs = s.ctrs ∧ t.mem = s.mem) ∧
      (portYoger s p = false → exec (.micaAdvertisement p states) s = .next s)) ∧
    (∀ (p : Fin 48) (e : Fin 4),
      (portYoger s p = true → micaState s e = 2 → ∃ t, exec (.micaRetireAck p e) s = .next t ∧ (e.val, p.val) ∈ t.mica.acks ∧
        { t with mica := s.mica } = s ∧ t.mica.tables = s.mica.tables) ∧
      (portYoger s p = false ∨ micaState s e ≠ 2 → exec (.micaRetireAck p e) s = .next s)) ∧
    (∀ (p : Fin 48) (q : Half) (pay : MicaPay) (b : List Byte),
      (portYoger s p = false ∨ micaDue s p pay = none → exec (.micaBlockDecode p q pay b) s = .next s) ∧
      (∀ g fmt left f, portYoger s p = true → micaDue s p pay = some (g, fmt, left) → f = fmt.getD (bitsOf (fieldLE b 0 4) 12 4) →
        (∀ bs e, micaDecode s f ((micaGiven s p q.toNat).getD left) b = .ok bs e → ∃ t, exec (.micaBlockDecode p q pay b) s = .next t ∧
          t.outs = .block p bs :: s.outs ∧ t.regs = s.regs ∧ t.ctrs = s.ctrs ∧ t.mem = s.mem ∧
          (∀ x, tabGet t.mica.decoded x 0 = tabGet s.mica.decoded x 0 + b2n (e == some x)) ∧
          (g = none → t.scheds = s.scheds) ∧
          ∀ h id n r, g = some h → pay = .transfer id n → recvFind s h id.toNat = some r →
            recvFind t h id.toNat = some { r with fmt := some f, got := r.got + (if (micaGiven s p q.toNat).isSome then 0 else bs.length) }) ∧
        (∀ bit cnt, (micaDecode s f ((micaGiven s p q.toNat).getD left) b = .bad ∧ bit = F_FLD_MICA_ERR_LEN_MISMATCH ∧ cnt = R_FLD_MICA_LEN_MISMATCH (portDie p)) ∨
            (micaDecode s f ((micaGiven s p q.toNat).getD left) b = .absent ∧ bit = F_FLD_MICA_ERR_EPOCH_ABSENT ∧ cnt = R_FLD_MICA_EPOCH_ABSENT (portDie p)) →
          ∃ t, exec (.micaBlockDecode p q pay b) s = .next t ∧ flag t (R_FLD_MICA_ERR (portDie p)) bit = true ∧ Counted s t cnt 1 ∧
            t.outs = .frame p frNak q.toNat (linkFrame frNak q.toNat (portAckSeq t p) []) :: s.outs ∧ t.mem = s.mem ∧ t.scheds = s.scheds ∧
            (portGet t p).rxSeq = (if (seqBack s p q.toNat).isSome then q.toNat else (portGet s p).rxSeq))))

/-- R274-R282: the code loses nothing. What a receiver that holds the table decodes from a coded block of 64 elements is those elements,
bit for bit, whatever valid map the table holds; and a raw block gives its bytes. -/
def Obligations.MicaLossless : Prop :=
  ∀ (s : State) (f left : Nat), micaFmtOk f = true → micaRaw f ≤ left →
    (∀ (e : Nat) (image : List Byte) (cs : List Nat), e < 4 → tabFind s.mica.tables e = some image → micaMapOk (micaMap image f) = true →
      cs.length = 64 → (∀ c ∈ cs, c < 2 ^ (fmtInfo f).width) →
      micaDecode s f left (micaCoded (micaMap image f) f e cs) = .ok (packCodes f cs) (some e)) ∧
    (∀ bs : List Byte, bs.length = micaRaw f → micaDecode s f left (micaRawBlock f bs) = .ok bs none)

/-! ### Cable ports (13_off_package_links.md). -/

/-- R299-R302, R304, R311; 18:R426: a training goes through DETECT, ALIGN and IDENTIFY and ends UP, REFUSED or FAILED, fewer than six lanes
or a time limit failing it; LINK_CFG configures its ports and trains them, LINK_TRAIN trains them, LINK_DOWN takes them down; a
port retrains by itself as its configuration says. A port that loses its signal counts as having acknowledged a retirement
(12:R290). -/
def Obligations.LinksTrained : Prop :=
  ∀ (s : State) (p : Fin 48),
    (∀ sh op si : Byte, ∀ left, left = 255 - (sh.toNat ||| op.toNat ||| si.toNat) →
      (portState s p = 1 → yogerCfg s p = true → 6 ≤ laneCount left → ∃ t, exec (.trainDetectDone p sh op si) s = .next t ∧ portState t p = 2 ∧
        (portGet t p).lanes = left ∧ fld t (R_FLD_PORT_LANES (portDie p) (portLoc p)) F_FLD_PORT_LANES_SHORTED = sh.toNat ∧
        fld t (R_FLD_PORT_LANES (portDie p) (portLoc p)) F_FLD_PORT_LANES_RETIRED = 255 - left ∧
        RegsBut s t [R_FLD_PORT_STATUS (portDie p) (portLoc p), R_FLD_PORT_LANES (portDie p) (portLoc p)] ∧ t.mem = s.mem) ∧
      (portState s p = 1 → yogerCfg s p = true → laneCount left < 6 → ∃ t, exec (.trainDetectDone p sh op si) s = .next t ∧ portState t p = 6 ∧
        flag t (R_FLD_PORT_ERR (portDie p) (portLoc p)) F_FLD_PORT_ERR_TRAIN_FAILED = true) ∧
      (portState s p ≠ 1 ∨ yogerCfg s p = false → exec (.trainDetectDone p sh op si) s = .next s)) ∧
    (∀ lk inv : Byte, ∀ left, left = (portGet s p).lanes &&& lk.toNat →
      (portState s p = 2 → yogerCfg s p = true → 6 ≤ laneCount left → ∃ t l, exec (.trainAlignDone p lk inv) s = .next t ∧ portState t p = 3 ∧
        (portGet t p).lanes = left ∧ fld t (R_FLD_PORT_LANES (portDie p) (portLoc p)) F_FLD_PORT_LANES_INVERTED = (inv.toNat &&& left) ∧
        t.outs = l ++ s.outs ∧ l.length = laneCount left ∧ (∀ o ∈ l, ∃ n, o = .frame p frIdentity 0 (identBytes s p n)) ∧ t.mem = s.mem) ∧
      (portState s p = 2 → yogerCfg s p = true → laneCount left < 6 → ∃ t, exec (.trainAlignDone p lk inv) s = .next t ∧ portState t p = 6) ∧
      (portState s p ≠ 2 ∨ yogerCfg s p = false → exec (.trainAlignDone p lk inv) s = .next s)) ∧
    (∀ (n : Fin 8) (bs : List Byte),
      ∀ ok : Bool, ok = (portState s p == 3 && yogerCfg s p && bitOf (portGet s p).lanes n && bs.length == 32 && fieldLE bs 11 1 == 1 &&
        fieldLE bs 28 4 == (crc32c (bs.take 28)).toNat) →
      (ok = true → ∃ t, exec (.identityFrame p n bs) s = .next t ∧ tabFind (portGet t p).idents n = some bs ∧ { t with ports := s.ports } = s) ∧
      (ok = false → exec (.identityFrame p n bs) s = .next s)) ∧
    (∀ n f rest, (portGet s p).idents = (n, f) :: rest → portState s p = 3 → yogerCfg s p = true →
      (identRefused s p (portGet s p).idents f = false → 6 ≤ (portGet s p).idents.length →
        ∃ t, exec (.trainIdentifyDone p) s = .next t ∧ portState t p = 4 ∧ portMode t p = portCfgMode s p ∧
          fld t (R_FLD_PORT_STATUS (portDie p) (portLoc p)) F_FLD_PORT_STATUS_WIDTH = laneCount (ofBits ((portGet s p).idents.map Prod.fst)) ∧
          portPeer t p = fieldLE f 0 8 ∧ fld t (R_FLD_PORT_PEER_INFO (portDie p) (portLoc p)) F_FLD_PORT_PEER_INFO_PEER_TAG = fieldLE f 12 2) ∧
      (identRefused s p (portGet s p).idents f = true → ∃ t, exec (.trainIdentifyDone p) s = .next t ∧ portState t p = 5 ∧
        fld t (R_FLD_PORT_STATUS (portDie p) (portLoc p)) F_FLD_PORT_STATUS_LAST_STATUS = 0x0B03 ∧
        flag t (R_FLD_PORT_ERR (portDie p) (portLoc p)) F_FLD_PORT_ERR_PEER_REFUSED = true)) ∧
    ((portGet s p).idents = [] ∨ portState s p ≠ 3 → exec (.trainIdentifyDone p) s = .next s) ∧
    (1 ≤ portState s p → portState s p ≤ 3 → yogerCfg s p = true → ∃ t, exec (.trainTimeout p) s = .next t ∧ portState t p = 6 ∧
      fld t (R_FLD_PORT_STATUS (portDie p) (portLoc p)) F_FLD_PORT_STATUS_LAST_STATUS = 0x0B04 ∧
      flag t (R_FLD_PORT_ERR (portDie p) (portLoc p)) F_FLD_PORT_ERR_TRAIN_FAILED = true) ∧
    (portState s p = 0 ∨ 3 < portState s p ∨ yogerCfg s p = false → exec (.trainTimeout p) s = .next s) ∧
    (portYoger s p = true → ∃ t, exec (.signalLoss p) s = .next t ∧ portState t p = 7 ∧ (portGet t p).dark = true ∧
      flag t (R_FLD_PORT_ERR (portDie p) (portLoc p)) F_FLD_PORT_ERR_DOWN = true ∧
      flag t (R_FLD_PORT_ERR (portDie p) (portLoc p)) F_FLD_PORT_ERR_TRAIN_FAILED = true ∧
      ∀ e < 4, micaState s e = 2 → (e, p.val) ∈ t.mica.acks) ∧
    (portYoger s p = false → ∃ t, exec (.signalLoss p) s = .next t ∧ (portGet t p).dark = true ∧ { t with ports := s.ports } = s) ∧
    ((portGet s p).dark = false → exec (.signalReturn p) s = .next s) ∧
    ((portGet s p).dark = true → yogerCfg s p = true → (portGet s p).still = false →
      portState s p = 5 ∨ ((portState s p = 6 ∨ portState s p = 7) ∧ portAuto s p = true) →
      ∃ t, exec (.signalReturn p) s = .next t ∧ portState t p = 1 ∧ (portGet t p).dark = false ∧ t.mem = s.mem ∧
        regGet t (R_FLD_PORT_TRAINS (portDie p) (portLoc p)) = regGet s (R_FLD_PORT_TRAINS (portDie p) (portLoc p)) + 1) ∧
    ((portState s p = 6 ∨ portState s p = 7) → yogerCfg s p = true → portAuto s p = true → ∃ t, exec (.autoRetrain p) s = .next t ∧ portState t p = 1 ∧
      regGet t (R_FLD_PORT_TRAINS (portDie p) (portLoc p)) = regGet s (R_FLD_PORT_TRAINS (portDie p) (portLoc p)) + 1 ∧ t.mem = s.mem) ∧
    ((portState s p ≠ 6 ∧ portState s p ≠ 7) ∨ portAuto s p = false → exec (.autoRetrain p) s = .next s) ∧
    (∃ t, exec (.portWake p) s = .next t ∧ t.asleep = s.asleep.filter (· ≠ p.val) ∧ { t with asleep := s.asleep } = s) ∧
    (∀ id x ps, (s.cmds.taken.find? fun t => t.id == id) = some x → x.wait = .linkTrain ps →
      exec (.linkTrainReplyTimeout id) s = .next (finish s x (.done (linkStatusOf s ps) (leBytes 6 (ofBits (ps.filter (portUp s))))))) ∧
    (∀ (src : Src) (m : BitVec 48), s.Serving → (∀ x ∈ s.cmds.taken, x.id < s.nextId) →
      (∀ (mode rate fl : Byte) (tag : Half) (eid : DWord) (ep : Byte),
        (portList m ≠ [] → mode.toNat ≤ 3 → rate.toNat ≤ 5 → (bitOf fl.toNat 2 = true → (portList m).length ≤ 1) → portsBusy s false m = false →
          Waits (.linkCfg src m mode rate fl tag eid ep) s src 0x0B01 (.linkTrain (portList m)) fun u => ∀ q ∈ portList m,
            portState u q = (if mode = 0 then 0 else 1) ∧ portCfgMode u q = mode.toNat ∧
            fld u (R_FLD_PORT_CFG (portDie q) (portLoc q)) F_FLD_PORT_CFG_NET_TAG = tag.toNat ∧
            fld u (R_FLD_PORT_CFG (portDie q) (portLoc q)) F_FLD_PORT_CFG_AUTO_RETRAIN = b2n (bitOf fl.toNat 0) ∧
            fld u (R_FLD_PORT_CFG (portDie q) (portLoc q)) F_FLD_PORT_CFG_EXPECT_EN = b2n (bitOf fl.toNat 2) ∧
            ctrGet u (R_FLD_PORT_EXPECT_ID (portDie q) (portLoc q)) = eid) ∧
        (portList m = [] ∨ 3 < mode.toNat ∨ 5 < rate.toNat ∨ (bitOf fl.toNat 2 = true ∧ 1 < (portList m).length) →
          Ends (.linkCfg src m mode rate fl tag eid ep) s src 0x0B01 (.no 0x0102) (Unchanged s)) ∧
        (portList m ≠ [] → mode.toNat ≤ 3 → rate.toNat ≤ 5 → (bitOf fl.toNat 2 = true → (portList m).length ≤ 1) → portsBusy s false m = true →
          Ends (.linkCfg src m mode rate fl tag eid ep) s src 0x0B01 (.no 0x0B02) (Unchanged s))) ∧
      (portsBusy s true m = false → (∃ q ∈ portList m, portCfgMode s q ≠ 0) →
        Waits (.linkTrain src m) s src 0x0B02 (.linkTrain (portList m)) fun u => ∀ q ∈ portList m, portCfgMode s q ≠ 0 → portState u q = 1 ∧
          regGet u (R_FLD_PORT_TRAINS (portDie q) (portLoc q)) = regGet s (R_FLD_PORT_TRAINS (portDie q) (portLoc q)) + 1) ∧
      (portList m ≠ [] → portsBusy s false m = false → Ends (.linkDown src m) s src 0x0B03 (.ok []) fun u => ∀ q ∈ portList m,
        portState u q = (if portState s q = 0 then 0 else 7) ∧ (portGet u q).still = true) ∧
      (portList m = [] → Ends (.linkTrain src m) s src 0x0B02 (.no 0x0102) (Unchanged s) ∧
        Ends (.linkDown src m) s src 0x0B03 (.no 0x0102) (Unchanged s)) ∧
      (portList m ≠ [] → portsBusy s true m = true → Ends (.linkTrain src m) s src 0x0B02 (.no 0x0B02) (Unchanged s)) ∧
      (portList m ≠ [] → portsBusy s false m = true → Ends (.linkDown src m) s src 0x0B03 (.no 0x0B02) (Unchanged s)))

/-- R303, R304: a good frame is counted, taken in its turn, and releases what its ACK covers; a bad one is asked for again. A NAK sends its
frame and every later one again, and takes the port down at the ninth for one frame; a lane that fails is retired, and below six
lanes the port goes down. -/
def Obligations.LinkFrames : Prop :=
  ∀ (s : State) (p : Fin 48),
    (∀ (ok : Bool) (seq ack fec : Half),
      (portYoger s p = false → exec (.linkFrameReceive p ok seq ack fec) s = .next s) ∧
      (portYoger s p = true → ok = false → ∃ t, exec (.linkFrameReceive p ok seq ack fec) s = .next t ∧ t.outs = .frame p frNak (portGet s p).rxSeq (linkFrame frNak (portGet s p).rxSeq (portAckSeq s p) []) :: s.outs ∧
        Counted s t (R_FLD_PORT_FEC_CORR (portDie p) (portLoc p)) fec.toNat ∧ CtrsBut s t [R_FLD_PORT_FEC_CORR (portDie p) (portLoc p)] ∧
        t.regs = s.regs ∧ t.mem = s.mem ∧ t.ports = s.ports) ∧
      (portYoger s p = true → ok = true → ∃ t, exec (.linkFrameReceive p ok seq ack fec) s = .next t ∧
        Counted s t (R_FLD_PORT_FRAMES (portDie p) (portLoc p)) 1 ∧ Counted s t (R_FLD_PORT_FEC_CORR (portDie p) (portLoc p)) fec.toNat ∧
        (portGet t p).rxSeq = (if seq.toNat = (portGet s p).rxSeq then ((portGet s p).rxSeq + 1) % 65536 else (portGet s p).rxSeq) ∧
        t.regs = s.regs ∧ t.mem = s.mem ∧
        ((portGet s p).owed = [] → (portGet t p).held = (portGet s p).held.filter (fun f => decide (32768 ≤ (ack.toNat + 65536 - f.seq) % 65536)) ∧
          t.outs = s.outs))) ∧
    (∀ (q : Half) (b : Option Nat),
      (portYoger s p = false ∨ (∀ f ∈ (portGet s p).held, f.seq ≠ q.toNat) → exec (.linkNak p q b) s = .next s) ∧
      (∀ i f, portYoger s p = true → ((portGet s p).held.findIdx? fun f => f.seq == q.toNat) = some i → (portGet s p).held[i]? = some f →
        (f.naks + 1 ≤ 8 → b = none → (portGet s p).owed = [] →
          (((portGet s p).retries.filter fun r => decide (s.cyc < r.1 + 1050000)).map Prod.snd).sum + ((portGet s p).held.length - i) ≤ 4096 →
          ∃ t, exec (.linkNak p q b) s = .next t ∧
            t.outs = (((portGet s p).held.drop i).map fun f => Out.frame p f.kind f.seq (linkFrame f.kind f.seq (portAckSeq s p) (frameBytes f))).reverse ++ s.outs ∧
            Counted s t (R_FLD_PORT_RETRY (portDie p) (portLoc p)) ((portGet s p).held.length - i) ∧ t.regs = s.regs ∧ t.mem = s.mem ∧
            (portGet t p).held.map HeldFrame.seq = (portGet s p).held.map HeldFrame.seq) ∧
        (9 ≤ f.naks + 1 → ∃ t, exec (.linkNak p q b) s = .next t ∧ portState t p = 7 ∧
          flag t (R_FLD_PORT_ERR (portDie p) (portLoc p)) F_FLD_PORT_ERR_RETRY_LIMIT = true))) ∧
    (∀ n : Fin 8, ∀ use, use = fld s (R_FLD_PORT_LANES (portDie p) (portLoc p)) F_FLD_PORT_LANES_IN_USE →
      ∀ w, w = fld s (R_FLD_PORT_STATUS (portDie p) (portLoc p)) F_FLD_PORT_STATUS_WIDTH →
      (portYoger s p = false ∨ bitOf use n = false → exec (.laneRetire p n) s = .next s) ∧
      (portYoger s p = true → bitOf use n = true → w ≤ 6 → ∃ t, exec (.laneRetire p n) s = .next t ∧ portState t p = 7 ∧
        flag t (R_FLD_PORT_ERR (portDie p) (portLoc p)) F_FLD_PORT_ERR_TRAIN_FAILED = true) ∧
      (portYoger s p = true → bitOf use n = true → 6 < w → (portGet s p).retries = [] → (portGet s p).held.length ≤ 4096 →
        ∃ t, exec (.laneRetire p n) s = .next t ∧ fld t (R_FLD_PORT_LANES (portDie p) (portLoc p)) F_FLD_PORT_LANES_IN_USE = use - 2 ^ n.val ∧
          fld t (R_FLD_PORT_STATUS (portDie p) (portLoc p)) F_FLD_PORT_STATUS_WIDTH = w - 1 ∧ portState t p = 4 ∧
          flag t (R_FLD_PORT_ERR (portDie p) (portLoc p)) F_FLD_PORT_ERR_LANE_RETIRED = true ∧ t.mem = s.mem ∧
          RegsBut s t [R_FLD_PORT_LANES (portDie p) (portLoc p), R_FLD_PORT_STATUS (portDie p) (portLoc p), R_FLD_PORT_ERR (portDie p) (portLoc p)]))

/-! ### PCIe and Ethernet (13_off_package_links.md). -/

/-- R308-R311, R313; 21:R483: PCIE_CFG sets the limits and, with PCIE_HOT_RESET, waits for the link; the link comes up within the limits
and goes down with its flag; what an endpoint reads and writes of device memory is what memory holds, and nothing else answers; an
MSI becomes pending; an uncorrectable report and a completion timeout raise their flags. A request beyond the maximum payload or
read request is not answered with data (the model's choice: assumption 88). -/
def Obligations.PciePort : Prop :=
  ∀ s : State,
    (∀ (src : Src) (g w : Byte), s.Serving →
      (4 ≤ g.toNat → g.toNat ≤ 6 → w = 8 ∨ w = 16 → pciePresent s = true →
        Waits (.pcieCfg src g w) s src 0x0B10 .pcie fun u => u.io.maxGen = g.toNat ∧ u.io.width = w.toNat ∧ u.regs = s.regs ∧ u.mem = s.mem) ∧
      (4 ≤ g.toNat → g.toNat ≤ 6 → w = 8 ∨ w = 16 → pciePresent s = false → pcieUp s = false → (∀ x ∈ s.cmds.taken, x.wait ≠ .pcie) →
        ∃ d, Ends (.pcieCfg src g w) s src 0x0B10 (.done 0x0B05 d) fun u => u.io.maxGen = g.toNat ∧ u.io.width = w.toNat ∧ u.regs = s.regs ∧ u.mem = s.mem) ∧
      (g.toNat < 4 ∨ 6 < g.toNat ∨ (w ≠ 8 ∧ w ≠ 16) → Ends (.pcieCfg src g w) s src 0x0B10 (.no 0x0102) (Unchanged s)) ∧
      (pciePresent s = true → Waits (.pcieHotReset src) s src 0x0B11 .pcie fun u => u.outs = .io ioPcieReset [] :: s.outs ∧ u.regs = s.regs ∧
        u.mem = s.mem)) ∧
    ((∀ x ∈ s.cmds.taken, x.wait ≠ .pcie) →
      (∀ (g : Fin 8) (wide : Bool), pciePresent s = true → 4 ≤ g.val → g.val ≤ s.io.maxGen → (if wide then 16 else 8) ≤ s.io.width →
        ∃ t, exec (.pcieLinkChange (.up g wide)) s = .next t ∧ pcieUp t = true ∧ fld t R_FLD_PCIE_STATUS F_FLD_PCIE_STATUS_GEN = g.val ∧
          fld t R_FLD_PCIE_STATUS F_FLD_PCIE_STATUS_WIDTH = (if wide then 16 else 8) ∧ RegsBut s t [R_FLD_PCIE_STATUS] ∧ CtrsBut s t [] ∧ RestSame s t) ∧
      (∀ (g : Fin 8) (wide : Bool), pciePresent s = false ∨ g.val < 4 ∨ s.io.maxGen < g.val ∨ s.io.width < (if wide then 16 else 8) →
        exec (.pcieLinkChange (.up g wide)) s = .next s) ∧
      (∀ l ∈ [PcieLink.left, PcieLink.failed],
        (pcieUp s = true → ∃ t, exec (.pcieLinkChange l) s = .next t ∧ pcieUp t = false ∧ flag t R_FLD_PCIE_ERR F_FLD_PCIE_ERR_LINK_DOWN = true ∧
          RegsBut s t [R_FLD_PCIE_STATUS, R_FLD_PCIE_ERR, R_SCH_STRATA_ERR] ∧ t.mem = s.mem) ∧
        (pcieUp s = false → exec (.pcieLinkChange l) s = .next s))) ∧
    (∃ t, exec .aerUncorrectableReport s = .next t ∧ flag t R_FLD_PCIE_ERR F_FLD_PCIE_ERR_AER_UNCORR = true ∧
      RegsBut s t [R_FLD_PCIE_ERR, R_SCH_STRATA_ERR] ∧ t.mem = s.mem) ∧
    (∀ (h : Fin 256) (store : Bool), ∃ t, exec (.pcieCompletionTimeout h store) s = .next t ∧ flag t R_FLD_PCIE_ERR F_FLD_PCIE_ERR_CPL_TIMEOUT = true ∧
      t.outs = (if store then s.outs else .hartFault h .load :: s.outs) ∧ RegsBut s t [R_FLD_PCIE_ERR, R_SCH_STRATA_ERR] ∧ t.mem = s.mem) ∧
    (∀ n : Word,
      (pcieUp s = true → n.toNat < 2048 → pwState s ≠ 3 → ∃ t, exec (.pcieMsiWrite n) s = .next t ∧
        bitOf (regGet t (R_FLD_PCIE_MSI_PEND (n.toNat / 32))).toNat (n.toNat % 32) = true ∧
        t.outs = .irq ((regGet s R_FLD_PCIE_MSI_HART).toNat % 256) :: s.outs ∧ RegsBut s t [R_FLD_PCIE_MSI_PEND (n.toNat / 32)] ∧ t.mem = s.mem) ∧
      (pcieUp s = false ∨ 2048 ≤ n.toNat → exec (.pcieMsiWrite n) s = .next s)) ∧
    (∀ (ad : DWord) (len n : Nat) (data : Option (List Byte)) (ups : List Before) (u : State), u = wakeAccess (upsets s ups) 3 →
      n = (match data with | some bs => bs.length | none => len) →
      ∀ a msi, a = ad.toNat - 0x1000000000000 →
      msi = (decide (msiPage ≤ ad.toNat) && decide (ad.toNat < msiPage + 4096) && decide (ad.toNat % 4 = 0) && data.isSome && n == 4) →
      (pcieUp s = false → exec (.pcieInbound ad len data ups) s = .next (upsets s ups)) ∧
      (∀ bs, pcieUp s = true → msi = true → data = some bs →
        exec (.pcieInbound ad len data ups) s = exec (.pcieMsiWrite (BitVec.ofNat 32 (leNat bs))) (upsets s ups)) ∧
      (pcieUp s = true → msi = false → ad.toNat < 0x1000000000000 ∨ (if data.isSome then 512 else 4096) < n ∨
          (regionBelow s.intlv a).isMem = false ∨ inOneRange a n = false →
        exec (.pcieInbound ad len data ups) s = .next (emit (upsets s ups) (.io ioPcieUr []))) ∧
      (pcieUp s = true → 0x1000000000000 ≤ ad.toNat → (regionBelow s.intlv a).isMem = true → homeUp s 10 a = true → inOneRange a n = true → 0 < n →
        (∀ bs, data = some bs → n ≤ 512 → Plain u a n →
          ∃ t, exec (.pcieInbound ad len data ups) s = .next t ∧ Stored u t a bs ∧ t.outs = u.outs) ∧
        (data = none → n ≤ 4096 → PlainReads u → ∃ t, exec (.pcieInbound ad len data ups) s = .next t ∧ t.mem = u.mem ∧
          t.outs = ((chunks 512 (n + 1) (seen u a n)).map fun b => Out.io ioPcieCpl b).reverse ++ u.outs))) ∧
    (∀ (d : Fin 64) (core : Fin 32) (a n h : Nat) (bs : List Byte) (ups : List Before), regionBelow s.intlv a = .pcie → h = hartOf d core →
      bs.length = n →
      (pcieAccessOk a n = false → ∀ io, exec (.ncRd d core 1 a n io ups) s = .next (emit (upsets s ups) (.hartFault h .load)) ∧
        exec (.ncWr d core 1 a bs io ups) s = .next (emit (upsets s ups) (.hartFault h .store))) ∧
      (pcieAccessOk a n = true →
        (∀ v : List Byte, ∃ t, exec (.ncRd d core 1 a n (.ok v) ups) s = .next t ∧
          t.outs = .hart h (leNat (sliceZ v 0 n)) :: .io ioPcieReq (leBytes 8 (pcieAddr a)) :: s.outs ∧ t.regs = s.regs ∧ t.mem = s.mem) ∧
        (∀ e ∈ [(PcieEnd.unsupported, F_FLD_PCIE_ERR_UR), (.abort, F_FLD_PCIE_ERR_CA)],
          (∃ t, exec (.ncRd d core 1 a n e.1 ups) s = .next t ∧ t.outs = .hartFault h .load :: .io ioPcieReq (leBytes 8 (pcieAddr a)) :: s.outs ∧
            flag t R_FLD_PCIE_ERR e.2 = true ∧ t.mem = s.mem) ∧
          ∃ t, exec (.ncWr d core 1 a bs e.1 ups) s = .next t ∧ t.outs = .io ioPcieReq (leBytes 8 (pcieAddr a) ++ bs) :: s.outs ∧
            flag t R_FLD_PCIE_ERR e.2 = true ∧ t.mem = s.mem) ∧
        exec (.ncRd d core 1 a n .waits ups) s = .next (emit (upsets s ups) (.io ioPcieReq (leBytes 8 (pcieAddr a)))) ∧
        ∀ io, (io = .waits ∨ ∃ v, io = .ok v) →
          exec (.ncWr d core 1 a bs io ups) s = .next (emit (upsets s ups) (.io ioPcieReq (leBytes 8 (pcieAddr a) ++ bs)))))

/-- R305-R307, R311: ROCE_QP_CFG and ROCE_MR_SET set a queue pair and a memory region; a doorbell sends the work requests up to its index
in packets of the path MTU; a response ends the oldest, with its completion when the request asks for one or fails, and a failure stops the queue pair; a
notification halves the rate, 55 µs without one raise it; an inbound request is served as its key permits; the PHY comes up and goes
down. (An inbound SEND with a key, a request of OP above 3 or LENGTH above 2^31 that is consumed without effect, and the completion that an
error always gives are the model's reading: assumption 58.) -/
def Obligations.EthernetPorts : Prop :=
  ∀ (s : State) (p : Fin 48),
    (∀ (src : Src) (q : Half) (a : DWord) r, s.Serving → PlainReads s → portCfgMode s p = 3 → q.toNat ≤ 1023 → inOneRange a.toNat 64 = true →
      cmdReach s (takenAs 0x0B20 src [] s) a.toNat 64 = true → r = seen s a.toNat 64 →
      (qpRecordOk r = true → Ends (.roceQpCfg src (BitVec.ofNat 8 p) q a) s src 0x0B20 (.ok []) fun u => u.mem = s.mem ∧
        qpGet u p q.toNat = some ⟨r, 0, 0, [], 0, (100, 0), false, fieldLE r 24 4 % 2 ^ 24⟩) ∧
      (qpRecordOk r = false → Ends (.roceQpCfg src (BitVec.ofNat 8 p) q a) s src 0x0B20 (.no 0x0102) fun u => u.mem = s.mem ∧ u.io = s.io)) ∧
    (∀ (src : Src) (e acc tag : Byte) (b len : DWord), s.Serving →
      (inOneRange b.toNat len.toNat = true → Ends (.roceMrSet src e acc tag b len) s src 0x0B21 (.ok []) fun u => u.regs = s.regs ∧ u.mem = s.mem ∧
        ∀ l < 8, ∀ i < 256, tabFind u.io.mrs (mrKey l i) =
          if i = e.toNat ∧ dieRunning s (fldDie l) = true then some ⟨bitOf acc.toNat 0, bitOf acc.toNat 1, tag.toNat, b.toNat, len.toNat⟩
          else tabFind s.io.mrs (mrKey l i)) ∧
      (inOneRange b.toNat len.toNat = false → Ends (.roceMrSet src e acc tag b len) s src 0x0B21 (.no 0x0102) (Unchanged s))) ∧
    (∀ (n : Fin 1024) (ups : List Before), qpGet s p n = none →
      (∀ k : Half, exec (.roceDoorbell p n k ups) s = .next (upsets s ups)) ∧ exec (.roceCnp p n) s = .next s ∧ exec (.roceRateIncrease p n) s = .next s ∧
      (∀ rep, exec (.roceResponse p n rep ups) s = .next (upsets s ups)) ∧ exec (.roceRetryExceeded p n) s = .next s ∧
      (∀ key ad req, exec (.roceInbound p n key ad req ups) s = .next (upsets s ups))) ∧
    (∀ (n : Fin 1024) x, qpGet s p n = some x →
      (∃ t, exec (.roceCnp p n) s = .next t ∧ { t with io := s.io } = s ∧
        qpGet t p n = some { x with rate := if x.rate.1 < 2 ^ (x.rate.2 + 1) then (1, 0) else (x.rate.1, x.rate.2 + 1) }) ∧
      (∃ t, exec (.roceRateIncrease p n) s = .next t ∧ { t with io := s.io } = s ∧ qpGet t p n = some { x with rate :=
        if 100 * 2 ^ x.rate.2 ≤ x.rate.1 + 5 * 2 ^ x.rate.2 then (100, 0) else (x.rate.1 + 5 * 2 ^ x.rate.2, x.rate.2) }) ∧
      (∀ (k : Half) (ups : List Before), (portUp s p && portMode s p == 3) = false ∨ x.stopped = true ∨ k.toNat = x.next →
        exec (.roceDoorbell p n k ups) s = .next (qpSet (upsets s ups) p n { x with producer := k.toNat })) ∧
      (∀ (k : Half) (ups : List Before) (u : State) wr a, u = wakeAccess (upsets s ups) 3 → (portUp s p && portMode s p == 3) = true → x.stopped = false →
        k.toNat ≠ x.next → k.toNat = (x.next + 1) % 65536 → PlainReads u → a = qpFld x 0 8 + 64 * (x.next % 2 ^ qpFld x 16 1) → wr = seen u a 64 →
        (regionOf s a).isMem = true → inOneRange a 64 = true → homeUp s (portDie p) a = true → ∀ len b, len = fieldLE wr 4 4 → b = fieldLE wr 8 8 →
        (3 < fieldLE wr 0 1 ∨ 2 ^ 31 < len → ∃ t, exec (.roceDoorbell p n k ups) s = .next t ∧ t.mem = u.mem ∧ t.outs = u.outs ∧
          ∃ y, qpGet t p n = some y ∧ y.next = k.toNat ∧ y.sent = x.sent) ∧
        (fieldLE wr 0 1 ≤ 3 → len ≤ 2 ^ 31 →
          fieldLE wr 0 1 = 3 ∨ len = 0 ∨ ((regionOf s b).isMem = true ∧ inOneRange b len = true ∧ homeUp s (portDie p) b = true) →
          ∃ t, exec (.roceDoorbell p n k ups) s = .next t ∧ t.mem = u.mem ∧
            t.outs = (rocePackets s p x wr (if fieldLE wr 0 1 = 3 then [] else seen u b len)).reverse ++ u.outs ∧
            ∃ y, qpGet t p n = some y ∧ y.next = k.toNat ∧ y.sent = x.sent ++ [(x.next, wr)] ∧ y.psn = (x.psn + qpPackets x len) % 2 ^ 24)) ∧
      (∀ idx wr rest (ups : List Before) (u : State) a, x.sent = (idx, wr) :: rest → u = wakeAccess (upsets s ups) 3 → x.stopped = false →
        a = qpFld x 8 8 + 16 * (x.compl % 2 ^ qpFld x 17 1) → (regionOf s a).isMem = true → inOneRange a 16 = true → homeUp s (portDie p) a = true → Plain u a 16 →
        ((portUp s p && portMode s p == 3) = true → fieldLE wr 1 1 % 2 = 1 → ∃ t, exec (.roceResponse p n .ack ups) s = .next t ∧
          Stored u t a (leBytes 4 idx ++ leBytes 2 0 ++ leBytes 2 0 ++ leBytes 4 (fieldLE wr 4 4) ++ leBytes 4 (fieldLE wr 28 4)) ∧
          ∃ y, qpGet t p n = some y ∧ y.sent = rest ∧ y.compl = x.compl + 1 ∧ y.stopped = false) ∧
        ((portUp s p && portMode s p == 3) = true → fieldLE wr 1 1 % 2 = 0 → ∃ t, exec (.roceResponse p n .ack ups) s = .next t ∧ t.mem = s.mem ∧
          ∃ y, qpGet t p n = some y ∧ y.sent = rest ∧ y.compl = x.compl) ∧
        (∀ (bs : List Byte) b len, b = fieldLE wr 8 8 → len = fieldLE wr 4 4 → (portUp s p && portMode s p == 3) = true → fieldLE wr 0 1 = 3 →
          fieldLE wr 1 1 % 2 = 0 → 0 < len → (regionOf s b).isMem = true → inOneRange b len = true → homeUp s (portDie p) b = true → Plain u b len →
          ∃ t, exec (.roceResponse p n (.data bs) ups) s = .next t ∧ Stored u t b (sliceZ bs 0 len) ∧
            ∃ y, qpGet t p n = some y ∧ y.sent = rest ∧ y.compl = x.compl) ∧
        ((portUp s p && portMode s p == 3) = true → ∃ t, exec (.roceResponse p n .error ups) s = .next t ∧
          Stored u t a (leBytes 4 idx ++ leBytes 2 0x0B06 ++ leBytes 2 0 ++ leBytes 4 0 ++ leBytes 4 (fieldLE wr 28 4)) ∧
          ∃ y, qpGet t p n = some y ∧ y.sent = rest ∧ y.stopped = true) ∧
        (∃ t, exec (.roceRetryExceeded p n) s = .next t ∧
          (ups = [] → Stored u t a (leBytes 4 idx ++ leBytes 2 0x0B07 ++ leBytes 2 0 ++ leBytes 4 0 ++ leBytes 4 (fieldLE wr 28 4))) ∧
          ∃ y, qpGet t p n = some y ∧ y.sent = rest ∧ y.stopped = true)) ∧
      (∀ (key : Word) (ad : DWord) (ups : List Before) (u : State) (nak : State), u = wakeAccess (upsets s ups) 3 → x.stopped = false →
        (portUp s p && portMode s p == 3) = true → nak = emitAll (upsets s ups) (roceAnswer (upsets s ups) p ioRoceNak x []) →
        (∀ (bs : List Byte) (req : RoceReq), req = .write bs ∨ req = .send bs →
          (memRegOk s p key.toNat ad.toNat bs.length true = true → bs ≠ [] → (regionOf s ad.toNat).isMem = true →
            inOneRange ad.toNat bs.length = true → homeUp s (portDie p) ad.toNat = true → Plain u ad.toNat bs.length →
            ∃ t, exec (.roceInbound p n key ad req ups) s = .next t ∧ Stored u t ad.toNat bs ∧
              t.outs = (roceAnswer s p ioRoceAck x []).reverse ++ u.outs) ∧
          (memRegOk s p key.toNat ad.toNat bs.length true = false → exec (.roceInbound p n key ad req ups) s = .next nak)) ∧
        (∀ len : Nat, memRegOk s p key.toNat ad.toNat len false = true → 0 < len → (regionOf s ad.toNat).isMem = true →
          inOneRange ad.toNat len = true → homeUp s (portDie p) ad.toNat = true → PlainReads u →
          ∃ t, exec (.roceInbound p n key ad (.read len) ups) s = .next t ∧ t.mem = u.mem ∧
            t.outs = (roceAnswer s p ioRoceAck x (seen u ad.toNat len)).reverse ++ u.outs) ∧
        (∀ len : Nat, memRegOk s p key.toNat ad.toNat len false = false → exec (.roceInbound p n key ad (.read len) ups) s = .next nak))) ∧
    (portCfgMode s p = 3 → (portGet s p).still = false →
      (portUp s p = false → (∀ n < 1024, qpGet s p n = none) → ∃ t, exec (.ethernetLinkChange p true) s = .next t ∧ portState t p = 4 ∧ portMode t p = 3 ∧
        fld t (R_FLD_PORT_STATUS (portDie p) (portLoc p)) F_FLD_PORT_STATUS_WIDTH =
          ethLanes (fld s (R_FLD_PORT_CFG (portDie p) (portLoc p)) F_FLD_PORT_CFG_ETH_RATE)) ∧
      (portUp s p = true → exec (.ethernetLinkChange p true) s = .next s ∧ ∃ t, exec (.ethernetLinkChange p false) s = .next t ∧ portState t p = 7 ∧
        flag t (R_FLD_PORT_ERR (portDie p) (portLoc p)) F_FLD_PORT_ERR_DOWN = true)) ∧
    (∀ up : Bool, portCfgMode s p ≠ 3 ∨ (portGet s p).still = true → exec (.ethernetLinkChange p up) s = .next s)

/-! ### Seams and connectors (14_in_package_dies.md, 21_module_connectors.md). -/

/-- R314, R318-R323: errors and replays of a seam that runs are counted, the replays at the sender's end; a lane above 16 errors
is marked; an urgent swap gives the marked lane alone the lowest free spare that passes, which keeps it, or every marked lane one when
the seam's replays exceed their limit (the model's choice, assumption 62), a spare that carried a marked lane being left unused; without
one the seam narrows to the half that no mark lies in, or is FENCED; a clock lane that fails gives way to the other, and with both gone the seam is FENCED. What a
fenced seam cuts off then fails. -/
def Obligations.SeamsRepaired : Prop :=
  ∀ (s : State) (d : Fin 64) (q : Fin 16) (e : Nat × Nat), e = seamEnd d q →
    (∀ flits errs : Nat,
      (seamExists d q = true → seamState s d q ≠ 3 → ∃ t, exec (.seamFlitNak d q flits errs) s = .next t ∧ Counted s t (R_SEAM_LANE_ERR d q) errs ∧
        Counted s t (R_SEAM_REPLAY e.1 e.2) flits ∧ CtrsBut s t [R_SEAM_LANE_ERR d q, R_SEAM_REPLAY e.1 e.2] ∧ { t with ctrs := s.ctrs } = s) ∧
      (seamExists d q = false ∨ seamState s d q = 3 → exec (.seamFlitNak d q flits errs) s = .next s)) ∧
    (∀ (l : Fin 64) (errs : Nat),
      (seamExists d q = true → seamState s d q = 1 ∨ seamState s d q = 2 → 16 < errs → ∃ t, exec (.seamLaneFailing d q l errs) s = .next t ∧
        seamPend t d q = seamPend s d q ||| 2 ^ l.val ∧ flag t (R_SEAM_STATUS d q) F_SEAM_STATUS_SWAP_PENDING = true ∧
        flag t (R_SEAM_ERR d q) F_SEAM_ERR_LANE_FAILING = true ∧ Counted s t (R_SEAM_LANE_ERR d q) errs ∧
        RegsBut s t [R_SEAM_STATUS d q, R_SEAM_ERR d q] ∧ CtrsBut s t [R_SEAM_LANE_ERR d q, R_SEAM_PEND d q] ∧ RestSame s t) ∧
      (seamExists d q = false ∨ (seamState s d q ≠ 1 ∧ seamState s d q ≠ 2) ∨ errs ≤ 16 → exec (.seamLaneFailing d q l errs) s = .next s)) ∧
    (seamExists d q = false ∨ (seamState s d q ≠ 1 ∧ seamState s d q ≠ 2) → (∀ x, exec (.seamUrgentSwap d q x) s = .next s) ∧
      ∀ both, exec (.seamClockSwitch d q both) s = .next s) ∧
    (∀ l : Fin 64, bitOf (seamPend s d q) l = false → exec (.seamUrgentSwap d q (some l)) s = .next s) ∧
    (∀ (l : Fin 64) k, seamExists d q = true → bitOf (seamPend s d q) l = true → seamState s d q = 1 → spareFree s d q = some k →
      ∃ v, exec (.seamUrgentSwap d q (some l)) s = .next (seamAfter v) ∧ spareUsed v d q k = true ∧ spareLane v d q k = l.val ∧
        (∀ m < 64, bitOf (seamPend v d q) m = (bitOf (seamPend s d q) m && m != l.val)) ∧
        flag v (R_SEAM_STATUS d q) F_SEAM_STATUS_SWAP_PENDING =
          (flag s (R_SEAM_STATUS d q) F_SEAM_STATUS_SWAP_PENDING && seamPend v d q != 0) ∧ v.mem = s.mem) ∧
    (∀ (l : Fin 64) x, x ∈ [none, some l] → seamExists d q = true → seamPend s d q = 2 ^ l.val → ∀ spare,
      spare = (if seamState s d q = 2 then (spareFree s d q).or (spareIdle s d q) else spareFree s d q) →
      (∀ k, seamState s d q = 1 ∨ (seamState s d q = 2 ∧ inHalf s d q l = true) → spare = some k → ∃ v, exec (.seamUrgentSwap d q x) s = .next (seamAfter v) ∧
        spareUsed v d q k = true ∧ spareLane v d q k = l.val ∧ seamPend v d q = 0 ∧ flag v (R_SEAM_ERR d q) F_SEAM_ERR_SWAP_URGENT = true ∧
        seamState v d q = seamState s d q ∧ v.mem = s.mem ∧
        (∀ j < 4, j ≠ k → ¬(spareUsed s d q j = true ∧ spareLane s d q j = l.val) → spareUsed v d q j = spareUsed s d q j ∧ spareLane v d q j = spareLane s d q j) ∧
        (∀ j < 4, j ≠ k → spareUsed s d q j = true → spareLane s d q j = l.val → spareUsed v d q j = false ∧ bitOf (spareFailed v d q) j = true) ∧
        mapByte (flashMap v d q) k = l.val + 192 ∧
        (eventHeld s (d.val * 256 + 0xE0 + q.val) (0xE0 + q.val) q = false → sliceCount s (d.val / 16) < 256 →
          ∃ p : PendRec, v.strata.slice = s.strata.slice ++ [p] ∧ p.source = d.val * 256 + 0xE0 + q.val) ∧
        RegsBut s v [R_SEAM_STATUS d q, R_SEAM_STATUS e.1 e.2, R_SEAM_MAP d q, R_SEAM_ERR d q, R_SCH_STRATA_ERR]) ∧
      (seamState s d q = 1 → spare = none → ∀ bad, bad = 2 ^ l.val ||| seamPend s e.1 e.2 → ∃ v, exec (.seamUrgentSwap d q x) s = .next (seamAfter v) ∧
        v.mem = s.mem ∧ seamPend v d q = 2 ^ l.val ∧
        (bad % 2 ^ 32 = 0 ∨ bad / 2 ^ 32 = 0 → seamState v d q = 2 ∧ seamState v e.1 e.2 = 2 ∧
          fld v (R_SEAM_STATUS d q) F_SEAM_STATUS_HALF = (if bad % 2 ^ 32 = 0 then 0 else 1) ∧
          fld v (R_SEAM_STATUS e.1 e.2) F_SEAM_STATUS_HALF = (if bad % 2 ^ 32 = 0 then 0 else 1) ∧
          flag v (R_SEAM_ERR d q) F_SEAM_ERR_NARROWED = true ∧ flag v (R_SEAM_ERR e.1 e.2) F_SEAM_ERR_NARROWED = true) ∧
        (bad % 2 ^ 32 ≠ 0 → bad / 2 ^ 32 ≠ 0 → seamState v d q = 3 ∧ seamState v e.1 e.2 = 3 ∧
          flag v (R_SEAM_ERR d q) F_SEAM_ERR_FENCED = true))) ∧
    (seamExists d q = true → seamState s d q = 1 → ∀ lanes free, lanes = setBits 64 (seamPend s d q) →
      free = ((List.range 4).filter fun k => !(spareUsed s d q k) && !(bitOf (spareFailed s d q) k)).length →
      ∃ v, exec (.seamUrgentSwap d q none) s = .next (seamAfter v) ∧ flag v (R_SEAM_ERR d q) F_SEAM_ERR_SWAP_URGENT = true ∧
        flag v (R_SEAM_STATUS d q) F_SEAM_STATUS_SWAP_PENDING = false ∧ v.mem = s.mem ∧
        (lanes.length ≤ free → seamState v d q = 1 ∧ seamPend v d q = 0 ∧ ∀ l ∈ lanes, ∃ k < 4, spareUsed v d q k = true ∧ spareLane v d q k = l) ∧
        (free < lanes.length → seamState v d q ≠ 1)) ∧
    (∀ both : Bool, seamExists d q = true → seamState s d q = 1 ∨ seamState s d q = 2 → ∀ use, use = fld s (R_SEAM_STATUS d q) F_SEAM_STATUS_CLK_LANE →
      (both = false → clkFailed s d q = 0 → ∃ t, exec (.seamClockSwitch d q both) s = .next t ∧
        fld t (R_SEAM_STATUS d q) F_SEAM_STATUS_CLK_LANE = 1 - use ∧ flag t (R_SEAM_ERR d q) F_SEAM_ERR_CLOCK_SWITCH = true ∧
        clkFailed t d q = 2 ^ use ∧ seamState t d q = seamState s d q ∧ RegsBut s t [R_SEAM_STATUS d q, R_SEAM_ERR d q] ∧
        { t with regs := s.regs, clkBad := s.clkBad } = s) ∧
      (both = true ∨ clkFailed s d q ||| 2 ^ use = 3 → clkFailed s d q ≤ 3 → ∃ v, exec (.seamClockSwitch d q both) s =
          .next (match schistSeam d q with | some x => dieFence (fenceCuts v) x 2 | none => seamAfter v) ∧
        seamState v d q = 3 ∧ seamState v e.1 e.2 = 3 ∧ flag v (R_SEAM_ERR d q) F_SEAM_ERR_FENCED = true ∧ v.mem = s.mem ∧ v.cmds = s.cmds))

/-- R480, R481, R483, R486, R488: CBL_PWR turns off with its flag at its limit, comes back at a retry that the load passes, and
follows CBL_PRSNT_N; PCIE_PRESENT follows PRSNT_IN_N, and without an endpoint the link is down; a short of STRAP_PU sets its flag;
while the input is in range BYPASS and IDCODE act, and with debug disabled no other JTAG instruction does. With debug enabled another one
stops, because the specification does not say what it does (the model's choice: assumption 73). -/
def Obligations.ConnectorEvents : Prop :=
  ∀ s : State,
    (∀ q : Fin 4,
      (connGet s F_SCH_CONN_STATUS_CBL_PWR_ON q = true → ∃ t, exec (.cblPwrOvercurrent q) s = .next t ∧
        connGet t F_SCH_CONN_STATUS_CBL_PWR_ON q = false ∧ flag t R_SCH_CONN_ERR (connBit F_SCH_CONN_ERR_CBL_PWR_FAULT q) = true ∧
        (∀ r < 4, r ≠ q.val → connGet t F_SCH_CONN_STATUS_CBL_PWR_ON r = connGet s F_SCH_CONN_STATUS_CBL_PWR_ON r) ∧
        RegsBut s t [R_SCH_CONN_STATUS, R_SCH_CONN_ERR] ∧ { t with regs := s.regs } = s) ∧
      (connGet s F_SCH_CONN_STATUS_CBL_PWR_ON q = false → exec (.cblPwrOvercurrent q) s = .next s) ∧
      (∀ ok : Bool,
        (connGet s F_SCH_CONN_STATUS_HS_PRESENT q = true → connGet s F_SCH_CONN_STATUS_CBL_PWR_ON q = false → ∃ t,
          exec (.cblPwrRetry q ok) s = .next t ∧ connGet t F_SCH_CONN_STATUS_CBL_PWR_ON q = ok ∧
          (ok = false → flag t R_SCH_CONN_ERR (connBit F_SCH_CONN_ERR_CBL_PWR_FAULT q) = true) ∧
          RegsBut s t (if ok then [R_SCH_CONN_STATUS] else [R_SCH_CONN_STATUS, R_SCH_CONN_ERR]) ∧ { t with regs := s.regs } = s) ∧
        (connGet s F_SCH_CONN_STATUS_HS_PRESENT q = false ∨ connGet s F_SCH_CONN_STATUS_CBL_PWR_ON q = true →
          exec (.cblPwrRetry q ok) s = .next s)) ∧
      (∀ mated : Bool,
        (connGet s F_SCH_CONN_STATUS_HS_PRESENT q ≠ mated → ∃ t, exec (.cableMate q mated) s = .next t ∧
          connGet t F_SCH_CONN_STATUS_HS_PRESENT q = mated ∧
          connGet t F_SCH_CONN_STATUS_CBL_PWR_ON q = (mated && s.pwr.supply != .off) ∧
          RegsBut s t [R_SCH_CONN_STATUS] ∧ { t with regs := s.regs } = s) ∧
        (connGet s F_SCH_CONN_STATUS_HS_PRESENT q = mated → exec (.cableMate q mated) s = .next s))) ∧
    (∃ t, exec (.pciePresenceChange true) s = .next t ∧ pciePresent t = true ∧ RegsBut s t [R_SCH_CONN_STATUS] ∧ { t with regs := s.regs } = s) ∧
    ((∀ x ∈ s.cmds.taken, x.wait ≠ .pcie) → ∃ t, exec (.pciePresenceChange false) s = .next t ∧ pciePresent t = false ∧ pcieUp t = false ∧
      (pcieUp s = true → flag t R_FLD_PCIE_ERR F_FLD_PCIE_ERR_LINK_DOWN = true) ∧
      RegsBut s t [R_SCH_CONN_STATUS, R_FLD_PCIE_STATUS, R_FLD_PCIE_ERR, R_SCH_STRATA_ERR] ∧ t.mem = s.mem ∧ t.cmds = s.cmds) ∧
    (∃ t, exec .strapPuFault s = .next t ∧ flag t R_SCH_CONN_ERR F_SCH_CONN_ERR_STRAP_PU_FAULT = true ∧ RegsBut s t [R_SCH_CONN_ERR] ∧
      { t with regs := s.regs } = s) ∧
    (standby s = true →
      (∀ tdi : Nat, exec (.jtagInstruction (.bypass tdi)) s = .next (emit s (.jtag (2 * tdi)))) ∧
      exec (.jtagInstruction .idcode) s = .next (emit s (.jtag 0x1A6400B7)) ∧
      (∀ n, (flag s R_SCH_RST_STATUS F_SCH_RST_STATUS_DEBUG_ON = false → exec (.jtagInstruction (.other n)) s = .next s) ∧
        (flag s R_SCH_RST_STATUS F_SCH_RST_STATUS_DEBUG_ON = true → exec (.jtagInstruction (.other n)) s = .fault .jtagInstruction))) ∧
    (standby s = false → ∀ op, exec (.jtagInstruction op) s = .next s)

/-- R487: while its input is in range the module answers the static address 0x5A and the dynamic address that a controller assigned. The first byte of a write
sets the pointer and the rest is discarded; a read answers words from the pointer upward, little-endian, each the live copy that the map
gives at its offset, zero while the Schist has not started and at an offset absent from the map (00:R5); while ALERT_N is low an
in-band interrupt is raised at most once in every 100 ms, taken as 105,000,000 arithmetic cycles. (A read leaves the pointer as it
is. Both are the model's: assumption 74.) -/
def Obligations.I3cTarget : Prop :=
  ∀ (s : State) (a : BitVec 7) (mine : Bool), (mine = true ↔ standby s = true ∧ (a = 0x5A#7 ∨ s.brd.dyn = some a)) →
    (standby s = true → ∃ t, exec (.i3cDynamicAddress a) s = .next t ∧ t.brd = { s.brd with dyn := some a } ∧ { t with brd := s.brd } = s) ∧
    (standby s = false → exec (.i3cDynamicAddress a) s = .next s) ∧
    (mine = true → ∀ (b : Byte) (rest : List Byte), ∃ t, exec (.i3cPointerWrite a (b :: rest)) s = .next t ∧ t.brd = { s.brd with ptr := b } ∧
      { t with brd := s.brd } = s) ∧
    (mine = true → exec (.i3cPointerWrite a []) s = .next s) ∧
    (mine = false → (∀ bs, exec (.i3cPointerWrite a bs) s = .next s) ∧ ∀ n, exec (.i3cRead a n) s = .next s) ∧
    (mine = true → ∀ n : Nat, ∃ ws : List Word, exec (.i3cRead a n) s = .next (emit s (.i3c (ws.flatMap fun w => leBytes 4 w.toNat))) ∧
      ws.length = n ∧ ∀ i < n,
        (s.brd.ptr.toNat + 4 * i = 0x00 → ws[i]? = some 0x4C363441) ∧
        (∀ e ∈ [(0x04, R_SCH_MODULE_ID), (0x08, R_SCH_MODULE_ID + 4), (0x0C, R_SCH_RST_STATUS), (0x10, R_SCH_PWR_STATUS), (0x14, R_SCH_PWR_ERR),
            (0x18, R_SCH_PWR_INPUT), (0x1C, R_SCH_COOL_INLET), (0x20, R_SCH_COOL_FLOW), (0x24, R_SCH_CONN_STATUS), (0x28, R_SCH_CONN_ERR)],
          s.brd.ptr.toNat + 4 * i = e.1 → ws[i]? = some (if s.pwr.supply = .on ∨ s.pwr.waiting.isSome = true then rdAt s e.2 else 0)) ∧
        ((s.brd.ptr.toNat + 4 * i) % 4 ≠ 0 ∨ 0x28 < s.brd.ptr.toNat + 4 * i → ws[i]? = some 0)) ∧
    (alertOn s = true → (∀ c, s.brd.ibi = some c → c + 105000000 ≤ s.cyc) → ∃ t, exec .i3cIbi s = .next t ∧ t.outs = .ibi :: s.outs ∧
      t.brd = { s.brd with ibi := some s.cyc } ∧ { t with outs := s.outs, brd := s.brd } = s) ∧
    (alertOn s = false ∨ (∃ c, s.brd.ibi = some c ∧ s.cyc < c + 105000000) → exec .i3cIbi s = .next s)

/-! ### Firmware, keys, attestation (20_firmware_security.md). -/

/-- R456-R459, R463: FW_OPEN takes a package that passes the six checks and refuses another with the status of the first check that
fails; FW_DATA takes the bytes that follow those received, and a part that fails ends the staging; FW_CLOSE COMMIT stores every
image, makes the set valid, and waits for every RUNNING die before the state is STAGED; ABORT returns to IDLE, or from ARMED to STAGED;
FW_ACTIVATE arms a staged package; FW_STATUS replies the state. Every change of the security record is written to it (R451). Behind a
COMMIT that waits, each of them waits for its turn (R458; that COMMIT is answered when its dies are READY is the model's reading:
assumption 70). -/
def Obligations.FirmwareStaging : Prop :=
  ∀ (s : State) (src : Src), s.Serving →
    ((fwCommitting s).isSome = true →
      (∀ ad, Waits (.fwOpen src ad) s src 0x0801 (.fwTurn (.opn ad)) fun u => u.fw = s.fw ∧ u.regs = s.regs ∧ u.mem = s.mem) ∧
      (∀ off ad n, Waits (.fwData src off ad n) s src 0x0802 (.fwTurn (.data off ad n)) fun u => u.fw = s.fw ∧ u.regs = s.regs ∧ u.mem = s.mem) ∧
      (∀ bad, Waits (.fwCloseCommit src bad) s src 0x0803 (.fwTurn (.commit bad)) fun u => u.fw = s.fw ∧ u.regs = s.regs ∧ u.mem = s.mem) ∧
      (Waits (.fwCloseAbort src) s src 0x0803 (.fwTurn .abort) fun u => u.fw = s.fw ∧ u.regs = s.regs ∧ u.mem = s.mem) ∧
      (∀ m, Waits (.fwActivate src m) s src 0x0804 (.fwTurn (.activate m)) fun u => u.fw = s.fw ∧ u.regs = s.regs ∧ u.mem = s.mem) ∧
      (Waits (.fwStatus src) s src 0x0805 (.fwTurn .status) fun u => u.fw = s.fw ∧ u.regs = s.regs ∧ u.mem = s.mem)) ∧
    (fwCommitting s = none →
    (∀ (ad : DWord) (p : List Byte), p = seen s ad.toNat 5184 → ad.toNat % 4096 = 0 → inOneRange ad.toNat 5184 = true → PlainReads s →
      cmdReach s (takenAs 0x0801 src [] s) ad.toNat 5184 = true →
      (pkgCheck s p = none → fwState s = 0 → Ends (.fwOpen src ad) s src 0x0801 (.ok (sliceZ p 8 4 ++ sliceZ p 28 8)) fun u => fwState u = 1 ∧
        u.fw.pkg = p ∧ u.fw.rx = [] ∧ u.fw.images = s.fw.images ∧ u.fw.sets = s.fw.sets ∧ fwFld u (fwValidFld (1 - fwRun s)) = 0 ∧
        fwFld u (fwValidFld (fwRun s)) = fwFld s (fwValidFld (fwRun s)) ∧ ctrGet u R_SCH_FW_RX_BYTES = 0 ∧ fwReady u = 0 ∧
        (regGet u R_SCH_FW_STAGED_VERSION).toNat = fieldLE p 8 4 ∧ fwFld u F_SCH_FW_STATUS_LAST_STATUS = 0 ∧ u.mem = s.mem ∧
        secNow u = secUsed u.fw ∧
        RegsBut s u [R_SCH_FW_STATUS, R_SCH_FW_STAGED_VERSION]) ∧
      (pkgCheck s p = none → fwState s ≠ 0 → Ends (.fwOpen src ad) s src 0x0801 (.no 0x0806) fun u => u.fw = s.fw ∧
        u.regs = s.regs ∧ u.mem = s.mem) ∧
      (∀ i st, pkgCheck s p = some (i, st) → Ends (.fwOpen src ad) s src 0x0801 (.no st) fun u => u.fw = s.fw ∧ fwState u = fwState s ∧
        flag u R_SCH_FW_ERR F_SCH_FW_ERR_OPEN_REFUSED = true ∧ u.mem = s.mem ∧ RegsBut s u [R_SCH_FW_ERR, R_SCH_STRATA_ERR])) ∧
    (∀ ad : DWord, ad.toNat % 4096 ≠ 0 ∨ inOneRange ad.toNat 5184 = false →
      Ends (.fwOpen src ad) s src 0x0801 (.no 0x0102) fun u => u.fw = s.fw ∧ u.regs = s.regs ∧ u.mem = s.mem) ∧
    (∀ (off ad : DWord) (n : Word) (v : State), v = { s with fw := { s.fw with rx := s.fw.rx ++ seen s ad.toNat n.toNat } } →
      (fwState s = 1 → 0 < n.toNat → n.toNat ≤ 16777216 → off.toNat = s.fw.rx.length → off.toNat + n.toNat ≤ fieldLE s.fw.pkg 28 8 →
        inOneRange ad.toNat n.toNat = true → PlainReads s → cmdReach s (takenAs 0x0802 src [] s) ad.toNat n.toNat = true →
        (partFailed v off.toNat (off.toNat + n.toNat) = none → Ends (.fwData src off ad n) s src 0x0802 (.ok (leBytes 8 (off.toNat + n.toNat)))
          fun u => u.fw = v.fw ∧ fwState u = 1 ∧ ctrGet u R_SCH_FW_RX_BYTES = BitVec.ofNat 64 (off.toNat + n.toNat) ∧
            RegsBut s u [R_SCH_FW_STATUS] ∧ u.mem = s.mem) ∧
        (∀ k, partFailed v off.toNat (off.toNat + n.toNat) = some k → Ends (.fwData src off ad n) s src 0x0802 (.done 0x0804 [])
          fun u => u.fw.pkg = [] ∧ u.fw.images = s.fw.images ∧ fwState u = 0 ∧ flag u R_SCH_FW_ERR F_SCH_FW_ERR_STAGE_FAILED = true ∧ u.mem = s.mem)) ∧
      (fwState s ≠ 1 ∨ n.toNat = 0 ∨ 16777216 < n.toNat ∨ off.toNat ≠ s.fw.rx.length ∨ fieldLE s.fw.pkg 28 8 < off.toNat + n.toNat ∨
        inOneRange ad.toNat n.toNat = false → Ends (.fwData src off ad n) s src 0x0802 (.no 0x0102) fun u => u.fw = s.fw ∧
          u.regs = s.regs ∧ u.mem = s.mem)) ∧
    (∀ (bad : List (Fin 9)) (img : List Byte → Option (List Byte)), (∀ e, img e =
        if meMethod e = 0 then (if bad.any (fun k => k.val == meKind e) then none else some (fwImage s (fwRun s) (meKind e)))
        else (partState s e s.fw.rx s.fw.rx.length).join) →
      (fwState s ≠ 1 → Ends (.fwCloseCommit src bad) s src 0x0803 (.no 0x0102) fun u => u.fw = s.fw ∧ u.regs = s.regs ∧ u.mem = s.mem) ∧
      (fwState s = 1 → s.fw.rx.length ≠ fieldLE s.fw.pkg 28 8 →
        Ends (.fwCloseCommit src bad) s src 0x0803 (.no 0x0803) fun u => u.fw = s.fw ∧ u.regs = s.regs ∧ u.mem = s.mem) ∧
      (fwState s = 1 → s.fw.rx.length = fieldLE s.fw.pkg 28 8 →
        ((∃ e ∈ manEntries s.fw.pkg, img e = none) → Ends (.fwCloseCommit src bad) s src 0x0803 (.done 0x0804 []) fun u =>
          fwState u = 0 ∧ u.fw.pkg = [] ∧ u.fw.images = s.fw.images ∧ flag u R_SCH_FW_ERR F_SCH_FW_ERR_STAGE_FAILED = true ∧ u.mem = s.mem) ∧
        ((∀ e ∈ manEntries s.fw.pkg, (img e).isSome = true ∧ ∀ e' ∈ manEntries s.fw.pkg, meKind e' = meKind e → e' = e) →
          (∃ d < 64, dieRunning s d = true ∧ dieKind d ≠ .gneiss) → Waits (.fwCloseCommit src bad) s src 0x0803 .fwCommit fun u =>
            fwState u = 1 ∧ secNow u = secUsed u.fw ∧ fwFld u (fwValidFld (1 - fwRun s)) = 1 ∧ tabFind u.fw.sets (1 - fwRun s) = some s.fw.pkg ∧
            (∀ e ∈ manEntries s.fw.pkg, tabFind u.fw.images ((1 - fwRun s) * 16 + meKind e) = img e) ∧
            (∀ i, i / 16 = fwRun s → tabFind u.fw.images i = tabFind s.fw.images i ∨ ∃ e ∈ manEntries s.fw.pkg, 16 ≤ meKind e) ∧ u.mem = s.mem))) ∧
    (∀ n, n = [BitVec.ofNat 8 (fwReadyCount s)] →
      (fwState s = 0 ∨ fwState s = 4 → Ends (.fwCloseAbort src) s src 0x0803 (.no 0x0102) fun u => u.fw = s.fw ∧ u.regs = s.regs ∧ u.mem = s.mem) ∧
      (fwState s = 1 ∨ fwState s = 2 → Ends (.fwCloseAbort src) s src 0x0803 (.ok n) fun u => fwState u = 0 ∧ u.fw.pkg = [] ∧
        fwFld u (fwValidFld (1 - fwRun s)) = 0 ∧ secNow u = secUsed u.fw ∧ u.fw.images = s.fw.images) ∧
      (fwState s = 3 → Ends (.fwCloseAbort src) s src 0x0803 (.ok n) fun u => fwState u = 2 ∧ u.fw = s.fw ∧
        ∀ x, fwArmed s = some x → ∀ y ∈ u.cmds.taken, y.id ≠ x.id)) ∧
    (∀ m : Byte,
      (fwState s = 2 → m.toNat ≤ 1 → Waits (.fwActivate src m) s src 0x0804 (if m.toNat = 0 then .fwStep else .fwNow (s.runs.map Run.id)) fun u =>
        fwState u = 3 ∧ fwFld u F_SCH_FW_STATUS_ARM_MODE = m.toNat ∧ u.fw = s.fw ∧ RegsBut s u [R_SCH_FW_STATUS] ∧ u.mem = s.mem) ∧
      (fwState s < 2 ∨ 1 < m.toNat → Ends (.fwActivate src m) s src 0x0804 (.no 0x0102) fun u => u.fw = s.fw ∧
        u.regs = s.regs ∧ u.mem = s.mem) ∧
      (2 < fwState s → m.toNat ≤ 1 → Ends (.fwActivate src m) s src 0x0804 (.no 0x0806) fun u => u.fw = s.fw ∧
        u.regs = s.regs ∧ u.mem = s.mem)) ∧
    (∃ b, (Ends (.fwStatus src) s src 0x0805 (.ok b) fun u => u.fw = s.fw ∧ RegsBut s u [R_SCH_FW_STATUS] ∧ fwState u = fwState s ∧ u.mem = s.mem) ∧
      fieldLE b 0 1 = fwState s ∧ fieldLE b 2 1 = fwFld s F_SCH_FW_STATUS_KEY_FLOOR ∧ fieldLE b 4 4 = (regGet s R_SCH_FW_PKG_VERSION).toNat ∧
      fieldLE b 8 4 = (regGet s R_SCH_FW_SVN_FLOOR).toNat ∧ fieldLE b 16 1 = fwReadyCount s ∧ fieldLE b 17 1 = fwFirst s ∧
      (fwState s = 2 ∨ fwState s = 3 → fieldLE b 12 4 = (regGet s R_SCH_FW_STAGED_VERSION).toNat)))

/-- R458, R460-R462: a RUNNING die whose shadow copy verifies is READY, and a COMMIT that waits is answered once every RUNNING die
is, the state being STAGED then; an activation in mode NOW whose waits are met switches to the new set with every die READY and its
record write done, its versions, digests and floors in force, or fails with 0x0805 and stays STAGED. -/
def Obligations.FirmwareActivates : Prop :=
  ∀ s : State,
    (∀ d : Fin 64,
      (fwStaging s = true → dieRunning s d = true → ∃ u, exec (.diePreloadReady d) s = .next (fwSettle u) ∧ bitOf (fwReady u) d = true ∧
        (∀ x, x ≠ d.val → bitOf (fwReady u) x = bitOf (fwReady s) x) ∧ CtrsBut s u [R_SCH_FW_READY] ∧ { u with ctrs := s.ctrs } = s) ∧
      (fwStaging s = false ∨ dieRunning s d = false → exec (.diePreloadReady d) s = .next s)) ∧
    (∀ x, fwCommitting s = some x →
      ((∀ d < 64, dieRunning s d = true → bitOf (fwReady s) d = true) → (∀ y ∈ s.cmds.taken, ∀ c, y.wait ≠ .fwTurn c) →
        ∃ u, fwSettle s = finish u x (.ok [BitVec.ofNat 8 (fwReadyCount s)]) ∧ fwState u = 2 ∧ fwFld u F_SCH_FW_STATUS_LAST_STATUS = 0 ∧
          u.fw = { s.fw with rx := [] } ∧ RegsBut s u [R_SCH_FW_STATUS, R_SCH_STRATA_ERR] ∧ u.cmds = s.cmds ∧ u.mem = s.mem) ∧
      (∀ d < 64, dieRunning s d = true → bitOf (fwReady s) d = false → fwSettle s = s)) ∧
    (∀ x rs, (∀ y ∈ s.cmds.taken, y.wait = .fwNow rs → y = x) → (∀ y ∈ s.cmds.taken, ∀ r, y.wait = .fwNow r → r = rs) → x ∈ s.cmds.taken →
      x.wait = .fwNow rs →
      (stepReady s rs = false → ∀ w, exec (.fwActivation w) s = .next s) ∧
      (∀ w, stepReady s rs = true → w = false ∨ (∃ d < 64, dieRunning s d = false ∨ bitOf (fwReady s) d = false) → ∃ u first,
        exec (.fwActivation w) s = .next (finish u x (.done 0x0805 (leBytes 4 (regGet s R_SCH_FW_PKG_VERSION).toNat ++ [first]))) ∧ fwState u = 2 ∧
        flag u R_SCH_FW_ERR F_SCH_FW_ERR_ACTIVATION_FAILED = true ∧ fwRun u = fwRun s ∧ u.fw = s.fw ∧ u.mem = s.mem ∧ u.step = s.step ∧
        RegsBut s u [R_SCH_FW_STATUS, R_SCH_FW_ERR, R_SCH_STRATA_ERR]) ∧
      (stepReady s rs = true → (∀ d < 64, dieRunning s d = true ∧ bitOf (fwReady s) d = true) → ∀ set, set = 1 - fwRun s → ∃ u,
        exec (.fwActivation true) s = .next (finish u x (.ok (leBytes 4 (fieldLE (fwMeta s set) 8 4) ++ [0xFF#8]))) ∧ fwState u = 0 ∧ fwRun u = set ∧
        fwFld u F_SCH_FW_STATUS_ACTIVE_SET = set ∧ secNow u = secUsed u.fw ∧ (regGet u R_SCH_FW_PKG_VERSION).toNat = fieldLE (fwMeta s set) 8 4 ∧
        (regGet u R_SCH_FW_SVN).toNat = fieldLE (fwMeta s set) 12 4 ∧
        (regGet u R_SCH_FW_SVN_FLOOR).toNat = Nat.max (regGet s R_SCH_FW_SVN_FLOOR).toNat (fieldLE s.fw.pkg 16 4) ∧
        (∀ k < 8, fwDigest u (k + 1) = sliceZ (manOf (fwMeta s set) (k + 1)) 64 32) ∧
        regGet u R_SCH_FW_ACT_CNT = regGet s R_SCH_FW_ACT_CNT + 1 ∧ u.fw.images = s.fw.images ∧ u.fw.pkg = [] ∧ u.step = s.step ∧ u.mem = s.mem ∧
        u.rcp = s.rcp ∧ u.tags = s.tags)) ∧
    ((∀ y ∈ s.cmds.taken, ∀ r, y.wait ≠ .fwNow r) → ∀ w, exec (.fwActivation w) s = .next s)

/-- R464-R467: SEC_KEY_SET from a local queue installs its value, from a session queue the key that KMAC256 derives under the
session's key; CLEAR empties a slot, but not the last one; both are written to the security record (R451). SEC_ATTEST writes at DEST a
report of the block with the padded signature under the identity key (a constant of Config whose draw is free: assumption 12), and the
certificate at DEST + 2,048 when asked, leaving the bytes between them; all are refused on the relay queue. -/
def Obligations.KeysAndAttestation : Prop :=
  ∀ (s : State) (src : Src), s.Serving →
    (∀ (n : Byte) (x : BitVec 256) (k : List Byte), src.queue.val < 64 → n.toNat ≤ 7 →
      (∀ i, qSession s src.queue = some i → k = kmac256 ((tabFind s.fw.keys (fld s (R_SCH_SES_STATE i) F_SCH_SES_STATE_KEY_SLOT)).getD [])
        (leBytes 32 x.toNat) "WK-KEYSET" 32) → (qSession s src.queue = none → k = leBytes 32 x.toNat) →
      ∃ d, Ends (.secKeySet src n x) s src 0x0910 (.ok [BitVec.ofNat 8 d]) fun u => tabFind u.fw.keys n.toNat = some k ∧
        (∀ j, j ≠ n.toNat → tabFind u.fw.keys j = tabFind s.fw.keys j) ∧ (∀ j < 8, bitOf d j = (tabFind u.fw.keys j).isSome) ∧
        secNow u = secUsed u.fw ∧ u.ses = s.ses ∧ { u with fw := s.fw, strata := s.strata, regs := s.regs, ctrs := s.ctrs } = { begun s with regs := s.regs, ctrs := s.ctrs } ∧
        RegsBut s u [R_SCH_STRATA_ERR]) ∧
    (∀ (n : Byte) (x : BitVec 256), src.queue.val = 64 ∨ 7 < n.toNat → Ends (.secKeySet src n x) s src 0x0910 (.no 0x0102) (Unchanged s) ∧
      Ends (.secKeyClear src n) s src 0x0910 (.no 0x0102) (Unchanged s)) ∧
    (∀ n : Byte, src.queue.val < 64 → n.toNat ≤ 7 →
      ((∀ j, j ≠ n.toNat → tabFind s.fw.keys j = none) → Ends (.secKeyClear src n) s src 0x0910 (.no 0x0102) (Unchanged s)) ∧
      ((∃ j, j ≠ n.toNat ∧ tabFind s.fw.keys j ≠ none) → ∃ d, Ends (.secKeyClear src n) s src 0x0910 (.ok [BitVec.ofNat 8 d]) fun u =>
        tabFind u.fw.keys n.toNat = none ∧ (∀ j, j ≠ n.toNat → tabFind u.fw.keys j = tabFind s.fw.keys j) ∧
        (∀ j < 8, bitOf d j = (tabFind u.fw.keys j).isSome) ∧ secNow u = secUsed u.fw ∧ u.ses = s.ses ∧ RegsBut s u [R_SCH_STRATA_ERR] ∧
        u.mem = s.mem)) ∧
    (∀ (ad : DWord) (nonce : BitVec 256), src.queue.val < 64 → ad.toNat % 4096 = 0 →
      (inOneRange ad.toNat 1792 = true → Plain s ad.toNat 1792 → cmdReach s (takenAs 0x0911 src [] s) ad.toNat 1792 = true →
        Ends (.secAttest src ad nonce false) s src 0x0911 (.ok (leBytes 4 1792)) fun u => ∃ body r, Stored s u ad.toNat (body ++ attestSig r body) ∧
          body = attestBody s (leBytes 32 nonce.toNat) ∧ body.length = 512 ∧ (attestSig r body).length = 1280 ∧ fieldLE body 0 4 = 0x54534557 ∧
          fieldLE body 4 2 = 1 ∧ sliceZ body 16 32 = leBytes 32 nonce.toNat ∧ fieldLE body 48 4 = (regGet s R_SCH_FW_PKG_VERSION).toNat ∧
          fieldLE body 52 4 = (regGet s R_SCH_FW_SVN).toNat ∧ fieldLE body 56 4 = (regGet s R_SCH_FW_SVN_FLOOR).toNat ∧
          (∀ k < 8, sliceZ body (96 + 32 * k) 32 = fwDigest s (k + 1)) ∧ fieldLE body 384 8 = s.step.toNat) ∧
      (inOneRange ad.toNat 6144 = true → Plain s ad.toNat 6144 → cmdReach s (takenAs 0x0911 src [] s) ad.toNat 6144 = true →
        Ends (.secAttest src ad nonce true) s src 0x0911 (.ok (leBytes 4 6144)) fun u =>
          (∃ body r, memRead u.mem ad.toNat 1792 = body ++ attestSig r body ∧ body = attestBody s (leBytes 32 nonce.toNat)) ∧
          memRead u.mem (ad.toNat + 2048) 4096 = identCert s ∧ fieldLE (identCert s) 0 4 = 0x54444957 ∧
          fieldLE (identCert s) 4 8 = moduleId s ∧ fieldLE (identCert s) 12 1 = Config.caIndex.val ∧
          ∀ x, (x < ad.toNat ∨ ad.toNat + 1792 ≤ x) → (x < ad.toNat + 2048 ∨ ad.toNat + 6144 ≤ x) → memGet u.mem x = memGet s.mem x) ∧
      (∀ cert : Bool, inOneRange ad.toNat (if cert then 6144 else 1792) = false →
        Ends (.secAttest src ad nonce cert) s src 0x0911 (.no 0x0102) (Unchanged s))) ∧
    (∀ (ad : DWord) (nonce : BitVec 256) (cert : Bool), src.queue.val = 64 ∨ ad.toNat % 4096 ≠ 0 →
      Ends (.secAttest src ad nonce cert) s src 0x0911 (.no 0x0102) (Unchanged s))

/-! ### The whole machine. -/

/-- Every step keeps memory in its canonical form: addresses rise strictly, and no byte is listed that an unlisted address would
read as, so that equal memories are equal data (assumptions 5 and 6). -/
def Obligations.MemoryStaysCanonical : Prop :=
  ∀ s t : State, s.memOk → step s = .next t → t.memOk

/-- The state after reset has memory in its canonical form, an empty queue and no command taken. -/
def Obligations.ResetIsCanonical : Prop :=
  State.reset.memOk ∧ State.reset.queueOk ∧ State.reset.pending = [] ∧ State.reset.cmds.taken = []
end

