-- ==== Sys2Proof/Laws/Tab.lean ====
section
/-! SUPPORT. Tables: reading after putting and deleting, and the canonical form kept. -/
namespace Sys2Proof.Machine

variable {α : Type}

@[simp] theorem tabFind_nil (i : Nat) : tabFind ([] : Tab α) i = none := rfl

@[simp] theorem tabFind_tabPut_same (t : Tab α) (i : Nat) (x : α) : tabFind (tabPut t i x) i = some x := by
  induction t with
  | nil => simp [tabPut, tabFind]
  | cons e t ih =>
    obtain ⟨k, v⟩ := e
    simp only [tabPut]
    split
    · simp [tabFind]
    · split
      · simp [tabFind]
      · rename_i h; simp [tabFind, h, ih]

theorem tabFind_tabPut_ne (t : Tab α) {i j : Nat} (x : α) (h : j ≠ i) : tabFind (tabPut t i x) j = tabFind t j := by
  induction t with
  | nil => simp [tabPut, tabFind, Ne.symm h]
  | cons e t ih =>
    obtain ⟨k, v⟩ := e
    simp only [tabPut]
    split
    · simp [tabFind, Ne.symm h]
    · split
      · rename_i h'; subst h'; simp [tabFind, Ne.symm h]
      · simp [tabFind, ih]

theorem tabFind_tabPut (t : Tab α) (i j : Nat) (x : α) :
    tabFind (tabPut t i x) j = if j = i then some x else tabFind t j := by
  split
  · rename_i h; subst h; simp
  · exact tabFind_tabPut_ne t x ‹_›

theorem tabFind_tabDelIf (t : Tab α) (p : Nat → Bool) (j : Nat) :
    tabFind (tabDelIf t p) j = if p j then none else tabFind t j := by
  induction t with
  | nil => simp [tabDelIf, tabFind]
  | cons e t ih =>
    obtain ⟨k, v⟩ := e
    simp only [tabDelIf, List.filter_cons] at ih ⊢
    by_cases hk : p k
    · simp only [hk, Bool.not_true, Bool.false_eq_true, if_false, ih, tabFind]
      by_cases hj : k = j
      · subst hj; simp [hk]
      · simp [hj]
    · simp only [hk, Bool.not_false, if_true, tabFind, ih]
      by_cases hj : k = j
      · subst hj; simp [hk]
      · simp [hj]

@[simp] theorem tabFind_tabDel_same (t : Tab α) (i : Nat) : tabFind (tabDel t i) i = none := by
  simp [tabDel, tabFind_tabDelIf]

theorem tabFind_tabDel_ne (t : Tab α) {i j : Nat} (h : j ≠ i) : tabFind (tabDel t i) j = tabFind t j := by
  simp [tabDel, tabFind_tabDelIf, h]

/-! ### The canonical form. -/

theorem tabSorted_cons (e : Nat × α) (t : Tab α) :
    tabSorted (e :: t) = true ↔ (∀ x ∈ t, e.1 < x.1) ∧ tabSorted t = true := by
  induction t generalizing e with
  | nil => simp [tabSorted]
  | cons b t ih =>
    simp only [tabSorted, Bool.and_eq_true, decide_eq_true_eq, List.mem_cons, forall_eq_or_imp, ih b]
    constructor
    · rintro ⟨h, hb, ht⟩; exact ⟨⟨h, fun x hx => Nat.lt_trans h (hb x hx)⟩, hb, ht⟩
    · rintro ⟨⟨h, _⟩, hb, ht⟩; exact ⟨h, hb, ht⟩

theorem mem_tabPut (t : Tab α) (i : Nat) (x : α) (e : Nat × α) (h : e ∈ tabPut t i x) : e = (i, x) ∨ e ∈ t := by
  induction t with
  | nil => simpa [tabPut] using h
  | cons a t ih =>
    obtain ⟨k, v⟩ := a
    simp only [tabPut] at h
    split at h
    · simpa using h
    · split at h
      · rcases List.mem_cons.1 h with h | h
        · exact .inl h
        · exact .inr (List.mem_cons_of_mem _ h)
      · rcases List.mem_cons.1 h with h | h
        · exact .inr (h ▸ List.mem_cons_self)
        · rcases ih h with h | h
          · exact .inl h
          · exact .inr (List.mem_cons_of_mem _ h)

theorem tabSorted_tabPut (t : Tab α) (i : Nat) (x : α) (h : tabSorted t = true) : tabSorted (tabPut t i x) = true := by
  induction t with
  | nil => rfl
  | cons a t ih =>
    obtain ⟨k, v⟩ := a
    have hc := (tabSorted_cons _ _).1 h
    simp only [tabPut]
    split
    · rename_i hk
      refine (tabSorted_cons _ _).2 ⟨?_, h⟩
      intro y hy
      rcases List.mem_cons.1 hy with rfl | hy
      · exact hk
      · exact Nat.lt_trans hk (hc.1 y hy)
    · split
      · rename_i hk; subst hk; exact (tabSorted_cons _ _).2 hc
      · refine (tabSorted_cons _ _).2 ⟨?_, ih hc.2⟩
        intro y hy
        rcases mem_tabPut t i x y hy with rfl | hy
        · show k < i; omega
        · exact hc.1 y hy

theorem tabSorted_tabDelIf (t : Tab α) (p : Nat → Bool) (h : tabSorted t = true) : tabSorted (tabDelIf t p) = true := by
  induction t with
  | nil => rfl
  | cons a t ih =>
    have hc := (tabSorted_cons _ _).1 h
    have := ih hc.2
    simp only [tabDelIf, List.filter_cons] at this ⊢
    split
    · exact (tabSorted_cons _ _).2 ⟨fun y hy => hc.1 y (List.mem_filter.1 hy).1, this⟩
    · exact this

end Sys2Proof.Machine
end

