-- ==== Sys2Proof/Laws/Mem.lean ====
section
/-! SUPPORT. Memory: a read after a write gives the value written, a write leaves every other byte alone, and every
operation keeps the canonical form. -/
namespace Sys2Proof.Machine

theorem isLost_false_read (ls : List Lost) (a : Nat) (h : isLost ls a = false) : lostRead ls a = 0#8 := by
  induction ls with
  | nil => rfl
  | cons l t ih =>
    simp only [isLost, List.any_cons, Bool.or_eq_false_iff] at h
    have hl : ¬(l.lo ≤ a ∧ a < l.hi) := by
      intro hh; have := h.1; simp [hh.1, hh.2] at this
    simp only [lostRead, hl, if_false]
    exact ih h.2

@[simp] theorem memGet_memSet_same (m : Memory) (a : Nat) (b : Byte) : memGet (memSet m a b) a = b := by
  unfold memSet
  split
  · rename_i h
    simp only [Bool.and_eq_true, decide_eq_true_eq, Bool.not_eq_true'] at h
    simp [memGet, isLost_false_read _ _ h.2, h.1]
  · simp [memGet]

theorem memGet_memSet_ne (m : Memory) {a x : Nat} (b : Byte) (h : x ≠ a) : memGet (memSet m a b) x = memGet m x := by
  unfold memSet
  split
  · simp [memGet, tabFind_tabDel_ne _ h]
  · simp [memGet, tabFind_tabPut_ne _ _ h]

theorem memGet_memWrite_outside (bs : List Byte) : ∀ (m : Memory) (a x : Nat), (x < a ∨ a + bs.length ≤ x) →
    memGet (memWrite m a bs) x = memGet m x := by
  induction bs with
  | nil => intro m a x _; rfl
  | cons b t ih =>
    intro m a x h
    simp only [memWrite, List.length_cons] at h ⊢
    rw [ih _ _ _ (by omega), memGet_memSet_ne _ _ (by omega)]

theorem memRead_memWrite (bs : List Byte) : ∀ (m : Memory) (a : Nat), memRead (memWrite m a bs) a bs.length = bs := by
  induction bs with
  | nil => intro m a; rfl
  | cons b t ih =>
    intro m a
    simp only [memWrite, List.length_cons, memRead, ih]
    rw [memGet_memWrite_outside _ _ _ _ (by omega), memGet_memSet_same]

/-! ### The canonical form (assumption 5). -/

/-- The canonical form in words. -/
theorem memWf_iff (m : Memory) :
    memWf m = true ↔ tabSorted m.cells = true ∧ ∀ c ∈ m.cells, c.2 = 0#8 → isLost m.lost c.1 = true := by
  have h : ∀ c : Host.Cell, (c.2 != 0#8 || isLost m.lost c.1) = true ↔ (c.2 = 0#8 → isLost m.lost c.1 = true) := by
    intro c
    by_cases hc : c.2 = 0#8 <;> simp [hc]
  simp only [memWf, Bool.and_eq_true, List.all_eq_true, h]

theorem memWf_memSet (m : Memory) (a : Nat) (b : Byte) (h : memWf m = true) : memWf (memSet m a b) = true := by
  rw [memWf_iff] at h
  unfold memSet
  split
  · rw [memWf_iff]
    exact ⟨tabSorted_tabDelIf m.cells (fun k => k == a) h.1, fun c hc => h.2 c (List.mem_filter.1 hc).1⟩
  · rename_i hb
    rw [memWf_iff]
    refine ⟨tabSorted_tabPut _ _ _ h.1, fun c hc => ?_⟩
    rcases mem_tabPut _ _ _ _ hc with rfl | hc
    · intro (hz : b = 0#8)
      subst hz
      simpa using hb
    · exact h.2 c hc

theorem memWf_memWrite (bs : List Byte) : ∀ (m : Memory) (a : Nat), memWf m = true → memWf (memWrite m a bs) = true := by
  induction bs with
  | nil => intro m a h; exact h
  | cons b t ih => intro m a h; exact ih _ _ (memWf_memSet m a b h)

theorem memWf_memLose (m : Memory) (lo hi tag : Nat) (h : memWf m = true) : memWf (memLose m lo hi tag) = true := by
  unfold memLose
  split
  · rw [memWf_iff] at h ⊢
    refine ⟨tabSorted_tabDelIf m.cells (fun a => decide (lo ≤ a) && decide (a < hi)) h.1, fun c hc hz => ?_⟩
    have := h.2 c (List.mem_filter.1 hc).1 hz
    simp only [isLost, List.any_cons, Bool.or_eq_true] at this ⊢
    exact .inr this
  · exact h

/-- A lost byte reads as the free byte of its loss. -/
theorem memGet_memLose (m : Memory) (lo hi tag a : Nat) (h : lo ≤ a ∧ a < hi) :
    memGet (memLose m lo hi tag) a = Config.lostByte tag a := by
  have hl : lo < hi := by omega
  simp [memLose, hl, memGet, tabFind_tabDelIf, h.1, h.2, lostRead]

theorem memGet_memLose_outside (m : Memory) (lo hi tag a : Nat) (h : a < lo ∨ hi ≤ a) :
    memGet (memLose m lo hi tag) a = memGet m a := by
  have h1 : ¬(lo ≤ a ∧ a < hi) := by omega
  unfold memLose
  split
  · have h2 : (decide (lo ≤ a) && decide (a < hi)) = false := by simpa using h1
    simp [memGet, tabFind_tabDelIf, h2, lostRead, h1]
  · rfl

end Sys2Proof.Machine
end

