-- ==== Sys2Proof/Laws/Bits.lean ====
section
/-! SUPPORT. Fields of words and little-endian byte lists: what was put is read. -/
namespace Sys2Proof.Machine

/-! ### Fields. -/

theorem testBit_fldGet (w : Word) (f : Fld) (i : Nat) :
    (fldGet w f).testBit i = (decide (i < f.len) && w.getLsbD (f.lo + i)) := by
  simp [fldGet, bitsOf, Nat.testBit_mod_two_pow, Nat.testBit_shiftRight, BitVec.getLsbD]

theorem getLsbD_fldMask (f : Fld) (i : Nat) :
    (fldMask f).getLsbD i = (decide (i < 32) && (decide (f.lo ≤ i) && decide (i - f.lo < f.len))) := by
  simp [fldMask, BitVec.getLsbD_ofNat, Nat.testBit_shiftLeft, Nat.testBit_two_pow_sub_one]

theorem getLsbD_fldSet (w : Word) (f : Fld) (v i : Nat) (hi : i < 32) :
    (fldSet w f v).getLsbD i = if f.lo ≤ i ∧ i < f.lo + f.len then v.testBit (i - f.lo) else w.getLsbD i := by
  simp only [fldSet, BitVec.getLsbD_or, BitVec.getLsbD_and, BitVec.getLsbD_not, getLsbD_fldMask, BitVec.getLsbD_ofNat,
    Nat.testBit_shiftLeft, Nat.testBit_mod_two_pow, hi, decide_true, Bool.true_and]
  by_cases h1 : f.lo ≤ i
  · by_cases h2 : i - f.lo < f.len
    · have : i < f.lo + f.len := by omega
      simp [h1, h2, this]
    · have : ¬ i < f.lo + f.len := by omega
      simp [h1, h2, this]
  · simp [h1]

/-- A field reads as what was put in it, cut to its length. -/
@[simp] theorem fldGet_fldSet (w : Word) (f : Fld) (v : Nat) (h : f.lo + f.len ≤ 32) :
    fldGet (fldSet w f v) f = v % 2 ^ f.len := by
  apply Nat.eq_of_testBit_eq
  intro i
  rw [testBit_fldGet, Nat.testBit_mod_two_pow]
  by_cases hi : i < f.len
  · rw [getLsbD_fldSet _ _ _ _ (by omega)]
    have : f.lo ≤ f.lo + i ∧ f.lo + i < f.lo + f.len := by omega
    simp [this, hi]
  · simp [hi]

/-- Putting a field leaves a field without a common bit alone. -/
theorem fldGet_fldSet_ne (w : Word) (f g : Fld) (v : Nat) (hg : g.lo + g.len ≤ 32)
    (h : g.lo + g.len ≤ f.lo ∨ f.lo + f.len ≤ g.lo) : fldGet (fldSet w f v) g = fldGet w g := by
  apply Nat.eq_of_testBit_eq
  intro i
  rw [testBit_fldGet, testBit_fldGet]
  by_cases hi : i < g.len
  · rw [getLsbD_fldSet _ _ _ _ (by omega)]
    have : ¬(f.lo ≤ g.lo + i ∧ g.lo + i < f.lo + f.len) := by omega
    simp [this]
  · simp [hi]

/-! ### Little-endian byte lists (00_scope.md:R4). -/

@[simp] theorem length_leBytes (n x : Nat) : (leBytes n x).length = n := by
  induction n generalizing x with
  | zero => rfl
  | succ n ih => simp [leBytes, ih]

theorem leNat_leBytes (n x : Nat) : leNat (leBytes n x) = x % 256 ^ n := by
  induction n generalizing x with
  | zero => simp [leBytes, leNat, Nat.mod_one]
  | succ n ih =>
    simp only [leBytes, leNat, ih, BitVec.toNat_ofNat]
    rw [Nat.pow_succ 256 n, Nat.mul_comm (256 ^ n) 256, Nat.mod_mul]

theorem leNat_lt (bs : List Byte) : leNat bs < 256 ^ bs.length := by
  induction bs with
  | nil => simp [leNat]
  | cons b t ih =>
    have := b.isLt
    simp only [leNat, List.length_cons, Nat.pow_succ]
    omega

@[simp] theorem length_sliceZ (bs : List Byte) (i n : Nat) : (sliceZ bs i n).length = n := by
  simp only [sliceZ, List.length_append, List.length_replicate, List.length_take, List.length_drop]
  omega

/-- A slice that lies within a list. -/
theorem sliceZ_within (bs : List Byte) (i n : Nat) (h : i + n ≤ bs.length) : sliceZ bs i n = (bs.drop i).take n := by
  have h2 : n - Nat.min n (bs.length - i) = 0 := by
    have : Nat.min n (bs.length - i) = n := Nat.min_eq_left (by omega)
    omega
  simp only [sliceZ, List.length_take, List.length_drop, Nat.min_def] at h2 ⊢
  rw [h2]; simp

/-- The whole of a list. -/
theorem sliceZ_whole (bs : List Byte) (n : Nat) (h : bs.length = n) : sliceZ bs 0 n = bs := by
  rw [sliceZ_within _ _ _ (by omega), List.drop_zero, List.take_of_length_le (by omega)]

/-- A piece of a longer list that begins with `a` and goes on with `b`. -/
theorem sliceZ_mid (a b c : List Byte) (n : Nat) (hn : b.length = n) : sliceZ (a ++ (b ++ c)) a.length n = b := by
  subst hn
  rw [sliceZ_within _ _ _ (by simp [List.length_append])]
  simp

theorem leBytes_mod (n x : Nat) : leBytes n (x % 256 ^ n) = leBytes n x := by
  induction n generalizing x with
  | zero => rfl
  | succ n ih =>
    have h1 : x % 256 ^ (n + 1) / 256 = x / 256 % 256 ^ n := by
      rw [Nat.pow_succ, Nat.mul_comm, Nat.mod_mul_right_div_self]
    have h2 : BitVec.ofNat 8 (x % 256 ^ (n + 1)) = BitVec.ofNat 8 x := by
      apply BitVec.eq_of_toNat_eq
      simp only [BitVec.toNat_ofNat]
      rw [Nat.pow_succ, Nat.mul_comm]
      exact Nat.mod_mul_right_mod x 256 (256 ^ n)
    simp only [leBytes, h1, h2, ih]

/-- The bytes [i, i + n) of the number that bytes spell. -/
theorem leBytes_drop (m x i : Nat) : (leBytes m x).drop i = leBytes (m - i) (x / 256 ^ i) := by
  induction i generalizing m x with
  | zero => simp
  | succ i ih =>
    cases m with
    | zero => simp [leBytes]
    | succ m =>
      simp only [leBytes, List.drop_succ_cons, ih, Nat.succ_sub_succ]
      rw [Nat.div_div_eq_div_mul, Nat.pow_succ, Nat.mul_comm]

theorem leBytes_take (m x n : Nat) (h : n ≤ m) : (leBytes m x).take n = leBytes n x := by
  induction n generalizing m x with
  | zero => rfl
  | succ n ih =>
    cases m with
    | zero => omega
    | succ m => simp only [leBytes, List.take_succ_cons]; rw [ih _ _ (by omega)]

/-- Bytes [i, i + n) of a number's bytes, as a number. -/
theorem fieldLE_leBytes (m x i n : Nat) (h : i + n ≤ m) : fieldLE (leBytes m x) i n = x / 256 ^ i % 256 ^ n := by
  rw [fieldLE, sliceZ_within _ _ _ (by simpa using h), leBytes_drop, leBytes_take _ _ _ (by omega), leNat_leBytes]

/-! ### Reading a field of joined bytes. -/

theorem fieldLE_append_left (a b : List Byte) (i n : Nat) (h : i + n ≤ a.length) : fieldLE (a ++ b) i n = fieldLE a i n := by
  rw [fieldLE, fieldLE, sliceZ_within _ _ _ (by simp; omega), sliceZ_within _ _ _ h, List.drop_append_of_le_length (by omega),
    List.take_append_of_le_length (by simp; omega)]

theorem fieldLE_append_right (a b : List Byte) (i n : Nat) (h : a.length ≤ i) :
    fieldLE (a ++ b) i n = fieldLE b (i - a.length) n := by
  have hd : (a ++ b).drop i = b.drop (i - a.length) := by
    rw [List.drop_append]; simp [List.drop_eq_nil_of_le h]
  simp only [fieldLE, sliceZ, hd]

theorem fieldLE_cons_succ (b : Byte) (t : List Byte) (i n : Nat) (h : 0 < i) : fieldLE (b :: t) i n = fieldLE t (i - 1) n := by
  cases i with
  | zero => omega
  | succ i => simp [fieldLE, sliceZ]

theorem fieldLE_cons_zero (b : Byte) (t : List Byte) : fieldLE (b :: t) 0 1 = b.toNat := by
  simp [fieldLE, sliceZ, leNat]

theorem fieldLE_leBytes_whole (n x : Nat) : fieldLE (leBytes n x) 0 n = x % 256 ^ n := by
  rw [fieldLE_leBytes _ _ _ _ (by omega)]; simp

theorem fldGet_lt (w : Word) (f : Fld) : fldGet w f < 2 ^ f.len := Nat.mod_lt _ (Nat.two_pow_pos _)

end Sys2Proof.Machine
end

