-- ==== Sys2Proof/Laws/State.lean ====
section
/-! SUPPORT. What the smallest updates of the state leave alone: one lemma per field and update. -/
namespace Sys2Proof.Machine

variable (s : State)

/-! ### regSet -/
@[simp] theorem regSet_cyc (k : Nat) (w : Word) : (regSet s k w).cyc = s.cyc := rfl
@[simp] theorem regSet_ctrs (k : Nat) (w : Word) : (regSet s k w).ctrs = s.ctrs := rfl
@[simp] theorem regSet_latch (k : Nat) (w : Word) : (regSet s k w).latch = s.latch := rfl
@[simp] theorem regSet_mem (k : Nat) (w : Word) : (regSet s k w).mem = s.mem := rfl
@[simp] theorem regSet_ecc (k : Nat) (w : Word) : (regSet s k w).ecc = s.ecc := rfl
@[simp] theorem regSet_tags (k : Nat) (w : Word) : (regSet s k w).tags = s.tags := rfl
@[simp] theorem regSet_shl (k : Nat) (w : Word) : (regSet s k w).shl = s.shl := rfl
@[simp] theorem regSet_frames (k : Nat) (w : Word) : (regSet s k w).frames = s.frames := rfl
@[simp] theorem regSet_scheds (k : Nat) (w : Word) : (regSet s k w).scheds = s.scheds := rfl
@[simp] theorem regSet_runs (k : Nat) (w : Word) : (regSet s k w).runs = s.runs := rfl
@[simp] theorem regSet_xfers (k : Nat) (w : Word) : (regSet s k w).xfers = s.xfers := rfl
@[simp] theorem regSet_credits (k : Nat) (w : Word) : (regSet s k w).credits = s.credits := rfl
@[simp] theorem regSet_stops (k : Nat) (w : Word) : (regSet s k w).stops = s.stops := rfl
@[simp] theorem regSet_step (k : Nat) (w : Word) : (regSet s k w).step = s.step := rfl
@[simp] theorem regSet_stepFailed (k : Nat) (w : Word) : (regSet s k w).stepFailed = s.stepFailed := rfl
@[simp] theorem regSet_rcp (k : Nat) (w : Word) : (regSet s k w).rcp = s.rcp := rfl
@[simp] theorem regSet_coh (k : Nat) (w : Word) : (regSet s k w).coh = s.coh := rfl
@[simp] theorem regSet_intlv (k : Nat) (w : Word) : (regSet s k w).intlv = s.intlv := rfl
@[simp] theorem regSet_cmds (k : Nat) (w : Word) : (regSet s k w).cmds = s.cmds := rfl
@[simp] theorem regSet_ses (k : Nat) (w : Word) : (regSet s k w).ses = s.ses := rfl
@[simp] theorem regSet_half (k : Nat) (w : Word) : (regSet s k w).half = s.half := rfl
@[simp] theorem regSet_pod (k : Nat) (w : Word) : (regSet s k w).pod = s.pod := rfl
@[simp] theorem regSet_podCmds (k : Nat) (w : Word) : (regSet s k w).podCmds = s.podCmds := rfl
@[simp] theorem regSet_hlt (k : Nat) (w : Word) : (regSet s k w).hlt = s.hlt := rfl
@[simp] theorem regSet_rpl (k : Nat) (w : Word) : (regSet s k w).rpl = s.rpl := rfl
@[simp] theorem regSet_strata (k : Nat) (w : Word) : (regSet s k w).strata = s.strata := rfl
@[simp] theorem regSet_fw (k : Nat) (w : Word) : (regSet s k w).fw = s.fw := rfl
@[simp] theorem regSet_ports (k : Nat) (w : Word) : (regSet s k w).ports = s.ports := rfl
@[simp] theorem regSet_io (k : Nat) (w : Word) : (regSet s k w).io = s.io := rfl
@[simp] theorem regSet_mica (k : Nat) (w : Word) : (regSet s k w).mica = s.mica := rfl
@[simp] theorem regSet_rings (k : Nat) (w : Word) : (regSet s k w).rings = s.rings := rfl
@[simp] theorem regSet_upd (k : Nat) (w : Word) : (regSet s k w).upd = s.upd := rfl
@[simp] theorem regSet_updWatch (k : Nat) (w : Word) : (regSet s k w).updWatch = s.updWatch := rfl
@[simp] theorem regSet_pwr (k : Nat) (w : Word) : (regSet s k w).pwr = s.pwr := rfl
@[simp] theorem regSet_brd (k : Nat) (w : Word) : (regSet s k w).brd = s.brd := rfl
@[simp] theorem regSet_clkBad (k : Nat) (w : Word) : (regSet s k w).clkBad = s.clkBad := rfl
@[simp] theorem regSet_spareBad (k : Nat) (w : Word) : (regSet s k w).spareBad = s.spareBad := rfl
@[simp] theorem regSet_seamFlash (k : Nat) (w : Word) : (regSet s k w).seamFlash = s.seamFlash := rfl
@[simp] theorem regSet_prefixes (k : Nat) (w : Word) : (regSet s k w).prefixes = s.prefixes := rfl
@[simp] theorem regSet_excl (k : Nat) (w : Word) : (regSet s k w).excl = s.excl := rfl
@[simp] theorem regSet_asleep (k : Nat) (w : Word) : (regSet s k w).asleep = s.asleep := rfl
@[simp] theorem regSet_nextId (k : Nat) (w : Word) : (regSet s k w).nextId = s.nextId := rfl
@[simp] theorem regSet_free (k : Nat) (w : Word) : (regSet s k w).free = s.free := rfl
@[simp] theorem regSet_outs (k : Nat) (w : Word) : (regSet s k w).outs = s.outs := rfl
@[simp] theorem regSet_pending (k : Nat) (w : Word) : (regSet s k w).pending = s.pending := rfl

/-! ### setFld -/
@[simp] theorem setFld_cyc (k : Nat) (f : Fld) (v : Nat) : (setFld s k f v).cyc = s.cyc := rfl
@[simp] theorem setFld_ctrs (k : Nat) (f : Fld) (v : Nat) : (setFld s k f v).ctrs = s.ctrs := rfl
@[simp] theorem setFld_latch (k : Nat) (f : Fld) (v : Nat) : (setFld s k f v).latch = s.latch := rfl
@[simp] theorem setFld_mem (k : Nat) (f : Fld) (v : Nat) : (setFld s k f v).mem = s.mem := rfl
@[simp] theorem setFld_ecc (k : Nat) (f : Fld) (v : Nat) : (setFld s k f v).ecc = s.ecc := rfl
@[simp] theorem setFld_tags (k : Nat) (f : Fld) (v : Nat) : (setFld s k f v).tags = s.tags := rfl
@[simp] theorem setFld_shl (k : Nat) (f : Fld) (v : Nat) : (setFld s k f v).shl = s.shl := rfl
@[simp] theorem setFld_frames (k : Nat) (f : Fld) (v : Nat) : (setFld s k f v).frames = s.frames := rfl
@[simp] theorem setFld_scheds (k : Nat) (f : Fld) (v : Nat) : (setFld s k f v).scheds = s.scheds := rfl
@[simp] theorem setFld_runs (k : Nat) (f : Fld) (v : Nat) : (setFld s k f v).runs = s.runs := rfl
@[simp] theorem setFld_xfers (k : Nat) (f : Fld) (v : Nat) : (setFld s k f v).xfers = s.xfers := rfl
@[simp] theorem setFld_credits (k : Nat) (f : Fld) (v : Nat) : (setFld s k f v).credits = s.credits := rfl
@[simp] theorem setFld_stops (k : Nat) (f : Fld) (v : Nat) : (setFld s k f v).stops = s.stops := rfl
@[simp] theorem setFld_step (k : Nat) (f : Fld) (v : Nat) : (setFld s k f v).step = s.step := rfl
@[simp] theorem setFld_stepFailed (k : Nat) (f : Fld) (v : Nat) : (setFld s k f v).stepFailed = s.stepFailed := rfl
@[simp] theorem setFld_rcp (k : Nat) (f : Fld) (v : Nat) : (setFld s k f v).rcp = s.rcp := rfl
@[simp] theorem setFld_coh (k : Nat) (f : Fld) (v : Nat) : (setFld s k f v).coh = s.coh := rfl
@[simp] theorem setFld_intlv (k : Nat) (f : Fld) (v : Nat) : (setFld s k f v).intlv = s.intlv := rfl
@[simp] theorem setFld_cmds (k : Nat) (f : Fld) (v : Nat) : (setFld s k f v).cmds = s.cmds := rfl
@[simp] theorem setFld_ses (k : Nat) (f : Fld) (v : Nat) : (setFld s k f v).ses = s.ses := rfl
@[simp] theorem setFld_half (k : Nat) (f : Fld) (v : Nat) : (setFld s k f v).half = s.half := rfl
@[simp] theorem setFld_pod (k : Nat) (f : Fld) (v : Nat) : (setFld s k f v).pod = s.pod := rfl
@[simp] theorem setFld_podCmds (k : Nat) (f : Fld) (v : Nat) : (setFld s k f v).podCmds = s.podCmds := rfl
@[simp] theorem setFld_hlt (k : Nat) (f : Fld) (v : Nat) : (setFld s k f v).hlt = s.hlt := rfl
@[simp] theorem setFld_rpl (k : Nat) (f : Fld) (v : Nat) : (setFld s k f v).rpl = s.rpl := rfl
@[simp] theorem setFld_strata (k : Nat) (f : Fld) (v : Nat) : (setFld s k f v).strata = s.strata := rfl
@[simp] theorem setFld_fw (k : Nat) (f : Fld) (v : Nat) : (setFld s k f v).fw = s.fw := rfl
@[simp] theorem setFld_ports (k : Nat) (f : Fld) (v : Nat) : (setFld s k f v).ports = s.ports := rfl
@[simp] theorem setFld_io (k : Nat) (f : Fld) (v : Nat) : (setFld s k f v).io = s.io := rfl
@[simp] theorem setFld_mica (k : Nat) (f : Fld) (v : Nat) : (setFld s k f v).mica = s.mica := rfl
@[simp] theorem setFld_rings (k : Nat) (f : Fld) (v : Nat) : (setFld s k f v).rings = s.rings := rfl
@[simp] theorem setFld_upd (k : Nat) (f : Fld) (v : Nat) : (setFld s k f v).upd = s.upd := rfl
@[simp] theorem setFld_updWatch (k : Nat) (f : Fld) (v : Nat) : (setFld s k f v).updWatch = s.updWatch := rfl
@[simp] theorem setFld_pwr (k : Nat) (f : Fld) (v : Nat) : (setFld s k f v).pwr = s.pwr := rfl
@[simp] theorem setFld_brd (k : Nat) (f : Fld) (v : Nat) : (setFld s k f v).brd = s.brd := rfl
@[simp] theorem setFld_clkBad (k : Nat) (f : Fld) (v : Nat) : (setFld s k f v).clkBad = s.clkBad := rfl
@[simp] theorem setFld_spareBad (k : Nat) (f : Fld) (v : Nat) : (setFld s k f v).spareBad = s.spareBad := rfl
@[simp] theorem setFld_seamFlash (k : Nat) (f : Fld) (v : Nat) : (setFld s k f v).seamFlash = s.seamFlash := rfl
@[simp] theorem setFld_prefixes (k : Nat) (f : Fld) (v : Nat) : (setFld s k f v).prefixes = s.prefixes := rfl
@[simp] theorem setFld_excl (k : Nat) (f : Fld) (v : Nat) : (setFld s k f v).excl = s.excl := rfl
@[simp] theorem setFld_asleep (k : Nat) (f : Fld) (v : Nat) : (setFld s k f v).asleep = s.asleep := rfl
@[simp] theorem setFld_nextId (k : Nat) (f : Fld) (v : Nat) : (setFld s k f v).nextId = s.nextId := rfl
@[simp] theorem setFld_free (k : Nat) (f : Fld) (v : Nat) : (setFld s k f v).free = s.free := rfl
@[simp] theorem setFld_outs (k : Nat) (f : Fld) (v : Nat) : (setFld s k f v).outs = s.outs := rfl
@[simp] theorem setFld_pending (k : Nat) (f : Fld) (v : Nat) : (setFld s k f v).pending = s.pending := rfl

/-! ### raise -/
@[simp] theorem raise_cyc (k : Nat) (f : Fld) : (raise s k f).cyc = s.cyc := rfl
@[simp] theorem raise_ctrs (k : Nat) (f : Fld) : (raise s k f).ctrs = s.ctrs := rfl
@[simp] theorem raise_latch (k : Nat) (f : Fld) : (raise s k f).latch = s.latch := rfl
@[simp] theorem raise_mem (k : Nat) (f : Fld) : (raise s k f).mem = s.mem := rfl
@[simp] theorem raise_ecc (k : Nat) (f : Fld) : (raise s k f).ecc = s.ecc := rfl
@[simp] theorem raise_tags (k : Nat) (f : Fld) : (raise s k f).tags = s.tags := rfl
@[simp] theorem raise_shl (k : Nat) (f : Fld) : (raise s k f).shl = s.shl := rfl
@[simp] theorem raise_frames (k : Nat) (f : Fld) : (raise s k f).frames = s.frames := rfl
@[simp] theorem raise_scheds (k : Nat) (f : Fld) : (raise s k f).scheds = s.scheds := rfl
@[simp] theorem raise_runs (k : Nat) (f : Fld) : (raise s k f).runs = s.runs := rfl
@[simp] theorem raise_xfers (k : Nat) (f : Fld) : (raise s k f).xfers = s.xfers := rfl
@[simp] theorem raise_credits (k : Nat) (f : Fld) : (raise s k f).credits = s.credits := rfl
@[simp] theorem raise_stops (k : Nat) (f : Fld) : (raise s k f).stops = s.stops := rfl
@[simp] theorem raise_step (k : Nat) (f : Fld) : (raise s k f).step = s.step := rfl
@[simp] theorem raise_stepFailed (k : Nat) (f : Fld) : (raise s k f).stepFailed = s.stepFailed := rfl
@[simp] theorem raise_rcp (k : Nat) (f : Fld) : (raise s k f).rcp = s.rcp := rfl
@[simp] theorem raise_coh (k : Nat) (f : Fld) : (raise s k f).coh = s.coh := rfl
@[simp] theorem raise_intlv (k : Nat) (f : Fld) : (raise s k f).intlv = s.intlv := rfl
@[simp] theorem raise_cmds (k : Nat) (f : Fld) : (raise s k f).cmds = s.cmds := rfl
@[simp] theorem raise_ses (k : Nat) (f : Fld) : (raise s k f).ses = s.ses := rfl
@[simp] theorem raise_half (k : Nat) (f : Fld) : (raise s k f).half = s.half := rfl
@[simp] theorem raise_pod (k : Nat) (f : Fld) : (raise s k f).pod = s.pod := rfl
@[simp] theorem raise_podCmds (k : Nat) (f : Fld) : (raise s k f).podCmds = s.podCmds := rfl
@[simp] theorem raise_hlt (k : Nat) (f : Fld) : (raise s k f).hlt = s.hlt := rfl
@[simp] theorem raise_rpl (k : Nat) (f : Fld) : (raise s k f).rpl = s.rpl := rfl
@[simp] theorem raise_strata (k : Nat) (f : Fld) : (raise s k f).strata = s.strata := rfl
@[simp] theorem raise_fw (k : Nat) (f : Fld) : (raise s k f).fw = s.fw := rfl
@[simp] theorem raise_ports (k : Nat) (f : Fld) : (raise s k f).ports = s.ports := rfl
@[simp] theorem raise_io (k : Nat) (f : Fld) : (raise s k f).io = s.io := rfl
@[simp] theorem raise_mica (k : Nat) (f : Fld) : (raise s k f).mica = s.mica := rfl
@[simp] theorem raise_rings (k : Nat) (f : Fld) : (raise s k f).rings = s.rings := rfl
@[simp] theorem raise_upd (k : Nat) (f : Fld) : (raise s k f).upd = s.upd := rfl
@[simp] theorem raise_updWatch (k : Nat) (f : Fld) : (raise s k f).updWatch = s.updWatch := rfl
@[simp] theorem raise_pwr (k : Nat) (f : Fld) : (raise s k f).pwr = s.pwr := rfl
@[simp] theorem raise_brd (k : Nat) (f : Fld) : (raise s k f).brd = s.brd := rfl
@[simp] theorem raise_clkBad (k : Nat) (f : Fld) : (raise s k f).clkBad = s.clkBad := rfl
@[simp] theorem raise_spareBad (k : Nat) (f : Fld) : (raise s k f).spareBad = s.spareBad := rfl
@[simp] theorem raise_seamFlash (k : Nat) (f : Fld) : (raise s k f).seamFlash = s.seamFlash := rfl
@[simp] theorem raise_prefixes (k : Nat) (f : Fld) : (raise s k f).prefixes = s.prefixes := rfl
@[simp] theorem raise_excl (k : Nat) (f : Fld) : (raise s k f).excl = s.excl := rfl
@[simp] theorem raise_asleep (k : Nat) (f : Fld) : (raise s k f).asleep = s.asleep := rfl
@[simp] theorem raise_nextId (k : Nat) (f : Fld) : (raise s k f).nextId = s.nextId := rfl
@[simp] theorem raise_free (k : Nat) (f : Fld) : (raise s k f).free = s.free := rfl
@[simp] theorem raise_outs (k : Nat) (f : Fld) : (raise s k f).outs = s.outs := rfl
@[simp] theorem raise_pending (k : Nat) (f : Fld) : (raise s k f).pending = s.pending := rfl

/-! ### regInc -/
@[simp] theorem regInc_cyc (k n : Nat) : (regInc s k n).cyc = s.cyc := rfl
@[simp] theorem regInc_ctrs (k n : Nat) : (regInc s k n).ctrs = s.ctrs := rfl
@[simp] theorem regInc_latch (k n : Nat) : (regInc s k n).latch = s.latch := rfl
@[simp] theorem regInc_mem (k n : Nat) : (regInc s k n).mem = s.mem := rfl
@[simp] theorem regInc_ecc (k n : Nat) : (regInc s k n).ecc = s.ecc := rfl
@[simp] theorem regInc_tags (k n : Nat) : (regInc s k n).tags = s.tags := rfl
@[simp] theorem regInc_shl (k n : Nat) : (regInc s k n).shl = s.shl := rfl
@[simp] theorem regInc_frames (k n : Nat) : (regInc s k n).frames = s.frames := rfl
@[simp] theorem regInc_scheds (k n : Nat) : (regInc s k n).scheds = s.scheds := rfl
@[simp] theorem regInc_runs (k n : Nat) : (regInc s k n).runs = s.runs := rfl
@[simp] theorem regInc_xfers (k n : Nat) : (regInc s k n).xfers = s.xfers := rfl
@[simp] theorem regInc_credits (k n : Nat) : (regInc s k n).credits = s.credits := rfl
@[simp] theorem regInc_stops (k n : Nat) : (regInc s k n).stops = s.stops := rfl
@[simp] theorem regInc_step (k n : Nat) : (regInc s k n).step = s.step := rfl
@[simp] theorem regInc_stepFailed (k n : Nat) : (regInc s k n).stepFailed = s.stepFailed := rfl
@[simp] theorem regInc_rcp (k n : Nat) : (regInc s k n).rcp = s.rcp := rfl
@[simp] theorem regInc_coh (k n : Nat) : (regInc s k n).coh = s.coh := rfl
@[simp] theorem regInc_intlv (k n : Nat) : (regInc s k n).intlv = s.intlv := rfl
@[simp] theorem regInc_cmds (k n : Nat) : (regInc s k n).cmds = s.cmds := rfl
@[simp] theorem regInc_ses (k n : Nat) : (regInc s k n).ses = s.ses := rfl
@[simp] theorem regInc_half (k n : Nat) : (regInc s k n).half = s.half := rfl
@[simp] theorem regInc_pod (k n : Nat) : (regInc s k n).pod = s.pod := rfl
@[simp] theorem regInc_podCmds (k n : Nat) : (regInc s k n).podCmds = s.podCmds := rfl
@[simp] theorem regInc_hlt (k n : Nat) : (regInc s k n).hlt = s.hlt := rfl
@[simp] theorem regInc_rpl (k n : Nat) : (regInc s k n).rpl = s.rpl := rfl
@[simp] theorem regInc_strata (k n : Nat) : (regInc s k n).strata = s.strata := rfl
@[simp] theorem regInc_fw (k n : Nat) : (regInc s k n).fw = s.fw := rfl
@[simp] theorem regInc_ports (k n : Nat) : (regInc s k n).ports = s.ports := rfl
@[simp] theorem regInc_io (k n : Nat) : (regInc s k n).io = s.io := rfl
@[simp] theorem regInc_mica (k n : Nat) : (regInc s k n).mica = s.mica := rfl
@[simp] theorem regInc_rings (k n : Nat) : (regInc s k n).rings = s.rings := rfl
@[simp] theorem regInc_upd (k n : Nat) : (regInc s k n).upd = s.upd := rfl
@[simp] theorem regInc_updWatch (k n : Nat) : (regInc s k n).updWatch = s.updWatch := rfl
@[simp] theorem regInc_pwr (k n : Nat) : (regInc s k n).pwr = s.pwr := rfl
@[simp] theorem regInc_brd (k n : Nat) : (regInc s k n).brd = s.brd := rfl
@[simp] theorem regInc_clkBad (k n : Nat) : (regInc s k n).clkBad = s.clkBad := rfl
@[simp] theorem regInc_spareBad (k n : Nat) : (regInc s k n).spareBad = s.spareBad := rfl
@[simp] theorem regInc_seamFlash (k n : Nat) : (regInc s k n).seamFlash = s.seamFlash := rfl
@[simp] theorem regInc_prefixes (k n : Nat) : (regInc s k n).prefixes = s.prefixes := rfl
@[simp] theorem regInc_excl (k n : Nat) : (regInc s k n).excl = s.excl := rfl
@[simp] theorem regInc_asleep (k n : Nat) : (regInc s k n).asleep = s.asleep := rfl
@[simp] theorem regInc_nextId (k n : Nat) : (regInc s k n).nextId = s.nextId := rfl
@[simp] theorem regInc_free (k n : Nat) : (regInc s k n).free = s.free := rfl
@[simp] theorem regInc_outs (k n : Nat) : (regInc s k n).outs = s.outs := rfl
@[simp] theorem regInc_pending (k n : Nat) : (regInc s k n).pending = s.pending := rfl

/-! ### regRevert -/
@[simp] theorem regRevert_cyc (lo hi : Nat) : (regRevert s lo hi).cyc = s.cyc := rfl
@[simp] theorem regRevert_ctrs (lo hi : Nat) : (regRevert s lo hi).ctrs = s.ctrs := rfl
@[simp] theorem regRevert_latch (lo hi : Nat) : (regRevert s lo hi).latch = s.latch := rfl
@[simp] theorem regRevert_mem (lo hi : Nat) : (regRevert s lo hi).mem = s.mem := rfl
@[simp] theorem regRevert_ecc (lo hi : Nat) : (regRevert s lo hi).ecc = s.ecc := rfl
@[simp] theorem regRevert_tags (lo hi : Nat) : (regRevert s lo hi).tags = s.tags := rfl
@[simp] theorem regRevert_shl (lo hi : Nat) : (regRevert s lo hi).shl = s.shl := rfl
@[simp] theorem regRevert_frames (lo hi : Nat) : (regRevert s lo hi).frames = s.frames := rfl
@[simp] theorem regRevert_scheds (lo hi : Nat) : (regRevert s lo hi).scheds = s.scheds := rfl
@[simp] theorem regRevert_runs (lo hi : Nat) : (regRevert s lo hi).runs = s.runs := rfl
@[simp] theorem regRevert_xfers (lo hi : Nat) : (regRevert s lo hi).xfers = s.xfers := rfl
@[simp] theorem regRevert_credits (lo hi : Nat) : (regRevert s lo hi).credits = s.credits := rfl
@[simp] theorem regRevert_stops (lo hi : Nat) : (regRevert s lo hi).stops = s.stops := rfl
@[simp] theorem regRevert_step (lo hi : Nat) : (regRevert s lo hi).step = s.step := rfl
@[simp] theorem regRevert_stepFailed (lo hi : Nat) : (regRevert s lo hi).stepFailed = s.stepFailed := rfl
@[simp] theorem regRevert_rcp (lo hi : Nat) : (regRevert s lo hi).rcp = s.rcp := rfl
@[simp] theorem regRevert_coh (lo hi : Nat) : (regRevert s lo hi).coh = s.coh := rfl
@[simp] theorem regRevert_intlv (lo hi : Nat) : (regRevert s lo hi).intlv = s.intlv := rfl
@[simp] theorem regRevert_cmds (lo hi : Nat) : (regRevert s lo hi).cmds = s.cmds := rfl
@[simp] theorem regRevert_ses (lo hi : Nat) : (regRevert s lo hi).ses = s.ses := rfl
@[simp] theorem regRevert_half (lo hi : Nat) : (regRevert s lo hi).half = s.half := rfl
@[simp] theorem regRevert_pod (lo hi : Nat) : (regRevert s lo hi).pod = s.pod := rfl
@[simp] theorem regRevert_podCmds (lo hi : Nat) : (regRevert s lo hi).podCmds = s.podCmds := rfl
@[simp] theorem regRevert_hlt (lo hi : Nat) : (regRevert s lo hi).hlt = s.hlt := rfl
@[simp] theorem regRevert_rpl (lo hi : Nat) : (regRevert s lo hi).rpl = s.rpl := rfl
@[simp] theorem regRevert_strata (lo hi : Nat) : (regRevert s lo hi).strata = s.strata := rfl
@[simp] theorem regRevert_fw (lo hi : Nat) : (regRevert s lo hi).fw = s.fw := rfl
@[simp] theorem regRevert_ports (lo hi : Nat) : (regRevert s lo hi).ports = s.ports := rfl
@[simp] theorem regRevert_io (lo hi : Nat) : (regRevert s lo hi).io = s.io := rfl
@[simp] theorem regRevert_mica (lo hi : Nat) : (regRevert s lo hi).mica = s.mica := rfl
@[simp] theorem regRevert_rings (lo hi : Nat) : (regRevert s lo hi).rings = s.rings := rfl
@[simp] theorem regRevert_upd (lo hi : Nat) : (regRevert s lo hi).upd = s.upd := rfl
@[simp] theorem regRevert_updWatch (lo hi : Nat) : (regRevert s lo hi).updWatch = s.updWatch := rfl
@[simp] theorem regRevert_pwr (lo hi : Nat) : (regRevert s lo hi).pwr = s.pwr := rfl
@[simp] theorem regRevert_brd (lo hi : Nat) : (regRevert s lo hi).brd = s.brd := rfl
@[simp] theorem regRevert_clkBad (lo hi : Nat) : (regRevert s lo hi).clkBad = s.clkBad := rfl
@[simp] theorem regRevert_spareBad (lo hi : Nat) : (regRevert s lo hi).spareBad = s.spareBad := rfl
@[simp] theorem regRevert_seamFlash (lo hi : Nat) : (regRevert s lo hi).seamFlash = s.seamFlash := rfl
@[simp] theorem regRevert_prefixes (lo hi : Nat) : (regRevert s lo hi).prefixes = s.prefixes := rfl
@[simp] theorem regRevert_excl (lo hi : Nat) : (regRevert s lo hi).excl = s.excl := rfl
@[simp] theorem regRevert_asleep (lo hi : Nat) : (regRevert s lo hi).asleep = s.asleep := rfl
@[simp] theorem regRevert_nextId (lo hi : Nat) : (regRevert s lo hi).nextId = s.nextId := rfl
@[simp] theorem regRevert_free (lo hi : Nat) : (regRevert s lo hi).free = s.free := rfl
@[simp] theorem regRevert_outs (lo hi : Nat) : (regRevert s lo hi).outs = s.outs := rfl
@[simp] theorem regRevert_pending (lo hi : Nat) : (regRevert s lo hi).pending = s.pending := rfl

/-! ### ctrSet -/
@[simp] theorem ctrSet_cyc (k : Nat) (w : DWord) : (ctrSet s k w).cyc = s.cyc := rfl
@[simp] theorem ctrSet_regs (k : Nat) (w : DWord) : (ctrSet s k w).regs = s.regs := rfl
@[simp] theorem ctrSet_latch (k : Nat) (w : DWord) : (ctrSet s k w).latch = s.latch := rfl
@[simp] theorem ctrSet_mem (k : Nat) (w : DWord) : (ctrSet s k w).mem = s.mem := rfl
@[simp] theorem ctrSet_ecc (k : Nat) (w : DWord) : (ctrSet s k w).ecc = s.ecc := rfl
@[simp] theorem ctrSet_tags (k : Nat) (w : DWord) : (ctrSet s k w).tags = s.tags := rfl
@[simp] theorem ctrSet_shl (k : Nat) (w : DWord) : (ctrSet s k w).shl = s.shl := rfl
@[simp] theorem ctrSet_frames (k : Nat) (w : DWord) : (ctrSet s k w).frames = s.frames := rfl
@[simp] theorem ctrSet_scheds (k : Nat) (w : DWord) : (ctrSet s k w).scheds = s.scheds := rfl
@[simp] theorem ctrSet_runs (k : Nat) (w : DWord) : (ctrSet s k w).runs = s.runs := rfl
@[simp] theorem ctrSet_xfers (k : Nat) (w : DWord) : (ctrSet s k w).xfers = s.xfers := rfl
@[simp] theorem ctrSet_credits (k : Nat) (w : DWord) : (ctrSet s k w).credits = s.credits := rfl
@[simp] theorem ctrSet_stops (k : Nat) (w : DWord) : (ctrSet s k w).stops = s.stops := rfl
@[simp] theorem ctrSet_step (k : Nat) (w : DWord) : (ctrSet s k w).step = s.step := rfl
@[simp] theorem ctrSet_stepFailed (k : Nat) (w : DWord) : (ctrSet s k w).stepFailed = s.stepFailed := rfl
@[simp] theorem ctrSet_rcp (k : Nat) (w : DWord) : (ctrSet s k w).rcp = s.rcp := rfl
@[simp] theorem ctrSet_coh (k : Nat) (w : DWord) : (ctrSet s k w).coh = s.coh := rfl
@[simp] theorem ctrSet_intlv (k : Nat) (w : DWord) : (ctrSet s k w).intlv = s.intlv := rfl
@[simp] theorem ctrSet_cmds (k : Nat) (w : DWord) : (ctrSet s k w).cmds = s.cmds := rfl
@[simp] theorem ctrSet_ses (k : Nat) (w : DWord) : (ctrSet s k w).ses = s.ses := rfl
@[simp] theorem ctrSet_half (k : Nat) (w : DWord) : (ctrSet s k w).half = s.half := rfl
@[simp] theorem ctrSet_pod (k : Nat) (w : DWord) : (ctrSet s k w).pod = s.pod := rfl
@[simp] theorem ctrSet_podCmds (k : Nat) (w : DWord) : (ctrSet s k w).podCmds = s.podCmds := rfl
@[simp] theorem ctrSet_hlt (k : Nat) (w : DWord) : (ctrSet s k w).hlt = s.hlt := rfl
@[simp] theorem ctrSet_rpl (k : Nat) (w : DWord) : (ctrSet s k w).rpl = s.rpl := rfl
@[simp] theorem ctrSet_strata (k : Nat) (w : DWord) : (ctrSet s k w).strata = s.strata := rfl
@[simp] theorem ctrSet_fw (k : Nat) (w : DWord) : (ctrSet s k w).fw = s.fw := rfl
@[simp] theorem ctrSet_ports (k : Nat) (w : DWord) : (ctrSet s k w).ports = s.ports := rfl
@[simp] theorem ctrSet_io (k : Nat) (w : DWord) : (ctrSet s k w).io = s.io := rfl
@[simp] theorem ctrSet_mica (k : Nat) (w : DWord) : (ctrSet s k w).mica = s.mica := rfl
@[simp] theorem ctrSet_rings (k : Nat) (w : DWord) : (ctrSet s k w).rings = s.rings := rfl
@[simp] theorem ctrSet_upd (k : Nat) (w : DWord) : (ctrSet s k w).upd = s.upd := rfl
@[simp] theorem ctrSet_updWatch (k : Nat) (w : DWord) : (ctrSet s k w).updWatch = s.updWatch := rfl
@[simp] theorem ctrSet_pwr (k : Nat) (w : DWord) : (ctrSet s k w).pwr = s.pwr := rfl
@[simp] theorem ctrSet_brd (k : Nat) (w : DWord) : (ctrSet s k w).brd = s.brd := rfl
@[simp] theorem ctrSet_clkBad (k : Nat) (w : DWord) : (ctrSet s k w).clkBad = s.clkBad := rfl
@[simp] theorem ctrSet_spareBad (k : Nat) (w : DWord) : (ctrSet s k w).spareBad = s.spareBad := rfl
@[simp] theorem ctrSet_seamFlash (k : Nat) (w : DWord) : (ctrSet s k w).seamFlash = s.seamFlash := rfl
@[simp] theorem ctrSet_prefixes (k : Nat) (w : DWord) : (ctrSet s k w).prefixes = s.prefixes := rfl
@[simp] theorem ctrSet_excl (k : Nat) (w : DWord) : (ctrSet s k w).excl = s.excl := rfl
@[simp] theorem ctrSet_asleep (k : Nat) (w : DWord) : (ctrSet s k w).asleep = s.asleep := rfl
@[simp] theorem ctrSet_nextId (k : Nat) (w : DWord) : (ctrSet s k w).nextId = s.nextId := rfl
@[simp] theorem ctrSet_free (k : Nat) (w : DWord) : (ctrSet s k w).free = s.free := rfl
@[simp] theorem ctrSet_outs (k : Nat) (w : DWord) : (ctrSet s k w).outs = s.outs := rfl
@[simp] theorem ctrSet_pending (k : Nat) (w : DWord) : (ctrSet s k w).pending = s.pending := rfl

/-! ### emit -/
@[simp] theorem emit_cyc (o : Out) : (emit s o).cyc = s.cyc := rfl
@[simp] theorem emit_regs (o : Out) : (emit s o).regs = s.regs := rfl
@[simp] theorem emit_ctrs (o : Out) : (emit s o).ctrs = s.ctrs := rfl
@[simp] theorem emit_latch (o : Out) : (emit s o).latch = s.latch := rfl
@[simp] theorem emit_mem (o : Out) : (emit s o).mem = s.mem := rfl
@[simp] theorem emit_ecc (o : Out) : (emit s o).ecc = s.ecc := rfl
@[simp] theorem emit_tags (o : Out) : (emit s o).tags = s.tags := rfl
@[simp] theorem emit_shl (o : Out) : (emit s o).shl = s.shl := rfl
@[simp] theorem emit_frames (o : Out) : (emit s o).frames = s.frames := rfl
@[simp] theorem emit_scheds (o : Out) : (emit s o).scheds = s.scheds := rfl
@[simp] theorem emit_runs (o : Out) : (emit s o).runs = s.runs := rfl
@[simp] theorem emit_xfers (o : Out) : (emit s o).xfers = s.xfers := rfl
@[simp] theorem emit_credits (o : Out) : (emit s o).credits = s.credits := rfl
@[simp] theorem emit_stops (o : Out) : (emit s o).stops = s.stops := rfl
@[simp] theorem emit_step (o : Out) : (emit s o).step = s.step := rfl
@[simp] theorem emit_stepFailed (o : Out) : (emit s o).stepFailed = s.stepFailed := rfl
@[simp] theorem emit_rcp (o : Out) : (emit s o).rcp = s.rcp := rfl
@[simp] theorem emit_coh (o : Out) : (emit s o).coh = s.coh := rfl
@[simp] theorem emit_intlv (o : Out) : (emit s o).intlv = s.intlv := rfl
@[simp] theorem emit_cmds (o : Out) : (emit s o).cmds = s.cmds := rfl
@[simp] theorem emit_ses (o : Out) : (emit s o).ses = s.ses := rfl
@[simp] theorem emit_half (o : Out) : (emit s o).half = s.half := rfl
@[simp] theorem emit_pod (o : Out) : (emit s o).pod = s.pod := rfl
@[simp] theorem emit_podCmds (o : Out) : (emit s o).podCmds = s.podCmds := rfl
@[simp] theorem emit_hlt (o : Out) : (emit s o).hlt = s.hlt := rfl
@[simp] theorem emit_rpl (o : Out) : (emit s o).rpl = s.rpl := rfl
@[simp] theorem emit_strata (o : Out) : (emit s o).strata = s.strata := rfl
@[simp] theorem emit_fw (o : Out) : (emit s o).fw = s.fw := rfl
@[simp] theorem emit_ports (o : Out) : (emit s o).ports = s.ports := rfl
@[simp] theorem emit_io (o : Out) : (emit s o).io = s.io := rfl
@[simp] theorem emit_mica (o : Out) : (emit s o).mica = s.mica := rfl
@[simp] theorem emit_rings (o : Out) : (emit s o).rings = s.rings := rfl
@[simp] theorem emit_upd (o : Out) : (emit s o).upd = s.upd := rfl
@[simp] theorem emit_updWatch (o : Out) : (emit s o).updWatch = s.updWatch := rfl
@[simp] theorem emit_pwr (o : Out) : (emit s o).pwr = s.pwr := rfl
@[simp] theorem emit_brd (o : Out) : (emit s o).brd = s.brd := rfl
@[simp] theorem emit_clkBad (o : Out) : (emit s o).clkBad = s.clkBad := rfl
@[simp] theorem emit_spareBad (o : Out) : (emit s o).spareBad = s.spareBad := rfl
@[simp] theorem emit_seamFlash (o : Out) : (emit s o).seamFlash = s.seamFlash := rfl
@[simp] theorem emit_prefixes (o : Out) : (emit s o).prefixes = s.prefixes := rfl
@[simp] theorem emit_excl (o : Out) : (emit s o).excl = s.excl := rfl
@[simp] theorem emit_asleep (o : Out) : (emit s o).asleep = s.asleep := rfl
@[simp] theorem emit_nextId (o : Out) : (emit s o).nextId = s.nextId := rfl
@[simp] theorem emit_free (o : Out) : (emit s o).free = s.free := rfl
@[simp] theorem emit_pending (o : Out) : (emit s o).pending = s.pending := rfl

/-! ### newId -/
@[simp] theorem newId_cyc : ((newId s).2).cyc = s.cyc := rfl
@[simp] theorem newId_regs : ((newId s).2).regs = s.regs := rfl
@[simp] theorem newId_ctrs : ((newId s).2).ctrs = s.ctrs := rfl
@[simp] theorem newId_latch : ((newId s).2).latch = s.latch := rfl
@[simp] theorem newId_mem : ((newId s).2).mem = s.mem := rfl
@[simp] theorem newId_ecc : ((newId s).2).ecc = s.ecc := rfl
@[simp] theorem newId_tags : ((newId s).2).tags = s.tags := rfl
@[simp] theorem newId_shl : ((newId s).2).shl = s.shl := rfl
@[simp] theorem newId_frames : ((newId s).2).frames = s.frames := rfl
@[simp] theorem newId_scheds : ((newId s).2).scheds = s.scheds := rfl
@[simp] theorem newId_runs : ((newId s).2).runs = s.runs := rfl
@[simp] theorem newId_xfers : ((newId s).2).xfers = s.xfers := rfl
@[simp] theorem newId_credits : ((newId s).2).credits = s.credits := rfl
@[simp] theorem newId_stops : ((newId s).2).stops = s.stops := rfl
@[simp] theorem newId_step : ((newId s).2).step = s.step := rfl
@[simp] theorem newId_stepFailed : ((newId s).2).stepFailed = s.stepFailed := rfl
@[simp] theorem newId_rcp : ((newId s).2).rcp = s.rcp := rfl
@[simp] theorem newId_coh : ((newId s).2).coh = s.coh := rfl
@[simp] theorem newId_intlv : ((newId s).2).intlv = s.intlv := rfl
@[simp] theorem newId_cmds : ((newId s).2).cmds = s.cmds := rfl
@[simp] theorem newId_ses : ((newId s).2).ses = s.ses := rfl
@[simp] theorem newId_half : ((newId s).2).half = s.half := rfl
@[simp] theorem newId_pod : ((newId s).2).pod = s.pod := rfl
@[simp] theorem newId_podCmds : ((newId s).2).podCmds = s.podCmds := rfl
@[simp] theorem newId_hlt : ((newId s).2).hlt = s.hlt := rfl
@[simp] theorem newId_rpl : ((newId s).2).rpl = s.rpl := rfl
@[simp] theorem newId_strata : ((newId s).2).strata = s.strata := rfl
@[simp] theorem newId_fw : ((newId s).2).fw = s.fw := rfl
@[simp] theorem newId_ports : ((newId s).2).ports = s.ports := rfl
@[simp] theorem newId_io : ((newId s).2).io = s.io := rfl
@[simp] theorem newId_mica : ((newId s).2).mica = s.mica := rfl
@[simp] theorem newId_rings : ((newId s).2).rings = s.rings := rfl
@[simp] theorem newId_upd : ((newId s).2).upd = s.upd := rfl
@[simp] theorem newId_updWatch : ((newId s).2).updWatch = s.updWatch := rfl
@[simp] theorem newId_pwr : ((newId s).2).pwr = s.pwr := rfl
@[simp] theorem newId_brd : ((newId s).2).brd = s.brd := rfl
@[simp] theorem newId_clkBad : ((newId s).2).clkBad = s.clkBad := rfl
@[simp] theorem newId_spareBad : ((newId s).2).spareBad = s.spareBad := rfl
@[simp] theorem newId_seamFlash : ((newId s).2).seamFlash = s.seamFlash := rfl
@[simp] theorem newId_prefixes : ((newId s).2).prefixes = s.prefixes := rfl
@[simp] theorem newId_excl : ((newId s).2).excl = s.excl := rfl
@[simp] theorem newId_asleep : ((newId s).2).asleep = s.asleep := rfl
@[simp] theorem newId_free : ((newId s).2).free = s.free := rfl
@[simp] theorem newId_outs : ((newId s).2).outs = s.outs := rfl
@[simp] theorem newId_pending : ((newId s).2).pending = s.pending := rfl

/-! ### drawFree -/
@[simp] theorem drawFree_cyc : ((drawFree s).2).cyc = s.cyc := rfl
@[simp] theorem drawFree_regs : ((drawFree s).2).regs = s.regs := rfl
@[simp] theorem drawFree_ctrs : ((drawFree s).2).ctrs = s.ctrs := rfl
@[simp] theorem drawFree_latch : ((drawFree s).2).latch = s.latch := rfl
@[simp] theorem drawFree_mem : ((drawFree s).2).mem = s.mem := rfl
@[simp] theorem drawFree_ecc : ((drawFree s).2).ecc = s.ecc := rfl
@[simp] theorem drawFree_tags : ((drawFree s).2).tags = s.tags := rfl
@[simp] theorem drawFree_shl : ((drawFree s).2).shl = s.shl := rfl
@[simp] theorem drawFree_frames : ((drawFree s).2).frames = s.frames := rfl
@[simp] theorem drawFree_scheds : ((drawFree s).2).scheds = s.scheds := rfl
@[simp] theorem drawFree_runs : ((drawFree s).2).runs = s.runs := rfl
@[simp] theorem drawFree_xfers : ((drawFree s).2).xfers = s.xfers := rfl
@[simp] theorem drawFree_credits : ((drawFree s).2).credits = s.credits := rfl
@[simp] theorem drawFree_stops : ((drawFree s).2).stops = s.stops := rfl
@[simp] theorem drawFree_step : ((drawFree s).2).step = s.step := rfl
@[simp] theorem drawFree_stepFailed : ((drawFree s).2).stepFailed = s.stepFailed := rfl
@[simp] theorem drawFree_rcp : ((drawFree s).2).rcp = s.rcp := rfl
@[simp] theorem drawFree_coh : ((drawFree s).2).coh = s.coh := rfl
@[simp] theorem drawFree_intlv : ((drawFree s).2).intlv = s.intlv := rfl
@[simp] theorem drawFree_cmds : ((drawFree s).2).cmds = s.cmds := rfl
@[simp] theorem drawFree_ses : ((drawFree s).2).ses = s.ses := rfl
@[simp] theorem drawFree_half : ((drawFree s).2).half = s.half := rfl
@[simp] theorem drawFree_pod : ((drawFree s).2).pod = s.pod := rfl
@[simp] theorem drawFree_podCmds : ((drawFree s).2).podCmds = s.podCmds := rfl
@[simp] theorem drawFree_hlt : ((drawFree s).2).hlt = s.hlt := rfl
@[simp] theorem drawFree_rpl : ((drawFree s).2).rpl = s.rpl := rfl
@[simp] theorem drawFree_strata : ((drawFree s).2).strata = s.strata := rfl
@[simp] theorem drawFree_fw : ((drawFree s).2).fw = s.fw := rfl
@[simp] theorem drawFree_ports : ((drawFree s).2).ports = s.ports := rfl
@[simp] theorem drawFree_io : ((drawFree s).2).io = s.io := rfl
@[simp] theorem drawFree_mica : ((drawFree s).2).mica = s.mica := rfl
@[simp] theorem drawFree_rings : ((drawFree s).2).rings = s.rings := rfl
@[simp] theorem drawFree_upd : ((drawFree s).2).upd = s.upd := rfl
@[simp] theorem drawFree_updWatch : ((drawFree s).2).updWatch = s.updWatch := rfl
@[simp] theorem drawFree_pwr : ((drawFree s).2).pwr = s.pwr := rfl
@[simp] theorem drawFree_brd : ((drawFree s).2).brd = s.brd := rfl
@[simp] theorem drawFree_clkBad : ((drawFree s).2).clkBad = s.clkBad := rfl
@[simp] theorem drawFree_spareBad : ((drawFree s).2).spareBad = s.spareBad := rfl
@[simp] theorem drawFree_seamFlash : ((drawFree s).2).seamFlash = s.seamFlash := rfl
@[simp] theorem drawFree_prefixes : ((drawFree s).2).prefixes = s.prefixes := rfl
@[simp] theorem drawFree_excl : ((drawFree s).2).excl = s.excl := rfl
@[simp] theorem drawFree_asleep : ((drawFree s).2).asleep = s.asleep := rfl
@[simp] theorem drawFree_nextId : ((drawFree s).2).nextId = s.nextId := rfl
@[simp] theorem drawFree_outs : ((drawFree s).2).outs = s.outs := rfl
@[simp] theorem drawFree_pending : ((drawFree s).2).pending = s.pending := rfl

/-! ### tagSet -/
@[simp] theorem tagSet_cyc (row : Nat) (t : RowTag) : (tagSet s row t).cyc = s.cyc := rfl
@[simp] theorem tagSet_regs (row : Nat) (t : RowTag) : (tagSet s row t).regs = s.regs := rfl
@[simp] theorem tagSet_ctrs (row : Nat) (t : RowTag) : (tagSet s row t).ctrs = s.ctrs := rfl
@[simp] theorem tagSet_latch (row : Nat) (t : RowTag) : (tagSet s row t).latch = s.latch := rfl
@[simp] theorem tagSet_mem (row : Nat) (t : RowTag) : (tagSet s row t).mem = s.mem := rfl
@[simp] theorem tagSet_ecc (row : Nat) (t : RowTag) : (tagSet s row t).ecc = s.ecc := rfl
@[simp] theorem tagSet_shl (row : Nat) (t : RowTag) : (tagSet s row t).shl = s.shl := rfl
@[simp] theorem tagSet_frames (row : Nat) (t : RowTag) : (tagSet s row t).frames = s.frames := rfl
@[simp] theorem tagSet_scheds (row : Nat) (t : RowTag) : (tagSet s row t).scheds = s.scheds := rfl
@[simp] theorem tagSet_runs (row : Nat) (t : RowTag) : (tagSet s row t).runs = s.runs := rfl
@[simp] theorem tagSet_xfers (row : Nat) (t : RowTag) : (tagSet s row t).xfers = s.xfers := rfl
@[simp] theorem tagSet_credits (row : Nat) (t : RowTag) : (tagSet s row t).credits = s.credits := rfl
@[simp] theorem tagSet_stops (row : Nat) (t : RowTag) : (tagSet s row t).stops = s.stops := rfl
@[simp] theorem tagSet_step (row : Nat) (t : RowTag) : (tagSet s row t).step = s.step := rfl
@[simp] theorem tagSet_stepFailed (row : Nat) (t : RowTag) : (tagSet s row t).stepFailed = s.stepFailed := rfl
@[simp] theorem tagSet_rcp (row : Nat) (t : RowTag) : (tagSet s row t).rcp = s.rcp := rfl
@[simp] theorem tagSet_coh (row : Nat) (t : RowTag) : (tagSet s row t).coh = s.coh := rfl
@[simp] theorem tagSet_intlv (row : Nat) (t : RowTag) : (tagSet s row t).intlv = s.intlv := rfl
@[simp] theorem tagSet_cmds (row : Nat) (t : RowTag) : (tagSet s row t).cmds = s.cmds := rfl
@[simp] theorem tagSet_ses (row : Nat) (t : RowTag) : (tagSet s row t).ses = s.ses := rfl
@[simp] theorem tagSet_half (row : Nat) (t : RowTag) : (tagSet s row t).half = s.half := rfl
@[simp] theorem tagSet_pod (row : Nat) (t : RowTag) : (tagSet s row t).pod = s.pod := rfl
@[simp] theorem tagSet_podCmds (row : Nat) (t : RowTag) : (tagSet s row t).podCmds = s.podCmds := rfl
@[simp] theorem tagSet_hlt (row : Nat) (t : RowTag) : (tagSet s row t).hlt = s.hlt := rfl
@[simp] theorem tagSet_rpl (row : Nat) (t : RowTag) : (tagSet s row t).rpl = s.rpl := rfl
@[simp] theorem tagSet_strata (row : Nat) (t : RowTag) : (tagSet s row t).strata = s.strata := rfl
@[simp] theorem tagSet_fw (row : Nat) (t : RowTag) : (tagSet s row t).fw = s.fw := rfl
@[simp] theorem tagSet_ports (row : Nat) (t : RowTag) : (tagSet s row t).ports = s.ports := rfl
@[simp] theorem tagSet_io (row : Nat) (t : RowTag) : (tagSet s row t).io = s.io := rfl
@[simp] theorem tagSet_mica (row : Nat) (t : RowTag) : (tagSet s row t).mica = s.mica := rfl
@[simp] theorem tagSet_rings (row : Nat) (t : RowTag) : (tagSet s row t).rings = s.rings := rfl
@[simp] theorem tagSet_upd (row : Nat) (t : RowTag) : (tagSet s row t).upd = s.upd := rfl
@[simp] theorem tagSet_updWatch (row : Nat) (t : RowTag) : (tagSet s row t).updWatch = s.updWatch := rfl
@[simp] theorem tagSet_pwr (row : Nat) (t : RowTag) : (tagSet s row t).pwr = s.pwr := rfl
@[simp] theorem tagSet_brd (row : Nat) (t : RowTag) : (tagSet s row t).brd = s.brd := rfl
@[simp] theorem tagSet_clkBad (row : Nat) (t : RowTag) : (tagSet s row t).clkBad = s.clkBad := rfl
@[simp] theorem tagSet_spareBad (row : Nat) (t : RowTag) : (tagSet s row t).spareBad = s.spareBad := rfl
@[simp] theorem tagSet_seamFlash (row : Nat) (t : RowTag) : (tagSet s row t).seamFlash = s.seamFlash := rfl
@[simp] theorem tagSet_prefixes (row : Nat) (t : RowTag) : (tagSet s row t).prefixes = s.prefixes := rfl
@[simp] theorem tagSet_excl (row : Nat) (t : RowTag) : (tagSet s row t).excl = s.excl := rfl
@[simp] theorem tagSet_asleep (row : Nat) (t : RowTag) : (tagSet s row t).asleep = s.asleep := rfl
@[simp] theorem tagSet_nextId (row : Nat) (t : RowTag) : (tagSet s row t).nextId = s.nextId := rfl
@[simp] theorem tagSet_free (row : Nat) (t : RowTag) : (tagSet s row t).free = s.free := rfl
@[simp] theorem tagSet_outs (row : Nat) (t : RowTag) : (tagSet s row t).outs = s.outs := rfl
@[simp] theorem tagSet_pending (row : Nat) (t : RowTag) : (tagSet s row t).pending = s.pending := rfl

/-! ### count -/
@[simp] theorem count_cyc (k n : Nat) : (count s k n).cyc = s.cyc := by unfold count; split <;> rfl
@[simp] theorem count_regs (k n : Nat) : (count s k n).regs = s.regs := by unfold count; split <;> rfl
@[simp] theorem count_latch (k n : Nat) : (count s k n).latch = s.latch := by unfold count; split <;> rfl
@[simp] theorem count_mem (k n : Nat) : (count s k n).mem = s.mem := by unfold count; split <;> rfl
@[simp] theorem count_ecc (k n : Nat) : (count s k n).ecc = s.ecc := by unfold count; split <;> rfl
@[simp] theorem count_tags (k n : Nat) : (count s k n).tags = s.tags := by unfold count; split <;> rfl
@[simp] theorem count_shl (k n : Nat) : (count s k n).shl = s.shl := by unfold count; split <;> rfl
@[simp] theorem count_frames (k n : Nat) : (count s k n).frames = s.frames := by unfold count; split <;> rfl
@[simp] theorem count_scheds (k n : Nat) : (count s k n).scheds = s.scheds := by unfold count; split <;> rfl
@[simp] theorem count_runs (k n : Nat) : (count s k n).runs = s.runs := by unfold count; split <;> rfl
@[simp] theorem count_xfers (k n : Nat) : (count s k n).xfers = s.xfers := by unfold count; split <;> rfl
@[simp] theorem count_credits (k n : Nat) : (count s k n).credits = s.credits := by unfold count; split <;> rfl
@[simp] theorem count_stops (k n : Nat) : (count s k n).stops = s.stops := by unfold count; split <;> rfl
@[simp] theorem count_step (k n : Nat) : (count s k n).step = s.step := by unfold count; split <;> rfl
@[simp] theorem count_stepFailed (k n : Nat) : (count s k n).stepFailed = s.stepFailed := by unfold count; split <;> rfl
@[simp] theorem count_rcp (k n : Nat) : (count s k n).rcp = s.rcp := by unfold count; split <;> rfl
@[simp] theorem count_coh (k n : Nat) : (count s k n).coh = s.coh := by unfold count; split <;> rfl
@[simp] theorem count_intlv (k n : Nat) : (count s k n).intlv = s.intlv := by unfold count; split <;> rfl
@[simp] theorem count_cmds (k n : Nat) : (count s k n).cmds = s.cmds := by unfold count; split <;> rfl
@[simp] theorem count_ses (k n : Nat) : (count s k n).ses = s.ses := by unfold count; split <;> rfl
@[simp] theorem count_half (k n : Nat) : (count s k n).half = s.half := by unfold count; split <;> rfl
@[simp] theorem count_pod (k n : Nat) : (count s k n).pod = s.pod := by unfold count; split <;> rfl
@[simp] theorem count_podCmds (k n : Nat) : (count s k n).podCmds = s.podCmds := by unfold count; split <;> rfl
@[simp] theorem count_hlt (k n : Nat) : (count s k n).hlt = s.hlt := by unfold count; split <;> rfl
@[simp] theorem count_rpl (k n : Nat) : (count s k n).rpl = s.rpl := by unfold count; split <;> rfl
@[simp] theorem count_strata (k n : Nat) : (count s k n).strata = s.strata := by unfold count; split <;> rfl
@[simp] theorem count_fw (k n : Nat) : (count s k n).fw = s.fw := by unfold count; split <;> rfl
@[simp] theorem count_ports (k n : Nat) : (count s k n).ports = s.ports := by unfold count; split <;> rfl
@[simp] theorem count_io (k n : Nat) : (count s k n).io = s.io := by unfold count; split <;> rfl
@[simp] theorem count_mica (k n : Nat) : (count s k n).mica = s.mica := by unfold count; split <;> rfl
@[simp] theorem count_rings (k n : Nat) : (count s k n).rings = s.rings := by unfold count; split <;> rfl
@[simp] theorem count_upd (k n : Nat) : (count s k n).upd = s.upd := by unfold count; split <;> rfl
@[simp] theorem count_updWatch (k n : Nat) : (count s k n).updWatch = s.updWatch := by unfold count; split <;> rfl
@[simp] theorem count_pwr (k n : Nat) : (count s k n).pwr = s.pwr := by unfold count; split <;> rfl
@[simp] theorem count_brd (k n : Nat) : (count s k n).brd = s.brd := by unfold count; split <;> rfl
@[simp] theorem count_clkBad (k n : Nat) : (count s k n).clkBad = s.clkBad := by unfold count; split <;> rfl
@[simp] theorem count_spareBad (k n : Nat) : (count s k n).spareBad = s.spareBad := by unfold count; split <;> rfl
@[simp] theorem count_seamFlash (k n : Nat) : (count s k n).seamFlash = s.seamFlash := by unfold count; split <;> rfl
@[simp] theorem count_prefixes (k n : Nat) : (count s k n).prefixes = s.prefixes := by unfold count; split <;> rfl
@[simp] theorem count_excl (k n : Nat) : (count s k n).excl = s.excl := by unfold count; split <;> rfl
@[simp] theorem count_asleep (k n : Nat) : (count s k n).asleep = s.asleep := by unfold count; split <;> rfl
@[simp] theorem count_nextId (k n : Nat) : (count s k n).nextId = s.nextId := by unfold count; split <;> rfl
@[simp] theorem count_free (k n : Nat) : (count s k n).free = s.free := by unfold count; split <;> rfl
@[simp] theorem count_outs (k n : Nat) : (count s k n).outs = s.outs := by unfold count; split <;> rfl
@[simp] theorem count_pending (k n : Nat) : (count s k n).pending = s.pending := by unfold count; split <;> rfl

end Sys2Proof.Machine
end

