-- ==== Sys2Proof/Laws/Regs.lean ====
section
/-! SUPPORT. Registers: what a write to one register leaves in it and in the others. -/
namespace Sys2Proof.Machine

@[simp] theorem regGet_regSet_same (s : State) (k : Nat) (w : Word) : regGet (regSet s k w) k = w := by
  simp [regGet, regSet]
theorem regGet_regSet_ne (s : State) {k j : Nat} (w : Word) (h : j ≠ k) : regGet (regSet s k w) j = regGet s j := by
  simp [regGet, regSet, tabFind_tabPut_ne _ _ h]
@[simp] theorem ctrGet_ctrSet_same (s : State) (k : Nat) (w : DWord) : ctrGet (ctrSet s k w) k = w := by
  simp [ctrGet, ctrSet]
theorem ctrGet_ctrSet_ne (s : State) {k j : Nat} (w : DWord) (h : j ≠ k) : ctrGet (ctrSet s k w) j = ctrGet s j := by
  simp [ctrGet, ctrSet, tabFind_tabPut_ne _ _ h]

theorem regGet_setFld_ne (s : State) {k j : Nat} (f : Fld) (v : Nat) (h : j ≠ k) : regGet (setFld s k f v) j = regGet s j :=
  regGet_regSet_ne s _ h
@[simp] theorem regGet_setFld_same (s : State) (k : Nat) (f : Fld) (v : Nat) :
    regGet (setFld s k f v) k = fldSet (regGet s k) f v := regGet_regSet_same s k _
theorem regGet_raise_ne (s : State) {k j : Nat} (f : Fld) (h : j ≠ k) : regGet (raise s k f) j = regGet s j :=
  regGet_regSet_ne s _ h

/-- A field reads as what was put in it, cut to its length. -/
theorem fld_setFld_same (s : State) (k : Nat) (f : Fld) (v : Nat) (h : f.lo + f.len ≤ 32) :
    fld (setFld s k f v) k f = v % 2 ^ f.len := by
  simp [fld, h]
/-- Another field of the same register is untouched. -/
theorem fld_setFld_field (s : State) (k : Nat) (f g : Fld) (v : Nat) (hg : g.lo + g.len ≤ 32)
    (h : g.lo + g.len ≤ f.lo ∨ f.lo + f.len ≤ g.lo) : fld (setFld s k f v) k g = fld s k g := by
  simp [fld, fldGet_fldSet_ne _ _ _ _ hg h]
/-- A field of another register is untouched. -/
theorem fld_setFld_ne (s : State) {k j : Nat} (f g : Fld) (v : Nat) (h : j ≠ k) : fld (setFld s k f v) j g = fld s j g := by
  simp [fld, regGet_setFld_ne s f v h]
theorem fld_regSet_ne (s : State) {k j : Nat} (w : Word) (g : Fld) (h : j ≠ k) : fld (regSet s k w) j g = fld s j g := by
  simp [fld, regGet_regSet_ne s w h]
@[simp] theorem fld_regSet_same (s : State) (k : Nat) (w : Word) (g : Fld) : fld (regSet s k w) k g = fldGet w g := by
  simp [fld]
/-- A flag that was raised is set. -/
theorem flag_raise_same (s : State) (k : Nat) (f : Fld) (h : f.lo + f.len ≤ 32) (hl : f.len = 1) :
    flag (raise s k f) k f = true := by
  simp [flag, raise, fld_setFld_same s k f 1 h, hl]

/-- What reads registers alone reads the same when another register is written. -/
theorem regGet_regSet (s : State) (k j : Nat) (w : Word) : regGet (regSet s k w) j = if j = k then w else regGet s j := by
  split
  · rename_i h; subst h; simp
  · exact regGet_regSet_ne s w ‹_›

end Sys2Proof.Machine
end

