-- ==== Sys2Proof/Laws/Strata.lean ====
section
/-! SUPPORT. What an event that reaches the recorder can change: the recorder itself, SCH_STRATA_ERR, and two of its
counters (19:R438, R439). -/
namespace Sys2Proof.Machine

/-- An event changes the recorder alone. -/
theorem strataEvent_cases (s : State) (die unit status ctx aux : Nat) :
    ∃ (x : Strata) (r : Tab Word) (c : Tab DWord),
      strataEvent s die unit status ctx aux = { s with strata := x, regs := r, ctrs := c } ∧
        (r = s.regs ∨ r = (raise s R_SCH_STRATA_ERR F_SCH_STRATA_ERR_OVERFLOW).regs) ∧
        ∀ k, k ≠ R_SCH_STRATA_SUPPRESSED → k ≠ R_SCH_STRATA_LOST → tabFind c k = tabFind s.ctrs k := by
  have hc : ∀ (u : State) (k : Nat), u.ctrs = s.ctrs → ∀ j, j ≠ k → tabFind (count u k 1).ctrs j = tabFind s.ctrs j := by
    intro u k hu j hj
    unfold count; split
    · simp [ctrSet, tabFind_tabPut_ne _ _ hj, hu]
    · rw [hu]
  have he : ∀ (u : State) (k : Nat), count u k 1 = { u with ctrs := (count u k 1).ctrs } := by
    intro u k; unfold count; split <;> rfl
  unfold strataEvent
  simp only []
  split
  · unfold eventSuppress; simp only []
    refine ⟨_, _, _, he _ R_SCH_STRATA_SUPPRESSED, .inl rfl, fun k h1 _ => ?_⟩
    rw [hc _ R_SCH_STRATA_SUPPRESSED _ k h1]; rfl
  · split
    · refine ⟨{ s.strata with
            rates := (eventAccept s (die * 256 + unit)).strata.rates
            lostSince := s.strata.lostSince + 1
            lostFlag := true
            spilled := die / 16 :: s.strata.spilled.filter (· ≠ die / 16) },
        (raise s R_SCH_STRATA_ERR F_SCH_STRATA_ERR_OVERFLOW).regs, (count (eventAccept s (die * 256 + unit)) R_SCH_STRATA_LOST 1).ctrs,
        ?_, .inr rfl, fun k _ h2 => hc (eventAccept s (die * 256 + unit)) _ rfl k h2⟩
      unfold eventLose; rw [he (eventAccept s (die * 256 + unit))]; rfl
    · exact ⟨_, _, _, rfl, .inl rfl, fun _ _ _ => rfl⟩

section
variable (s : State) (die unit status ctx aux : Nat)

@[simp] theorem strataEvent_cyc : (strataEvent s die unit status ctx aux).cyc = s.cyc := by
  obtain ⟨_, _, _, h, _⟩ := strataEvent_cases s die unit status ctx aux; rw [h]
@[simp] theorem strataEvent_latch : (strataEvent s die unit status ctx aux).latch = s.latch := by
  obtain ⟨_, _, _, h, _⟩ := strataEvent_cases s die unit status ctx aux; rw [h]
@[simp] theorem strataEvent_mem : (strataEvent s die unit status ctx aux).mem = s.mem := by
  obtain ⟨_, _, _, h, _⟩ := strataEvent_cases s die unit status ctx aux; rw [h]
@[simp] theorem strataEvent_ecc : (strataEvent s die unit status ctx aux).ecc = s.ecc := by
  obtain ⟨_, _, _, h, _⟩ := strataEvent_cases s die unit status ctx aux; rw [h]
@[simp] theorem strataEvent_tags : (strataEvent s die unit status ctx aux).tags = s.tags := by
  obtain ⟨_, _, _, h, _⟩ := strataEvent_cases s die unit status ctx aux; rw [h]
@[simp] theorem strataEvent_shl : (strataEvent s die unit status ctx aux).shl = s.shl := by
  obtain ⟨_, _, _, h, _⟩ := strataEvent_cases s die unit status ctx aux; rw [h]
@[simp] theorem strataEvent_frames : (strataEvent s die unit status ctx aux).frames = s.frames := by
  obtain ⟨_, _, _, h, _⟩ := strataEvent_cases s die unit status ctx aux; rw [h]
@[simp] theorem strataEvent_scheds : (strataEvent s die unit status ctx aux).scheds = s.scheds := by
  obtain ⟨_, _, _, h, _⟩ := strataEvent_cases s die unit status ctx aux; rw [h]
@[simp] theorem strataEvent_runs : (strataEvent s die unit status ctx aux).runs = s.runs := by
  obtain ⟨_, _, _, h, _⟩ := strataEvent_cases s die unit status ctx aux; rw [h]
@[simp] theorem strataEvent_xfers : (strataEvent s die unit status ctx aux).xfers = s.xfers := by
  obtain ⟨_, _, _, h, _⟩ := strataEvent_cases s die unit status ctx aux; rw [h]
@[simp] theorem strataEvent_credits : (strataEvent s die unit status ctx aux).credits = s.credits := by
  obtain ⟨_, _, _, h, _⟩ := strataEvent_cases s die unit status ctx aux; rw [h]
@[simp] theorem strataEvent_stops : (strataEvent s die unit status ctx aux).stops = s.stops := by
  obtain ⟨_, _, _, h, _⟩ := strataEvent_cases s die unit status ctx aux; rw [h]
@[simp] theorem strataEvent_step : (strataEvent s die unit status ctx aux).step = s.step := by
  obtain ⟨_, _, _, h, _⟩ := strataEvent_cases s die unit status ctx aux; rw [h]
@[simp] theorem strataEvent_stepFailed : (strataEvent s die unit status ctx aux).stepFailed = s.stepFailed := by
  obtain ⟨_, _, _, h, _⟩ := strataEvent_cases s die unit status ctx aux; rw [h]
@[simp] theorem strataEvent_rcp : (strataEvent s die unit status ctx aux).rcp = s.rcp := by
  obtain ⟨_, _, _, h, _⟩ := strataEvent_cases s die unit status ctx aux; rw [h]
@[simp] theorem strataEvent_coh : (strataEvent s die unit status ctx aux).coh = s.coh := by
  obtain ⟨_, _, _, h, _⟩ := strataEvent_cases s die unit status ctx aux; rw [h]
@[simp] theorem strataEvent_intlv : (strataEvent s die unit status ctx aux).intlv = s.intlv := by
  obtain ⟨_, _, _, h, _⟩ := strataEvent_cases s die unit status ctx aux; rw [h]
@[simp] theorem strataEvent_cmds : (strataEvent s die unit status ctx aux).cmds = s.cmds := by
  obtain ⟨_, _, _, h, _⟩ := strataEvent_cases s die unit status ctx aux; rw [h]
@[simp] theorem strataEvent_ses : (strataEvent s die unit status ctx aux).ses = s.ses := by
  obtain ⟨_, _, _, h, _⟩ := strataEvent_cases s die unit status ctx aux; rw [h]
@[simp] theorem strataEvent_half : (strataEvent s die unit status ctx aux).half = s.half := by
  obtain ⟨_, _, _, h, _⟩ := strataEvent_cases s die unit status ctx aux; rw [h]
@[simp] theorem strataEvent_pod : (strataEvent s die unit status ctx aux).pod = s.pod := by
  obtain ⟨_, _, _, h, _⟩ := strataEvent_cases s die unit status ctx aux; rw [h]
@[simp] theorem strataEvent_podCmds : (strataEvent s die unit status ctx aux).podCmds = s.podCmds := by
  obtain ⟨_, _, _, h, _⟩ := strataEvent_cases s die unit status ctx aux; rw [h]
@[simp] theorem strataEvent_hlt : (strataEvent s die unit status ctx aux).hlt = s.hlt := by
  obtain ⟨_, _, _, h, _⟩ := strataEvent_cases s die unit status ctx aux; rw [h]
@[simp] theorem strataEvent_rpl : (strataEvent s die unit status ctx aux).rpl = s.rpl := by
  obtain ⟨_, _, _, h, _⟩ := strataEvent_cases s die unit status ctx aux; rw [h]
@[simp] theorem strataEvent_fw : (strataEvent s die unit status ctx aux).fw = s.fw := by
  obtain ⟨_, _, _, h, _⟩ := strataEvent_cases s die unit status ctx aux; rw [h]
@[simp] theorem strataEvent_ports : (strataEvent s die unit status ctx aux).ports = s.ports := by
  obtain ⟨_, _, _, h, _⟩ := strataEvent_cases s die unit status ctx aux; rw [h]
@[simp] theorem strataEvent_io : (strataEvent s die unit status ctx aux).io = s.io := by
  obtain ⟨_, _, _, h, _⟩ := strataEvent_cases s die unit status ctx aux; rw [h]
@[simp] theorem strataEvent_mica : (strataEvent s die unit status ctx aux).mica = s.mica := by
  obtain ⟨_, _, _, h, _⟩ := strataEvent_cases s die unit status ctx aux; rw [h]
@[simp] theorem strataEvent_rings : (strataEvent s die unit status ctx aux).rings = s.rings := by
  obtain ⟨_, _, _, h, _⟩ := strataEvent_cases s die unit status ctx aux; rw [h]
@[simp] theorem strataEvent_upd : (strataEvent s die unit status ctx aux).upd = s.upd := by
  obtain ⟨_, _, _, h, _⟩ := strataEvent_cases s die unit status ctx aux; rw [h]
@[simp] theorem strataEvent_pwr : (strataEvent s die unit status ctx aux).pwr = s.pwr := by
  obtain ⟨_, _, _, h, _⟩ := strataEvent_cases s die unit status ctx aux; rw [h]
@[simp] theorem strataEvent_brd : (strataEvent s die unit status ctx aux).brd = s.brd := by
  obtain ⟨_, _, _, h, _⟩ := strataEvent_cases s die unit status ctx aux; rw [h]
@[simp] theorem strataEvent_clkBad : (strataEvent s die unit status ctx aux).clkBad = s.clkBad := by
  obtain ⟨_, _, _, h, _⟩ := strataEvent_cases s die unit status ctx aux; rw [h]
@[simp] theorem strataEvent_prefixes : (strataEvent s die unit status ctx aux).prefixes = s.prefixes := by
  obtain ⟨_, _, _, h, _⟩ := strataEvent_cases s die unit status ctx aux; rw [h]
@[simp] theorem strataEvent_excl : (strataEvent s die unit status ctx aux).excl = s.excl := by
  obtain ⟨_, _, _, h, _⟩ := strataEvent_cases s die unit status ctx aux; rw [h]
@[simp] theorem strataEvent_asleep : (strataEvent s die unit status ctx aux).asleep = s.asleep := by
  obtain ⟨_, _, _, h, _⟩ := strataEvent_cases s die unit status ctx aux; rw [h]
@[simp] theorem strataEvent_nextId : (strataEvent s die unit status ctx aux).nextId = s.nextId := by
  obtain ⟨_, _, _, h, _⟩ := strataEvent_cases s die unit status ctx aux; rw [h]
@[simp] theorem strataEvent_free : (strataEvent s die unit status ctx aux).free = s.free := by
  obtain ⟨_, _, _, h, _⟩ := strataEvent_cases s die unit status ctx aux; rw [h]
@[simp] theorem strataEvent_outs : (strataEvent s die unit status ctx aux).outs = s.outs := by
  obtain ⟨_, _, _, h, _⟩ := strataEvent_cases s die unit status ctx aux; rw [h]
@[simp] theorem strataEvent_pending : (strataEvent s die unit status ctx aux).pending = s.pending := by
  obtain ⟨_, _, _, h, _⟩ := strataEvent_cases s die unit status ctx aux; rw [h]

theorem regGet_strataEvent {k : Nat} (h : k ≠ R_SCH_STRATA_ERR) : regGet (strataEvent s die unit status ctx aux) k = regGet s k := by
  obtain ⟨x, r, c, he, hr, _⟩ := strataEvent_cases s die unit status ctx aux
  rw [he]
  rcases hr with hr | hr
  · simp only [regGet, hr]
  · rw [hr]; exact regGet_raise_ne s _ h
theorem fld_strataEvent {k : Nat} (f : Fld) (h : k ≠ R_SCH_STRATA_ERR) : fld (strataEvent s die unit status ctx aux) k f = fld s k f := by
  simp only [fld, regGet_strataEvent s die unit status ctx aux h]
theorem ctrGet_strataEvent {k : Nat} (h1 : k ≠ R_SCH_STRATA_SUPPRESSED) (h2 : k ≠ R_SCH_STRATA_LOST) :
    ctrGet (strataEvent s die unit status ctx aux) k = ctrGet s k := by
  obtain ⟨x, r, c, he, _, hc⟩ := strataEvent_cases s die unit status ctx aux
  rw [he]; simp only [ctrGet, hc k h1 h2]
end

end Sys2Proof.Machine
end

