-- ==== Sys2Proof/Laws/Access.lean ====
section
/-! SUPPORT. What an access to memory can change, said once for every access: memory itself, its errors and tags, caches and
directories, the error registers of the dies that hold it, counters, the recorder, and what is put out. -/
namespace Sys2Proof.Machine

/-- The registers that an access may change: error flags, spare rows, corrected errors of LPDDR6, discarded writes. -/
def errKey (k : Nat) : Prop :=
  k = R_SCH_STRATA_ERR ∨ k = R_SCH_RPL_WR_DISCARD ∨
    ∃ d, k = R_SHL_ERR d ∨ k = R_SHL_UE_SRC d ∨ k = R_SHL_SPARE_USED d ∨ k = R_SHL_STATUS d ∨ k = R_FLT_DIR_CE d ∨
      ∃ f, k = R_GAB_BEAM_ERR d f

/-- `t` comes from `s` by accesses to memory alone. -/
def Touch (s t : State) : Prop :=
  t = { s with regs := t.regs, ctrs := t.ctrs, mem := t.mem, ecc := t.ecc, tags := t.tags, shl := t.shl, coh := t.coh,
               strata := t.strata, outs := t.outs, updWatch := t.updWatch } ∧
  (∀ k, ¬ errKey k → regGet t k = regGet s k) ∧ (memWf s.mem = true → memWf t.mem = true)

theorem Touch.refl (s : State) : Touch s s := ⟨rfl, fun _ _ => rfl, id⟩

theorem Touch.trans {s t u : State} (h : Touch s t) (g : Touch t u) : Touch s u := by
  refine ⟨?_, fun k hk => (g.2.1 k hk).trans (h.2.1 k hk), fun hm => g.2.2 (h.2.2 hm)⟩
  rw [g.1, h.1]

theorem Touch.foldl {α : Type} {f : State → α → State} (h : ∀ s x, Touch s (f s x)) (l : List α) (s : State) :
    Touch s (l.foldl f s) := by
  induction l generalizing s with
  | nil => exact .refl s
  | cons a t ih => exact (h s a).trans (ih _)

theorem Touch.foldl_fst {α β : Type} {f : State × β → α → State × β} (h : ∀ p x, Touch p.1 (f p x).1) (l : List α)
    (p : State × β) : Touch p.1 (l.foldl f p).1 := by
  induction l generalizing p with
  | nil => exact .refl _
  | cons a t ih => exact (h p a).trans (ih _)

/-! ### The small steps. -/

theorem touch_regSet (s : State) {k : Nat} (w : Word) (h : errKey k) : Touch s (regSet s k w) :=
  ⟨rfl, fun _ hj => regGet_regSet_ne s w (fun e => hj (e ▸ h)), id⟩
theorem touch_setFld (s : State) {k : Nat} (f : Fld) (v : Nat) (h : errKey k) : Touch s (setFld s k f v) := touch_regSet s _ h
theorem touch_raise (s : State) {k : Nat} (f : Fld) (h : errKey k) : Touch s (raise s k f) := touch_regSet s _ h
theorem touch_regInc (s : State) {k : Nat} (n : Nat) (h : errKey k) : Touch s (regInc s k n) := touch_regSet s _ h
theorem touch_ctrSet (s : State) (k : Nat) (w : DWord) : Touch s (ctrSet s k w) := ⟨rfl, fun _ _ => rfl, id⟩
theorem touch_count (s : State) (k n : Nat) : Touch s (count s k n) := by
  unfold count; split
  · exact touch_ctrSet s _ _
  · exact .refl s
theorem touch_watchNote (s : State) (a n : Nat) : Touch s (watchNote s a n) := by
  unfold watchNote; split
  · exact ⟨rfl, fun _ _ => rfl, id⟩
  · exact .refl s
theorem touch_emit (s : State) (o : Out) : Touch s (emit s o) := ⟨rfl, fun _ _ => rfl, id⟩
theorem touch_strataEvent (s : State) (die unit status ctx aux : Nat) : Touch s (strataEvent s die unit status ctx aux) := by
  obtain ⟨x, r, c, he, hr, _⟩ := strataEvent_cases s die unit status ctx aux
  refine ⟨by rw [he], fun k hk => regGet_strataEvent s die unit status ctx aux (fun e => hk (.inl e)), ?_⟩
  rw [strataEvent_mem]; exact id
theorem touch_ecc (s : State) (e : Tab Bool) : Touch s { s with ecc := e } := ⟨rfl, fun _ _ => rfl, id⟩
theorem touch_coh (s : State) (c : Coher) : Touch s { s with coh := c } := ⟨rfl, fun _ _ => rfl, id⟩
theorem touch_shl (s : State) (x : ShaleX) : Touch s { s with shl := x } := ⟨rfl, fun _ _ => rfl, id⟩
theorem touch_shl_ecc (s : State) (x : ShaleX) (e : Tab Bool) : Touch s { s with shl := x, ecc := e } := ⟨rfl, fun _ _ => rfl, id⟩
theorem touch_memSet (s : State) (a : Nat) (b : Byte) : Touch s { s with mem := memSet s.mem a b } :=
  ⟨rfl, fun _ _ => rfl, memWf_memSet _ _ _⟩

theorem errKey_shlErr (d : Nat) : errKey (R_SHL_ERR d) := .inr (.inr ⟨d, .inl rfl⟩)
theorem errKey_ueSrc (d : Nat) : errKey (R_SHL_UE_SRC d) := .inr (.inr ⟨d, .inr (.inl rfl)⟩)
theorem errKey_spareUsed (d : Nat) : errKey (R_SHL_SPARE_USED d) := .inr (.inr ⟨d, .inr (.inr (.inl rfl))⟩)
theorem errKey_shlStatus (d : Nat) : errKey (R_SHL_STATUS d) := .inr (.inr ⟨d, .inr (.inr (.inr (.inl rfl)))⟩)
theorem errKey_dirCe (d : Nat) : errKey (R_FLT_DIR_CE d) := .inr (.inr ⟨d, .inr (.inr (.inr (.inr (.inl rfl))))⟩)
theorem errKey_beamErr (d f : Nat) : errKey (R_GAB_BEAM_ERR d f) := .inr (.inr ⟨d, .inr (.inr (.inr (.inr (.inr ⟨f, rfl⟩))))⟩)
theorem errKey_discard : errKey R_SCH_RPL_WR_DISCARD := .inr (.inl rfl)

/-! ### Errors and spare rows. -/

theorem touch_spareExhausted (s : State) (d row : Nat) : Touch s (spareExhausted s d row) :=
  (touch_raise s _ (errKey_shlErr d)).trans (touch_strataEvent _ _ _ _ _ _)

theorem touch_spareTake (s : State) (g row : Nat) : Touch s (spareTake s g row) := by
  unfold spareTake
  simp only []
  split
  · exact (touch_shl_ecc s _ _).trans ((touch_setFld _ _ _ (errKey_spareUsed _)).trans (touch_setFld _ _ _ (errKey_shlStatus _)))
  · exact touch_spareExhausted s _ _

theorem touch_spareNote (s : State) (g a : Nat) : Touch s (spareNote s g a) := by
  unfold spareNote
  simp only []
  split
  · exact .refl s
  · split
    · exact touch_shl s _
    · split
      · exact (touch_shl s _).trans ((touch_shl _ _).trans (touch_raise _ _ (errKey_shlStatus _)))
      · exact (touch_shl s _).trans (touch_spareExhausted _ _ _)

theorem touch_corrected (s : State) (g : Nat) : Touch s (corrected s g) := by
  unfold corrected
  simp only []
  split
  · exact (touch_ecc s _).trans ((touch_count _ _ _).trans (touch_spareNote _ _ _))
  · exact (touch_ecc s _).trans (touch_regInc _ _ (errKey_dirCe _))
  · exact (touch_ecc s _).trans (touch_count _ _ _)
  · exact (touch_ecc s _).trans (touch_count _ _ _)
  · exact touch_ecc s _

theorem touch_checkGranule (s : State) (g : Nat) : Touch s (checkGranule s g).1 := by
  unfold checkGranule
  split
  · exact .refl s
  · exact .refl s
  · exact touch_corrected s g

theorem touch_noteUe (s : State) (ag : Agent) (unit g : Nat) : Touch s (noteUe s ag unit g) := by
  unfold noteUe
  simp only []
  split
  · split
    · exact (touch_count s _ _).trans (touch_strataEvent _ _ _ _ _ _)
    · exact (touch_count s _ _).trans ((touch_ctrSet _ _ _).trans ((touch_regSet _ _ (errKey_ueSrc _)).trans
        ((touch_raise _ _ (errKey_shlErr _)).trans (touch_strataEvent _ _ _ _ _ _))))
  · exact touch_strataEvent s _ _ _ _ _
  · exact touch_strataEvent s _ _ _ _ _
  · exact touch_strataEvent s _ _ _ _ _
  · exact .refl s

theorem touch_meet (s : State) (ag : Agent) (unit g : Nat) : Touch s (meet s ag unit g).1 := by
  unfold meet
  simp only []
  split
  · exact (touch_checkGranule s g).trans (touch_noteUe _ _ _ _)
  · exact touch_checkGranule s g

/-! ### Reading and writing. -/

theorem touch_tagSeen (s : State) (g : Nat) : Touch s (tagSeen s g) := by
  unfold tagSeen
  split
  · split
    · exact touch_raise _ _ (errKey_shlErr _)
    · exact .refl _
  · exact .refl _

theorem touch_readMem (s : State) (ag : Agent) (unit a n : Nat) : Touch s (readMem s ag unit a n).1 := by
  unfold readMem
  refine Touch.foldl_fst (p := (s, false)) (fun p g => ?_) _
  simp only []
  split
  · exact .refl _
  · refine Touch.trans ?_ (touch_meet _ _ _ _)
    exact touch_tagSeen _ _

theorem touch_putBytes (bs : List Byte) : ∀ (s : State) (a : Nat), Touch s (putBytes s a bs) := by
  induction bs with
  | nil => intro s a; exact .refl s
  | cons b t ih =>
    intro s a
    refine Touch.trans ?_ (ih _ _)
    split
    · split
      · exact .refl s
      · exact touch_memSet s a b
    · exact touch_memSet s a b

theorem touch_writePiece (s : State) (ag : Agent) (unit a : Nat) (bs : List Byte) : Touch s (writePiece s ag unit a bs).1 := by
  unfold writePiece
  simp only []
  split
  · exact (touch_ecc s _).trans (touch_putBytes bs _ a)
  · split
    · exact touch_meet s _ _ _
    · exact (touch_meet s _ _ _).trans (touch_putBytes bs _ a)

theorem touch_remapCovered (s : State) (a n : Nat) (wells : Bool) : Touch s (remapCovered s a n wells) := by
  unfold remapCovered
  split
  · refine Touch.foldl (fun s row => ?_) _ s
    split
    · exact touch_spareTake s _ _
    · exact .refl s
  · exact .refl s

/-- Every write to memory. -/
theorem touch_writeMem (s : State) (ag : Agent) (unit a : Nat) (bs : List Byte) : Touch s (writeMem s ag unit a bs).1 := by
  unfold writeMem
  refine (touch_remapCovered s a bs.length true).trans ?_
  refine Touch.foldl_fst (p := (remapCovered s a bs.length true, true)) (fun p x => ?_) _
  exact touch_writePiece p.1 ag unit x.1 x.2

theorem touch_extPiece (s : State) (ag : Agent) (unit a : Nat) (bs : List Byte) : Touch s (extPiece s ag unit a bs).1 := by
  unfold extPiece
  split
  · split
    · exact touch_raise s _ (errKey_shlErr _)
    · exact touch_writePiece s _ _ _ _
  · split
    · exact touch_raise s _ (errKey_beamErr _ _)
    · exact touch_writePiece s _ _ _ _
  · split
    · exact touch_regInc s _ errKey_discard
    · exact touch_writePiece s _ _ _ _
  · exact touch_writePiece s _ _ _ _
  · exact .refl s

/-- Every write from outside the beam pipeline, Garnet and the log. -/
theorem touch_extWrite (s : State) (ag : Agent) (unit a : Nat) (bs : List Byte) : Touch s (extWrite s ag unit a bs).1 := by
  unfold extWrite
  simp only []
  have h1 (l : List Nat) : Touch s (l.foldl (fun s row => match regionBelow 0 row with
      | .shale g => if inWell s row then count s (R_SHL_WELL_DISCARD (shlDie g)) 1 else s
      | _ => s) (remapCovered s a bs.length false)) := by
    refine (touch_remapCovered s a bs.length false).trans (Touch.foldl (fun s row => ?_) _ _)
    split
    · split
      · exact touch_count s _ _
      · exact .refl s
    · exact .refl s
  refine (h1 _).trans (Touch.foldl_fst (p := (_, true)) (fun p x => ?_) _)
  exact touch_extPiece p.1 ag unit x.1 x.2

/-! ### Caches and directories. -/

theorem touch_copySet (s : State) (c line : Nat) (x : CacheLine) : Touch s (copySet s c line x) := touch_coh s _
theorem touch_copyDel (s : State) (c line : Nat) : Touch s (copyDel s c line) := touch_coh s _
theorem touch_dirDel (s : State) (line : Nat) : Touch s (dirDel s line) := touch_coh s _
theorem touch_countSnoops (s : State) (line n : Nat) : Touch s (countSnoops s line n) := by
  unfold countSnoops
  split
  · exact touch_count s _ _
  · exact .refl s

theorem touch_predSnoop (s : State) (c line mask : Nat) : Touch s (predSnoop s c line mask) := by
  unfold predSnoop
  refine Touch.foldl (fun s k => ?_) _ s
  simp only []
  split
  · exact .refl s
  · split
    · exact touch_coh s _
    · exact touch_coh s _

theorem touch_invalidate (s : State) (c line : Nat) : Touch s (invalidate s c line).1 := by
  have h1 : Touch s (emit (countSnoops s line 1) (.snoop c line true)) := (touch_countSnoops s line 1).trans (touch_emit _ _)
  have h2 (t : State) (m : Nat) : Touch t (copyDel (predSnoop t c line m) c line) :=
    (touch_predSnoop t c line m).trans (touch_copyDel _ c line)
  unfold invalidate
  simp only []
  split
  · exact h1
  · dsimp only
    exact h1.trans (h2 _ _)

theorem touch_invalidateBut (s : State) (line : Nat) (keep : Option Nat) : Touch s (invalidateBut s line keep).1 := by
  unfold invalidateBut
  split
  · exact .refl s
  · refine Touch.foldl_fst (fun p c => ?_) _ (s, none)
    simp only []
    split
    · exact .refl _
    · exact touch_invalidate _ _ _

theorem touch_dirPut (s : State) (line : Nat) (e : DirEnt) : Touch s (dirPut s line e) := by
  unfold dirPut
  split
  · exact touch_coh s _
  · simp only []
    refine Touch.trans ?_ (touch_coh _ _)
    split
    · exact .refl s
    · split
      · exact .refl s
      · rename_i v _
        refine Touch.trans ?_ (touch_dirDel _ _)
        refine Touch.trans (touch_invalidateBut s v.1 none) ?_
        have h2 (t : State) : Touch t (match homeDie s (line * 128) with
            | some h => count t (dirReg h R_GAB_DIR_RECALL R_FLT_DIR_RECALL) 1
            | none => t) := by
          split
          · exact touch_count t _ _
          · exact .refl t
        refine Touch.trans ?_ (h2 _)
        split
        · exact touch_extWrite _ _ _ _ _
        · exact .refl _

theorem touch_deliver (s : State) (c line : Nat) (st : CState) (d : List Byte) : Touch s (deliver s c line st d) :=
  (touch_copySet s _ _ _).trans (touch_emit _ _)
theorem touch_asker (w : Asker) (s : State) : Touch s (w.fault s) := touch_emit s _
theorem touch_fillFrom (s : State) (c line : Nat) (w : Asker) (k : State → List Byte → State) (h : ∀ t d, Touch t (k t d)) :
    Touch s (fillFrom s c line w k) := by
  unfold fillFrom
  simp only []
  split
  · exact (touch_readMem s _ _ _ _).trans (touch_asker _ _)
  · exact (touch_readMem s _ _ _ _).trans (h _ _)

/-! ### Accesses that no cache makes. -/

theorem touch_ncReadLine (s : State) (ag : Agent) (a n : Nat) :
    Touch s (ncReadLine s ag a n).1 := by
  unfold ncReadLine
  simp only []
  split
  · exact (touch_countSnoops s _ _).trans (touch_emit _ _)
  · exact touch_readMem s _ _ _ _

theorem touch_ncRead (s : State) (ag : Agent) (a n : Nat) : Touch s (ncRead s ag a n).1 := by
  unfold ncRead
  refine Touch.foldl_fst (p := (s, [], false)) (fun p x => ?_) _
  exact touch_ncReadLine p.1 ag x.1 x.2

theorem touch_ncWriteLine (s : State) (ag : Agent) (a : Nat) (bs : List Byte) :
    Touch s (ncWriteLine s ag a bs).1 := by
  unfold ncWriteLine
  simp only []
  have h : Touch s (watchNote (dirDel (invalidateBut s (lineOf a) none).1 (lineOf a)) a bs.length) :=
    (touch_invalidateBut s _ _).trans ((touch_dirDel _ _).trans (touch_watchNote _ _ _))
  split
  · split
    · exact h.trans (touch_extWrite _ _ _ _ _)
    · exact h.trans (touch_extWrite _ _ _ _ _)
  · exact h.trans (touch_extWrite _ _ _ _ _)

theorem touch_ncWrite (s : State) (ag : Agent) (a : Nat) (bs : List Byte) :
    Touch s (ncWrite s ag a bs).1 := by
  unfold ncWrite
  refine (touch_remapCovered s a bs.length false).trans (Touch.foldl_fst (p := (_, true)) (fun p x => ?_) _)
  exact touch_ncWriteLine p.1 ag x.1 _

theorem touch_postWrite (s : State) (d : Nat) (ag : Agent) (a : Nat) (bs : List Byte) : Touch s (postWrite s d ag a bs).1 := by
  have h1 : Touch s (ncWrite s ag a bs).1 := touch_ncWrite s ag a bs
  have h2 : Touch s (count s (R_DIE_FENCE_DROP d) 1) := touch_count s _ _
  unfold postWrite
  split
  · exact h1
  · dsimp only
    exact h2

theorem touch_dropCopies (s : State) (p : Nat → Bool) (counted : Bool) : Touch s (dropCopies s p counted) := by
  unfold dropCopies
  refine Touch.foldl (fun s e => ?_) _ s
  simp only []
  refine (touch_invalidateBut s e.1 none).trans ?_
  refine Touch.trans ?_ (touch_dirDel _ _)
  split
  · split
    · exact touch_count _ _ _
    · exact .refl _
  · exact .refl _

end Sys2Proof.Machine
end

