-- ==== Sys2Proof/Laws/Params.lean ====
section
/-! SUPPORT. Parameter blocks of commands: the fields that were put in are read, and no undefined bit is set. -/
namespace Sys2Proof.Machine

/-- The number that the 48 parameter bytes spell. -/
def parNum (fs : List (Nat × Nat × Nat)) : Nat :=
  fs.foldl (fun a f => a ||| ((f.2.2 % 2 ^ (8 * f.2.1)) <<< (8 * f.1))) 0

theorem parBytes_eq (fs : List (Nat × Nat × Nat)) : parBytes fs = leBytes 48 (parNum fs) := rfl

theorem testBit_parFold (fs : List (Nat × Nat × Nat)) (a j : Nat) :
    (fs.foldl (fun a f => a ||| ((f.2.2 % 2 ^ (8 * f.2.1)) <<< (8 * f.1))) a).testBit j =
      (a.testBit j || fs.any fun f => decide (8 * f.1 ≤ j) && (decide (j - 8 * f.1 < 8 * f.2.1) && f.2.2.testBit (j - 8 * f.1))) := by
  induction fs generalizing a with
  | nil => simp
  | cons f t ih =>
    simp only [List.foldl_cons, ih, List.any_cons, Nat.testBit_or, Nat.testBit_shiftLeft, Nat.testBit_mod_two_pow]
    cases a.testBit j <;> simp

theorem testBit_parNum (fs : List (Nat × Nat × Nat)) (j : Nat) :
    (parNum fs).testBit j =
      fs.any fun f => decide (8 * f.1 ≤ j) && (decide (j - 8 * f.1 < 8 * f.2.1) && f.2.2.testBit (j - 8 * f.1)) := by
  simp [parNum, testBit_parFold]

theorem pow_256 (n : Nat) : 256 ^ n = 2 ^ (8 * n) := by
  rw [show (256 : Nat) = 2 ^ 8 from rfl, ← Nat.pow_mul]

/-- A field that no other field of the block overlaps reads as what was put in it. -/
theorem fieldLE_parBytes (fs : List (Nat × Nat × Nat)) (i n v : Nat) (hmem : (i, n, v) ∈ fs) (hin : i + n ≤ 48)
    (hdis : ∀ f ∈ fs, f = (i, n, v) ∨ f.1 + f.2.1 ≤ i ∨ i + n ≤ f.1) :
    fieldLE (parBytes fs) i n = v % 2 ^ (8 * n) := by
  rw [parBytes_eq, fieldLE_leBytes _ _ _ _ hin]
  apply Nat.eq_of_testBit_eq
  intro j
  simp only [pow_256, Nat.testBit_mod_two_pow, Nat.testBit_div_two_pow, testBit_parNum]
  by_cases hj : j < 8 * n
  · simp only [hj, decide_true, Bool.true_and]
    have hsub : j + 8 * i - 8 * i = j := by omega
    rw [Bool.eq_iff_iff, List.any_eq_true]
    constructor
    · rintro ⟨f, hf, h⟩
      rcases hdis f hf with rfl | h2 | h2
      · simpa [hsub, hj] using h
      · simp only [Bool.and_eq_true, decide_eq_true_eq] at h; omega
      · simp only [Bool.and_eq_true, decide_eq_true_eq] at h; omega
    · intro h
      exact ⟨_, hmem, by simp [hsub, hj, h]⟩
  · simp [hj]

/-- A part of the block that no field overlaps reads as zero. -/
theorem fieldLE_parBytes_zero (fs : List (Nat × Nat × Nat)) (i n : Nat) (hin : i + n ≤ 48)
    (hdis : ∀ f ∈ fs, f.1 + f.2.1 ≤ i ∨ i + n ≤ f.1) : fieldLE (parBytes fs) i n = 0 := by
  rw [parBytes_eq, fieldLE_leBytes _ _ _ _ hin]
  apply Nat.eq_of_testBit_eq
  intro j
  simp only [pow_256, Nat.testBit_mod_two_pow, Nat.testBit_div_two_pow, testBit_parNum, Nat.zero_testBit]
  by_cases hj : j < 8 * n
  · simp only [hj, decide_true, Bool.true_and]
    rw [List.any_eq_false]
    intro f hf h
    simp only [Bool.and_eq_true, decide_eq_true_eq] at h
    rcases hdis f hf with h2 | h2 <;> omega
  · simp [hj]

/-! ### The packet that carries a block. -/

theorem length_packetOf (op : Nat) (src : Src) (p : List Byte) : (packetOf op src p).length = 64 := by
  simp [packetOf, List.length_append]

theorem packet_len (op : Nat) (src : Src) (p : List Byte) : fieldLE (packetOf op src p) 8 2 = 48 := by
  have h : sliceZ (packetOf op src p) 8 2 = leBytes 2 48 := by
    rw [sliceZ_within _ _ _ (by have := length_packetOf op src p; omega)]; rfl
  rw [fieldLE, h]; rfl

theorem packet_op (op : Nat) (src : Src) (p : List Byte) : fieldLE (packetOf op src p) 0 2 = op % 65536 := by
  have h : sliceZ (packetOf op src p) 0 2 = leBytes 2 op := by
    rw [sliceZ_within _ _ _ (by have := length_packetOf op src p; omega)]; rfl
  rw [fieldLE, h, leNat_leBytes, show (256 : Nat) ^ 2 = 65536 from rfl]

theorem packet_pars (op : Nat) (src : Src) (p : List Byte) : sliceZ (packetOf op src p) 16 48 = sliceZ p 0 48 := by
  rw [sliceZ_within _ _ _ (by have := length_packetOf op src p; omega)]
  have h : (packetOf op src p).drop 16 = sliceZ p 0 48 := by
    simp only [packetOf, leBytes, List.replicate, List.cons_append, List.nil_append, List.drop_succ_cons, List.drop_zero]
  rw [h, List.take_of_length_le (by simp)]

/-- A command given directly has the parameters it was given. -/
theorem parsOf_packetOf (op : Nat) (src : Src) (p : List Byte) : parsOf (packetOf op src p) = sliceZ p 0 48 := by
  simp only [parsOf, packet_len, packet_pars]
  rw [List.take_of_length_le (by simp), sliceZ_whole _ _ (by simp)]

@[simp] theorem parsOf_block (op : Nat) (src : Src) (fs : List (Nat × Nat × Nat)) :
    parsOf (packetOf op src (parBytes fs)) = parBytes fs := by
  rw [parsOf_packetOf, sliceZ_whole _ _ (by simp [parBytes])]

@[simp] theorem parsOf_empty (op : Nat) (src : Src) : parsOf (packetOf op src []) = parBytes [] := by
  rw [parsOf_packetOf]; rfl

/-! ### Undefined bits (15:R342). -/

theorem shift_or_mask {v k o m : Nat} (hv : v < 2 ^ k) (hm : ((2 ^ k - 1) <<< o) ||| m = m) : (v <<< o) ||| m = m := by
  apply Nat.eq_of_testBit_eq
  intro j
  have h := congrArg (·.testBit j) hm
  simp only [Nat.testBit_or, Nat.testBit_shiftLeft, Nat.testBit_two_pow_sub_one] at h ⊢
  by_cases hj : v.testBit (j - o)
  · have : j - o < k := by
      apply Nat.lt_of_not_le
      intro hle
      rw [Nat.testBit_lt_two_pow (Nat.lt_of_lt_of_le hv (Nat.pow_le_pow_right (by omega) hle))] at hj
      exact absurd hj (by decide)
    simpa [hj, this] using h
  · simp [hj]

theorem parFold_or_mask (fs : List (Nat × Nat × Nat)) (m a : Nat) (ha : a ||| m = m)
    (h : ∀ f ∈ fs, ((f.2.2 % 2 ^ (8 * f.2.1)) <<< (8 * f.1)) ||| m = m) :
    (fs.foldl (fun a f => a ||| ((f.2.2 % 2 ^ (8 * f.2.1)) <<< (8 * f.1))) a) ||| m = m := by
  induction fs generalizing a with
  | nil => exact ha
  | cons f t ih =>
    refine ih _ ?_ fun g hg => h g (List.mem_cons_of_mem _ hg)
    rw [Nat.or_assoc, h f List.mem_cons_self, ha]

/-- Where every field lies in the bits its table defines, no undefined bit is set. -/
theorem parsUndefined_parBytes (op : Nat) (fs : List (Nat × Nat × Nat)) (hlt : parMask op < 2 ^ 192 * 2 ^ 192)
    (h : ∀ f ∈ fs, ((f.2.2 % 2 ^ (8 * f.2.1)) <<< (8 * f.1)) ||| parMask op = parMask op) :
    parsUndefined op (parBytes fs) = false := by
  have hm := parFold_or_mask fs (parMask op) 0 (by simp) h
  have hl : parNum fs < 2 ^ (8 * 48) := by
    apply Nat.lt_of_le_of_lt _ hlt
    rw [← hm]; exact Nat.left_le_or
  simp only [parsUndefined, parBytes_eq, leNat_leBytes, pow_256]
  rw [Nat.mod_eq_of_lt hl, show parNum fs ||| parMask op = parMask op from hm]
  simp

end Sys2Proof.Machine
end

