-- ==== Sys2Proof/Laws/Cmd.lean ====
section
/-! SUPPORT. How a command given directly runs in a block that serves commands, and how it ends. -/
namespace Sys2Proof.Machine

/-! ### Taking a command. -/

@[simp] theorem begun_cyc (s : State) : (begun s).cyc = s.cyc := by
  simp only [begun, takeCount]; split <;> simp
@[simp] theorem begun_regs (s : State) : (begun s).regs = s.regs := by
  simp only [begun, takeCount]; split <;> simp
@[simp] theorem begun_latch (s : State) : (begun s).latch = s.latch := by
  simp only [begun, takeCount]; split <;> simp
@[simp] theorem begun_mem (s : State) : (begun s).mem = s.mem := by
  simp only [begun, takeCount]; split <;> simp
@[simp] theorem begun_ecc (s : State) : (begun s).ecc = s.ecc := by
  simp only [begun, takeCount]; split <;> simp
@[simp] theorem begun_tags (s : State) : (begun s).tags = s.tags := by
  simp only [begun, takeCount]; split <;> simp
@[simp] theorem begun_shl (s : State) : (begun s).shl = s.shl := by
  simp only [begun, takeCount]; split <;> simp
@[simp] theorem begun_frames (s : State) : (begun s).frames = s.frames := by
  simp only [begun, takeCount]; split <;> simp
@[simp] theorem begun_scheds (s : State) : (begun s).scheds = s.scheds := by
  simp only [begun, takeCount]; split <;> simp
@[simp] theorem begun_runs (s : State) : (begun s).runs = s.runs := by
  simp only [begun, takeCount]; split <;> simp
@[simp] theorem begun_xfers (s : State) : (begun s).xfers = s.xfers := by
  simp only [begun, takeCount]; split <;> simp
@[simp] theorem begun_credits (s : State) : (begun s).credits = s.credits := by
  simp only [begun, takeCount]; split <;> simp
@[simp] theorem begun_stops (s : State) : (begun s).stops = s.stops := by
  simp only [begun, takeCount]; split <;> simp
@[simp] theorem begun_step (s : State) : (begun s).step = s.step := by
  simp only [begun, takeCount]; split <;> simp
@[simp] theorem begun_stepFailed (s : State) : (begun s).stepFailed = s.stepFailed := by
  simp only [begun, takeCount]; split <;> simp
@[simp] theorem begun_rcp (s : State) : (begun s).rcp = s.rcp := by
  simp only [begun, takeCount]; split <;> simp
@[simp] theorem begun_coh (s : State) : (begun s).coh = s.coh := by
  simp only [begun, takeCount]; split <;> simp
@[simp] theorem begun_intlv (s : State) : (begun s).intlv = s.intlv := by
  simp only [begun, takeCount]; split <;> simp
@[simp] theorem begun_cmds (s : State) : (begun s).cmds = s.cmds := by
  simp only [begun, takeCount]; split <;> simp
@[simp] theorem begun_ses (s : State) : (begun s).ses = s.ses := by
  simp only [begun, takeCount]; split <;> simp
@[simp] theorem begun_half (s : State) : (begun s).half = s.half := by
  simp only [begun, takeCount]; split <;> simp
@[simp] theorem begun_pod (s : State) : (begun s).pod = s.pod := by
  simp only [begun, takeCount]; split <;> simp
@[simp] theorem begun_podCmds (s : State) : (begun s).podCmds = s.podCmds := by
  simp only [begun, takeCount]; split <;> simp
@[simp] theorem begun_hlt (s : State) : (begun s).hlt = s.hlt := by
  simp only [begun, takeCount]; split <;> simp
@[simp] theorem begun_strata (s : State) : (begun s).strata = s.strata := by
  simp only [begun, takeCount]; split <;> simp
@[simp] theorem begun_fw (s : State) : (begun s).fw = s.fw := by
  simp only [begun, takeCount]; split <;> simp
@[simp] theorem begun_ports (s : State) : (begun s).ports = s.ports := by
  simp only [begun, takeCount]; split <;> simp
@[simp] theorem begun_io (s : State) : (begun s).io = s.io := by
  simp only [begun, takeCount]; split <;> simp
@[simp] theorem begun_mica (s : State) : (begun s).mica = s.mica := by
  simp only [begun, takeCount]; split <;> simp
@[simp] theorem begun_rings (s : State) : (begun s).rings = s.rings := by
  simp only [begun, takeCount]; split <;> simp
@[simp] theorem begun_upd (s : State) : (begun s).upd = s.upd := by
  simp only [begun, takeCount]; split <;> simp
@[simp] theorem begun_pwr (s : State) : (begun s).pwr = s.pwr := by
  simp only [begun, takeCount]; split <;> simp
@[simp] theorem begun_brd (s : State) : (begun s).brd = s.brd := by
  simp only [begun, takeCount]; split <;> simp
@[simp] theorem begun_clkBad (s : State) : (begun s).clkBad = s.clkBad := by
  simp only [begun, takeCount]; split <;> simp
@[simp] theorem begun_prefixes (s : State) : (begun s).prefixes = s.prefixes := by
  simp only [begun, takeCount]; split <;> simp
@[simp] theorem begun_excl (s : State) : (begun s).excl = s.excl := by
  simp only [begun, takeCount]; split <;> simp
@[simp] theorem begun_asleep (s : State) : (begun s).asleep = s.asleep := by
  simp only [begun, takeCount]; split <;> simp
@[simp] theorem begun_free (s : State) : (begun s).free = s.free := by
  simp only [begun, takeCount]; split <;> simp
@[simp] theorem begun_outs (s : State) : (begun s).outs = s.outs := by
  simp only [begun, takeCount]; split <;> simp
@[simp] theorem begun_pending (s : State) : (begun s).pending = s.pending := by
  simp only [begun, takeCount]; split <;> simp

/-- Every 64-bit register but SCH_CMD_TAKEN is untouched. -/
theorem ctrGet_begun (s : State) {k : Nat} (h : k ≠ R_SCH_CMD_TAKEN) : ctrGet (begun s) k = ctrGet s k := by
  have hc : (begun s).ctrs = (count (newId s).2 R_SCH_CMD_TAKEN 1).ctrs := by
    simp only [begun, takeCount]; split <;> rfl
  have hf : tabFind (count (newId s).2 R_SCH_CMD_TAKEN 1).ctrs k = tabFind s.ctrs k := by
    unfold count; split
    · exact tabFind_tabPut_ne _ _ h
    · rfl
  simp only [ctrGet, hc, hf]

theorem regGet_of_regs {s t : State} (h : t.regs = s.regs) (k : Nat) : regGet t k = regGet s k := by
  simp only [regGet, h]
theorem fld_of_regs {s t : State} (h : t.regs = s.regs) (k : Nat) (f : Fld) : fld t k f = fld s k f := by
  simp only [fld, regGet_of_regs h]
theorem flag_of_regs {s t : State} (h : t.regs = s.regs) (k : Nat) (f : Fld) : flag t k f = flag s k f := by
  simp only [flag, fld_of_regs h]

@[simp] theorem regGet_begun (s : State) (k : Nat) : regGet (begun s) k = regGet s k := regGet_of_regs (begun_regs s) k
@[simp] theorem fld_begun (s : State) (k : Nat) (f : Fld) : fld (begun s) k f = fld s k f := fld_of_regs (begun_regs s) k f
@[simp] theorem flag_begun (s : State) (k : Nat) (f : Fld) : flag (begun s) k f = flag s k f := flag_of_regs (begun_regs s) k f
@[simp] theorem dieState_begun (s : State) (d : Nat) : dieState (begun s) d = dieState s d := by simp [dieState]
@[simp] theorem dieRunning_begun (s : State) (d : Nat) : dieRunning (begun s) d = dieRunning s d := by simp [dieRunning]
@[simp] theorem safeMode_begun (s : State) : safeMode (begun s) = safeMode s := by simp [safeMode]
@[simp] theorem pwState_begun (s : State) : pwState (begun s) = pwState s := by simp [pwState]
@[simp] theorem winGet_begun (s : State) (g : Nat) : winGet (begun s) g = winGet s g := by simp [winGet, schedGet]
@[simp] theorem winOpen_begun (s : State) (g : Nat) : winOpen (begun s) g = winOpen s g := by simp [winOpen]
@[simp] theorem anyWindow_begun (s : State) : anyWindow (begun s) = anyWindow s := by simp [anyWindow, funext (winOpen_begun s)]
@[simp] theorem stateEntry_begun (s : State) : stateEntry (begun s) = stateEntry s := by
  simp [stateEntry, stateWait, anyPending, memCmdBusy]

theorem Serving_begun {s : State} (h : s.Serving) : (begun s).Serving := by
  simpa [State.Serving] using h

/-- In RUN with no state change in progress, the return to RUN does nothing. -/
theorem goRun_serving {s : State} (h : s.Serving) (c o : Nat) : goRun s c o = s := by
  obtain ⟨_, hp, he⟩ := h
  simp [goRun, he, hp]

/-! ### Running a command. -/

/-- A command given directly, in a block that serves commands: its own part in the state it was taken in, and its reply
unless it waits. -/
theorem runCmd_serving {s : State} (h : s.Serving) (op : Nat) (src : Src) (params : List Byte) (f : CmdFn)
    (hu : parsUndefined op (parsOf (packetOf op src params)) = false) :
    runCmd op src params f s =
      match (f (takenAs op src params s) (begun s)).2 with
      | some x => finish (f (takenAs op src params s) (begun s)).1 (takenAs op src params s) x
      | none => (f (takenAs op src params s) (begun s)).1 := by
  have hs := Serving_begun h
  have hr : runCmd op src params f s = runTaken (takenAs op src params s) f (begun s) := rfl
  have hp : (takenAs op src params s).pkt = packetOf op src params := rfl
  have ho : (takenAs op src params s).op = op := rfl
  simp only [hr, runTaken, hp, ho, hu, hs.1, Bool.false_and, Bool.false_eq_true, if_false, goRun_serving hs, ite_self] <;> rfl

/-- A command that answers at once. -/
theorem runCmd_answers {s : State} (h : s.Serving) (op : Nat) (src : Src) (params : List Byte) (f : CmdFn)
    (hu : parsUndefined op (parsOf (packetOf op src params)) = false) {u : State} {r : Reply}
    (hf : f (takenAs op src params s) (begun s) = (u, some r)) :
    runCmd op src params f s = finish u (takenAs op src params s) r := by
  rw [runCmd_serving h _ _ _ _ hu, hf]

/-- A command that waits. -/
theorem runCmd_waits {s : State} (h : s.Serving) (op : Nat) (src : Src) (params : List Byte) (f : CmdFn)
    (hu : parsUndefined op (parsOf (packetOf op src params)) = false) {u : State}
    (hf : f (takenAs op src params s) (begun s) = (u, none)) :
    runCmd op src params f s = u := by
  rw [runCmd_serving h _ _ _ _ hu, hf]

/-- The state a command begins in is unchanged but for counts and identifiers. -/
theorem begun_unchanged (s : State) : Unchanged s (begun s) := by
  simp only [begun, takeCount, Unchanged]
  split <;> simp

/-- A command that answers at once ends, and its effect is the state it answers with. -/
theorem ends_of {i : Instr} {s : State} (h : s.Serving) {op : Nat} {src : Src} {params : List Byte} {f : CmdFn}
    (he : exec i s = .next (runCmd op src params f s)) (hu : parsUndefined op (parsOf (packetOf op src params)) = false)
    {u : State} {r : Reply} (hf : f (takenAs op src params s) (begun s) = (u, some r)) {P : State → Prop} (hp : P u) :
    Ends i s src op r P :=
  ⟨u, takenAs op src params s, by rw [he, runCmd_answers h _ _ _ _ hu hf], rfl, rfl, rfl, rfl, hp⟩

/-- The same, with the command's own part left as it is. -/
theorem ends_of_part {i : Instr} {s : State} (h : s.Serving) {op : Nat} {src : Src} {params : List Byte} {f : CmdFn}
    (he : exec i s = .next (runCmd op src params f s)) (hu : parsUndefined op (parsOf (packetOf op src params)) = false)
    {r : Reply} {P : State → Prop}
    (hf : (f (takenAs op src params s) (begun s)).2 = some r ∧ P (f (takenAs op src params s) (begun s)).1) :
    Ends i s src op r P :=
  ends_of h he hu (Prod.ext rfl hf.1) hf.2

/-- A command that waits is among those taken. -/
theorem waits_of {i : Instr} {s : State} (h : s.Serving) {op : Nat} {src : Src} {params : List Byte} {f : CmdFn}
    (he : exec i s = .next (runCmd op src params f s)) (hu : parsUndefined op (parsOf (packetOf op src params)) = false)
    {u : State} {w : Wait} (hf : f (takenAs op src params s) (begun s) = (u, none))
    (hm : { takenAs op src params s with wait := w } ∈ u.cmds.taken) {P : State → Prop} (hp : P u) :
    Waits i s src op w P :=
  ⟨u, { takenAs op src params s with wait := w }, by rw [he, runCmd_waits h _ _ _ _ hu hf], hm, rfl, rfl, rfl, rfl, rfl, hp⟩

end Sys2Proof.Machine
end

