-- ==== Sys2Proof/Laws/Defined.lean ====
section
/-! SUPPORT. The parameter bits of each command given directly are ones that its table defines (15:R342). -/
namespace Sys2Proof.Machine

theorem defined_dieReset (src : Src) (die : Byte) :
    parsUndefined 0x0120 (parsOf (packetOf 0x0120 src (parBytes [(0, 1, die.toNat)]))) = false := by
  rw [parsOf_block]
  refine parsUndefined_parBytes _ _ (by decide) ?_
  simp only [List.forall_mem_cons, List.not_mem_nil, false_implies, implies_true, and_true]
  exact shift_or_mask (Nat.mod_lt _ (Nat.two_pow_pos _)) (by decide)
theorem defined_dieRejoin (src : Src) (die : Byte) :
    parsUndefined 0x0121 (parsOf (packetOf 0x0121 src (parBytes [(0, 1, die.toNat)]))) = false := by
  rw [parsOf_block]
  refine parsUndefined_parBytes _ _ (by decide) ?_
  simp only [List.forall_mem_cons, List.not_mem_nil, false_implies, implies_true, and_true]
  exact shift_or_mask (Nat.mod_lt _ (Nat.two_pow_pos _)) (by decide)
theorem defined_fwOpen (src : Src) (addr : DWord) :
    parsUndefined 0x0801 (parsOf (packetOf 0x0801 src (parBytes [(8, 8, addr.toNat)]))) = false := by
  rw [parsOf_block]
  refine parsUndefined_parBytes _ _ (by decide) ?_
  simp only [List.forall_mem_cons, List.not_mem_nil, false_implies, implies_true, and_true]
  exact shift_or_mask (Nat.mod_lt _ (Nat.two_pow_pos _)) (by decide)
theorem defined_fwData (src : Src) (offset : DWord) (addr : DWord) (len : Word) :
    parsUndefined 0x0802 (parsOf (packetOf 0x0802 src (parBytes [(0, 8, offset.toNat), (8, 8, addr.toNat), (16, 4, len.toNat)]))) = false := by
  rw [parsOf_block]
  refine parsUndefined_parBytes _ _ (by decide) ?_
  simp only [List.forall_mem_cons, List.not_mem_nil, false_implies, implies_true, and_true]
  exact ⟨shift_or_mask (Nat.mod_lt _ (Nat.two_pow_pos _)) (by decide), shift_or_mask (Nat.mod_lt _ (Nat.two_pow_pos _)) (by decide), shift_or_mask (Nat.mod_lt _ (Nat.two_pow_pos _)) (by decide)⟩
theorem defined_fwCloseCommit (src : Src) : parsUndefined 0x0803 (parsOf (packetOf 0x0803 src [])) = false := by
  rw [parsOf_empty]; decide
theorem defined_fwCloseAbort (src : Src)  :
    parsUndefined 0x0803 (parsOf (packetOf 0x0803 src (parBytes [(0, 1, 1)]))) = false := by
  rw [parsOf_block]
  refine parsUndefined_parBytes _ _ (by decide) ?_
  simp only [List.forall_mem_cons, List.not_mem_nil, false_implies, implies_true, and_true]
  exact shift_or_mask (Nat.mod_lt _ (Nat.two_pow_pos _)) (by decide)
theorem defined_fwActivate (src : Src) (mode : Byte) :
    parsUndefined 0x0804 (parsOf (packetOf 0x0804 src (parBytes [(0, 1, mode.toNat)]))) = false := by
  rw [parsOf_block]
  refine parsUndefined_parBytes _ _ (by decide) ?_
  simp only [List.forall_mem_cons, List.not_mem_nil, false_implies, implies_true, and_true]
  exact shift_or_mask (Nat.mod_lt _ (Nat.two_pow_pos _)) (by decide)
theorem defined_fwStatus (src : Src) : parsUndefined 0x0805 (parsOf (packetOf 0x0805 src [])) = false := by
  rw [parsOf_empty]; decide
theorem defined_secKeySet (src : Src) (slot : Byte) (x : BitVec 256) :
    parsUndefined 0x0910 (parsOf (packetOf 0x0910 src (parBytes [(0, 1, slot.toNat), (8, 32, x.toNat)]))) = false := by
  rw [parsOf_block]
  refine parsUndefined_parBytes _ _ (by decide) ?_
  simp only [List.forall_mem_cons, List.not_mem_nil, false_implies, implies_true, and_true]
  exact ⟨shift_or_mask (Nat.mod_lt _ (Nat.two_pow_pos _)) (by decide), shift_or_mask (Nat.mod_lt _ (Nat.two_pow_pos _)) (by decide)⟩
theorem defined_secKeyClear (src : Src) (slot : Byte) :
    parsUndefined 0x0910 (parsOf (packetOf 0x0910 src (parBytes [(0, 1, slot.toNat), (1, 1, 1)]))) = false := by
  rw [parsOf_block]
  refine parsUndefined_parBytes _ _ (by decide) ?_
  simp only [List.forall_mem_cons, List.not_mem_nil, false_implies, implies_true, and_true]
  exact ⟨shift_or_mask (Nat.mod_lt _ (Nat.two_pow_pos _)) (by decide), shift_or_mask (Nat.mod_lt _ (Nat.two_pow_pos _)) (by decide)⟩
theorem defined_secAttest (src : Src) (dest : DWord) (nonce : BitVec 256) (cert : Bool) :
    parsUndefined 0x0911 (parsOf (packetOf 0x0911 src (parBytes [(0, 8, dest.toNat), (8, 32, nonce.toNat), (40, 1, b2n cert)]))) = false := by
  rw [parsOf_block]
  refine parsUndefined_parBytes _ _ (by decide) ?_
  simp only [List.forall_mem_cons, List.not_mem_nil, false_implies, implies_true, and_true]
  exact ⟨shift_or_mask (Nat.mod_lt _ (Nat.two_pow_pos _)) (by decide), shift_or_mask (Nat.mod_lt _ (Nat.two_pow_pos _)) (by decide), by cases cert <;> decide⟩
theorem defined_healthCfg (src : Src) (flags : Byte) (silentThr : Half) (ratio : Word) (lossAddr : DWord) (alpha : Word) (meanInit : Word) (warmup : Half) (watchAddr : DWord) (watchCount : Half) (h0 : flags.toNat < 2 ^ 5) :
    parsUndefined 0x0720 (parsOf (packetOf 0x0720 src (parBytes [(0, 1, flags.toNat), (2, 2, silentThr.toNat), (4, 4, ratio.toNat), (8, 8, lossAddr.toNat), (16, 4, alpha.toNat), (20, 4, meanInit.toNat), (24, 2, warmup.toNat), (32, 8, watchAddr.toNat), (40, 2, watchCount.toNat)]))) = false := by
  rw [parsOf_block]
  refine parsUndefined_parBytes _ _ (by decide) ?_
  simp only [List.forall_mem_cons, List.not_mem_nil, false_implies, implies_true, and_true]
  exact ⟨shift_or_mask (Nat.lt_of_le_of_lt (Nat.mod_le _ _) h0) (by decide), shift_or_mask (Nat.mod_lt _ (Nat.two_pow_pos _)) (by decide), shift_or_mask (Nat.mod_lt _ (Nat.two_pow_pos _)) (by decide), shift_or_mask (Nat.mod_lt _ (Nat.two_pow_pos _)) (by decide), shift_or_mask (Nat.mod_lt _ (Nat.two_pow_pos _)) (by decide), shift_or_mask (Nat.mod_lt _ (Nat.two_pow_pos _)) (by decide), shift_or_mask (Nat.mod_lt _ (Nat.two_pow_pos _)) (by decide), shift_or_mask (Nat.mod_lt _ (Nat.two_pow_pos _)) (by decide), shift_or_mask (Nat.mod_lt _ (Nat.two_pow_pos _)) (by decide)⟩
theorem defined_replayCfgStart (src : Src) (flags : Byte) (base : DWord) (size : Word) (h0 : flags.toNat < 2 ^ 2) :
    parsUndefined 0x0710 (parsOf (packetOf 0x0710 src (parBytes [(1, 1, flags.toNat), (8, 8, base.toNat), (16, 4, size.toNat)]))) = false := by
  rw [parsOf_block]
  refine parsUndefined_parBytes _ _ (by decide) ?_
  simp only [List.forall_mem_cons, List.not_mem_nil, false_implies, implies_true, and_true]
  exact ⟨shift_or_mask (Nat.lt_of_le_of_lt (Nat.mod_le _ _) h0) (by decide), shift_or_mask (Nat.mod_lt _ (Nat.two_pow_pos _)) (by decide), shift_or_mask (Nat.mod_lt _ (Nat.two_pow_pos _)) (by decide)⟩
theorem defined_replayCfgStop (src : Src) (flags : Byte) (h0 : flags.toNat < 2 ^ 2) :
    parsUndefined 0x0710 (parsOf (packetOf 0x0710 src (parBytes [(0, 1, 1), (1, 1, flags.toNat)]))) = false := by
  rw [parsOf_block]
  refine parsUndefined_parBytes _ _ (by decide) ?_
  simp only [List.forall_mem_cons, List.not_mem_nil, false_implies, implies_true, and_true]
  exact ⟨shift_or_mask (Nat.mod_lt _ (Nat.two_pow_pos _)) (by decide), shift_or_mask (Nat.lt_of_le_of_lt (Nat.mod_le _ _) h0) (by decide)⟩
theorem defined_replayCfgMark (src : Src) (flags : Byte) (user : List Byte) (h0 : flags.toNat < 2 ^ 2) :
    parsUndefined 0x0710 (parsOf (packetOf 0x0710 src (parBytes [(0, 1, 2), (1, 1, flags.toNat), (8, 32, fieldLE user 0 32)]))) = false := by
  rw [parsOf_block]
  refine parsUndefined_parBytes _ _ (by decide) ?_
  simp only [List.forall_mem_cons, List.not_mem_nil, false_implies, implies_true, and_true]
  exact ⟨shift_or_mask (Nat.mod_lt _ (Nat.two_pow_pos _)) (by decide), shift_or_mask (Nat.lt_of_le_of_lt (Nat.mod_le _ _) h0) (by decide), shift_or_mask (Nat.mod_lt _ (Nat.two_pow_pos _)) (by decide)⟩
theorem defined_memPathBarrier (src : Src) (addr : DWord) :
    parsUndefined 0x0321 (parsOf (packetOf 0x0321 src (parBytes [(8, 8, addr.toNat)]))) = false := by
  rw [parsOf_block]
  refine parsUndefined_parBytes _ _ (by decide) ?_
  simp only [List.forall_mem_cons, List.not_mem_nil, false_implies, implies_true, and_true]
  exact shift_or_mask (Nat.mod_lt _ (Nat.two_pow_pos _)) (by decide)
theorem defined_memInterleave (src : Src) (quads : Byte) (mode : Byte) (h0 : quads.toNat < 2 ^ 4) (h1 : mode.toNat < 2 ^ 4) :
    parsUndefined 0x0320 (parsOf (packetOf 0x0320 src (parBytes [(0, 1, quads.toNat), (1, 1, mode.toNat)]))) = false := by
  rw [parsOf_block]
  refine parsUndefined_parBytes _ _ (by decide) ?_
  simp only [List.forall_mem_cons, List.not_mem_nil, false_implies, implies_true, and_true]
  exact ⟨shift_or_mask (Nat.lt_of_le_of_lt (Nat.mod_le _ _) h0) (by decide), shift_or_mask (Nat.lt_of_le_of_lt (Nat.mod_le _ _) h1) (by decide)⟩
theorem defined_roceQpCfg (src : Src) (port : Byte) (qpn : Half) (addr : DWord) :
    parsUndefined 0x0B20 (parsOf (packetOf 0x0B20 src (parBytes [(0, 1, port.toNat), (2, 2, qpn.toNat), (8, 8, addr.toNat)]))) = false := by
  rw [parsOf_block]
  refine parsUndefined_parBytes _ _ (by decide) ?_
  simp only [List.forall_mem_cons, List.not_mem_nil, false_implies, implies_true, and_true]
  exact ⟨shift_or_mask (Nat.mod_lt _ (Nat.two_pow_pos _)) (by decide), shift_or_mask (Nat.mod_lt _ (Nat.two_pow_pos _)) (by decide), shift_or_mask (Nat.mod_lt _ (Nat.two_pow_pos _)) (by decide)⟩
theorem defined_roceMrSet (src : Src) (entry : Byte) (access : Byte) (tag : Byte) (base : DWord) (length : DWord) (h0 : access.toNat < 2 ^ 2) :
    parsUndefined 0x0B21 (parsOf (packetOf 0x0B21 src (parBytes [(0, 1, entry.toNat), (1, 1, access.toNat), (2, 1, tag.toNat), (8, 8, base.toNat), (16, 8, length.toNat)]))) = false := by
  rw [parsOf_block]
  refine parsUndefined_parBytes _ _ (by decide) ?_
  simp only [List.forall_mem_cons, List.not_mem_nil, false_implies, implies_true, and_true]
  exact ⟨shift_or_mask (Nat.mod_lt _ (Nat.two_pow_pos _)) (by decide), shift_or_mask (Nat.lt_of_le_of_lt (Nat.mod_le _ _) h0) (by decide), shift_or_mask (Nat.mod_lt _ (Nat.two_pow_pos _)) (by decide), shift_or_mask (Nat.mod_lt _ (Nat.two_pow_pos _)) (by decide), shift_or_mask (Nat.mod_lt _ (Nat.two_pow_pos _)) (by decide)⟩
theorem defined_pcieCfg (src : Src) (maxGen : Byte) (width : Byte) :
    parsUndefined 0x0B10 (parsOf (packetOf 0x0B10 src (parBytes [(0, 1, maxGen.toNat), (1, 1, width.toNat)]))) = false := by
  rw [parsOf_block]
  refine parsUndefined_parBytes _ _ (by decide) ?_
  simp only [List.forall_mem_cons, List.not_mem_nil, false_implies, implies_true, and_true]
  exact ⟨shift_or_mask (Nat.mod_lt _ (Nat.two_pow_pos _)) (by decide), shift_or_mask (Nat.mod_lt _ (Nat.two_pow_pos _)) (by decide)⟩
theorem defined_pcieHotReset (src : Src) : parsUndefined 0x0B11 (parsOf (packetOf 0x0B11 src [])) = false := by
  rw [parsOf_empty]; decide
theorem defined_linkCfg (src : Src) (ports : BitVec 48) (mode : Byte) (ethRate : Byte) (flags : Byte) (netTag : Half) (expectId : DWord) (expectPort : Byte) (h0 : flags.toNat < 2 ^ 3) :
    parsUndefined 0x0B01 (parsOf (packetOf 0x0B01 src (parBytes [(0, 6, ports.toNat), (6, 1, mode.toNat), (7, 1, ethRate.toNat), (8, 1, flags.toNat), (10, 2, netTag.toNat), (16, 8, expectId.toNat), (24, 1, expectPort.toNat)]))) = false := by
  rw [parsOf_block]
  refine parsUndefined_parBytes _ _ (by decide) ?_
  simp only [List.forall_mem_cons, List.not_mem_nil, false_implies, implies_true, and_true]
  exact ⟨shift_or_mask (Nat.mod_lt _ (Nat.two_pow_pos _)) (by decide), shift_or_mask (Nat.mod_lt _ (Nat.two_pow_pos _)) (by decide), shift_or_mask (Nat.mod_lt _ (Nat.two_pow_pos _)) (by decide), shift_or_mask (Nat.lt_of_le_of_lt (Nat.mod_le _ _) h0) (by decide), shift_or_mask (Nat.mod_lt _ (Nat.two_pow_pos _)) (by decide), shift_or_mask (Nat.mod_lt _ (Nat.two_pow_pos _)) (by decide), shift_or_mask (Nat.mod_lt _ (Nat.two_pow_pos _)) (by decide)⟩
theorem defined_linkTrain (src : Src) (ports : BitVec 48) :
    parsUndefined 0x0B02 (parsOf (packetOf 0x0B02 src (parBytes [(0, 6, ports.toNat)]))) = false := by
  rw [parsOf_block]
  refine parsUndefined_parBytes _ _ (by decide) ?_
  simp only [List.forall_mem_cons, List.not_mem_nil, false_implies, implies_true, and_true]
  exact shift_or_mask (Nat.mod_lt _ (Nat.two_pow_pos _)) (by decide)
theorem defined_linkDown (src : Src) (ports : BitVec 48) :
    parsUndefined 0x0B03 (parsOf (packetOf 0x0B03 src (parBytes [(0, 6, ports.toNat)]))) = false := by
  rw [parsOf_block]
  refine parsUndefined_parBytes _ _ (by decide) ?_
  simp only [List.forall_mem_cons, List.not_mem_nil, false_implies, implies_true, and_true]
  exact shift_or_mask (Nat.mod_lt _ (Nat.two_pow_pos _)) (by decide)
theorem defined_linkStatus (src : Src) (port : Byte) :
    parsUndefined 0x0B04 (parsOf (packetOf 0x0B04 src (parBytes [(0, 1, port.toNat)]))) = false := by
  rw [parsOf_block]
  refine parsUndefined_parBytes _ _ (by decide) ?_
  simp only [List.forall_mem_cons, List.not_mem_nil, false_implies, implies_true, and_true]
  exact shift_or_mask (Nat.mod_lt _ (Nat.two_pow_pos _)) (by decide)
theorem defined_micaTableLoad (src : Src) (epoch : Byte) (addr : DWord) :
    parsUndefined 0x0601 (parsOf (packetOf 0x0601 src (parBytes [(0, 1, epoch.toNat), (8, 8, addr.toNat)]))) = false := by
  rw [parsOf_block]
  refine parsUndefined_parBytes _ _ (by decide) ?_
  simp only [List.forall_mem_cons, List.not_mem_nil, false_implies, implies_true, and_true]
  exact ⟨shift_or_mask (Nat.mod_lt _ (Nat.two_pow_pos _)) (by decide), shift_or_mask (Nat.mod_lt _ (Nat.two_pow_pos _)) (by decide)⟩
theorem defined_micaTableRetire (src : Src) (epoch : Byte) :
    parsUndefined 0x0602 (parsOf (packetOf 0x0602 src (parBytes [(0, 1, epoch.toNat)]))) = false := by
  rw [parsOf_block]
  refine parsUndefined_parBytes _ _ (by decide) ?_
  simp only [List.forall_mem_cons, List.not_mem_nil, false_implies, implies_true, and_true]
  exact shift_or_mask (Nat.mod_lt _ (Nat.two_pow_pos _)) (by decide)
theorem defined_pwrStatus (src : Src) : parsUndefined 0x0A01 (parsOf (packetOf 0x0A01 src [])) = false := by
  rw [parsOf_empty]; decide
theorem defined_pwrClassSet (src : Src) (cls : Byte) :
    parsUndefined 0x0A02 (parsOf (packetOf 0x0A02 src (parBytes [(0, 1, cls.toNat)]))) = false := by
  rw [parsOf_block]
  refine parsUndefined_parBytes _ _ (by decide) ?_
  simp only [List.forall_mem_cons, List.not_mem_nil, false_implies, implies_true, and_true]
  exact shift_or_mask (Nat.mod_lt _ (Nat.two_pow_pos _)) (by decide)
theorem defined_pwrLimitSet (src : Src) (watts : Half) :
    parsUndefined 0x0A03 (parsOf (packetOf 0x0A03 src (parBytes [(0, 2, watts.toNat)]))) = false := by
  rw [parsOf_block]
  refine parsUndefined_parBytes _ _ (by decide) ?_
  simp only [List.forall_mem_cons, List.not_mem_nil, false_implies, implies_true, and_true]
  exact shift_or_mask (Nat.mod_lt _ (Nat.two_pow_pos _)) (by decide)
theorem defined_devInfo (src : Src) : parsUndefined 0x0101 (parsOf (packetOf 0x0101 src [])) = false := by
  rw [parsOf_empty]; decide
theorem defined_devNop (src : Src) : parsUndefined 0x0102 (parsOf (packetOf 0x0102 src [])) = false := by
  rw [parsOf_empty]; decide
theorem defined_queueState (src : Src) (q : Byte) :
    parsUndefined 0x0103 (parsOf (packetOf 0x0103 src (parBytes [(0, 1, q.toNat)]))) = false := by
  rw [parsOf_block]
  refine parsUndefined_parBytes _ _ (by decide) ?_
  simp only [List.forall_mem_cons, List.not_mem_nil, false_implies, implies_true, and_true]
  exact shift_or_mask (Nat.mod_lt _ (Nat.two_pow_pos _)) (by decide)
theorem defined_podCfg (src : Src) (addr : DWord) :
    parsUndefined 0x0140 (parsOf (packetOf 0x0140 src (parBytes [(8, 8, addr.toNat)]))) = false := by
  rw [parsOf_block]
  refine parsUndefined_parBytes _ _ (by decide) ?_
  simp only [List.forall_mem_cons, List.not_mem_nil, false_implies, implies_true, and_true]
  exact shift_or_mask (Nat.mod_lt _ (Nat.two_pow_pos _)) (by decide)
theorem defined_podRelease (src : Src)  :
    parsUndefined 0x0140 (parsOf (packetOf 0x0140 src (parBytes [(0, 1, 1)]))) = false := by
  rw [parsOf_block]
  refine parsUndefined_parBytes _ _ (by decide) ?_
  simp only [List.forall_mem_cons, List.not_mem_nil, false_implies, implies_true, and_true]
  exact by decide
theorem defined_strataInfo (src : Src) : parsUndefined 0x0701 (parsOf (packetOf 0x0701 src [])) = false := by
  rw [parsOf_empty]; decide
theorem defined_strataFreeze (src : Src) (seconds : Half) :
    parsUndefined 0x0702 (parsOf (packetOf 0x0702 src (parBytes [(0, 2, seconds.toNat)]))) = false := by
  rw [parsOf_block]
  refine parsUndefined_parBytes _ _ (by decide) ?_
  simp only [List.forall_mem_cons, List.not_mem_nil, false_implies, implies_true, and_true]
  exact shift_or_mask (Nat.mod_lt _ (Nat.two_pow_pos _)) (by decide)
theorem defined_strataThaw (src : Src) : parsUndefined 0x0703 (parsOf (packetOf 0x0703 src [])) = false := by
  rw [parsOf_empty]; decide
theorem defined_strataSeek (src : Src) (mode : Byte) (seq : DWord) (count : Half) (dest : DWord) :
    parsUndefined 0x0704 (parsOf (packetOf 0x0704 src (parBytes [(0, 1, mode.toNat), (8, 8, seq.toNat), (16, 2, count.toNat), (24, 8, dest.toNat)]))) = false := by
  rw [parsOf_block]
  refine parsUndefined_parBytes _ _ (by decide) ?_
  simp only [List.forall_mem_cons, List.not_mem_nil, false_implies, implies_true, and_true]
  exact ⟨shift_or_mask (Nat.mod_lt _ (Nat.two_pow_pos _)) (by decide), shift_or_mask (Nat.mod_lt _ (Nat.two_pow_pos _)) (by decide), shift_or_mask (Nat.mod_lt _ (Nat.two_pow_pos _)) (by decide), shift_or_mask (Nat.mod_lt _ (Nat.two_pow_pos _)) (by decide)⟩
theorem defined_devWarmReset (src : Src) : parsUndefined 0x0130 (parsOf (packetOf 0x0130 src [])) = false := by
  rw [parsOf_empty]; decide
theorem defined_frameReset (src : Src) (die : Byte) (mask : Byte) :
    parsUndefined 0x0131 (parsOf (packetOf 0x0131 src (parBytes [(0, 1, die.toNat), (1, 1, mask.toNat)]))) = false := by
  rw [parsOf_block]
  refine parsUndefined_parBytes _ _ (by decide) ?_
  simp only [List.forall_mem_cons, List.not_mem_nil, false_implies, implies_true, and_true]
  exact ⟨shift_or_mask (Nat.mod_lt _ (Nat.two_pow_pos _)) (by decide), shift_or_mask (Nat.mod_lt _ (Nat.two_pow_pos _)) (by decide)⟩
theorem defined_devStateSet (src : Src) (st : Byte) :
    parsUndefined 0x0132 (parsOf (packetOf 0x0132 src (parBytes [(0, 1, st.toNat)]))) = false := by
  rw [parsOf_block]
  refine parsUndefined_parBytes _ _ (by decide) ?_
  simp only [List.forall_mem_cons, List.not_mem_nil, false_implies, implies_true, and_true]
  exact shift_or_mask (Nat.mod_lt _ (Nat.two_pow_pos _)) (by decide)
theorem defined_ringCfg (src : Src) (slot : Byte) (addr : DWord) :
    parsUndefined 0x0401 (parsOf (packetOf 0x0401 src (parBytes [(0, 1, slot.toNat), (8, 8, addr.toNat)]))) = false := by
  rw [parsOf_block]
  refine parsUndefined_parBytes _ _ (by decide) ?_
  simp only [List.forall_mem_cons, List.not_mem_nil, false_implies, implies_true, and_true]
  exact ⟨shift_or_mask (Nat.mod_lt _ (Nat.two_pow_pos _)) (by decide), shift_or_mask (Nat.mod_lt _ (Nat.two_pow_pos _)) (by decide)⟩
theorem defined_ringRs (src : Src) (slot : Byte) (step : DWord) :
    parsUndefined 0x0402 (parsOf (packetOf 0x0402 src (parBytes [(0, 1, slot.toNat), (8, 8, step.toNat)]))) = false := by
  rw [parsOf_block]
  refine parsUndefined_parBytes _ _ (by decide) ?_
  simp only [List.forall_mem_cons, List.not_mem_nil, false_implies, implies_true, and_true]
  exact ⟨shift_or_mask (Nat.mod_lt _ (Nat.two_pow_pos _)) (by decide), shift_or_mask (Nat.mod_lt _ (Nat.two_pow_pos _)) (by decide)⟩
theorem defined_ringAg (src : Src) (slot : Byte) (step : DWord) :
    parsUndefined 0x0403 (parsOf (packetOf 0x0403 src (parBytes [(0, 1, slot.toNat), (8, 8, step.toNat)]))) = false := by
  rw [parsOf_block]
  refine parsUndefined_parBytes _ _ (by decide) ?_
  simp only [List.forall_mem_cons, List.not_mem_nil, false_implies, implies_true, and_true]
  exact ⟨shift_or_mask (Nat.mod_lt _ (Nat.two_pow_pos _)) (by decide), shift_or_mask (Nat.mod_lt _ (Nat.two_pow_pos _)) (by decide)⟩
theorem defined_ringRelease (src : Src) (slot : Byte) :
    parsUndefined 0x0404 (parsOf (packetOf 0x0404 src (parBytes [(0, 1, slot.toNat)]))) = false := by
  rw [parsOf_block]
  refine parsUndefined_parBytes _ _ (by decide) ?_
  simp only [List.forall_mem_cons, List.not_mem_nil, false_implies, implies_true, and_true]
  exact shift_or_mask (Nat.mod_lt _ (Nat.two_pow_pos _)) (by decide)
theorem defined_updCfg (src : Src) (addr : DWord) :
    parsUndefined 0x0501 (parsOf (packetOf 0x0501 src (parBytes [(8, 8, addr.toNat)]))) = false := by
  rw [parsOf_block]
  refine parsUndefined_parBytes _ _ (by decide) ?_
  simp only [List.forall_mem_cons, List.not_mem_nil, false_implies, implies_true, and_true]
  exact shift_or_mask (Nat.mod_lt _ (Nat.two_pow_pos _)) (by decide)
theorem defined_updCoefSet (src : Src) (mask : DWord) (addr : DWord) :
    parsUndefined 0x0502 (parsOf (packetOf 0x0502 src (parBytes [(0, 8, mask.toNat), (8, 8, addr.toNat)]))) = false := by
  rw [parsOf_block]
  refine parsUndefined_parBytes _ _ (by decide) ?_
  simp only [List.forall_mem_cons, List.not_mem_nil, false_implies, implies_true, and_true]
  exact ⟨shift_or_mask (Nat.mod_lt _ (Nat.two_pow_pos _)) (by decide), shift_or_mask (Nat.mod_lt _ (Nat.two_pow_pos _)) (by decide)⟩
theorem defined_updRun (src : Src) (step : DWord) :
    parsUndefined 0x0503 (parsOf (packetOf 0x0503 src (parBytes [(8, 8, step.toNat)]))) = false := by
  rw [parsOf_block]
  refine parsUndefined_parBytes _ _ (by decide) ?_
  simp only [List.forall_mem_cons, List.not_mem_nil, false_implies, implies_true, and_true]
  exact shift_or_mask (Nat.mod_lt _ (Nat.two_pow_pos _)) (by decide)
theorem defined_schLoad (src : Src) (die : Byte) (addr : DWord) (len : Word) :
    parsUndefined 0x0201 (parsOf (packetOf 0x0201 src (parBytes [(0, 1, die.toNat), (8, 8, addr.toNat), (16, 4, len.toNat)]))) = false := by
  rw [parsOf_block]
  refine parsUndefined_parBytes _ _ (by decide) ?_
  simp only [List.forall_mem_cons, List.not_mem_nil, false_implies, implies_true, and_true]
  exact ⟨shift_or_mask (Nat.mod_lt _ (Nat.two_pow_pos _)) (by decide), shift_or_mask (Nat.mod_lt _ (Nat.two_pow_pos _)) (by decide), shift_or_mask (Nat.mod_lt _ (Nat.two_pow_pos _)) (by decide)⟩
theorem defined_schUnload (src : Src) (die : Byte) :
    parsUndefined 0x0202 (parsOf (packetOf 0x0202 src (parBytes [(0, 1, die.toNat)]))) = false := by
  rw [parsOf_block]
  refine parsUndefined_parBytes _ _ (by decide) ?_
  simp only [List.forall_mem_cons, List.not_mem_nil, false_implies, implies_true, and_true]
  exact shift_or_mask (Nat.mod_lt _ (Nat.two_pow_pos _)) (by decide)
theorem defined_schRun (src : Src) (mask : Half) (sec : Byte) (tokens : Word) (tag : Half) (batch : DWord) :
    parsUndefined 0x0203 (parsOf (packetOf 0x0203 src (parBytes [(0, 2, mask.toNat), (2, 1, sec.toNat), (4, 4, tokens.toNat), (8, 2, tag.toNat), (16, 8, batch.toNat)]))) = false := by
  rw [parsOf_block]
  refine parsUndefined_parBytes _ _ (by decide) ?_
  simp only [List.forall_mem_cons, List.not_mem_nil, false_implies, implies_true, and_true]
  exact ⟨shift_or_mask (Nat.mod_lt _ (Nat.two_pow_pos _)) (by decide), shift_or_mask (Nat.mod_lt _ (Nat.two_pow_pos _)) (by decide), shift_or_mask (Nat.mod_lt _ (Nat.two_pow_pos _)) (by decide), shift_or_mask (Nat.mod_lt _ (Nat.two_pow_pos _)) (by decide), shift_or_mask (Nat.mod_lt _ (Nat.two_pow_pos _)) (by decide)⟩
theorem defined_schAbort (src : Src) (mask : Half) :
    parsUndefined 0x0205 (parsOf (packetOf 0x0205 src (parBytes [(0, 2, mask.toNat)]))) = false := by
  rw [parsOf_block]
  refine parsUndefined_parBytes _ _ (by decide) ?_
  simp only [List.forall_mem_cons, List.not_mem_nil, false_implies, implies_true, and_true]
  exact shift_or_mask (Nat.mod_lt _ (Nat.two_pow_pos _)) (by decide)
theorem defined_sesInfo (src : Src) (idx : Byte) :
    parsUndefined 0x0901 (parsOf (packetOf 0x0901 src (parBytes [(0, 1, idx.toNat)]))) = false := by
  rw [parsOf_block]
  refine parsUndefined_parBytes _ _ (by decide) ?_
  simp only [List.forall_mem_cons, List.not_mem_nil, false_implies, implies_true, and_true]
  exact shift_or_mask (Nat.mod_lt _ (Nat.two_pow_pos _)) (by decide)
theorem defined_sesClose (src : Src) (id : Word) :
    parsUndefined 0x0902 (parsOf (packetOf 0x0902 src (parBytes [(4, 4, id.toNat)]))) = false := by
  rw [parsOf_block]
  refine parsUndefined_parBytes _ _ (by decide) ?_
  simp only [List.forall_mem_cons, List.not_mem_nil, false_implies, implies_true, and_true]
  exact shift_or_mask (Nat.mod_lt _ (Nat.two_pow_pos _)) (by decide)
theorem defined_sesLeaseSet (src : Src) (id : Word) (lease : Word) (policy : Byte) :
    parsUndefined 0x0903 (parsOf (packetOf 0x0903 src (parBytes [(4, 4, id.toNat), (8, 4, lease.toNat), (12, 1, policy.toNat)]))) = false := by
  rw [parsOf_block]
  refine parsUndefined_parBytes _ _ (by decide) ?_
  simp only [List.forall_mem_cons, List.not_mem_nil, false_implies, implies_true, and_true]
  exact ⟨shift_or_mask (Nat.mod_lt _ (Nat.two_pow_pos _)) (by decide), shift_or_mask (Nat.mod_lt _ (Nat.two_pow_pos _)) (by decide), shift_or_mask (Nat.mod_lt _ (Nat.two_pow_pos _)) (by decide)⟩
theorem defined_shlRegionSet (src : Src) (die : Byte) (entry : Byte) (word : Word) :
    parsUndefined 0x0310 (parsOf (packetOf 0x0310 src (parBytes [(0, 1, die.toNat), (1, 1, entry.toNat), (4, 4, word.toNat)]))) = false := by
  rw [parsOf_block]
  refine parsUndefined_parBytes _ _ (by decide) ?_
  simp only [List.forall_mem_cons, List.not_mem_nil, false_implies, implies_true, and_true]
  exact ⟨shift_or_mask (Nat.mod_lt _ (Nat.two_pow_pos _)) (by decide), shift_or_mask (Nat.mod_lt _ (Nat.two_pow_pos _)) (by decide), shift_or_mask (Nat.mod_lt _ (Nat.two_pow_pos _)) (by decide)⟩
theorem defined_shlWellArm (src : Src) (die : Byte) (mask : Half) :
    parsUndefined 0x0311 (parsOf (packetOf 0x0311 src (parBytes [(0, 1, die.toNat), (2, 2, mask.toNat)]))) = false := by
  rw [parsOf_block]
  refine parsUndefined_parBytes _ _ (by decide) ?_
  simp only [List.forall_mem_cons, List.not_mem_nil, false_implies, implies_true, and_true]
  exact ⟨shift_or_mask (Nat.mod_lt _ (Nat.two_pow_pos _)) (by decide), shift_or_mask (Nat.mod_lt _ (Nat.two_pow_pos _)) (by decide)⟩
theorem defined_shlFill (src : Src) (die : Byte) (off : DWord) (bytes : Word) (pat : Word) :
    parsUndefined 0x0312 (parsOf (packetOf 0x0312 src (parBytes [(0, 1, die.toNat), (8, 8, off.toNat), (16, 4, bytes.toNat), (20, 4, pat.toNat)]))) = false := by
  rw [parsOf_block]
  refine parsUndefined_parBytes _ _ (by decide) ?_
  simp only [List.forall_mem_cons, List.not_mem_nil, false_implies, implies_true, and_true]
  exact ⟨shift_or_mask (Nat.mod_lt _ (Nat.two_pow_pos _)) (by decide), shift_or_mask (Nat.mod_lt _ (Nat.two_pow_pos _)) (by decide), shift_or_mask (Nat.mod_lt _ (Nat.two_pow_pos _)) (by decide), shift_or_mask (Nat.mod_lt _ (Nat.two_pow_pos _)) (by decide)⟩
theorem defined_shlErrInject (src : Src) (die : Byte) (off : DWord) (kind : Byte) :
    parsUndefined 0x0313 (parsOf (packetOf 0x0313 src (parBytes [(0, 1, die.toNat), (8, 8, off.toNat), (16, 1, kind.toNat)]))) = false := by
  rw [parsOf_block]
  refine parsUndefined_parBytes _ _ (by decide) ?_
  simp only [List.forall_mem_cons, List.not_mem_nil, false_implies, implies_true, and_true]
  exact ⟨shift_or_mask (Nat.mod_lt _ (Nat.two_pow_pos _)) (by decide), shift_or_mask (Nat.mod_lt _ (Nat.two_pow_pos _)) (by decide), shift_or_mask (Nat.mod_lt _ (Nat.two_pow_pos _)) (by decide)⟩
theorem defined_rcpSet (src : Src) (mask : Byte) (seedValid : Bool) (words : List Word) (seed : DWord) :
    parsUndefined 0x0110 (parsOf (packetOf 0x0110 src (parBytes ([(0, 1, mask.toNat), (1, 1, b2n seedValid), (36, 8, seed.toNat)]
      ++ (List.range 8).map fun k => (4 + 4 * k, 4, (words.getD k 0).toNat))))) = false := by
  rw [parsOf_block]
  refine parsUndefined_parBytes _ _ (by decide) fun f hf => ?_
  rcases List.mem_append.1 hf with hf | hf
  · simp only [List.mem_cons, List.not_mem_nil, or_false] at hf
    rcases hf with rfl | rfl | rfl
    · exact shift_or_mask (k := 8) (o := 0) (Nat.mod_lt _ (Nat.two_pow_pos _)) (by decide)
    · cases seedValid <;> decide
    · exact shift_or_mask (k := 64) (o := 8 * 36) (Nat.mod_lt _ (Nat.two_pow_pos _)) (by decide)
  · obtain ⟨k, hk, rfl⟩ := List.mem_map.1 hf
    have hk := List.mem_range.1 hk
    have h8 : ∀ k < 8, ((2 ^ (8 * 4) - 1) <<< (8 * (4 + 4 * k))) ||| parMask 0x0110 = parMask 0x0110 := by decide
    exact shift_or_mask (k := 8 * 4) (Nat.mod_lt _ (Nat.two_pow_pos _)) (h8 k hk)
theorem defined_schStepAdvance (src : Src) (step : DWord) :
    parsUndefined 0x0204 (parsOf (packetOf 0x0204 src (parBytes [(8, 8, step.toNat)]))) = false := by
  rw [parsOf_block]
  refine parsUndefined_parBytes _ _ (by decide) ?_
  simp only [List.forall_mem_cons, List.not_mem_nil, false_implies, implies_true, and_true]
  exact shift_or_mask (Nat.mod_lt _ (Nat.two_pow_pos _)) (by decide)
theorem defined_schStepRepeat (src : Src) (step : DWord) :
    parsUndefined 0x0204 (parsOf (packetOf 0x0204 src (parBytes [(0, 1, 1), (8, 8, step.toNat)]))) = false := by
  rw [parsOf_block]
  refine parsUndefined_parBytes _ _ (by decide) ?_
  simp only [List.forall_mem_cons, List.not_mem_nil, false_implies, implies_true, and_true]
  exact ⟨shift_or_mask (Nat.mod_lt _ (Nat.two_pow_pos _)) (by decide), shift_or_mask (Nat.mod_lt _ (Nat.two_pow_pos _)) (by decide)⟩
theorem defined_schStepSet (src : Src) (step : DWord) :
    parsUndefined 0x0204 (parsOf (packetOf 0x0204 src (parBytes [(0, 1, 2), (8, 8, step.toNat)]))) = false := by
  rw [parsOf_block]
  refine parsUndefined_parBytes _ _ (by decide) ?_
  simp only [List.forall_mem_cons, List.not_mem_nil, false_implies, implies_true, and_true]
  exact ⟨shift_or_mask (Nat.mod_lt _ (Nat.two_pow_pos _)) (by decide), shift_or_mask (Nat.mod_lt _ (Nat.two_pow_pos _)) (by decide)⟩

end Sys2Proof.Machine
end

