-- ==== Sys2Proof/Laws/Formula.lean ====
section
/-! SUPPORT. What a result held to a formula can be (04:R89, 05:R113, 11:R252). -/
namespace Sys2Proof.Machine

/-- A result is the formula's own FP32 value, or a word within 2 units in the last place of it. -/
theorem within_cases (y : Val) (w : Word) : within y w = y ∨ (near y w = true ∧ within y w = fp32Val w) := by
  unfold within
  split
  · exact .inr ⟨‹_›, rfl⟩
  · exact .inl rfl

/-- A permitted word is within 2 units in the last place of the value of the formula, or of what it rounds to. -/
theorem realOk_near {neg : Bool} {a : Dy} {w : Word} (h : realOk neg a w = true) :
    nearReal a w = true ∨ near (formulaVal neg a) w = true := by
  simp only [realOk] at h
  split at h
  · exact .inr h
  · simp only [Bool.or_eq_true, Bool.and_eq_true] at h
    exact h.imp id And.right

/-- A result is the rounded value of the formula, or a permitted word. -/
theorem withinReal_cases (neg : Bool) (a : Dy) (w : Word) :
    withinReal neg a w = formulaVal neg a ∨ (realOk neg a w = true ∧ withinReal neg a w = fp32Val w) := by
  unfold withinReal
  split
  · exact .inr ⟨‹_›, rfl⟩
  · exact .inl rfl

/-- POW is exact at t = 1 (11:R252). -/
theorem powBound_one (a : Word) : powBound a 1 = fp32Val a := by
  unfold powBound
  split
  · simp_all
  · simp_all
  · simp_all

end Sys2Proof.Machine
end

