-- ==== Sys2Proof/Laws/Msg.lean ====
section
/-! SUPPORT. Messages (15:R355-R357): a message built under a key has the fields it was built from, and its TAG verifies. -/
namespace Sys2Proof.Machine

theorem length_keccakRound (a : List DWord) (rc : DWord) : (keccakRound a rc).length = 25 := by
  unfold keccakRound
  simp only []
  split
  · rename_i h; simp at h
  · rename_i h t he
    have := congrArg List.length he
    simpa using this.symm

theorem length_keccakF (a : List DWord) : (keccakF a).length = 25 := by
  have h : ∀ (l : List DWord) (b : List DWord), b.length = 25 → (l.foldl keccakRound b).length = 25 := by
    intro l
    induction l with
    | nil => intro b hb; simpa using hb
    | cons r t ih => intro b _; exact ih _ (length_keccakRound b r)
  unfold keccakF
  show (List.foldl keccakRound a keccakRc).length = 25
  have hc : ∃ r t, keccakRc = r :: t := ⟨_, _, rfl⟩
  obtain ⟨r, t, hr⟩ := hc
  rw [hr]
  exact h t _ (length_keccakRound a r)

theorem length_laneBytes (a : List DWord) : (laneBytes a).length = 8 * a.length := by
  induction a with
  | nil => rfl
  | cons w t ih => simp [laneBytes] at ih ⊢; omega

theorem length_squeeze (n : Nat) (a : List DWord) (h : a.length = 25) : (squeeze n a).length = 136 * n := by
  induction n generalizing a with
  | zero => rfl
  | succ n ih => simp [squeeze, length_laneBytes, h, ih _ (length_keccakF a)]; omega

@[simp] theorem length_sponge (x : Byte) (m : List Byte) (n : Nat) : (sponge x m n).length = n := by
  have h : ∀ (l : List (List Byte)) (b : List DWord), b.length = 25 → (l.foldl absorb b).length = 25 := by
    intro l
    induction l with
    | nil => intro b hb; simpa using hb
    | cons r t ih => intro b _; exact ih _ (length_keccakF _)
  simp only [sponge, List.length_take]
  rw [length_squeeze _ _ (h _ _ (by simp))]
  omega

@[simp] theorem length_shake256 (m : List Byte) (n : Nat) : (shake256 m n).length = n := length_sponge _ _ _
@[simp] theorem length_kmac256 (k d : List Byte) (c : String) (n : Nat) : (kmac256 k d c n).length = n := length_sponge _ _ _
@[simp] theorem length_msgTag (k m : List Byte) : (msgTag k m).length = 16 := length_kmac256 _ _ _ _

@[simp] theorem length_msgHeader (ty sid c q : Nat) (body : List Byte) : (msgHeader ty sid c q body).length = 32 := by
  simp [msgHeader]

@[simp] theorem length_msgBytes (k : List Byte) (ty sid c q : Nat) (body : List Byte) :
    (msgBytes k ty sid c q body).length = 48 + body.length := by
  simp [msgBytes]; omega

/-- A field of the header is read from the header. -/
theorem fieldLE_msgBytes (k : List Byte) (ty sid c q : Nat) (body : List Byte) (i n : Nat) (h : i + n ≤ 32) :
    fieldLE (msgBytes k ty sid c q body) i n = fieldLE (msgHeader ty sid c q body) i n := by
  unfold msgBytes
  rw [fieldLE_append_left _ _ _ _ (by simp; omega), fieldLE_append_left _ _ _ _ (by simp; omega)]

theorem fieldLE_of_mid (a b c : List Byte) (i n : Nat) (hi : a.length = i) (hn : b.length = n) : fieldLE (a ++ (b ++ c)) i n = leNat b := by
  subst hi; unfold fieldLE; rw [sliceZ_mid a b c n hn]

theorem msgLen_msgBytes (k : List Byte) (ty sid c q : Nat) (body : List Byte) (h : body.length < 65536) :
    fieldLE (msgBytes k ty sid c q body) 16 2 = body.length := by
  rw [fieldLE_msgBytes _ _ _ _ _ _ _ _ (by omega)]
  have : msgHeader ty sid c q body = (leBytes 2 0x4B57 ++ [1#8, BitVec.ofNat 8 ty] ++ leBytes 4 sid ++ leBytes 8 c) ++
      (leBytes 2 body.length ++ (leBytes 2 q ++ List.replicate 12 0#8)) := by simp [msgHeader]
  rw [this, fieldLE_of_mid _ _ _ _ _ (by simp) (by simp), leNat_leBytes]
  exact Nat.mod_eq_of_lt h

theorem msgType_msgBytes (k : List Byte) (ty sid c q : Nat) (body : List Byte) (h : ty < 256) : msgType (msgBytes k ty sid c q body) = ty := by
  unfold msgType
  rw [fieldLE_msgBytes _ _ _ _ _ _ _ _ (by omega)]
  have : msgHeader ty sid c q body = (leBytes 2 0x4B57 ++ [1#8]) ++ ([BitVec.ofNat 8 ty] ++ (leBytes 4 sid ++ leBytes 8 c ++
      leBytes 2 body.length ++ leBytes 2 q ++ List.replicate 12 0#8)) := by simp [msgHeader]
  rw [this, fieldLE_of_mid _ _ _ _ _ (by simp) (by simp)]
  simp [leNat]; omega

theorem msgSession_msgBytes (k : List Byte) (ty sid c q : Nat) (body : List Byte) (h : sid < 2 ^ 32) :
    msgSession (msgBytes k ty sid c q body) = sid := by
  unfold msgSession
  rw [fieldLE_msgBytes _ _ _ _ _ _ _ _ (by omega)]
  have : msgHeader ty sid c q body = (leBytes 2 0x4B57 ++ [1#8, BitVec.ofNat 8 ty]) ++ (leBytes 4 sid ++ (leBytes 8 c ++
      leBytes 2 body.length ++ leBytes 2 q ++ List.replicate 12 0#8)) := by simp [msgHeader]
  rw [this, fieldLE_of_mid _ _ _ _ _ (by simp) (by simp), leNat_leBytes]
  exact Nat.mod_eq_of_lt h

theorem msgCounter_msgBytes (k : List Byte) (ty sid c q : Nat) (body : List Byte) (h : c < 2 ^ 64) :
    msgCounter (msgBytes k ty sid c q body) = c := by
  unfold msgCounter
  rw [fieldLE_msgBytes _ _ _ _ _ _ _ _ (by omega)]
  have : msgHeader ty sid c q body = (leBytes 2 0x4B57 ++ [1#8, BitVec.ofNat 8 ty] ++ leBytes 4 sid) ++ (leBytes 8 c ++ (
      leBytes 2 body.length ++ leBytes 2 q ++ List.replicate 12 0#8)) := by simp [msgHeader]
  rw [this, fieldLE_of_mid _ _ _ _ _ (by simp) (by simp), leNat_leBytes]
  exact Nat.mod_eq_of_lt h

theorem msgQueue_msgBytes (k : List Byte) (ty sid c q : Nat) (body : List Byte) (h : q < 65536) :
    msgQueue (msgBytes k ty sid c q body) = q := by
  unfold msgQueue
  rw [fieldLE_msgBytes _ _ _ _ _ _ _ _ (by omega)]
  have : msgHeader ty sid c q body = (leBytes 2 0x4B57 ++ [1#8, BitVec.ofNat 8 ty] ++ leBytes 4 sid ++ leBytes 8 c ++
      leBytes 2 body.length) ++ (leBytes 2 q ++ List.replicate 12 0#8) := by simp [msgHeader]
  rw [this, fieldLE_of_mid _ _ _ _ _ (by simp) (by simp), leNat_leBytes]
  exact Nat.mod_eq_of_lt h

theorem msgBody_msgBytes (k : List Byte) (ty sid c q : Nat) (body : List Byte) (h : body.length < 65536) :
    msgBody (msgBytes k ty sid c q body) = body := by
  unfold msgBody
  rw [msgLen_msgBytes _ _ _ _ _ _ h]
  simp [msgBytes]

theorem msgTagOk_msgBytes (k : List Byte) (ty sid c q : Nat) (body : List Byte) (h : body.length < 65536) :
    msgTagOk k (msgBytes k ty sid c q body) = true := by
  unfold msgTagOk
  rw [msgLen_msgBytes _ _ _ _ _ _ h]
  have hl : (msgHeader ty sid c q body ++ body).length = 32 + body.length := by simp
  have hm : msgBytes k ty sid c q body = (msgHeader ty sid c q body ++ body) ++ msgTag k (msgHeader ty sid c q body ++ body) := rfl
  rw [hm, List.drop_left' hl, List.take_left' hl]
  exact beq_self_eq_true _

theorem msgForm_msgBytes (k : List Byte) (ty sid c q : Nat) (body : List Byte) (h : body.length ≤ 1280) :
    msgForm (msgBytes k ty sid c q body) = true := by
  unfold msgForm
  rw [msgLen_msgBytes _ _ _ _ _ _ (by omega), length_msgBytes]
  have h0 : fieldLE (msgBytes k ty sid c q body) 0 2 = 0x4B57 := by
    rw [fieldLE_msgBytes _ _ _ _ _ _ _ _ (by omega)]
    have : msgHeader ty sid c q body = [] ++ (leBytes 2 0x4B57 ++ ([1#8, BitVec.ofNat 8 ty] ++ leBytes 4 sid ++ leBytes 8 c ++
      leBytes 2 body.length ++ leBytes 2 q ++ List.replicate 12 0#8)) := by simp [msgHeader]
    rw [this, fieldLE_of_mid [] _ _ 0 2 rfl (by simp)]; decide
  have h2 : fieldLE (msgBytes k ty sid c q body) 2 1 = 1 := by
    rw [fieldLE_msgBytes _ _ _ _ _ _ _ _ (by omega)]
    have : msgHeader ty sid c q body = leBytes 2 0x4B57 ++ ([1#8] ++ ([BitVec.ofNat 8 ty] ++ leBytes 4 sid ++ leBytes 8 c ++
      leBytes 2 body.length ++ leBytes 2 q ++ List.replicate 12 0#8)) := by simp [msgHeader]
    rw [this, fieldLE_of_mid _ _ _ _ _ (by simp) (by simp)]; decide
  have h3 : fieldLE (msgBytes k ty sid c q body) 20 12 = 0 := by
    rw [fieldLE_msgBytes _ _ _ _ _ _ _ _ (by omega)]
    have : msgHeader ty sid c q body = (leBytes 2 0x4B57 ++ [1#8, BitVec.ofNat 8 ty] ++ leBytes 4 sid ++ leBytes 8 c ++
      leBytes 2 body.length ++ leBytes 2 q) ++ (List.replicate 12 0#8 ++ []) := by simp [msgHeader]
    rw [this, fieldLE_of_mid _ _ _ _ _ (by simp) (by simp)]; decide
  simp only [h0, h2, h3]
  simp; omega

end Sys2Proof.Machine
end

