-- ==== Sys2Proof/Laws/PerInstr.lean ====
section
/-! SUPPORT. Laws that hold for every command, one lemma for each. -/
namespace Sys2Proof.Laws.Wellformed
open Sys2Proof.Machine

/-- With a well-formed queue behind it, a command leaves the queue well formed exactly when it is well formed itself. -/
def Statement (i : Instr) : Prop :=
  ∀ s : State, s.queueOk → (State.queueOk { s with pending := i :: s.pending } ↔ i.wellFormed = true)

/-- The statement, for any command. -/
theorem front (i : Instr) : Statement i := by
  intro s h
  have h' : s.pending.all Instr.wellFormed = true := h
  simp [State.queueOk, h']

theorem devInfo : ∀ a0, Statement (.devInfo a0) := fun _ => front _
theorem devNop : ∀ a0, Statement (.devNop a0) := fun _ => front _
theorem queueState : ∀ a0 a1, Statement (.queueState a0 a1) := fun _ _ => front _
theorem podCfg : ∀ a0 a1, Statement (.podCfg a0 a1) := fun _ _ => front _
theorem podRelease : ∀ a0, Statement (.podRelease a0) := fun _ => front _
theorem rcpSet : ∀ a0 a1 a2 a3 a4, Statement (.rcpSet a0 a1 a2 a3 a4) := fun _ _ _ _ _ => front _
theorem dieReset : ∀ a0 a1, Statement (.dieReset a0 a1) := fun _ _ => front _
theorem dieRejoin : ∀ a0 a1, Statement (.dieRejoin a0 a1) := fun _ _ => front _
theorem dieRejoinComplete : ∀ a0 a1 a2, Statement (.dieRejoinComplete a0 a1 a2) := fun _ _ _ => front _
theorem devWarmReset : ∀ a0, Statement (.devWarmReset a0) := fun _ => front _
theorem warmReset : ∀ a0, Statement (.warmReset a0) := fun _ => front _
theorem frameReset : ∀ a0 a1 a2, Statement (.frameReset a0 a1 a2) := fun _ _ _ => front _
theorem devStateSet : ∀ a0 a1, Statement (.devStateSet a0 a1) := fun _ _ => front _
theorem schLoad : ∀ a0 a1 a2 a3, Statement (.schLoad a0 a1 a2 a3) := fun _ _ _ _ => front _
theorem schUnload : ∀ a0 a1, Statement (.schUnload a0 a1) := fun _ _ => front _
theorem schRun : ∀ a0 a1 a2 a3 a4 a5, Statement (.schRun a0 a1 a2 a3 a4 a5) := fun _ _ _ _ _ _ => front _
theorem schStepAdvance : ∀ a0 a1, Statement (.schStepAdvance a0 a1) := fun _ _ => front _
theorem stepBoundary : ∀ a0, Statement (.stepBoundary a0) := fun _ => front _
theorem schStepRepeat : ∀ a0 a1, Statement (.schStepRepeat a0 a1) := fun _ _ => front _
theorem stepRepeatDone : Statement .stepRepeatDone := front _
theorem schStepSet : ∀ a0 a1, Statement (.schStepSet a0 a1) := fun _ _ => front _
theorem schAbort : ∀ a0 a1, Statement (.schAbort a0 a1) := fun _ _ => front _
theorem shlRegionSet : ∀ a0 a1 a2 a3, Statement (.shlRegionSet a0 a1 a2 a3) := fun _ _ _ _ => front _
theorem shlWellArm : ∀ a0 a1 a2, Statement (.shlWellArm a0 a1 a2) := fun _ _ _ => front _
theorem shlFill : ∀ a0 a1 a2 a3 a4, Statement (.shlFill a0 a1 a2 a3 a4) := fun _ _ _ _ _ => front _
theorem shlErrInject : ∀ a0 a1 a2 a3, Statement (.shlErrInject a0 a1 a2 a3) := fun _ _ _ _ => front _
theorem memInterleave : ∀ a0 a1 a2 a3, Statement (.memInterleave a0 a1 a2 a3) := fun _ _ _ _ => front _
theorem memPathBarrier : ∀ a0 a1, Statement (.memPathBarrier a0 a1) := fun _ _ => front _
theorem ringCfg : ∀ a0 a1 a2, Statement (.ringCfg a0 a1 a2) := fun _ _ _ => front _
theorem ringRs : ∀ a0 a1 a2, Statement (.ringRs a0 a1 a2) := fun _ _ _ => front _
theorem ringAg : ∀ a0 a1 a2, Statement (.ringAg a0 a1 a2) := fun _ _ _ => front _
theorem ringRelease : ∀ a0 a1, Statement (.ringRelease a0 a1) := fun _ _ => front _
theorem updCfg : ∀ a0 a1, Statement (.updCfg a0 a1) := fun _ _ => front _
theorem updCoefSet : ∀ a0 a1 a2, Statement (.updCoefSet a0 a1 a2) := fun _ _ _ => front _
theorem updRun : ∀ a0 a1, Statement (.updRun a0 a1) := fun _ _ => front _
theorem micaTableLoad : ∀ a0 a1 a2, Statement (.micaTableLoad a0 a1 a2) := fun _ _ _ => front _
theorem micaTableRetire : ∀ a0 a1, Statement (.micaTableRetire a0 a1) := fun _ _ => front _
theorem micaRetireComplete : ∀ a0, Statement (.micaRetireComplete a0) := fun _ => front _
theorem strataInfo : ∀ a0, Statement (.strataInfo a0) := fun _ => front _
theorem strataFreeze : ∀ a0 a1, Statement (.strataFreeze a0 a1) := fun _ _ => front _
theorem strataThaw : ∀ a0, Statement (.strataThaw a0) := fun _ => front _
theorem strataSeek : ∀ a0 a1 a2 a3 a4, Statement (.strataSeek a0 a1 a2 a3 a4) := fun _ _ _ _ _ => front _
theorem replayCfgStart : ∀ a0 a1 a2 a3, Statement (.replayCfgStart a0 a1 a2 a3) := fun _ _ _ _ => front _
theorem replayCfgStop : ∀ a0 a1, Statement (.replayCfgStop a0 a1) := fun _ _ => front _
theorem replayCfgMark : ∀ a0 a1 a2, Statement (.replayCfgMark a0 a1 a2) := fun _ _ _ => front _
theorem healthCfg : ∀ a0 a1 a2 a3 a4 a5 a6 a7 a8 a9, Statement (.healthCfg a0 a1 a2 a3 a4 a5 a6 a7 a8 a9) := fun _ _ _ _ _ _ _ _ _ _ => front _
theorem fwOpen : ∀ a0 a1, Statement (.fwOpen a0 a1) := fun _ _ => front _
theorem fwData : ∀ a0 a1 a2 a3, Statement (.fwData a0 a1 a2 a3) := fun _ _ _ _ => front _
theorem fwCloseCommit : ∀ a0 a1, Statement (.fwCloseCommit a0 a1) := fun _ _ => front _
theorem fwCloseAbort : ∀ a0, Statement (.fwCloseAbort a0) := fun _ => front _
theorem fwActivate : ∀ a0 a1, Statement (.fwActivate a0 a1) := fun _ _ => front _
theorem fwActivation : ∀ a0, Statement (.fwActivation a0) := fun _ => front _
theorem diePreloadReady : ∀ a0, Statement (.diePreloadReady a0) := fun _ => front _
theorem fwStatus : ∀ a0, Statement (.fwStatus a0) := fun _ => front _
theorem sesInfo : ∀ a0 a1, Statement (.sesInfo a0 a1) := fun _ _ => front _
theorem sesClose : ∀ a0 a1, Statement (.sesClose a0 a1) := fun _ _ => front _
theorem sesLeaseSet : ∀ a0 a1 a2 a3, Statement (.sesLeaseSet a0 a1 a2 a3) := fun _ _ _ _ => front _
theorem secKeySet : ∀ a0 a1 a2, Statement (.secKeySet a0 a1 a2) := fun _ _ _ => front _
theorem secKeyClear : ∀ a0 a1, Statement (.secKeyClear a0 a1) := fun _ _ => front _
theorem secAttest : ∀ a0 a1 a2 a3, Statement (.secAttest a0 a1 a2 a3) := fun _ _ _ _ => front _
theorem pwrStatus : ∀ a0, Statement (.pwrStatus a0) := fun _ => front _
theorem pwrClassSet : ∀ a0 a1, Statement (.pwrClassSet a0 a1) := fun _ _ => front _
theorem pwrLimitSet : ∀ a0 a1, Statement (.pwrLimitSet a0 a1) := fun _ _ => front _
theorem linkCfg : ∀ a0 a1 a2 a3 a4 a5 a6 a7, Statement (.linkCfg a0 a1 a2 a3 a4 a5 a6 a7) := fun _ _ _ _ _ _ _ _ => front _
theorem linkTrain : ∀ a0 a1, Statement (.linkTrain a0 a1) := fun _ _ => front _
theorem linkDown : ∀ a0 a1, Statement (.linkDown a0 a1) := fun _ _ => front _
theorem linkStatus : ∀ a0 a1, Statement (.linkStatus a0 a1) := fun _ _ => front _
theorem pcieCfg : ∀ a0 a1 a2, Statement (.pcieCfg a0 a1 a2) := fun _ _ _ => front _
theorem pcieHotReset : ∀ a0, Statement (.pcieHotReset a0) := fun _ => front _
theorem roceQpCfg : ∀ a0 a1 a2 a3, Statement (.roceQpCfg a0 a1 a2 a3) := fun _ _ _ _ => front _
theorem roceMrSet : ∀ a0 a1 a2 a3 a4 a5, Statement (.roceMrSet a0 a1 a2 a3 a4 a5) := fun _ _ _ _ _ _ => front _
theorem packetTake : ∀ a0 a1 a2, Statement (.packetTake a0 a1 a2) := fun _ _ _ => front _
theorem queueDoorbell : ∀ a0 a1, Statement (.queueDoorbell a0 a1) := fun _ _ => front _
theorem queueRplDoorbell : ∀ a0 a1, Statement (.queueRplDoorbell a0 a1) := fun _ _ => front _
theorem queueEnable : ∀ a0 a1, Statement (.queueEnable a0 a1) := fun _ _ => front _
theorem queueDisable : ∀ a0 a1, Statement (.queueDisable a0 a1) := fun _ _ => front _
theorem holdClear : ∀ a0, Statement (.holdClear a0) := fun _ => front _
theorem registerWrite : ∀ a0 a1 a2 a3, Statement (.registerWrite a0 a1 a2 a3) := fun _ _ _ _ => front _
theorem counterLoRead : ∀ a0 a1 a2, Statement (.counterLoRead a0 a1 a2) := fun _ _ _ => front _
theorem frmCounterClear : ∀ a0 a1, Statement (.frmCounterClear a0 a1) := fun _ _ => front _
theorem numCounterClear : ∀ a0 a1, Statement (.numCounterClear a0 a1) := fun _ _ => front _
theorem beamCounterClear : ∀ a0 a1, Statement (.beamCounterClear a0 a1) := fun _ _ => front _
theorem bwdCounterClear : ∀ a0 a1, Statement (.bwdCounterClear a0 a1) := fun _ _ => front _
theorem schCounterClear : ∀ a0, Statement (.schCounterClear a0) := fun _ => front _
theorem shlCounterClear : ∀ a0, Statement (.shlCounterClear a0) := fun _ => front _
theorem dirCounterClear : ∀ a0, Statement (.dirCounterClear a0) := fun _ => front _
theorem atomCounterClear : ∀ a0, Statement (.atomCounterClear a0) := fun _ => front _
theorem ringCounterClear : ∀ a0, Statement (.ringCounterClear a0) := fun _ => front _
theorem updCounterClear : ∀ a0, Statement (.updCounterClear a0) := fun _ => front _
theorem micaCounterClear : ∀ a0, Statement (.micaCounterClear a0) := fun _ => front _
theorem portCounterClear : ∀ a0, Statement (.portCounterClear a0) := fun _ => front _
theorem dieCounterClear : ∀ a0, Statement (.dieCounterClear a0) := fun _ => front _
theorem seamCounterClear : ∀ a0 a1, Statement (.seamCounterClear a0 a1) := fun _ _ => front _
theorem cmdCounterClear : Statement .cmdCounterClear := front _
theorem hltCounterClear : Statement .hltCounterClear := front _
theorem pwrCounterClear : Statement .pwrCounterClear := front _
theorem droopCounterClear : ∀ a0, Statement (.droopCounterClear a0) := fun _ => front _
theorem strataCounterClear : Statement .strataCounterClear := front _
theorem frameEnableStart : ∀ a0 a1, Statement (.frameEnableStart a0 a1) := fun _ _ => front _
theorem frameEnableStop : ∀ a0 a1, Statement (.frameEnableStop a0 a1) := fun _ _ => front _
theorem frameStarted : ∀ a0 a1, Statement (.frameStarted a0 a1) := fun _ _ => front _
theorem frameStopped : ∀ a0 a1, Statement (.frameStopped a0 a1) := fun _ _ => front _
theorem frmResetWrite : ∀ a0 a1, Statement (.frmResetWrite a0 a1) := fun _ _ => front _
theorem strataCursorLoWrite : ∀ a0, Statement (.strataCursorLoWrite a0) := fun _ => front _
theorem strataCursorHiWrite : ∀ a0, Statement (.strataCursorHiWrite a0) := fun _ => front _
theorem strataNext : Statement .strataNext := front _
theorem strataPrev : Statement .strataPrev := front _
theorem strataWindowFill : Statement .strataWindowFill := front _
theorem roceDoorbell : ∀ a0 a1 a2 a3, Statement (.roceDoorbell a0 a1 a2 a3) := fun _ _ _ _ => front _
theorem windowOpen : ∀ a0, Statement (.windowOpen a0) := fun _ => front _
theorem runFrameNotStarted : ∀ a0, Statement (.runFrameNotStarted a0) := fun _ => front _
theorem loadDescriptor : ∀ a0 a1 a2, Statement (.loadDescriptor a0 a1 a2) := fun _ _ _ => front _
theorem loadComplete : ∀ a0 a1, Statement (.loadComplete a0 a1) := fun _ _ => front _
theorem passDescriptor : ∀ a0 a1 a2 a3, Statement (.passDescriptor a0 a1 a2 a3) := fun _ _ _ _ => front _
theorem passComplete : ∀ a0 a1, Statement (.passComplete a0 a1) := fun _ _ => front _
theorem gapDescriptor : ∀ a0 a1, Statement (.gapDescriptor a0 a1) := fun _ _ => front _
theorem rowWordArrival : ∀ a0 a1 a2, Statement (.rowWordArrival a0 a1 a2) := fun _ _ _ => front _
theorem frameParityError : ∀ a0 a1 a2, Statement (.frameParityError a0 a1 a2) := fun _ _ _ => front _
theorem tileDescriptor : ∀ a0 a1, Statement (.tileDescriptor a0 a1) := fun _ _ => front _
theorem outputDescriptor : ∀ a0 a1, Statement (.outputDescriptor a0 a1) := fun _ _ => front _
theorem beamDelivery : ∀ a0 a1 a2 a3, Statement (.beamDelivery a0 a1 a2 a3) := fun _ _ _ _ => front _
theorem drainStart : ∀ a0 a1 a2, Statement (.drainStart a0 a1 a2) := fun _ _ _ => front _
theorem drainComplete : ∀ a0 a1, Statement (.drainComplete a0 a1) := fun _ _ => front _
theorem garnetDescriptor : ∀ a0 a1 a2 a3, Statement (.garnetDescriptor a0 a1 a2 a3) := fun _ _ _ _ => front _
theorem wellWrite : ∀ a0 a1 a2 a3 a4 a5, Statement (.wellWrite a0 a1 a2 a3 a4 a5) := fun _ _ _ _ _ _ => front _
theorem barrierDescriptor : ∀ a0, Statement (.barrierDescriptor a0) := fun _ => front _
theorem finalBarrierComplete : ∀ a0 a1, Statement (.finalBarrierComplete a0 a1) := fun _ _ => front _
theorem sendDescriptor : ∀ a0, Statement (.sendDescriptor a0) := fun _ => front _
theorem recvDescriptor : ∀ a0, Statement (.recvDescriptor a0) := fun _ => front _
theorem moveDescriptor : ∀ a0, Statement (.moveDescriptor a0) := fun _ => front _
theorem moveComplete : ∀ a0 a1 a2, Statement (.moveComplete a0 a1 a2) := fun _ _ _ => front _
theorem creditArrival : ∀ a0 a1 a2 a3 a4, Statement (.creditArrival a0 a1 a2 a3 a4) := fun _ _ _ _ _ => front _
theorem transferDataArrival : ∀ a0 a1 a2 a3 a4 a5, Statement (.transferDataArrival a0 a1 a2 a3 a4 a5) := fun _ _ _ _ _ _ => front _
theorem recvDeadline : ∀ a0 a1 a2, Statement (.recvDeadline a0 a1 a2) := fun _ _ _ => front _
theorem sendHoldDeadline : ∀ a0 a1, Statement (.sendHoldDeadline a0 a1) := fun _ _ => front _
theorem moveDeadline : ∀ a0 a1, Statement (.moveDeadline a0 a1) := fun _ _ => front _
theorem peerStopNotice : ∀ a0, Statement (.peerStopNotice a0) := fun _ => front _
theorem cableStopNotice : ∀ a0 a1, Statement (.cableStopNotice a0 a1) := fun _ _ => front _
theorem stallLimitAbort : ∀ a0, Statement (.stallLimitAbort a0) := fun _ => front _
theorem refresh : ∀ a0 a1 a2, Statement (.refresh a0 a1 a2) := fun _ _ _ => front _
theorem scrubRow : ∀ a0 a1, Statement (.scrubRow a0 a1) := fun _ _ => front _
theorem spareCopyComplete : ∀ a0 a1 a2, Statement (.spareCopyComplete a0 a1 a2) := fun _ _ _ => front _
theorem rds : ∀ a0 a1 a2 a3 a4 a5, Statement (.rds a0 a1 a2 a3 a4 a5) := fun _ _ _ _ _ _ => front _
theorem rdo : ∀ a0 a1 a2 a3 a4, Statement (.rdo a0 a1 a2 a3 a4) := fun _ _ _ _ _ => front _
theorem upgrade : ∀ a0 a1 a2 a3 a4, Statement (.upgrade a0 a1 a2 a3 a4) := fun _ _ _ _ _ => front _
theorem wb : ∀ a0 a1 a2 a3, Statement (.wb a0 a1 a2 a3) := fun _ _ _ _ => front _
theorem cleanEvict : ∀ a0 a1, Statement (.cleanEvict a0 a1) := fun _ _ => front _
theorem ncRd : ∀ a0 a1 a2 a3 a4 a5 a6, Statement (.ncRd a0 a1 a2 a3 a4 a5 a6) := fun _ _ _ _ _ _ _ => front _
theorem ncWr : ∀ a0 a1 a2 a3 a4 a5 a6, Statement (.ncWr a0 a1 a2 a3 a4 a5 a6) := fun _ _ _ _ _ _ _ => front _
theorem farAtomic : ∀ a0 a1 a2 a3 a4 a5 a6, Statement (.farAtomic a0 a1 a2 a3 a4 a5 a6) := fun _ _ _ _ _ _ _ => front _
theorem amoIssue : ∀ a0 a1 a2 a3 a4 a5 a6, Statement (.amoIssue a0 a1 a2 a3 a4 a5 a6) := fun _ _ _ _ _ _ _ => front _
theorem pathBarrierRead : ∀ a0 a1, Statement (.pathBarrierRead a0 a1) := fun _ _ => front _
theorem pathBarrierComplete : ∀ a0, Statement (.pathBarrierComplete a0) := fun _ => front _
theorem pathBarrierTimeout : ∀ a0, Statement (.pathBarrierTimeout a0) := fun _ => front _
theorem ringConfigHello : ∀ a0 a1 a2 a3 a4, Statement (.ringConfigHello a0 a1 a2 a3 a4) := fun _ _ _ _ _ => front _
theorem ringStartHello : ∀ a0 a1 a2 a3 a4 a5, Statement (.ringStartHello a0 a1 a2 a3 a4 a5) := fun _ _ _ _ _ _ => front _
theorem ringBlockArrival : ∀ a0 a1 a2, Statement (.ringBlockArrival a0 a1 a2) := fun _ _ _ => front _
theorem repassStart : ∀ a0 a1, Statement (.repassStart a0 a1) := fun _ _ => front _
theorem closingPhase : ∀ a0 a1 a2, Statement (.closingPhase a0 a1 a2) := fun _ _ _ => front _
theorem ringAbortToken : ∀ a0 a1 a2, Statement (.ringAbortToken a0 a1 a2) := fun _ _ _ => front _
theorem ringProgressTimeout : ∀ a0, Statement (.ringProgressTimeout a0) := fun _ => front _
theorem micaBlockDecode : ∀ a0 a1 a2 a3, Statement (.micaBlockDecode a0 a1 a2 a3) := fun _ _ _ _ => front _
theorem micaAdvertisement : ∀ a0 a1, Statement (.micaAdvertisement a0 a1) := fun _ _ => front _
theorem micaRetireAck : ∀ a0 a1, Statement (.micaRetireAck a0 a1) := fun _ _ => front _
theorem trainDetectDone : ∀ a0 a1 a2 a3, Statement (.trainDetectDone a0 a1 a2 a3) := fun _ _ _ _ => front _
theorem trainAlignDone : ∀ a0 a1 a2, Statement (.trainAlignDone a0 a1 a2) := fun _ _ _ => front _
theorem identityFrame : ∀ a0 a1 a2, Statement (.identityFrame a0 a1 a2) := fun _ _ _ => front _
theorem trainIdentifyDone : ∀ a0, Statement (.trainIdentifyDone a0) := fun _ => front _
theorem trainTimeout : ∀ a0, Statement (.trainTimeout a0) := fun _ => front _
theorem linkFrameReceive : ∀ a0 a1 a2 a3 a4, Statement (.linkFrameReceive a0 a1 a2 a3 a4) := fun _ _ _ _ _ => front _
theorem linkNak : ∀ a0 a1 a2, Statement (.linkNak a0 a1 a2) := fun _ _ _ => front _
theorem laneRetire : ∀ a0 a1, Statement (.laneRetire a0 a1) := fun _ _ => front _
theorem signalLoss : ∀ a0, Statement (.signalLoss a0) := fun _ => front _
theorem signalReturn : ∀ a0, Statement (.signalReturn a0) := fun _ => front _
theorem autoRetrain : ∀ a0, Statement (.autoRetrain a0) := fun _ => front _
theorem portWake : ∀ a0, Statement (.portWake a0) := fun _ => front _
theorem roceCnp : ∀ a0 a1, Statement (.roceCnp a0 a1) := fun _ _ => front _
theorem roceRateIncrease : ∀ a0 a1, Statement (.roceRateIncrease a0 a1) := fun _ _ => front _
theorem roceInbound : ∀ a0 a1 a2 a3 a4 a5, Statement (.roceInbound a0 a1 a2 a3 a4 a5) := fun _ _ _ _ _ _ => front _
theorem pcieInbound : ∀ a0 a1 a2 a3, Statement (.pcieInbound a0 a1 a2 a3) := fun _ _ _ _ => front _
theorem pcieMsiWrite : ∀ a0, Statement (.pcieMsiWrite a0) := fun _ => front _
theorem pcieCompletionTimeout : ∀ a0 a1, Statement (.pcieCompletionTimeout a0 a1) := fun _ _ => front _
theorem seamFlitNak : ∀ a0 a1 a2 a3, Statement (.seamFlitNak a0 a1 a2 a3) := fun _ _ _ _ => front _
theorem seamLaneFailing : ∀ a0 a1 a2 a3, Statement (.seamLaneFailing a0 a1 a2 a3) := fun _ _ _ _ => front _
theorem seamUrgentSwap : ∀ a0 a1 a2, Statement (.seamUrgentSwap a0 a1 a2) := fun _ _ _ => front _
theorem seamClockSwitch : ∀ a0 a1 a2, Statement (.seamClockSwitch a0 a1 a2) := fun _ _ _ => front _
theorem dieFence : ∀ a0 a1 a2, Statement (.dieFence a0 a1 a2) := fun _ _ _ => front _
theorem budgetMessageTimeout : ∀ a0, Statement (.budgetMessageTimeout a0) := fun _ => front _
theorem budgetDemand : ∀ a0 a1 a2 a3 a4 a5, Statement (.budgetDemand a0 a1 a2 a3 a4 a5) := fun _ _ _ _ _ _ => front _
theorem grantCompute : Statement .grantCompute := front _
theorem grantReceive : ∀ a0, Statement (.grantReceive a0) := fun _ => front _
theorem budgetFallback : ∀ a0, Statement (.budgetFallback a0) := fun _ => front _
theorem rateStepUp : ∀ a0, Statement (.rateStepUp a0) := fun _ => front _
theorem droopEvent : ∀ a0, Statement (.droopEvent a0) := fun _ => front _
theorem powerSample : ∀ a0 a1, Statement (.powerSample a0 a1) := fun _ _ => front _
theorem wearUpdate : ∀ a0, Statement (.wearUpdate a0) := fun _ => front _
theorem allowanceRecompute : Statement .allowanceRecompute := front _
theorem thermalCapStep : ∀ a0, Statement (.thermalCapStep a0) := fun _ => front _
theorem coolantEval : ∀ a0 a1 a2 a3, Statement (.coolantEval a0 a1 a2 a3) := fun _ _ _ _ => front _
theorem thermalTrip : ∀ a0, Statement (.thermalTrip a0) := fun _ => front _
theorem rootTakeover : ∀ a0, Statement (.rootTakeover a0) := fun _ => front _
theorem refLoss : Statement .refLoss := front _
theorem refFreerun : Statement .refFreerun := front _
theorem refReturn : Statement .refReturn := front _
theorem coldPowerOn : ∀ a0 a1, Statement (.coldPowerOn a0 a1) := fun _ _ => front _
theorem modResetAssert : Statement .modResetAssert := front _
theorem moduleReset : ∀ a0 a1, Statement (.moduleReset a0 a1) := fun _ _ => front _
theorem powerFault : ∀ a0, Statement (.powerFault a0) := fun _ => front _
theorem mateDisconnect : Statement .mateDisconnect := front _
theorem overvoltageClamp : Statement .overvoltageClamp := front _
theorem strapPinChange : ∀ a0, Statement (.strapPinChange a0) := fun _ => front _
theorem wake : ∀ a0 a1, Statement (.wake a0 a1) := fun _ _ => front _
theorem strataCommit : Statement .strataCommit := front _
theorem strataAutoThaw : Statement .strataAutoThaw := front _
theorem openReq : ∀ a0 a1 a2 a3, Statement (.openReq a0 a1 a2 a3) := fun _ _ _ _ => front _
theorem resumeReq : ∀ a0 a1 a2, Statement (.resumeReq a0 a1 a2) := fun _ _ _ => front _
theorem openConfirm : ∀ a0 a1, Statement (.openConfirm a0 a1) := fun _ _ => front _
theorem halfOpenTimeout : ∀ a0, Statement (.halfOpenTimeout a0) := fun _ => front _
theorem cmd : ∀ a0 a1, Statement (.cmd a0 a1) := fun _ _ => front _
theorem replyAck : ∀ a0 a1, Statement (.replyAck a0 a1) := fun _ _ => front _
theorem replyResend : ∀ a0, Statement (.replyResend a0) := fun _ => front _
theorem dataWr : ∀ a0 a1 a2, Statement (.dataWr a0 a1 a2) := fun _ _ _ => front _
theorem dataRd : ∀ a0 a1 a2, Statement (.dataRd a0 a1 a2) := fun _ _ _ => front _
theorem keepalive : ∀ a0 a1, Statement (.keepalive a0 a1) := fun _ _ => front _
theorem keepaliveSend : ∀ a0, Statement (.keepaliveSend a0) := fun _ => front _
theorem sessionDetach : ∀ a0, Statement (.sessionDetach a0) := fun _ => front _
theorem close : ∀ a0 a1, Statement (.close a0 a1) := fun _ _ => front _
theorem podRelayFrame : ∀ a0 a1 a2, Statement (.podRelayFrame a0 a1 a2) := fun _ _ _ => front _
theorem podReport : ∀ a0 a1 a2 a3, Statement (.podReport a0 a1 a2 a3) := fun _ _ _ _ => front _
theorem podWaitExpiry : ∀ a0, Statement (.podWaitExpiry a0) := fun _ => front _
theorem cblPwrOvercurrent : ∀ a0, Statement (.cblPwrOvercurrent a0) := fun _ => front _
theorem cblPwrRetry : ∀ a0 a1, Statement (.cblPwrRetry a0 a1) := fun _ _ => front _
theorem cableMate : ∀ a0 a1, Statement (.cableMate a0 a1) := fun _ _ => front _
theorem pciePresenceChange : ∀ a0, Statement (.pciePresenceChange a0) := fun _ => front _
theorem strapPuFault : Statement .strapPuFault := front _
theorem i3cPointerWrite : ∀ a0 a1, Statement (.i3cPointerWrite a0 a1) := fun _ _ => front _
theorem i3cRead : ∀ a0 a1, Statement (.i3cRead a0 a1) := fun _ _ => front _
theorem i3cIbi : Statement .i3cIbi := front _
theorem jtagInstruction : ∀ a0, Statement (.jtagInstruction a0) := fun _ => front _
theorem ringHelloTimeout : ∀ a0, Statement (.ringHelloTimeout a0) := fun _ => front _
theorem linkTrainReplyTimeout : ∀ a0, Statement (.linkTrainReplyTimeout a0) := fun _ => front _
theorem pcieLinkChange : ∀ a0, Statement (.pcieLinkChange a0) := fun _ => front _
theorem aerUncorrectableReport : Statement .aerUncorrectableReport := front _
theorem ethernetLinkChange : ∀ a0 a1, Statement (.ethernetLinkChange a0 a1) := fun _ _ => front _
theorem roceResponse : ∀ a0 a1 a2 a3, Statement (.roceResponse a0 a1 a2 a3) := fun _ _ _ _ => front _
theorem roceRetryExceeded : ∀ a0 a1, Statement (.roceRetryExceeded a0 a1) := fun _ _ => front _
theorem icmpv6Message : ∀ a0 a1 a2 a3, Statement (.icmpv6Message a0 a1 a2 a3) := fun _ _ _ _ => front _
theorem operatingMinute : Statement .operatingMinute := front _
theorem stateReached : Statement .stateReached := front _
theorem i3cDynamicAddress : ∀ a0, Statement (.i3cDynamicAddress a0) := fun _ => front _

end Sys2Proof.Laws.Wellformed
end

