-- ==== Sys2Proof/Tests/Slice0.lean ====
section
/-! SUPPORT. The author's tests: well-formedness, a witness for the hypotheses of every statement of
Certificates/Slice0/Obligations.lean (meets_<Name>: a concrete state and operands that meet them together), and worked
examples of the spec. -/
namespace Sys2Proof.Tests
set_option Elab.async false
open Sys2Proof Sys2Proof.Machine

/-- No row of the table gives bits. -/
theorem test_decode_none : decodeTableWord 16 0 = none := by decide

/-! ### Well-formedness: one ill-formed command for each check. -/

/-- There are 64 queues: no packet comes from a 65th. -/
theorem test_wf_queue : (Instr.devNop ⟨64, 0⟩).wellFormed = false ∧ (Instr.devNop ⟨63, 0⟩).wellFormed = true := by decide
/-- Addresses have 48 bits. -/
theorem test_wf_addr : (Instr.upgrade 0 0 (2 ^ 48) false []).wellFormed = false ∧ (Instr.upgrade 0 31 (2 ^ 48 - 1) false []).wellFormed = true := by decide
/-- An error arises at an address of the map, and a store and an eviction are of a line of it. -/
theorem test_wf_upsets : (Instr.packetTake 0 false [.upset (2 ^ 48) true]).wellFormed = false ∧
    (Instr.packetTake 0 false [.parity (2 ^ 48)]).wellFormed = false ∧ (Instr.packetTake 0 false [.evict 0 (2 ^ 48)]).wellFormed = false ∧
    (Instr.packetTake 0 false [.upset 0 true, .parity 0, .store 0 127 [1#8], .evict 7 0]).wellFormed = true := by decide
/-- A store stays in its line. -/
theorem test_wf_store : (Instr.rds 0 0 false 0 false [.store 0 127 [1#8, 2#8]]).wellFormed = false ∧
    (Instr.rds 0 0 false 0 false [.store 0 126 [1#8, 2#8]]).wellFormed = true := by decide
/-- A register access is aligned and inside the control block. -/
theorem test_wf_offset : (Instr.registerWrite 0 0 6 0).wellFormed = false ∧ (Instr.registerWrite 0 0 0x4000000 0).wellFormed = false ∧
    (Instr.registerWrite 255 63 0x3FFFFFC 0).wellFormed = true := by decide
/-- RCP_SET carries eight words. -/
theorem test_wf_length : (Instr.rcpSet ⟨0, 0⟩ 0 false [0] 0).wellFormed = false ∧
    (Instr.rcpSet ⟨0, 0⟩ 0 false (List.replicate 8 0) 0).wellFormed = true := by decide
/-- A spare copy names a row of 1,024 bytes. -/
theorem test_wf_row : (Instr.spareCopyComplete 0 512 []).wellFormed = false ∧ (Instr.spareCopyComplete 0 1024 []).wellFormed = true := by decide
/-- A line written back is whole. -/
theorem test_wf_line : (Instr.wb 0 0 [0] none).wellFormed = false ∧ (Instr.wb 0 0 (List.replicate 128 0) none).wellFormed = true := by decide +kernel
/-- A management message fits its datagram. -/
theorem test_wf_message : (Instr.cmd 0 (List.replicate 1453 0)).wellFormed = false ∧
    (Instr.cmd 0 (List.replicate 1452 0)).wellFormed = true := by decide +kernel
/-- Side-memory records are numbered in 16 bits. -/
theorem test_wf_side : (Instr.garnetDescriptor 0 0 [] [(65536, true)]).wellFormed = false ∧
    (Instr.garnetDescriptor 0 0 [] [(65535, true)]).wellFormed = true := by decide

/-! ### Small states. -/

/-- A block that serves commands: DIE_ID of the first Schist given (no safe mode), READY, MODULE_ID 7. -/
def s0 : State := ctrSet (regSet (regSet State.reset (R_DIE_ID 15) 0x50F#32) R_SCH_RST_STATUS 8#32) R_SCH_MODULE_ID 7#64
/-- Register fields set. -/
def stOn (s : State) (l : List (Nat × Fld × Nat)) : State := l.foldl (fun s e => setFld s e.1 e.2.1 e.2.2) s
/-- Register fields set in a block that serves commands. -/
def st (l : List (Nat × Fld × Nat)) : State := stOn s0 l
/-- A command from queue 0. -/
def src0 : Src := ⟨0, 1#32⟩
/-- A taken command that waits. -/
def tk (id op : Nat) (w : Wait) : Taken := ⟨id, src0, op, [], [], false, 0, 15, w⟩
/-- Commands that wait. -/
def waiting (s : State) (l : List Taken) : State := { s with cmds := { s.cmds with taken := l } }
/-- Serving, as the test of it. -/
def servingB (s : State) : Bool := !(safeMode s) && pwState s == 0 && (stateEntry s).isNone
theorem serving_of {s : State} (h : servingB s = true) : s.Serving := by
  simp only [servingB, Bool.and_eq_true, Bool.not_eq_true', beq_iff_eq, Option.isNone_iff_eq_none] at h
  exact ⟨h.1.1, h.1.2, h.2⟩
theorem serving_s0 : s0.Serving := serving_of (by decide +kernel)
/-- A range of plain memory outside beam stores, as the test of it. -/
def plainB (s : State) (a n : Nat) : Bool :=
  (List.range n).all fun i => (match regionOf s (a + i) with | .beam _ _ => false | r => r.isMem) && (dirGet s (lineOf (a + i))).isNone &&
    (tabFind s.ecc (granule (a + i)).1).isNone && !(inWell s (a + i)) && !(inReplay s (a + i))
theorem plain_of {s : State} {a n : Nat} (h : plainB s a n = true) : Plain s a n := by
  intro i hi
  have h' := List.all_eq_true.1 h i (List.mem_range.2 hi)
  simp only [Bool.and_eq_true, Option.isNone_iff_eq_none, Bool.not_eq_true'] at h'
  obtain ⟨⟨⟨⟨h1, h2⟩, h3⟩, h4⟩, h5⟩ := h'
  refine ⟨?_, h2, h3, h4, h5, ?_⟩
  · revert h1; cases regionOf s (a + i) <;> simp
  · intro g f hr; rw [hr] at h1; simp at h1

/-! ### What meets the hypotheses of each statement. -/

/-- A local queue of depth 16, enabled, its reply indices 5 and 0. -/
def sQueue : State := st [(R_SCH_Q_CFG 31, F_SCH_Q_CFG_ENABLE, 1), (R_SCH_Q_CFG 31, F_SCH_Q_CFG_DEPTH_LOG2, 4), (R_SCH_Q_RPL_IDX 31, F_SCH_Q_RPL_IDX_RPL_TAIL, 5)]
theorem meets_LocalQueues :
    (qFld sQueue 31 F_SCH_Q_CFG_ENABLE = 1 ∧ idxDiff 16 (qHead sQueue 31) ≤ qDepth sQueue 31 ∧ idxDiff 16 (qTail sQueue 31) ≤ qDepth sQueue 31) ∧
    qDepth sQueue 31 < idxDiff 17 (qHead sQueue 31) ∧ (32 : Fin 64).val = 32 ∧ qFld s0 31 F_SCH_Q_CFG_ENABLE = 0 ∧
    idxDiff 5 (qRplHead sQueue 31) ≤ idxDiff (qRplTail sQueue 31) (qRplHead sQueue 31) ∧
    idxDiff (qRplTail sQueue 31) (qRplHead sQueue 31) < idxDiff 6 (qRplHead sQueue 31) ∧
    (qFld s0 31 F_SCH_Q_CFG_DRAINING = 0 ∧ 4 ≤ fldGet (fldSet 0 F_SCH_Q_CFG_DEPTH_LOG2 4) F_SCH_Q_CFG_DEPTH_LOG2 ∧
      fldGet (fldSet 0 F_SCH_Q_CFG_DEPTH_LOG2 12) F_SCH_Q_CFG_DEPTH_LOG2 ≤ 12) := by decide +kernel
theorem meets_ReadingCommands : s0.Serving ∧ (63#8).toNat < 64 ∧ (7#8).toNat < 8 ∧ (47#8).toNat < 48 := ⟨serving_s0, by decide, by decide, by decide⟩
theorem meets_PowerSettingsAndRoot :
    (strapClass s0 ≤ (0#8).toNat ∧ strapClass s0 ≤ (3#8).toNat) ∧ 3 < (4#8).toNat ∧
    (0#8).toNat < strapClass (st [(R_SCH_STRAP, ⟨3, 2⟩, 1)]) ∧ servingB (st [(R_SCH_STRAP, ⟨3, 2⟩, 1)]) = true ∧
    (10000 ≤ classLimit (s0.pwr.nextClass.getD (pwClass s0)) ∧ 3000 ≤ classLimit (s0.pwr.nextClass.getD (pwClass s0))) ∧
    (3000 ≤ 65535 ∧ classLimit (s0.pwr.nextClass.getD (pwClass s0)) < (65535#16).toNat) ∧
    s0.pwr.nextClass = none ∧ s0.pwr.nextLimit = none ∧ s0.pwr.waiting = none := by decide +kernel
/-- A Gabbro with a grant, a target above its rate. -/
def sGrant : State := { st [(R_GAB_FRM_RATE 0 0, F_GAB_FRM_RATE_ISSUE_PER_16, 15)] with pwr := { s0.pwr with grants := [(0, 1)], target := [(0, 16)] } }
theorem meets_BudgetsAndGrants :
    dieRunning sGrant 0 = true ∧ dieKind 0 ≠ .shale ∧ dieRunning sGrant 63 = true ∧ dieKind 63 ≠ .shale ∧
    tabFind sGrant.pwr.grants 0 = some 1 ∧ flag sGrant (R_PWR_STATE 0) F_PWR_STATE_SENSORS_FAILED = false ∧
    tabFind sGrant.pwr.target (gabDie 0) = some 16 ∧ rateNow sGrant (gabDie 0) < 16 ∧
    tabFind sGrant.pwr.droop 0 = none := by decide +kernel
theorem meets_rateFalls : ∃ s : State, ∃ g r, tabFind s.pwr.grants 0 = some g ∧ g < 2 ^ 32 ∧ rateFor s 0 g < r ∧ r = rateNow s 0 ∧
    flag s (R_PWR_STATE 0) F_PWR_STATE_SENSORS_FAILED = false ∧ dieRunning s 0 = true :=
  by refine ⟨{ sGrant with pwr := { sGrant.pwr with grants := [(0, 0)] } }, 0, 15, ?_, ?_, ?_, ?_, ?_, ?_⟩ <;> decide +kernel
theorem meets_rootClock :
    pwFld (st [(R_SCH_PWR_STATUS, F_SCH_PWR_STATUS_REF_HOLDOVER, 1)]) F_SCH_PWR_STATUS_REF_HOLDOVER = 1 ∧
    (∀ s ∈ [st [(R_SCH_PWR_STATUS, F_SCH_PWR_STATUS_ROOT_OWNER, 3), (R_SCH_PWR_STATUS, F_SCH_PWR_STATUS_PLL_LOCKED, 15)]],
      0 = (pwFld s F_SCH_PWR_STATUS_ROOT_OWNER + 1) % 4 ∧ bitOf (pwFld s F_SCH_PWR_STATUS_PLL_LOCKED) 0 = true ∧ dieRunning s (schDie 0) = true) := by
  decide +kernel
theorem meets_PowerAndHeat :
    pwLimit s0 < (10001#16).toNat ∧
    (∀ s ∈ [st [(R_SCH_PWR_PEAK, F_SCH_PWR_PEAK_ALLOW_US, 1)]], 0 < allowance s ∧ 10 * allowance s ≤ s.pwr.used + 10) ∧
    ((0#16).toNat ≤ pwLimit s0 ∧ s0.pwr.used ≤ 1) ∧
    tempOf (fld (st [(R_PWR_TEMP 0, F_PWR_TEMP_HOT, 1360)]) (R_PWR_TEMP 0) F_PWR_TEMP_HOT) ≤ 1360 ∧
    hotter (st [(R_PWR_TEMP 0, F_PWR_TEMP_HOT, 1601)]) 0 1600 1520 = true ∧
    (hotter (st [(R_PWR_TEMP 0, F_PWR_TEMP_HOT, 1520)]) 0 1520 1440 = false ∧ hotter (st [(R_PWR_TEMP 0, F_PWR_TEMP_HOT, 1520)]) 0 1600 1520 = false) ∧
    (inletOk 721 = true ∧ inletOk 0 = true ∧ flowOk 599 = true ∧ flowOk 3000 = true ∧ 720 < tempOf 721 ∧ 599 < 600 ∧ pwStage s0 < 12 ∧
      s0.pwr.holdInlet = false ∧ s0.pwr.holdFlow = false ∧ eventHeld s0 (writerDie s0 * 256 + 0xB2) 0xB2 0 = false ∧ sliceCount s0 (writerDie s0 / 16) < 256) ∧
    pwStage (st [(R_SCH_PWR_STATUS, F_SCH_PWR_STATUS_STAGE, 11)]) < 12 := by decide +kernel
/-- A recorder that is frozen, with its time run out. -/
def sFrozen : State := st [(R_SCH_STRATA_STATUS, F_SCH_STRATA_STATUS_FROZEN, 1)]
theorem meets_StrataFreezing :
    (servingB s0 = true ∧ (3600#16).toNat ≤ 3600 ∧ frozen s0 = false) ∧ 3600 < (3601#16).toNat ∧
    (servingB sFrozen = true ∧ frozen sFrozen = true ∧ sFrozen.strata.freezeEnd ≤ uptimeUs sFrozen) := by decide +kernel
/-- A recorder with records 1 and 2, a pending record, and the cursor where it is put. -/
def sCursor (n : Nat) : State :=
  let s := ctrSet (ctrSet s0 R_SCH_STRATA_NEWEST 2#64) R_SCH_STRATA_CURSOR (BitVec.ofNat 64 n)
  { s with strata := { s.strata with staged := some 1#32, slice := [⟨15 * 256, 0, [], false, false⟩] } }
theorem meets_StrataCursorAndCommits :
    (sCursor 1).strata.staged = some 1#32 ∧ strataCursor (sCursor 1) < strataNewest (sCursor 1) ∧ strataCursor (sCursor 2) = strataNewest (sCursor 2) ∧
    strataFirst (sCursor 2) < strataCursor (sCursor 2) ∧ strataCursor (sCursor 1) = strataFirst (sCursor 1) ∧
    (servingB (sCursor 1) = true ∧ strataHeld (sCursor 1) 1 = true ∧ strataHeld (sCursor 1) 2 = true ∧ strataHeld (sCursor 1) 3 = false) ∧
    (nextRecord (sCursor 1).strata.slice).isSome = true ∧ strataNextSeq (sCursor 1) < 2 ^ 64 ∧ s0.strata.slice = [] ∧ standby s0 = true ∧
    (∀ s ∈ [({ s0 with cyc := minuteCycles } : State)], standby s = true ∧ s.pwr.minute + minuteCycles ≤ s.cyc) ∧ s0.cyc < s0.pwr.minute + minuteCycles ∧
    (∀ s ∈ [({ s0 with pwr := { s0.pwr with input := false } } : State)], standby s = false) := by decide +kernel
/-- A source that recorded at 0 µs, now 999 µs or 1,000 µs later. -/
def sRate (t : Nat) : State := { s0 with cyc := 1050 * t, strata := { s0.strata with rates := [(15 * 256 + 0xB4, ⟨some 0, 4294967295⟩)] } }
/-- A slice that is full. -/
def sFull : State := { s0 with strata := { s0.strata with slice := List.replicate 256 ⟨15 * 256, 0, [], false, false⟩ } }
theorem meets_StrataAcceptance :
    eventHeld (sRate 999) (15 * 256 + 0xB4) 0xB4 0 = true ∧ eventHeld (sRate 1000) (15 * 256 + 0xB4) 0xB4 0 = false ∧
    eventHeld sFrozen (15 * 256 + 0xB1) 0xB1 0 = true ∧ eventHeld sFrozen (15 * 256 + 0xF0) 0xF0 4 = false ∧
    eventHeld sFrozen (15 * 256 + 0xF0) 0xF0 3 = true ∧ sliceCount s0 0 < 256 ∧
    (256 ≤ sliceCount sFull 0 ∧ eventHeld sFull (15 * 256) 0 0 = false) := by decide +kernel
theorem meets_CommandReplies :
    (∀ t ∈ [tk 0 0x0102 .upd, { tk 0 0x0102 .upd with src := ⟨63, 0#32⟩ }], t.src.queue.val < 64 ∧ qSession s0 t.src.queue = none ∧ t.pod = false ∧ t.take = 0) ∧
    (∀ a ∈ [(ctrGet sQueue (R_SCH_Q_RPL_BASE 31)).toNat + qRplTail sQueue 31 % qDepth sQueue 31 * 32], qDepth sQueue 31 ≠ 0 ∧
      homeUp sQueue (qSchist sQueue 31) a = true ∧ plainB sQueue a 32 = true ∧ qSession sQueue 31 = none) ∧
    1 ≤ 1 ∧ (63 : Nat) < 64 := by decide +kernel
/-- A replay log that runs. -/
def sReplay : State := st [(R_SCH_RPL_STATUS, F_SCH_RPL_STATUS_RUNNING, 1)]
theorem meets_HealthAndReplay :
    servingB s0 = true ∧ ((23#8).toNat < 32 ∧ (1000#16).toNat ≤ 1000 ∧ bitOf (23#8).toNat 3 = false ∧ bitOf (23#8).toNat 2 = true ∧
      fp32NonFinite 0x7F7FFFFF#32 = false) ∧ (3#8).toNat ≤ 3 ∧ rplRunning s0 = false ∧ rplRegionOk 0 64 = true ∧
    (servingB sReplay = true ∧ rplRunning sReplay = true) := by decide +kernel
theorem meets_RegistersAndCounters :
    (4 % 4 = 0 ∧ 0x4000000 - 4 < 0x4000000 ∧ dieRunning s0 15 = true) ∧ 0x4000000 ≤ 0x4000000 ∧
    dieRunning (st [(R_SCH_DIE_STATE 0, F_SCH_DIE_STATE_STATE, 1)]) 0 = false ∧
    regRow 15 0x3FFFFFC = none ∧ dieKind 4 = .shale ∧ dieKind 63 ≠ .shale := by
  refine ⟨by decide +kernel, by decide, by decide +kernel, by decide +kernel, by decide, by decide⟩
/-- A register of each access code, with the half that an offset names. -/
theorem meets_accessCodes :
    (∀ e ∈ [(0x7008, Acc.rw), (0x6004, .w1c), (0x7000, .ro), (0x542C, .wo)], (regRow 15 e.1).map (fun x => (x.1.acc, x.1.wide, x.2)) = some (e.2, false, false)) ∧
    (0#32).toNat % 4 = 0 ∧
    (regRow 15 0x5410).map (fun x => (x.1.acc, x.1.wide, x.2)) = some (.ctr, true, false) ∧
    (regRow 15 0x5414).map (fun x => (x.1.acc, x.1.wide, x.2)) = some (.ctr, true, true) := by decide +kernel
theorem meets_counterRows : (15, 0x542C, .cmdCounterClear) ∈ clearRows ∧ bitOf (1#32).toNat 0 = true ∧ dieRunning s0 15 = true :=
  ⟨by simp [clearRows], by decide, by decide +kernel⟩
theorem meets_queueBases : dieKind 15 = .schist ∧ dieRunning s0 15 = true ∧ ((31 : Fin 64).val < 32 ∧ qFld s0 31 F_SCH_Q_CFG_ENABLE = 0 ∧ qFld s0 31 F_SCH_Q_CFG_DRAINING = 0) ∧
    qFld sQueue 31 F_SCH_Q_CFG_ENABLE = 1 := by decide +kernel
/-- A hold with one pod packet that waits. -/
def sHold : State := { st [(R_SCH_HOLD, F_SCH_HOLD_HELD, 1)] with cmds := { s0.cmds with unsent := [⟨0, [], ⟨[], 0, 0⟩, 0⟩] } }
theorem meets_HoldAndNeighbours :
    bitOf (0xFFFFFFFE#32).toNat 0 = false ∧ (bitOf (1#32).toNat 0 = true ∧ held sHold = true ∧ sHold.cmds.unsent ≠ [] ∧ ({ sHold with cmds := s0.cmds } : State).cmds.unsent = []) ∧
    (∀ s ∈ [ctrSet s0 R_SCH_MAC_BASE 0x123456789A00#64], ∀ k ∈ [0, 1], (mgmtSchist s k).isSome = true ∧
      (0xFE800000000000001034#128 <<< 48 ||| 0x56FFFE789A30#128 + BitVec.ofNat 128 k).toNat ∈ mgmtAddrs s k ∧ (0#128).toNat ∉ mgmtAddrs s k) ∧
    (mgmtSchist (st [(R_SCH_DIE_STATE 15, F_SCH_DIE_STATE_STATE, 1), (R_SCH_DIE_STATE 31, F_SCH_DIE_STATE_STATE, 1)]) 0).isSome = false := by decide +kernel
/-- Host key 1 in slot 0, session 0 with identifier 9, key 2 and queues 32 and 33, in a state. -/
def sSes (state : Nat) : State :=
  let s := stOn (regSet s0 (R_SCH_SES_ID 0) 9#32) [(R_SCH_SES_STATE 0, F_SCH_SES_STATE_STATE, state), (R_SCH_SES_STATE 0, F_SCH_SES_STATE_QUEUES, 2),
    (R_SCH_SES_STATE 0, F_SCH_SES_STATE_FIRST_QUEUE, 32), (R_SCH_Q_CFG 32, F_SCH_Q_CFG_SESSION_OWNED, 1), (R_SCH_Q_CFG 33, F_SCH_Q_CFG_SESSION_OWNED, 1),
    (R_SCH_Q_RPL_IDX 32, F_SCH_Q_RPL_IDX_RPL_TAIL, 3)]
  { s with ses := [(0, ⟨[2#8], 5, [5], 0, 0, 2000, [], false⟩)], fw := { s.fw with keys := [(0, [1#8])] } }
/-- An OPEN_REQ's or RESUME_REQ's body. -/
def askBody (slot policy queues x : Nat) : List Byte := leBytes 1 slot ++ leBytes 1 policy ++ leBytes 1 queues ++ leBytes 1 0 ++ leBytes 4 x ++ leBytes 32 3
theorem meets_openReq : ∀ lease ∈ [100, 60000, 0],
    (mgmtSchist (sSes 1) 1).isSome = true ∧ (∀ b ∈ [askBody 0 1 8 lease], b.length = 40 ∧ hostKey (sSes 1) (fieldLE b 0 1) = some [1#8] ∧
      fieldLE b 1 1 ≤ 1 ∧ 1 ≤ fieldLE b 2 1 ∧ fieldLE b 2 1 ≤ 8 ∧
      leaseOk (leaseOf (fieldLE b 4 4)) = true ∧ sesCount (sSes 1) 0 ≠ 0 ∧ (freeQueues (sSes 1) (fieldLE b 2 1)).isSome = true) := by
  decide +kernel
/-- A message under a key: its form, its fields and its TAG, whatever its key. -/
theorem meets_messages (k b : List Byte) (ty sid c q : Nat) (hb : b.length ≤ 1280) (ht : ty < 256) (hs : sid < 2 ^ 32) (hc : c < 2 ^ 64) :
    msgForm (msgBytes k ty sid c q b) = true ∧ msgType (msgBytes k ty sid c q b) = ty ∧ msgSession (msgBytes k ty sid c q b) = sid ∧
    msgCounter (msgBytes k ty sid c q b) = c ∧ msgBody (msgBytes k ty sid c q b) = b ∧ msgTagOk k (msgBytes k ty sid c q b) = true :=
  ⟨msgForm_msgBytes k ty sid c q b hb, msgType_msgBytes k ty sid c q b ht, msgSession_msgBytes k ty sid c q b hs,
    msgCounter_msgBytes k ty sid c q b hc, msgBody_msgBytes k ty sid c q b (by omega), msgTagOk_msgBytes k ty sid c q b (by omega)⟩
theorem meets_openReq_refused :
    sesCount ((List.range 8).foldl (fun s i => setFld s (R_SCH_SES_STATE i) F_SCH_SES_STATE_STATE 1) s0) 0 = 0 ∧
    freeQueues ((List.range 32).foldl (fun s q => setFld s (R_SCH_Q_CFG (32 + q)) F_SCH_Q_CFG_SESSION_OWNED 1) s0) 1 = none ∧
    fieldLE (askBody 0 2 1 100) 1 1 = 2 ∧ fieldLE (askBody 0 0 0 100) 2 1 = 0 ∧ fieldLE (askBody 0 0 9 100) 2 1 = 9 ∧
    leaseOk (leaseOf (fieldLE (askBody 0 0 1 99) 4 4)) = false ∧ leaseOk (leaseOf (fieldLE (askBody 0 0 1 60001) 4 4)) = false := by decide +kernel
theorem meets_resumeReq : (askBody 0 0 0 9).length = 40 ∧ fieldLE (askBody 0 0 0 9) 4 4 = 9 ∧ hostKey (sSes 2) (fieldLE (askBody 0 0 0 9) 0 1) = some [1#8] ∧
    sesFind (sSes 2) 9 = some 0 ∧ sesState (sSes 2) 0 = 2 ∧ fld (sSes 2) (R_SCH_SES_STATE 0) F_SCH_SES_STATE_KEY_SLOT = fieldLE (askBody 0 0 0 9) 0 1 ∧
    counterOk (sesGet (sSes 2) 0) 6 = true ∧
    sesFind { s0 with fw := (sSes 2).fw } 9 = none ∧ hostKey { s0 with fw := (sSes 2).fw } 0 = some [1#8] := by decide +kernel
/-- A half-open session. -/
def half0 (sid : Nat) (resume : Bool) : HalfOpen := ⟨sid, 0, resume, 0, 8, 2000, leBytes 32 3, leBytes 32 4, 0⟩
theorem meets_openConfirm : ∀ h ∈ [half0 9 true, half0 8 false],
    (mgmtSchist (sSes 2) 0).isSome = true ∧ ([half0 9 true, half0 8 false].find? fun x => x.sid == h.sid) = some h ∧ hostKey (sSes 2) h.slot = some [1#8] ∧
    (List.range 8).find? (fun k => sesState (sSes 2) k == 0) = some 1 ∧ freeQueues (sSes 2) h.queues = some 2 ∧
    (sesFind (sSes 2) 9 = some 0 ∧ sesState (sSes 2) 0 = 2 ∧ (sSes 2).cmds.unsent = []) := by decide +kernel
/-- A message of session 9 with counter 6. -/
def msg9 (ty q : Nat) (body : List Byte) : List Byte := msgBytes [2#8] ty 9 6 q body
theorem accepted_of {p ty q : Nat} {b : List Byte} (ht : ty < 256) (hb : b.length ≤ 1280) (hp : (mgmtSchist (sSes 1) p).isSome = true) :
    Accepted (sSes 1) p ty (msg9 ty q b) 0 := by
  have hs : msgSession (msg9 ty q b) = 9 := msgSession_msgBytes _ _ _ _ _ _ (by decide)
  have hc : msgCounter (msg9 ty q b) = 6 := msgCounter_msgBytes _ _ _ _ _ _ (by decide)
  refine ⟨hp, ?_, msgType_msgBytes _ _ _ _ _ _ ht, ?_, msgForm_msgBytes _ _ _ _ _ _ hb, ?_, ?_, by decide +kernel⟩
  · simp [msg9]; omega
  · rw [hs]; decide +kernel
  · exact msgTagOk_msgBytes _ _ _ _ _ _ (by omega)
  · rw [hc]; decide +kernel
theorem meets_SessionMessages : Accepted (sSes 1) 0 0x30 (msg9 0x30 0 []) 0 ∧ Accepted (sSes 1) 1 0x10 (msg9 0x10 33 (List.replicate 64 0#8)) 0 ∧
    Accepted (sSes 1) 0 0x13 (msg9 0x13 32 (leBytes 2 3)) 0 ∧ Accepted (sSes 1) 0 0x31 (msg9 0x31 0 []) 0 :=
  ⟨accepted_of (by decide) (by decide) (by decide +kernel), accepted_of (by decide) (by simp) (by decide +kernel),
    accepted_of (by decide) (by decide) (by decide +kernel), accepted_of (by decide) (by decide) (by decide +kernel)⟩
theorem meets_SessionMessages_more :
    (33 ∈ sesQueues (sSes 1) 0 ∧ (List.replicate 64 0#8).length = 64 ∧ tabFind (sSes 1).cmds.nextSeq 33 = none ∧
      idxDiff ((qTail (sSes 1) 33 + 1) % 65536) (qHead (sSes 1) 33) ≤ 256) ∧
    (32 ∈ sesQueues (sSes 1) 0 ∧ fieldLE (leBytes 2 3) 0 2 = 3 ∧
      idxDiff 3 (qRplHead (sSes 1) 32) ≤ idxDiff (qRplTail (sSes 1) 32) (qRplHead (sSes 1) 32)) ∧
    idxDiff (qRplTail (sSes 1) 32) (qRplHead (sSes 1) 32) < idxDiff 4 (qRplHead (sSes 1) 32) ∧
    (∀ q ∈ sesQueues (sSes 1) 0, qOwes (sSes 1) q = false) ∧
    (∃ q ∈ sesQueues (sSes 1) 0, qOwes (waiting (sSes 1) [{ tk 0 0 .upd with src := ⟨32, 0#32⟩ }]) q = true) ∧
    (sesState (sSes 1) 0 = 1 ∧ (mgmtSchist (sSes 1) (sesGet (sSes 1) 0).port).isSome = true) ∧ sesState s0 0 ≠ 1 := by decide +kernel
/-- The body of a DATA_WR of n bytes to LPDDR6. -/
def wrBody (a n : Nat) : List Byte := leBytes 8 a ++ List.replicate n 0xAA#8
theorem meets_SessionData :
    (safeMode (sSes 1) = false ∧ memAsleep (sSes 1) = false) ∧ Accepted (sSes 1) 0 0x20 (msg9 0x20 0 (wrBody 0 64)) 0 ∧
    Accepted (sSes 1) 0 0x20 (msg9 0x20 0 (wrBody 0 1024)) 0 ∧ Plain (sSes 1) 0 64 ∧ homeUp (sSes 1) 15 0 = true ∧
    Accepted (sSes 1) 0 0x22 (msg9 0x22 0 (leBytes 8 0 ++ leBytes 2 64)) 0 ∧
    Accepted (sSes 1) 0 0x22 (msg9 0x22 0 (leBytes 8 (regAt 15 0x9100) ++ leBytes 2 256)) 0 :=
  ⟨by decide +kernel, accepted_of (by decide) (by simp only [wrBody, List.length_append, length_leBytes, List.length_replicate]; decide) (by decide +kernel), accepted_of (by decide) (by simp only [wrBody, List.length_append, length_leBytes, List.length_replicate]; decide) (by decide +kernel),
    plain_of (by decide +kernel), by decide +kernel, accepted_of (by decide) (by simp) (by decide +kernel), accepted_of (by decide) (by simp) (by decide +kernel)⟩
theorem meets_SessionData_more :
    dataRangeOk (sSes 1) 0 64 = true ∧ dataRangeOk (sSes 1) 0 1024 = true ∧ dataRangeOk (sSes 1) 0 1088 = false ∧ dataRangeOk (sSes 1) 1 64 = false ∧
    (mgmtSchist (sSes 1) 0).getD 15 = 15 ∧ windowDie (sSes 1) 0 64 = none ∧ windowDie (sSes 1) (regAt 15 0x9100) 256 = some 15 ∧ regAt 15 0x9100 % 64 = 0 := by
  decide +kernel
theorem meets_SessionCommands :
    servingB (sSes 1) = true ∧ leaseOk 100 = true ∧ leaseOk 60000 = true ∧ (1#8).toNat ≤ 1 ∧ sesFind (sSes 1) (9#32).toNat = some 0 ∧
    leaseOk 99 = false ∧ 1 < (2#8).toNat ∧ sesFind (sSes 1) (10#32).toNat = none ∧ (sSes 1).cmds.unsent = [] := by decide +kernel
theorem meets_PacketsSpellCommands : (List.replicate 8 0#32).length = 8 ∧ (List.replicate 32 0#8).length = 32 := by decide
/-- Local queue 4, enabled, with a packet at HEAD. -/
def sPkt : State := st [(R_SCH_Q_CFG 4, F_SCH_Q_CFG_ENABLE, 1), (R_SCH_Q_CFG 4, F_SCH_Q_CFG_DEPTH_LOG2, 4), (R_SCH_Q_IDX 4, F_SCH_Q_IDX_TAIL, 1)]
theorem meets_PacketsTaken :
    dieRunning sPkt (schDie 0) = true ∧ flag sPkt R_SCH_RST_STATUS F_SCH_RST_STATUS_READY = true ∧ held sPkt = false ∧
    ((qOrder (upsets sPkt []) 0).find? fun q => qReady (upsets sPkt []) q && !(qFenced (upsets sPkt []) q)) = some 4 ∧
    plainB (upsets sPkt []) ((ctrGet sPkt (R_SCH_Q_CMD_BASE 4)).toNat + qHead sPkt 4 % qDepth sPkt 4 * 64) 64 = true ∧ held sHold = true ∧
    bitOf (fieldLE ([] : List Byte) 2 2) 0 = false ∧ dieRunning (st [(R_SCH_DIE_STATE 15, F_SCH_DIE_STATE_STATE, 1)]) (schDie 0) = false ∧
    packetCheck s0 0 (packetOf 0x0102 src0 []) = none ∧ (packetCheck s0 0 (packetOf 0xFFFF src0 [])).isSome = true := by decide +kernel
/-- A pod table of this module and another in memory at 0. -/
def sPodMem : State := { s0 with mem := memWrite s0.mem 0 (leBytes 8 7 ++ [0xFF#8] ++ leBytes 7 0 ++ leBytes 8 8 ++ leBytes 8 0) }
theorem meets_PodConfigured :
    servingB sPodMem = true ∧ inOneRange (0#64).toNat (16 * Nat.min 64 3) = true ∧ homeUp sPodMem (qSchist sPodMem 0) 0 = true ∧
    plainB sPodMem 0 48 = true ∧ (∀ k < 2, fieldLE (memRead sPodMem.mem (16 * k) 16) 0 8 = [7, 8].getD k 0 ∧ [7, 8].getD k 0 ≠ 0 ∧
      fieldLE (memRead sPodMem.mem (16 * k) 16) 8 1 = [255, 0].getD k 0) ∧ fieldLE (memRead sPodMem.mem 32 16) 0 8 = 0 ∧
    ([(7, 255), (8, 0)].findIdx? fun e => e.1 == moduleId sPodMem) = some 0 ∧ podTableOk [(7, 255), (8, 0)] = true ∧
    20 * (podMaxDepth [(7, 255), (8, 0)] + 1) ≤ (regGet sPodMem R_SCH_POD_TIMEOUT).toNat ∧ podTableOk [(7, 0), (8, 0)] = false ∧
    ([(9, 255)].findIdx? fun e => e.1 == moduleId sPodMem) = none := by decide +kernel
/-- A member of a pod whose parent is the module at port 0 and whose child is at port 47. -/
def sPod : State :=
  let s := stOn (ctrSet (ctrSet s0 (R_FLD_PORT_PEER_ID (portDie 0) (portLoc 0)) 1#64) (R_FLD_PORT_PEER_ID (portDie 47) (portLoc 47)) 3#64)
    [(R_FLD_PORT_STATUS (portDie 0) (portLoc 0), F_FLD_PORT_STATUS_STATE, 4), (R_FLD_PORT_STATUS (portDie 0) (portLoc 0), F_FLD_PORT_STATUS_ACT_MODE, 1),
     (R_FLD_PORT_STATUS (portDie 47) (portLoc 47), F_FLD_PORT_STATUS_STATE, 4), (R_FLD_PORT_STATUS (portDie 47) (portLoc 47), F_FLD_PORT_STATUS_ACT_MODE, 1),
     (R_SCH_CMD_CTRL, F_SCH_CMD_CTRL_CNT_EN, 1)]
  { s with pod := some ⟨[(1, 255), (7, 0), (3, 1)], 1, 1⟩ }
/-- A pod packet on its way, of the root or not. -/
def podCmd0 (root : Option Taken) : PodCmd := ⟨5, ⟨[(1, 255), (7, 0), (3, 1)], 1, 1⟩, root, none, [], 100⟩
theorem meets_PodFrames :
    (∀ p ∈ sPod.pod, p.me ≠ 0 ∧ portYoger sPod 0 = true ∧ portPeer sPod 0 = (p.entries.getD (p.entries.getD p.me (0, 0)).2 (0, 0)).1 ∧
      sPod.cmds.relay.length < 256 ∧ (sPod.podCmds.find? fun c => c.id == sPod.nextId) = none) ∧ s0.pod = none ∧
    (∀ s ∈ [{ sPod with podCmds := [podCmd0 none] }], (s.podCmds.find? fun x => x.id == 5) = some (podCmd0 none) ∧ (podCmd0 none).own = none ∧
      2 ∈ podChildren (podCmd0 none).pod ∧ portYoger s 47 = true ∧ portPeer s 47 = ((podCmd0 none).pod.entries.getD 2 (0, 0)).1 ∧
      tabFind (podCmd0 none).reps 2 = none ∧ (podPort s (podCmd0 none).pod ((podCmd0 none).pod.entries.getD (podCmd0 none).pod.me (0, 0)).2).isSome = true) ∧
    (sPod.podCmds.find? fun x => x.id == 5) = none ∧ flag sPod R_SCH_CMD_CTRL F_SCH_CMD_CTRL_CNT_EN = true ∧
    (podCmd0 (some (tk 5 0 .upd))).root = some (tk 5 0 .upd) := by decide +kernel
/-- Gabbro 15 with a loaded image of one section whose streams hold the final barrier alone. -/
def img0 : Image := ⟨1, 1, 0, List.replicate 12 16, [0xFFFFFFFF], [⟨List.replicate 9 [⟨1, 0, .barrier ⟨0, true⟩⟩], 0⟩], 0, 256⟩
/-- A run of Gabbro 15 that waits. -/
def run0 : Run := ⟨3, src0, [], 0x8000, 0, 1, 2, 0, 0, [(15, .waiting)]⟩
/-- A window. -/
def win0 : Window := ⟨3, 2, 0, List.replicate 9 [], List.replicate 9 [⟨1, 0, .barrier ⟨0, true⟩⟩], [], [], [], none, false, false, none, 0, 0⟩
/-- A block with the image loaded. -/
def sImg : State := { s0 with scheds := [(15, ⟨some img0, none⟩)] }
/-- And the run accepted. -/
def sRun : State := { sImg with runs := [run0] }
/-- And its window open. -/
def sWin : State := { sImg with scheds := [(15, ⟨some img0, some win0⟩)] }
theorem meets_RecipesSet :
    servingB s0 = true ∧ (∀ k ∈ setBits 8 255, rcpValid k ((List.replicate 8 (8#32)).getD k 0) = true) ∧ s0.runs = [] ∧ anyWindow s0 = false ∧
    s0.rcp.staged = [] ∧ sRun.runs ≠ [] ∧ servingB sRun = true ∧ (0#8).toNat = 0 ∧
    (∃ k ∈ setBits 8 1, rcpValid k ((List.replicate 8 (0xFFFFFFFF#32)).getD k 0) = false) := by decide +kernel
/-- A step that waits. -/
def sStep (m n : Nat) (failed : Bool) : State := { waiting s0 [tk 0 0x0204 (.step m n [])] with stepFailed := failed }
theorem meets_StepsAdvance :
    (List.range 16).any (winOrPending sWin) = true ∧ servingB sWin = true ∧ ((List.range 16).any (winOrPending s0) = false ∧ stepReady s0 [] = true) ∧
    (s0.cmds.taken.find? fun t => t.wait.isStep) = none ∧
    (∀ e ∈ [(0, 1, false), (0, 2, false), (0, 1, true), (1, 0, false)], ((sStep e.1 e.2.1 e.2.2).cmds.taken.find? fun t => t.wait.isStep) =
      some (tk 0 0x0204 (.step e.1 e.2.1 [])) ∧ stepReady (sStep e.1 e.2.1 e.2.2) [] = true) ∧ (s0.step + 1).toNat = 1 ∧
    stepReady { sStep 0 1 false with scheds := sWin.scheds } [] = false := by decide +kernel
theorem meets_SchedulesLoaded :
    winOrPending sImg 15 = false ∧ winOrPending sRun 15 = true ∧ servingB sRun = true ∧
    (setBits 16 (0x8000#16).toNat = [15] ∧ (schedGet sImg 15).image = some img0 ∧ (0#8).toNat < img0.sections ∧ (classOf img0 1).isSome = true ∧
      runsPending sImg 15 < 16) ∧ (0x8000#16).toNat ≠ 0 ∧ (0#16).toNat = 0 := by decide +kernel
/-- A run that runs frame 7 of Gabbro 15, which is not STARTED. -/
def img1 : Image := { img0 with variants := [⟨(List.replicate 9 [⟨1, 0, .barrier ⟨0, true⟩⟩]).set 7 [⟨1, 0, .gap ⟨false, 1⟩⟩, ⟨1, 0, .barrier ⟨0, true⟩⟩], 0⟩] }
/-- The smallest image for Gabbro 15, built by 06:R138-R140 and R145: a header, one variant, one stream of one FINAL barrier. -/
def imgBytes : List Byte :=
  leBytes 4 0x53544E44 ++ leBytes 2 1 ++ leBytes 1 (fld s0 (R_DIE_ID 15) F_DIE_ID_FLOOR) ++ leBytes 1 (gabDie 15) ++ leBytes 1 1 ++ leBytes 1 1 ++
    leBytes 2 0 ++ leBytes 4 352 ++ leBytes 4 256 ++ List.replicate 12 1#8 ++ leBytes 4 0xFFFFFFFF ++ List.replicate 220 0#8 ++
    (List.replicate 9 (leBytes 4 336 ++ leBytes 4 16)).flatten ++ leBytes 4 0 ++ leBytes 4 0 ++
    leBytes 1 0x1F ++ leBytes 1 1 ++ leBytes 2 256 ++ leBytes 4 0 ++ leBytes 8 0
/-- The image in memory at the start of Shale 15. -/
def sLoad : State := { st [(R_SHL_RGN (shlDie 15) 0, F_SHL_RGN_TYPE, 2), (R_SCH_RPL_STATUS, F_SCH_RPL_STATUS_RUNNING, 0)] with mem := memWrite s0.mem (shaleBase 15) imgBytes }
/-- And a window open on Gabbro 15. -/
def sLoadWin : State := { sLoad with scheds := [(15, ⟨some img0, some win0⟩)] }
theorem sLoad_reads : memRead sLoad.mem (shaleBase 15) 352 = imgBytes := by decide +kernel
theorem sLoad_parses : (parseImage (begun sLoad) 15 (shaleBase 15) imgBytes).isSome = true ∧ (parseImage (begun sLoadWin) 15 (shaleBase 15) imgBytes).isSome = true ∧
    (∀ m < 12, shareSum sLoad 15 m + 1 ≤ 16) ∧ (∀ m < 12, shareSum sLoadWin 15 m + 1 ≤ 16) := by decide +kernel
theorem sLoad_plain : Plain sLoad (shaleBase 15) 352 := plain_of (by decide +kernel)
theorem meets_schLoad :
    ownRange 15 (shaleBase 15) 352 = true ∧ regionBelow 0 (shaleBase 15) = .shale 15 ∧ servingB sLoad = true ∧ servingB sLoadWin = true ∧
    cmdReach (begun sLoad) (takenAs 0x0201 src0 [] sLoad) (shaleBase 15) 352 = true ∧
    cmdReach (begun sLoadWin) (takenAs 0x0201 src0 [] sLoadWin) (shaleBase 15) 352 = true ∧
    winOrPending sLoad 15 = false ∧ winOrPending sLoadWin 15 = true ∧
    parseImage (begun s0) 15 (shaleBase 15) (memRead s0.mem (shaleBase 15) 1) = none ∧ plainB s0 (shaleBase 15) 1 = true := by decide +kernel
theorem meets_WindowsOpen :
    (∀ x ∈ [run0], (sRun.runs.find? fun r => r.mask == 0x8000 && (setBits 16 0x8000).all fun g => runReady sRun r g) = some x) ∧
    (∀ g ∈ setBits 16 0x8000, (schedGet sRun g).image ≠ none) ∧ rplRunning sRun = false ∧
    (sRun.runs.find? fun r => r.mask == 0x4000 && (setBits 16 0x4000).all fun g => runReady sRun r g) = none ∧
    (∀ s ∈ [{ s0 with scheds := [(15, ⟨some img1, none⟩)], runs := [run0] }], runHead s 15 = some run0 ∧ (s.runs.find? fun x => x.id == run0.id) = some run0 ∧
      stepHolds s run0 = false ∧ runNeeds s run0 15 7 = true ∧ frameStartedNow s 15 7 = false ∧
      flag s (R_GAB_FRM_STATUS (gabDie 15) 7) F_GAB_FRM_STATUS_START_PENDING = false) ∧ runHead s0 15 = none := by decide +kernel
/-- Frame 7 of Gabbro 15 with its status. -/
def sFrm (l : List (Fld × Nat)) : State := st (l.map fun e => (R_GAB_FRM_STATUS (gabDie 15) 7, e.1, e.2))
theorem meets_FramesStartAndStop :
    flag (sFrm []) (R_GAB_FRM_STATUS (gabDie 15) 7) F_GAB_FRM_STATUS_STARTED = false ∧
    flag (sFrm [(F_GAB_FRM_STATUS_STARTED, 1)]) (R_GAB_FRM_STATUS (gabDie 15) 7) F_GAB_FRM_STATUS_STARTED = true ∧
    (∀ s ∈ [sFrm [(F_GAB_FRM_STATUS_START_PENDING, 1)]], flag s (R_GAB_FRM_STATUS (gabDie 15) 7) F_GAB_FRM_STATUS_START_PENDING = true ∧ startTurn s 15 7 = true) ∧
    (∀ s ∈ [sFrm [(F_GAB_FRM_STATUS_STARTED, 1), (F_GAB_FRM_STATUS_STOP_PENDING, 1)]], flag s (R_GAB_FRM_STATUS (gabDie 15) 7) F_GAB_FRM_STATUS_STOP_PENDING = true ∧
      inFlight (frameGet s 15 7) = false ∧ (frameGet s 15 7).issue = .idle ∧ frameNeeded s 15 7 = false) ∧
    flag (sFrm []) (R_GAB_FRM_STATUS (gabDie 15) 7) F_GAB_FRM_STATUS_STOP_PENDING = false ∧
    (servingB (sFrm []) = true ∧ winOrPending (sFrm []) 15 = false ∧ dieRunning (sFrm []) (gabDie 15) = true ∧ (0x80#8).toNat ≠ 0) ∧
    (servingB sWin = true ∧ winOrPending sWin 15 = true) := by decide +kernel
/-- What a boot finds, with a reference or without. -/
def report (r : Bool) : BootReport := ⟨[], [], [], [], [], [], r, false⟩
theorem meets_ResetsAndBoots :
    (report true).reference = true ∧ (report false).reference = false ∧
    (∀ k ∈ [0, 1], ∀ s ∈ [({ s0 with pwr := { s0.pwr with supply := .held, waiting := some (k, report false) } } : State)], s.pwr.waiting = some (k, report false) ∧
      s.pwr.supply ≠ .on ∧ s.pwr.supply ≠ .off) ∧ ({ s0 with pwr := { s0.pwr with supply := .off } } : State).pwr.supply = .off ∧
    servingB s0 = true ∧ s0.pwr.supply = .on ∧ ({ s0 with pwr := { s0.pwr with supply := .held } } : State).pwr.supply ≠ .off ∧
    (∀ s ∈ [waiting s0 [tk 0 0x0130 (.warm [])]], (s.cmds.taken.find? fun t => t.wait.isStep) = some (tk 0 0x0130 (.warm [])) ∧
      stepReady s [] = true ∧ changing s = false) ∧ (s0.cmds.taken.find? fun t => t.wait.isStep) = none ∧
    (tripMet (.die 63 1840 0) = true ∧ tripMet (.die 4 1680 0) = true ∧ tripMet (.die 0 0 1680) = true ∧ tripMet (.inlet 960) = true ∧ tripMet (.flow 149) = true) ∧
    (tripMet (.die 63 1839 1680) = false ∧ tripMet (.inlet 959) = false ∧ tripMet (.flow 150) = false) := by decide +kernel
/-- A DEV_STATE_SET that waits for a state, its exit noted or not. -/
def sState (n : Nat) (back : Bool) : State := waiting s0 [tk 0 0x0132 (.state n back)]
theorem meets_PowerStates :
    safeMode s0 = false ∧ (3#8).toNat ≤ 3 ∧ 3 < (4#8).toNat ∧ flag (st [(R_SCH_RST_STATUS, F_SCH_RST_STATUS_CHANGING, 1)]) R_SCH_RST_STATUS F_SCH_RST_STATUS_CHANGING = true ∧
    (flag s0 R_SCH_RST_STATUS F_SCH_RST_STATUS_CHANGING = false ∧ stateEntry s0 = none ∧ pwState s0 = 0) ∧
    (∀ e ∈ [(0, false), (3, false), (2, true)], flag (sState e.1 e.2) R_SCH_RST_STATUS F_SCH_RST_STATUS_CHANGING = false ∧ pwState (sState e.1 e.2) < 2 ∧
      stateEntry (sState e.1 e.2) = some (tk 0 0x0132 (.state e.1 e.2))) ∧
    (∀ s ∈ [st [(R_SCH_RST_STATUS, F_SCH_RST_STATUS_STATE, 2)], st [(R_SCH_RST_STATUS, F_SCH_RST_STATUS_STATE, 3)]], stateEntry s = none ∧ 2 ≤ pwState s) := by
  decide +kernel
/-- Die 63 in a state. -/
def sDie (n : Nat) : State := st [(R_SCH_DIE_STATE 63, F_SCH_DIE_STATE_STATE, n)]
theorem meets_DiesFenced :
    (∀ n ∈ [0, 3, 1, 2], ∀ s ∈ [st [(R_SCH_DIE_STATE 0, F_SCH_DIE_STATE_STATE, n)]], dieKind 4 = .shale ∧ dieState s (4 - 4) = n ∧ servingB s = true) ∧
    (dieKind 63 ≠ .shale ∧ dieKind 0 = .gabbro ∧ dieState (sDie 0) 63 = 0 ∧ dieState (sDie 3) 63 = 3) ∧ (dieState (sDie 1) 63 = 1 ∧ dieState (sDie 2) 63 = 2) ∧
    (servingB (sDie 0) = true ∧ lastSchist (sDie 0) 63 = false ∧ lastSchist (sDie 0) 15 = false ∧ qSchist (sDie 0) 0 = 15) ∧
    (∀ s ∈ [st [(R_SCH_DIE_STATE 31, F_SCH_DIE_STATE_STATE, 1), (R_SCH_DIE_STATE 47, F_SCH_DIE_STATE_STATE, 1), (R_SCH_DIE_STATE 63, F_SCH_DIE_STATE_STATE, 1)]],
      lastSchist s 15 = true) ∧
    (∀ s ∈ [waiting (sDie 3) [tk 0 0x0121 (.rejoin 63)]], (s.cmds.taken.find? fun t => t.wait == .rejoin 63) = some (tk 0 0x0121 (.rejoin 63)) ∧
      (∀ y < 64, y ∉ fencePair 63 → dieState s y = 0) ∧
      ((List.range 64).all fun y => (List.range 16).all fun q => !(seamExists y q) || y == 63 || (seamEnd y q).1 == 63 || seamState s y q != 3) = true) ∧
    (s0.cmds.taken.find? fun t => t.wait == .rejoin 63) = none := by decide +kernel
/-- A window of Gabbro 15 whose stream `i` begins with a descriptor, frame 7's slots and its frame given, every recipe FP32. -/
def sHead (i : Nat) (b : DescBody) (h e : Nat) (x : Frame) : State :=
  let w := { win0 with streams := (List.replicate 9 [⟨1, 0, .barrier ⟨0, true⟩⟩]).set i [⟨1, 0, b⟩, ⟨1, 0, .barrier ⟨0, true⟩⟩] }
  { st [(R_GAB_FRM_STATUS (gabDie 15) 7, F_GAB_FRM_STATUS_STARTED, 1), (R_GAB_FRM_STATUS (gabDie 15) 7, F_GAB_FRM_STATUS_HEAVEN_STATE, h), (R_GAB_FRM_STATUS (gabDie 15) 7, F_GAB_FRM_STATUS_EARTH_STATE, e),
      (R_GAB_FRM_SLOT_H (gabDie 15) 7, F_GAB_FRM_SLOT_FMT, 7)] with
    scheds := [(15, ⟨some img0, some w⟩)], frames := [(15 * 8 + 7, x)], rcp := { s0.rcp with words := List.replicate 8 8#32 } }
theorem head_of {s : State} {g i : Nat} {b : DescBody} (h : streamHead s g i = some ⟨1, 0, b⟩) : HeadIs s g i b := ⟨1, 0, h⟩
theorem due_of {s : State} {g i : Nat} {b : DescBody} (h : dueHead s g i = some ⟨1, 0, b⟩) : DueIs s g i b := ⟨1, 0, h⟩
theorem tagsClean_of {s : State} (h : s.tags = []) : TagsClean s := fun row => by rw [tagGet, h]; rfl
/-- A LOAD, by slot and format. -/
def load0 (slot fmt : Nat) : LoadDesc := ⟨slot, fmt, false, 0, false, frameBase 15 7, 0, 2 ^ 256 - 1, 2 ^ 255⟩
/-- A PASS. -/
def pass0 (fmt : Nat) : PassDesc := ⟨0, fmt, 0, false, false, false, false, frameBase 15 7, 0, 512, 4095, 0xC0⟩
/-- Frame 7 before a LOAD of slot 0 or 1, its slots' states given. -/
def sLoadD (slot fmt h e : Nat) : State := sHead 7 (.load (load0 slot fmt)) h e .empty
theorem meets_FrameLoads :
    (HeadIs (sLoadD 1 7 0 2) 15 7 (.load (load0 1 7)) ∧ HeadIs (sLoadD 1 0 0 2) 15 7 (.load (load0 1 0)) ∧ DueIs (sLoadD 0 7 1 0) 15 7 (.load (load0 0 7))) ∧
    (loadFaulty (load0 1 7) = false ∧ loadFaulty (load0 1 0) = true) ∧
    (7 ∈ groupFrames (sLoadD 0 7 1 0) 15 ∧ (winGet (sLoadD 0 7 1 0) 15).bind (·.stop) = none ∧ slotState (sLoadD 0 7 1 0) 15 7 0 = 1) ∧
    (((indexed (frameGet (sHead 7 (.gap ⟨false, 1⟩) 1 0 { Frame.empty with loads := [⟨load0 0 7, 0, false, .empty⟩], age := 256 }) 15 7).loads).find?
        fun l => !l.2.held && decide (l.2.start + 256 ≤ 256)) = some (0, ⟨load0 0 7, 0, false, .empty⟩)) ∧
    (frameGet s0 15 7).loads = [] ∧ (frameGet (sLoadD 1 7 0 2) 15 7).ahead = [] := by
  refine ⟨⟨head_of ?_, head_of ?_, due_of ?_⟩, ?_, ?_, ?_, ?_⟩ <;> decide +kernel
/-- A pass of one or two wavefronts, with the columns that have had the first. -/
def passRec (n : Nat) (tag : Nat) (done : List (Nat × Nat)) (vs : List Verdict) : PassRec :=
  ⟨⟨0, 7, 0, false, false, false, false, frameBase 15 7, 0, 512, n - 1, tag⟩, 7, 2 ^ 256 - 1, 2 ^ 256 - 2, 0, .empty, done, vs⟩
/-- Entry 63 of frame 7's beam, VALID with 32 rows, in a state, and a pass in the array. -/
def sBeam (state : Nat) (p : PassRec) : State :=
  { st [(R_GAB_BEAM_TILE_CFG (gabDie 15) 7 63, F_TILE_CFG_VALID, 1), (R_GAB_BEAM_TILE_CFG (gabDie 15) 7 63, F_TILE_CFG_ROWS_LOG2, 5),
      (R_GAB_BEAM_TILE_STATUS (gabDie 15) 7 63, F_TILE_STATUS_STATE, state)] with
    scheds := [(15, ⟨some img0, some win0⟩)], frames := [(15 * 8 + 7, { Frame.empty with passes := [p], age := 4000 })] }
/-- A load whose cycle L + 255 + 255 it is. -/
def fLast : Frame := { Frame.empty with loads := [⟨load0 0 7, 0, true, .empty⟩], age := 510 }
theorem meets_OperandFetch :
    s0.ecc = [] ∧ TagsClean s0 ∧
    (bitOf (load0 1 7).colMask 0 = false ∧ bitOf (load0 1 7).colMask 255 = true ∧ bitOf (load0 1 7).rowMask 0 = true ∧ lastRow 7 255 = true ∧ lastRow 4 31 = true) ∧
    (∀ x ∈ [frameGet { s0 with frames := [(127, fLast)] } 15 7], x.loads[0]? = some ⟨load0 0 7, 0, true, .empty⟩ ∧
      ([] : List Word).length ≤ wordsDue 1 0 510 32 255 ∧ wordsDue 1 0 510 32 255 = 256 ∧ wordsDue 1 0 0 32 31 = 2 ∧ wordsDue 1 0 0 32 33 = 0) ∧
    (∀ x ∈ [frameGet (sBeam 0 (passRec 2 0xFF [] [])) 15 7], x.passes[0]? = some (passRec 2 0xFF [] []) ∧ passFetched (passRec 2 0xFF [] []) = false) ∧
    (fLast.loads = [⟨load0 0 7, 0, true, .empty⟩] ∧ fLast.age = 0 + 255 + 255) := by
  refine ⟨by decide, tagsClean_of (by decide), ?_, ?_, ?_, ?_⟩ <;> decide +kernel
/-- Frame 7 before a PASS of slot 0 in a state. -/
def sPassD (h : Nat) (x : Frame) : State := sHead 7 (.pass (pass0 7)) h 0 x
/-- Frame 7 before a GAP. -/
def sGapD (i : Issue) : State := sHead 7 (.gap ⟨true, 63⟩) 3 0 { Frame.empty with issue := i }
theorem meets_FramePasses :
    (HeadIs (sPassD 2 .empty) 15 7 (.pass (pass0 7)) ∧ HeadIs (sPassD 0 .empty) 15 7 (.pass (pass0 7)) ∧ DueIs (sPassD 1 .empty) 15 7 (.pass (pass0 7)) ∧
      HeadIs (sPassD 2 { Frame.empty with issue := .gap 1 false }) 15 7 (.pass (pass0 7)) ∧ HeadIs (sGapD .idle) 15 7 (.gap ⟨true, 63⟩) ∧
      HeadIs (sGapD (.gap 1 false)) 15 7 (.gap ⟨true, 63⟩)) ∧
    ((frameGet (sPassD 2 .empty) 15 7).issue = .idle ∧ passFaulty (sPassD 2 .empty) 15 7 (pass0 7) = false ∧ passFaulty (sPassD 0 .empty) 15 7 (pass0 7) = true ∧
      (frameGet (sPassD 2 .empty) 15 7).ahead = []) ∧
    (7 ∈ groupFrames (sPassD 1 .empty) 15 ∧ (winGet (sPassD 1 .empty) 15).bind (·.stop) = none ∧ slotState (sPassD 1 .empty) 15 7 0 = 1) ∧
    ((frameGet (sGapD (.pass 0 0 2 false)) 15 7).issue = .pass 0 0 2 false ∧ (frameGet (sGapD .idle) 15 7).issue = .idle ∧
      (frameGet (sGapD (.gap 1 false)) 15 7).issue ≠ .idle) := by
  refine ⟨⟨head_of ?_, head_of ?_, due_of ?_, head_of ?_, head_of ?_, head_of ?_⟩,
    ?_, ?_, ?_⟩ <;> decide +kernel
/-- An OUTPUT of entry 63 by OUT_MODE. -/
def output0 (m : Nat) : OutputDesc := ⟨63, m, 0, 0, 0, 0, 0, 0, 0, 0, 0, 0, 0, 0, frameBase 15 7, 0, 1024, 0, 0, 0, 0, 0⟩
/-- Every entry of frame 7's beam FREE, written out. -/
def freeTiles (s : State) : State := { s with regs := s.regs ++ (List.range 64).map fun e => (R_GAB_BEAM_TILE_STATUS (gabDie 15) 7 e, 0#32) }
/-- A tile's configuration word. -/
def tileC (acc rows base : Nat) : Word :=
  fldSet (fldSet (fldSet (fldSet 0 F_TILE_CFG_VALID 1) F_TILE_CFG_ACC acc) F_TILE_CFG_ROWS_LOG2 rows) F_TILE_CFG_BASE_KIB base
/-- Frame 7 before a TILE, every entry FREE. -/
def sTileD (d : TileDesc) : State := freeTiles (sHead 7 (.tile d) 0 0 .empty)
/-- Frame 7 before an OUTPUT by OUT_MODE. -/
def sOutputD (m : Nat) : State := sHead 7 (.output (output0 m)) 0 0 .empty
theorem meets_TilesAndPrograms :
    (HeadIs (sTileD ⟨63, 0, 12, 0⟩) 15 7 (.tile ⟨63, 0, 12, 0⟩) ∧ HeadIs (sTileD ⟨0, 1, 5, 4032⟩) 15 7 (.tile ⟨0, 1, 5, 4032⟩) ∧
      HeadIs (sTileD ⟨0, 0, 4, 0⟩) 15 7 (.tile ⟨0, 0, 4, 0⟩) ∧ HeadIs (sOutputD 0) 15 7 (.output (output0 0)) ∧ HeadIs (sOutputD 3) 15 7 (.output (output0 3))) ∧
    (∀ d ∈ [(⟨63, 0, 12, 0⟩ : TileDesc), ⟨0, 1, 5, 4032⟩], tileState (sTileD d) 15 7 d.entry = 0 ∧ (cfgSpan (tileC d.acc d.rowsLog2 d.baseKib)).2 ≤ 4194304 ∧
      overlapsBusy (sTileD d) 15 7 d.entry (cfgSpan (tileC d.acc d.rowsLog2 d.baseKib)) = false) ∧
    (outputFaulty (sOutputD 0) 15 7 (output0 0) = false ∧ outputFaulty (sOutputD 3) 15 7 (output0 3) = true) := by
  refine ⟨⟨head_of ?_, head_of ?_, head_of ?_, head_of ?_, head_of ?_⟩, ?_, ?_⟩ <;> decide +kernel
theorem meets_BeamDeliveries :
    nextDelivery (frameGet s0 15 7) 0 = none ∧
    (∀ p ∈ [passRec 2 0xFF [] []], nextDelivery (frameGet (sBeam 0 p) 15 7) 0 = some (0, p, 0) ∧ verdict (sBeam 0 p) 15 7 p 0 = .taken ∧ (sBeam 0 p).ecc = []) ∧
    (∀ p ∈ [passRec 1 0xFF [] []], nextDelivery (frameGet (sBeam 2 p) 15 7) 0 = some (0, p, 0) ∧ verdict (sBeam 2 p) 15 7 p 0 = .refused) ∧
    (∀ p ∈ [passRec 33 0x3F [(0, 32)] (List.replicate 32 .taken)], nextDelivery (frameGet (sBeam 1 p) 15 7) 0 = some (0, p, 32) ∧ verdict (sBeam 1 p) 15 7 p 32 = .overrun) ∧
    (∀ p ∈ [passRec 1 0xFF [(254, 1)] [.taken]], nextDelivery (frameGet (sBeam 1 p) 15 7) 255 = some (0, p, 0) ∧ p.verdicts.getD 0 .refused = .taken ∧
      bitOf p.colMask 255 = true ∧ bitOf p.colMask 0 = false ∧ 0 + 1 = p.desc.w + 1) ∧
    (∀ c ∈ [(⟨9, frameBase 15 7, 0, false, false⟩ : Accum)], c.lost = false) := by decide +kernel
/-- A tile of 32 rows that waits to drain from age 9 on, or drains. -/
def drain0 (e : Nat) (started : Bool) (t : Nat) : Drain := ⟨e, 32, 9, started, none, [], [], t, [], []⟩
/-- Frame 7 of an age, with drains, and the OUTPUTs of entry 63. -/
def sDrain (age : Nat) (l : List Drain) (progs : List (OutputDesc × Nat)) : State :=
  sHead 7 (.gap ⟨false, 1⟩) 0 0 { Frame.empty with age := age, drains := l, progs := [(63, progs)], readEnd := age - 10 }
theorem meets_Drains :
    (∀ e ∈ [(8, []), (9, []), (600, [(output0 2, 0)]), (600, [(output0 0, 300), (output0 2, 0)])], ∀ s ∈ [sDrain e.1 [drain0 63 false 0] e.2],
      ((indexed (frameGet s 15 7).drains).find? fun x => !x.2.started) = some (0, drain0 63 false 0) ∧
      ((frameGet s 15 7).age < Nat.max 9 (frameGet s 15 7).readEnd ↔ e.1 = 8) ∧
      (((tabGet (frameGet s 15 7).progs 63 []).dropWhile fun x => decide (Nat.max 9 (frameGet s 15 7).readEnd < x.2 + 512)).head?.map Prod.fst =
        if e.1 = 600 then some (output0 2) else none) ∧
      ((∃ x ∈ (tabGet (frameGet s 15 7).progs 63 []).head?, Nat.max 9 (frameGet s 15 7).readEnd < x.2 + 512) ↔ e.2.length = 2)) ∧
    (∀ q ∈ (frameGet s0 15 7).drains, q.started = true) ∧
    (∀ s ∈ [sDrain 10 [drain0 63 true 0, drain0 0 true 1] []], ((indexed (frameGet s 15 7).drains).find? fun x => x.2.started && decide (drainLength x.2 ≤ x.2.t) &&
        decide (x.2.d + drainLength x.2 ≤ (frameGet s 15 7).age)) = some (1, drain0 0 true 1)) ∧
    (∀ s ∈ [sDrain 9 [drain0 63 false 0, drain0 0 true 1, drain0 1 true 0] []], ∀ q ∈ (frameGet s 15 7).drains,
      q.started = false ∨ q.t < drainLength q ∨ (frameGet s 15 7).age < q.d + drainLength q) := by
  refine ⟨?_, ?_, ?_, ?_⟩ <;> decide +kernel
/-- A GARNET by OP. -/
def garnet0 (op : Nat) : GarnetDesc :=
  ⟨op, false, 8, 8, 0, 1, 256, 0, 0, 0, frameBase 15 7, 1024, 1024, frameBase 15 7, 0, 0, 65535, 0, 0, frameBase 15 7, 1024, 0, 0⟩
/-- A well in the first MiB of Shale 15, its first row written by a frame or not. -/
def sWell (written : Bool) (by_ : Nat) : State :=
  { st [(R_SHL_RGN (shlDie 15) 0, F_SHL_RGN_TYPE, 3)] with tags := [(shaleBase 15, ⟨written, by_, false, false⟩)], scheds := [(15, ⟨some img0, some win0⟩)] }
/-- Frame 7 before a GARNET by OP. -/
def sGarnet (op : Nat) : State := sHead 7 (.garnet (garnet0 op)) 0 0 .empty
theorem meets_GarnetAndWells :
    (HeadIs (sGarnet 1) 15 7 (.garnet (garnet0 1)) ∧ HeadIs (sGarnet 6) 15 7 (.garnet (garnet0 6)) ∧ HeadIs (sGarnet 7) 15 7 (.garnet (garnet0 7))) ∧
    (garnetFaulty (sGarnet 1) (garnet0 1) = false ∧ garnetFaulty (sGarnet 6) (garnet0 6) = false ∧ garnetFaulty (sGarnet 7) (garnet0 7) = true) ∧
    (inWell s0 0 = false ∧ winOpen s0 15 = false) ∧
    (∀ s ∈ [sWell false 0, sWell true 7, sWell true 6], inWell s (shaleBase 15 + 1023) = true ∧ winOpen s 15 = true ∧ rowOf (shaleBase 15 + 1023) = shaleBase 15 ∧
      regionBelow 0 (rowOf (shaleBase 15 + 1023)) = .shale 15 ∧ (tagGet s (rowOf (shaleBase 15 + 1023))).parity = false ∧ s.ecc = []) ∧
    ((tagGet (sWell false 0) (shaleBase 15)).written = false ∧ (tagGet (sWell true 7) (shaleBase 15)).written = true ∧
      (tagGet (sWell true 7) (shaleBase 15)).writer = 7 ∧ (tagGet (sWell true 6) (shaleBase 15)).writer ≠ 7) ∧
    (∀ s ∈ [setFld (sWell false 0) (R_SHL_RGN (shlDie 14) 0) F_SHL_RGN_TYPE 3], inWell s (shaleBase 14) = true ∧ winOpen s 15 = true ∧
      regionBelow 0 (rowOf (shaleBase 14)) = .shale 14) := by
  refine ⟨⟨head_of ?_, head_of ?_, head_of ?_⟩, ?_, ?_, ?_, ?_, ?_⟩ <;> decide +kernel
/-- A window of Gabbro 15 changed. -/
def sWinOf (h : Window → Window) (l : List (Nat × Fld × Nat)) : State := { st l with scheds := [(15, ⟨some img0, some (h win0)⟩)] }
/-- A window that faults, at its barrier, at FINAL, or stopping, its work issued done or not. -/
def sStop (fin done : Bool) (stop fault : Option Nat) : State :=
  sWinOf (fun w => { w with finalWait := fin, stop := stop, fault := fault, moves := [⟨⟨0, frameBase 15 0, 64, 1048576⟩, 0, done, false⟩] }) []
/-- Gabbro 15 counted past run 0, its image naming port 47. -/
def sNamed : State :=
  let v : Variant := ⟨(List.replicate 9 [⟨1, 0, .barrier ⟨0, true⟩⟩]).set 8 [⟨1, 0, .send ⟨false, 0, 0, 0, 64, 1, 255, 47, 0⟩⟩, ⟨1, 0, .barrier ⟨0, true⟩⟩], 0⟩
  { st [(R_GAB_SCH_RUN_CNT (gabDie 15), ⟨0, 32⟩, 1)] with scheds := [(15, ⟨some { img0 with variants := [v] }, none⟩)], stops := [(46, 5)] }
theorem meets_WindowsEnd :
    (∀ s ∈ [sWin], winGet s 15 = some win0 ∧ barrierHead s 15 = some ⟨0, true⟩ ∧ win0.fault = none ∧ win0.notice = false) ∧
    (∀ done ∈ [true, false], ∀ s ∈ [sStop false done none (some 65535)], (barrierHead s 15).isSome = true ∧
      (winGet s 15).map (fun w => (stopStatus w, workDone s 15 w)) = some (some 65535, done)) ∧
    ((winGet (sWinOf (fun w => { w with notice := true }) []) 15).map stopStatus = some (some 0x020A) ∧ winGet s0 15 = none) ∧
    (∀ done ∈ [true, false], ∀ s ∈ [sStop true done none none], finalReady s 15 = done ∧
      (winGet s 15).map (fun w => (w.stop, w.finalWait, stopStatus w)) = some (none, true, none)) ∧
    (∀ done ∈ [true, false], ∀ s ∈ [sStop true done none (some 1)],
      (winGet s 15).map (fun w => (w.stop, w.finalWait, stopStatus w, workDone s 15 w)) = some (none, true, some 1, done)) ∧
    (∀ done ∈ [true, false], ∀ s ∈ [sStop false done (some 1) none],
      (winGet s 15).map (fun w => (w.stop, w.finalWait, workDone s 15 w)) = some (some 1, false, done)) ∧
    (winGet sWin 15).map (fun w => (w.stop, w.finalWait)) = some (none, false) := by
  refine ⟨?_, ?_, ?_, ?_, ?_, ?_, ?_⟩ <;> decide +kernel
theorem meets_stalls :
    (∀ s ∈ [sWinOf (fun w => { w with stallRun := 4 }) [(R_GAB_SCH_STALL_RUN_LIMIT (gabDie 15), ⟨0, 32⟩, 4)]],
      (winGet s 15).map (·.stallRun) = some 4 ∧ (regGet s (R_GAB_SCH_STALL_RUN_LIMIT (gabDie 15))).toNat = 4) ∧
    (∀ s ∈ [sWinOf id [(R_GAB_SCH_STALL_SUM_LIMIT (gabDie 15), ⟨0, 32⟩, 4), (R_GAB_SCH_WIN_STALL (gabDie 15), ⟨0, 32⟩, 4)]],
      regGet s (R_GAB_SCH_STALL_SUM_LIMIT (gabDie 15)) ≠ 0 ∧ (regGet s (R_GAB_SCH_STALL_SUM_LIMIT (gabDie 15))).toNat ≤ (regGet s (R_GAB_SCH_WIN_STALL (gabDie 15))).toNat) ∧
    (∀ s ∈ [sWinOf id [(R_GAB_SCH_STALL_SUM_LIMIT (gabDie 15), ⟨0, 32⟩, 4), (R_GAB_SCH_WIN_STALL (gabDie 15), ⟨0, 32⟩, 3)]],
      (winGet s 15).map (·.stallRun) = some 0 ∧ (regGet s (R_GAB_SCH_WIN_STALL (gabDie 15))).toNat < (regGet s (R_GAB_SCH_STALL_SUM_LIMIT (gabDie 15))).toNat) := by
  refine ⟨?_, ?_, ?_⟩ <;> decide +kernel
theorem meets_notices :
    ((∀ h < 16, winOpen s0 h = true → runNo s0 h ≠ 1) ∧ stopDead s0 47 1 = false ∧ tabFind s0.stops 47 = none) ∧
    ((∀ h < 16, winOpen sNamed h = true → runNo sNamed h ≠ 0) ∧ stopDead sNamed 47 0 = true ∧ stopDead sNamed 47 1 = false ∧ stopDead sNamed 46 4 = false ∧
      tabFind sNamed.stops 46 = some 5) ∧
    (winOpen sWin 15 = true ∧ runNo sWin 15 = 0) := by
  refine ⟨?_, ?_, ?_⟩ <;> decide +kernel
/-- Port 47 in Yoger mode. -/
def yoger47 : List (Nat × Fld × Nat) :=
  [(R_FLD_PORT_STATUS (portDie 47) (portLoc 47), F_FLD_PORT_STATUS_STATE, 4), (R_FLD_PORT_STATUS (portDie 47) (portLoc 47), F_FLD_PORT_STATUS_ACT_MODE, 2)]
/-- The transfer stream of Gabbro 15 begins with a descriptor. -/
def sXfer (b : DescBody) (l : List (Nat × Fld × Nat)) : State := stOn (sHead 8 b 0 0 .empty) l
/-- A RECV by source, a SEND by destination. -/
def recv0 (source bytes : Nat) : RecvDesc := ⟨frameBase 15 0, bytes, 65535, source, 47, 100⟩
/-- A SEND by destination. -/
def send0 (dest : Nat) : SendDesc := ⟨false, 0, 0, frameBase 15 0, 64, 65535, dest, 47, 100⟩
theorem meets_recv :
    streamHead (sXfer (.recv (recv0 0 64)) []) 15 8 = some ⟨1, 0, .recv (recv0 0 64)⟩ ∧
    (xferPathUp (sXfer (.recv (recv0 0 64)) []) 65535 0 (gabDie 15) && rangeUp (sXfer (.recv (recv0 0 64)) []) 15 (frameBase 15 0) 64) = true ∧
    streamHead (sXfer (.recv (recv0 255 64)) yoger47) 15 8 = some ⟨1, 0, .recv (recv0 255 64)⟩ ∧ portYoger (sXfer (.recv (recv0 255 64)) yoger47) 47 = true ∧
    (xferPathUp (sXfer (.recv (recv0 255 64)) yoger47) 65535 (portDie 47) (gabDie 15) && rangeUp (sXfer (.recv (recv0 255 64)) yoger47) 15 (frameBase 15 0) 64) = true ∧
    portYoger (sXfer (.recv (recv0 255 64)) []) 47 = false ∧
    xferPathUp (sXfer (.recv (recv0 0 64)) [(R_SCH_DIE_STATE 0, F_SCH_DIE_STATE_STATE, 1)]) 65535 0 (gabDie 15) = false := by decide +kernel
theorem meets_send :
    streamHead (sXfer (.send (send0 0)) []) 15 8 = some ⟨1, 0, .send (send0 0)⟩ ∧ (sXfer (.send (send0 0)) []).credits = [] ∧
    (xferPathUp (sXfer (.send (send0 0)) []) 65535 (gabDie 15) (sendEnd (send0 0)) && rangeUp (sXfer (.send (send0 0)) []) 15 (frameBase 15 0) 64) = true ∧
    streamHead (sXfer (.send (send0 255)) yoger47) 15 8 = some ⟨1, 0, .send (send0 255)⟩ ∧ portYoger (sXfer (.send (send0 255)) yoger47) 47 = true ∧
    (xferPathUp (sXfer (.send (send0 255)) yoger47) 65535 (gabDie 15) (sendEnd (send0 255)) && rangeUp (sXfer (.send (send0 255)) yoger47) 15 (frameBase 15 0) 64) = true ∧
    portYoger (sXfer (.send (send0 255)) []) 47 = false ∧
    xferPathUp (sXfer (.send (send0 0)) [(R_SCH_DIE_STATE 0, F_SCH_DIE_STATE_STATE, 1)]) 65535 (gabDie 15) (sendEnd (send0 0)) = false := by decide +kernel
/-- A SEND that waits, with the credit that comes from a RECV that names this many bytes. -/
def sSent (dest bytes : Nat) : State :=
  { sWinOf (fun w => { w with sends := [⟨send0 dest, 0, false, none, false, false⟩] }) [] with credits := [⟨15, 65535, 0, bytes, dest == 255, false⟩] }
/-- A SEND that may send from cycle 0. -/
def sGo (dest : Nat) : State := sWinOf (fun w => { w with sends := [⟨send0 dest, 0, true, some 0, false, false⟩] }) yoger47
theorem meets_creditArrival :
    (∀ n ∈ [64, 128], sendFind (sSent 0 n) 15 65535 = some ⟨send0 0, 0, false, none, false, false⟩ ∧ runNo (sSent 0 n) 15 = 0 ∧
      (∃ c ∈ (sSent 0 n).credits, c.dest = 15 ∧ c.xferId = 65535 ∧ c.runNo = 0 ∧ c.cable = false) ∧
      (∀ c ∈ (sSent 0 n).credits, c.dest = 15 → c.xferId = 65535 → c.runNo = 0 → c.cable = false → c.bytes = n)) ∧
    (sendFind (sSent 255 64) 15 65535 = some ⟨send0 255, 0, false, none, false, false⟩ ∧ runNo (sSent 255 64) 15 = 0 ∧
      (∀ c ∈ (sSent 255 64).credits, c.dest = 15 → c.xferId = 65535 → c.runNo = 0 → c.cable = true)) ∧
    ((64#32).toNat = (send0 255).bytes ∧ (128#32).toNat ≠ (send0 255).bytes ∧ (send0 0).dest ≠ 255 ∧ sendFind sWin 15 65535 = none) := by
  refine ⟨?_, ?_, ?_⟩ <;> decide +kernel
theorem meets_sendsGo :
    (∀ d ∈ [0, 255], sendsReady (sGo d) = [(0, 15, 65535)] ∧ sendFind (sGo d) 15 65535 = some ⟨send0 d, 0, true, some 0, false, false⟩ ∧ (sGo d).ecc = [] ∧
      homeUp (sGo d) (gabDie 15) (frameBase 15 0) = true ∧ (send0 d).mica = false) ∧ sendsReady s0 = [] := by
  refine ⟨?_, ?_⟩ <;> decide +kernel
theorem meets_sendsGo_tags : TagsClean (sGo 0) ∧ TagsClean (sGo 255) := ⟨tagsClean_of (by decide), tagsClean_of (by decide)⟩
/-- Data under way to a RECV that waits. -/
def sData (source n : Nat) : State :=
  { sWinOf (fun w => { w with recvs := [⟨recv0 source 64, 0, false, false, none, 0⟩] }) yoger47 with xfers := [⟨0, 255, 15, 65535, 0, List.replicate n 0#8⟩] }
/-- The RECV as it waits. -/
def rec1 (source : Nat) : RecvRec := ⟨recv0 source 64, 0, false, false, none, 0⟩
theorem meets_transferData :
    (∀ n ∈ [64, 128], ((sData 0 n).xfers.find? fun x => x.source == 0 && x.dest == 15 && x.xferId == 65535 && x.runNo == 0) =
        some ⟨0, 255, 15, 65535, 0, List.replicate n 0#8⟩ ∧ recvFind (sData 0 n) 15 65535 = some (rec1 0) ∧ winOpen (sData 0 n) 15 = true ∧ runNo (sData 0 n) 15 = 0) ∧
    (recvMatches (rec1 0) 0 255 65535 = true ∧ recvMatches (rec1 1) 0 255 65535 = false) ∧
    (homeUp (sData 0 64) (gabDie 15) (frameBase 15 0) = true ∧ plainB (sData 0 64) (frameBase 15 0) 64 = true ∧ (sData 0 64).ecc = []) ∧
    ((s0.xfers.find? fun x => x.source == 0) = none ∧ portYoger s0 47 = false ∧ portYoger (sData 255 64) 47 = true) ∧
    (runNo (sData 255 64) 15 = 0 ∧ recvFind (sData 255 64) 15 65535 = some (rec1 255) ∧ recvMatches (rec1 255) 255 47 65535 = true ∧
      ∀ k < 15, recvFind (sData 255 64) k 65535 = none) ∧
    (∀ k < 16, runNo (sData 255 64) k ≠ 1) := by
  refine ⟨?_, ?_, ?_, ?_, ?_, ?_⟩ <;> decide +kernel
/-- A MOVE into frame store, from LPDDR6 or not. -/
def move0 : MoveDesc := ⟨0, frameBase 15 0, 64, 100⟩
/-- A window with MOVEs. -/
def sMove (l : List MoveRec) : State := sWinOf (fun w => { w with moves := l }) [(R_GAB_SCH_TIME (gabDie 15), ⟨0, 32⟩, 100)]
theorem meets_moves :
    streamHead (sXfer (.move move0) []) 15 8 = some ⟨1, 0, .move move0⟩ ∧
    (rangeUp (sXfer (.move move0) []) 15 0 64 && rangeUp (sXfer (.move move0) []) 15 (frameBase 15 0) 64) = true ∧
    rangeUp (sXfer (.move move0) [(R_SCH_DIE_STATE (fltDie 0), F_SCH_DIE_STATE_STATE, 1)]) 15 0 64 = false ∧
    (∀ s ∈ [sMove [⟨move0, 0, true, false⟩, ⟨move0, 0, false, true⟩]], ((winGet s 15).map fun w => (w.moves.findIdx? fun m => !m.complete && m.desc.dstAddr == frameBase 15 0, w.moves[1]?)) =
        some (some 1, some ⟨move0, 0, false, true⟩) ∧ s.ecc = [] ∧ s.tags = [] ∧ homeUp s (gabDie 15) 0 = true ∧ homeUp s (gabDie 15) (frameBase 15 0) = true ∧
      plainB s (frameBase 15 0) 64 = true ∧ move0.bytes = 64 ∧ 0 + move0.doneIn ≤ schTime s 15) ∧
    (∀ m ∈ [(⟨move0, 0, true, false⟩ : MoveRec)], m.complete = true) ∧ recvFind (sData 0 64) 15 65535 = some (rec1 0) ∧
    sendFind (sSent 0 64) 15 65535 = some ⟨send0 0, 0, false, none, false, false⟩ := by
  refine ⟨?_, ?_, ?_, ?_, ?_, ?_, ?_⟩ <;> decide +kernel
/-- The window of Gabbro 15, the next barrier to come. -/
def winTick : Window := { win0 with streams := List.replicate 9 [⟨1, 9, .barrier ⟨0, true⟩⟩] }
/-- Gabbro 15 alone in use, frame 7 STARTED. -/
def sTick (x : Frame) : State :=
  { st [(R_GAB_FRM_STATUS (gabDie 15) 7, F_GAB_FRM_STATUS_STARTED, 1), (R_GAB_SCH_STALL_RUN_LIMIT (gabDie 15), ⟨0, 32⟩, 2)] with
    cyc := 1, scheds := [(15, ⟨some img0, some winTick⟩)], frames := [(15 * 8 + 7, x)] }
/-- The middle of a pass, one of a gap, a frame at its issue limit, and one whose row 0 lacks its word. -/
def tickFrames : List Frame :=
  [{ Frame.empty with issue := .pass 0 1 2 false, passes := [passRec 1 0 [] []] }, { Frame.empty with issue := .gap 1 true }, .empty,
    { Frame.empty with used16 := (0, 16) }, { Frame.empty with absent := [(0, 0)] }]
theorem quiet_of {x : Frame} (h1 : x.loads = []) (h2 : (match x.issue with | .pass _ 0 _ _ => false | _ => true) = true)
    (h3 : ∀ j < 256, nextDelivery x j = none) (h4 : x.pipe = []) (h5 : x.drains = []) (h6 : x.gnt = []) : FrameQuiet x :=
  ⟨fun l h => by simp [h1] at h, fun sl n turn h => (by rw [h] at h2; cases h2), h3, h4, h5, h6⟩
theorem tickFrames_quiet : ∀ x ∈ tickFrames, FrameQuiet x := fun x hx =>
  have h : ∀ x ∈ tickFrames, x.loads = [] ∧ (match x.issue with | .pass _ 0 _ _ => false | _ => true) = true ∧ (∀ j < 256, nextDelivery x j = none) ∧
    x.pipe = [] ∧ x.drains = [] ∧ x.gnt = [] := by decide +kernel
  have y := h x hx
  quiet_of y.1 y.2.1 y.2.2.1 y.2.2.2.1 y.2.2.2.2.1 y.2.2.2.2.2
theorem meets_GroupQuiet : ∀ x ∈ tickFrames, (sTick x).pending = [] ∧ GroupQuiet (sTick x) 15 winTick := fun x hx =>
  have h : ∀ x ∈ tickFrames, (sTick x).pending = [] ∧ pwState (sTick x) = 0 ∧ groupsInUse (sTick x) = [15] ∧ winGet (sTick x) 15 = some winTick ∧ sendsReady (sTick x) = [] ∧
    (sTick x).ecc = [] ∧ (sTick x).tags = [] ∧ ∀ f ∈ groupFrames (sTick x) 15, frameGet (sTick x) 15 f = x := by decide +kernel
  have y := h x hx
  ⟨y.1, y.2.1, y.2.2.1, y.2.2.2.1, rfl, rfl, y.2.2.2.2.1, y.2.2.2.2.2.1, tagsClean_of y.2.2.2.2.2.2.1,
    fun f hf => by rw [y.2.2.2.2.2.2.2 f hf]; exact tickFrames_quiet x hx⟩
theorem meets_EmptyQueueTicks :
    (s0.pending = [] ∧ pwState (st [(R_SCH_RST_STATUS, F_SCH_RST_STATUS_STATE, 1)]) ≠ 0) ∧
    (∀ x ∈ tickFrames.take 3, (stallNow (sTick x) 15).any = false ∧ rateHold (sTick x) 15 = false ∧ (∀ i < 9, dueHead (sTick x) 15 i = none) ∧
      groupFrames (sTick x) 15 = [7]) ∧
    (∀ x ∈ (tickFrames.drop 3).take 1, (stallNow (sTick x) 15).any = false ∧ rateHold (sTick x) 15 = true) ∧
    (∀ x ∈ tickFrames.drop 4, (stallNow (sTick x) 15).any = true ∧ 0 + 1 < (regGet (sTick x) (R_GAB_SCH_STALL_RUN_LIMIT (gabDie 15))).toNat ∧
      regGet (sTick x) (R_GAB_SCH_STALL_SUM_LIMIT (gabDie 15)) = 0) := by
  refine ⟨?_, ?_, ?_, ?_⟩ <;> decide +kernel
/-- The tables of Shale 15: a WELL of one MiB at 0 and an ordinary entry behind it. -/
def sShl : State := st [(R_SHL_RGN (shlDie 15) 0, F_SHL_RGN_TYPE, 3), (R_SHL_RGN (shlDie 15) 15, F_SHL_RGN_TYPE, 1), (R_SHL_RGN (shlDie 15) 15, F_SHL_RGN_BASE_MIB, 1)]
/-- A region word. -/
def rgn (ty base size : Nat) : Word := fldSet (fldSet (fldSet 0 F_SHL_RGN_TYPE ty) F_SHL_RGN_BASE_MIB base) F_SHL_RGN_SIZE_MIB_M1 size
theorem meets_ShaleCommands :
    servingB sShl = true ∧ homeUp sShl (qSchist sShl 0) (shaleBase 15) = true ∧
    ((rgnSpan (rgn 3 16383 0)).2 ≤ 16384 * 1048576 ∧ bitsOf (rgn 3 16383 0).toNat 14 2 = 0 ∧ fldGet (rgn 3 16383 0) F_SHL_RGN_TYPE ≠ 0 ∧
      (∀ m < 16, m ≠ 15 → rgnOverlap (rgn 3 16383 0) (regGet sShl (R_SHL_RGN (shlDie 15) m)) = false) ∧ (schedGet sShl 15).image = none ∧ shaleWaits sShl 15 = false) ∧
    (fldGet (rgn 0 1 0) F_SHL_RGN_TYPE = 0 ∧ rgn 0 1 0 ≠ 0) ∧ 16384 * 1048576 < (rgnSpan (rgn 1 16383 1)).2 ∧
    (rgnOverlap (rgn 1 0 0) (regGet sShl (R_SHL_RGN (shlDie 15) 0)) = true ∧ bitsOf (rgn 1 0 0).toNat 14 2 = 0 ∧ (rgnSpan (rgn 1 0 0)).2 ≤ 16384 * 1048576) ∧
    ((∀ n ∈ setBits 16 1, fld sShl (R_SHL_RGN (shlDie 15) n) F_SHL_RGN_TYPE = 3) ∧ winOpen sShl 15 = false ∧
      winOpen { sShl with scheds := sWin.scheds } 15 = true) ∧ (∃ n ∈ setBits 16 0x8000, fld sShl (R_SHL_RGN (shlDie 15) n) F_SHL_RGN_TYPE ≠ 3) ∧
    (0x3FFFFFC00 % 1024 = 0 ∧ 0x3FFFFFC00 + 1024 ≤ 0x000400000000 ∧ meetsType sShl (shlDie 15) 0x3FFFFFC00 (0x3FFFFFC00 + 1024) 3 = false ∧
      meetsType sShl (shlDie 15) 0x3FFFFFC00 (0x3FFFFFC00 + 1024) 2 = false ∧ winOrPending sShl 15 = false) ∧ meetsType sShl (shlDie 15) 0xFFC00 0x100000 3 = true ∧
    (0x3FFFFFF80 % 128 = 0 ∧ 0x3FFFFFF80 < 0x000400000000) ∧ flag (st [(R_SCH_RST_STATUS, F_SCH_RST_STATUS_DEBUG_ON, 1)]) R_SCH_RST_STATUS F_SCH_RST_STATUS_DEBUG_ON = true ∧
    flag s0 R_SCH_RST_STATUS F_SCH_RST_STATUS_DEBUG_ON = false := by decide +kernel
theorem meets_regionBusy : ∀ s ∈ [{ sShl with scheds := sImg.scheds }], servingB s = true ∧ homeUp s (qSchist s 0) (shaleBase 15) = true ∧
    (fldGet (rgn 3 16383 0) F_SHL_RGN_TYPE = 3 ∧ (rgnSpan (rgn 3 16383 0)).2 ≤ 16384 * 1048576 ∧ bitsOf (rgn 3 16383 0).toNat 14 2 = 0) ∧
    (∀ m < 16, m ≠ 7 → rgnOverlap (rgn 3 16383 0) (regGet s (R_SHL_RGN (shlDie 15) m)) = false) ∧ (schedGet s 15).image ≠ none := by decide +kernel
/-- The scrubber of Shale 15 at a row that has an error, a row copied to a spare, and the spares that its bank has used in the field. -/
def sScrub (off used : Nat) : State :=
  { st [(R_SHL_CTRL (shlDie 15), F_SHL_CTRL_SCRUB_EN, 1)] with
    ecc := [(shaleBase 15 + off, false)],
    shl := { s0.shl with scrub := [(shlDie 15, off)], copies := [shaleBase 15 + 0x3FFFFF800], spares := [(shlDie 15 * 512 + 510, used)] } }
theorem meets_ShaleUpkeep :
    (hotVaults s0 (shlDie 15) < 2 ^ 32 ∧ hotVaults { s0 with shl := { s0.shl with hot := [(shlDie 15, 2 ^ 31)] } } (shlDie 15) < 2 ^ 32) ∧
    flag (st [(R_SHL_CTRL (shlDie 15), F_SHL_CTRL_SCRUB_EN, 0)]) (R_SHL_CTRL (shlDie 15)) F_SHL_CTRL_SCRUB_EN = false ∧
    (memAsleep s0 = false ∧ memAsleep (st [(R_SCH_RST_STATUS, F_SCH_RST_STATUS_STATE, 3)]) = true) ∧
    (∀ off ∈ [0, 0x3FFFFFC00], flag (sScrub off 0) (R_SHL_CTRL (shlDie 15)) F_SHL_CTRL_SCRUB_EN = true ∧ off = tabGet (sScrub off 0).shl.scrub (shlDie 15) 0 ∧
      off + 1024 ≤ 0x000400000000 ∧ off % 1024 = 0 ∧ (sScrub off 0).shl.copies.contains (shaleBase 15 + off) = false ∧
      tabFind (upsets (sScrub off 0) []).ecc (shaleBase 15 + off + 128 * 0) = some false) ∧
    (∀ r ∈ [shaleBase 15 + 0x3FFFFF800], r = rowOf r ∧ (sScrub 0 0).shl.copies.contains r = true ∧ regionBelow 0 r = .shale 15 ∧ bankOf 15 r = 510 ∧
      (∀ x ∈ (sScrub 0 0).shl.copies, x ≠ r → regionBelow 0 x ≠ .shale 15)) ∧
    s0.shl.copies.contains (rowOf 0) = false := by
  refine ⟨?_, ?_, ?_, ?_, ?_, ?_⟩ <;> decide +kernel
/-- Whether a bank has a spare left is for the fuses to say: one in which assembly used fewer than all 64 has one at the start,
and one with 64 used in the field has none. -/
theorem meets_bankUsed : ((Config.bankSpares (shlDie 15) 510).val < 64 → bankUsed (sScrub 0 0) (shlDie 15) 510 < 64) ∧
    64 ≤ bankUsed (sScrub 0 64) (shlDie 15) 510 := by
  have h0 : tabGet (sScrub 0 0).shl.spares (shlDie 15 * 512 + 510) 0 = 0 := by decide +kernel
  have h1 : tabGet (sScrub 0 64).shl.spares (shlDie 15 * 512 + 510) 0 = 64 := by decide +kernel
  simp only [bankUsed, h0, h1]
  omega
/-- Line 0 in the caches: its directory entry and its copies. -/
def sLine (e : DirEnt) (l : List (Nat × CState)) : State :=
  { s0 with coh := { s0.coh with dir := [(0, e)], cache := l.map fun x => (copyKey x.1 0, ⟨x.2, List.replicate 128 1#8⟩) } }
/-- Line 0 owned by Gneiss 0 in a state. -/
def sOwned (c : CState) : State := sLine ⟨some 0, 0, none, 0⟩ [(0, c)]
/-- Line 0 shared by Gneisses 0, 1 and 7, the second in F. -/
def sShared : State := sLine ⟨none, 131, some 1, 0⟩ [(0, .s), (1, .f), (7, .s)]
theorem meets_CachedLines :
    (lineAsk s0 7 0x017C00000000 = false ∧ lineAsk s0 7 0 = true ∧ dirGet (wakeAccess (upsets s0 []) 2) 0 = none ∧ (wakeAccess (upsets s0 []) 2).ecc = [] ∧
      (wakeAccess (upsets s0 []) 2).coh.dir.length < 16) ∧
    (∀ c ∈ [CState.m, .e], ∀ u ∈ [wakeAccess (upsets (sOwned c) []) 2], lineAsk (sOwned c) 7 0 = true ∧ dirGet u 0 = some ⟨some 0, 0, none, 0⟩ ∧
      (ownerCopy u 0 0).st = c ∧ (ownerCopy u 0 0).data.length = 128 ∧ rplRunning u = false ∧ regionOf u (0 * 128) = .lpddr 0) ∧
    (∀ u ∈ [wakeAccess (sOwned .m) 2], (dirGet u 0).bind (·.owner) = some 0 ∧ u.coh.dir.length ≤ 16 ∧ rplRunning u = false ∧ regionOf u (0 * 128) = .lpddr 0 ∧
      amoAligned true 120 = true ∧ amoAligned false 124 = true ∧ lineOf 124 = 0 ∧ ncRange u 124 4 = true ∧ 124 % 128 + 4 ≤ 128 ∧ (List.replicate 128 2#8).length = 128) ∧
    (∀ u ∈ [wakeAccess (upsets sShared []) 2], lineAsk sShared 7 0 = true ∧ dirGet u 0 = some ⟨none, 131, some 1, 0⟩ ∧ (copyGet u 1 0).isSome = true ∧
      bitOf 131 7 = true ∧ bitOf 131 6 = false ∧ (copyGet u 7 0).isSome = true ∧ u.ecc = []) ∧
    (lineAsk sShared 1 0 = true ∧ lineAsk sShared 2 0 = true ∧ (dirGet sShared 0).map (fun e => (e.owner, e.fwd)) = some (none, some 1) ∧
      (dirGet (sOwned .e) 0).bind (·.owner) = some 0) := by
  refine ⟨?_, ?_, ?_, ?_, ?_⟩ <;> decide +kernel
theorem meets_UncachedAccesses :
    (∀ s ∈ [s0], ¬(1#8 = 1 ∧ regionBelow s.intlv 0 = .pcie) ∧ ncRange s 0 64 = true ∧ homeUp s 63 0 = true ∧ (wakeAccess (upsets s []) 2).ecc = [] ∧
      (∀ i < 64, (dirGet (wakeAccess (upsets s []) 2) (lineOf (0 + i))).bind (·.owner) = none) ∧ plainB (wakeAccess (upsets s []) 2) 0 64 = true) ∧
    (∀ s ∈ [sOwned .m, sOwned .e], ncRange s 64 64 = true ∧ homeUp s 63 64 = true ∧ 64 % 128 + 64 ≤ 128 ∧
      (dirGet (wakeAccess (upsets s []) 2) (lineOf 64)).bind (·.owner) = some 0 ∧ (dirGet (upsets s []) (lineOf 64)).bind (·.owner) = some 0) ∧
    (ncRange s0 0 0 = false ∧ (∀ s ∈ [st [(R_SCH_DIE_STATE (fltDie 0), F_SCH_DIE_STATE_STATE, 1)]], ncRange s 0 64 = true ∧ homeUp s 63 0 = false)) ∧
    (amoAligned true 8 = true ∧ amoAligned false 4 = true ∧ lineAsk s0 7 8 = true ∧ plainB (wakeAccess (upsets s0 []) 2) 8 8 = true) ∧
    (amoAligned true 4 = false ∧ amoAligned false 2 = false) ∧
    (∀ s ∈ [sLine ⟨some 7, 0, none, 0⟩ [(7, .m)]], lineAsk s (255 / 32) 0 = true ∧ (copyGet (wakeAccess (upsets s []) 2) (255 / 32) 0).map (·.st) = some .m ∧
      (lineAt (wakeAccess (upsets s []) 2) (255 / 32) (lineOf 0)).llc = true) ∧
    (∀ s ∈ [sLine ⟨some 7, 0, none, 0⟩ [(7, .m)]], (lineAt (wakeAccess (upsets s [.level 7 0 128 false]) 2) 7 (lineOf 0)).llc = false) ∧
    (∀ s ∈ [st [(R_GNS_ATOM_CTRL (gnsDie 7), F_GNS_ATOM_CTRL_MODE, 2)]], copyGet (wakeAccess (upsets s []) 2) 7 0 = none ∧
      fld (wakeAccess (upsets s []) 2) (R_GNS_ATOM_CTRL (gnsDie 7)) F_GNS_ATOM_CTRL_MODE = 2) := by
  refine ⟨?_, ?_, ?_, ?_, ?_, ?_, ?_, ?_⟩ <;> decide +kernel
/-- Path barriers at the first Flint. -/
def sBar (hart : Option Nat) (missing : List Nat) : State := { s0 with coh := { s0.coh with bars := [⟨5, fltDie 0, 0, hart, none, missing⟩] } }
theorem meets_MemoryCommands :
    servingB s0 = true ∧ (∀ g < 16, (schedGet s0 g).image = none) ∧ memCmdBusy s0 = false ∧ s0.upd = none ∧ (schedGet sImg 15).image ≠ none ∧
    ((∀ q < 4, bitOf 15 q = true → bitOf s0.intlv q = bitOf 0 q) ∧ servingB sReplay = true ∧ rplRunning sReplay = true ∧ rplQuad sReplay = some 0 ∧
      bitOf sReplay.intlv 0 ≠ bitOf 1 0 ∧ memCmdBusy sReplay = false ∧ (∀ g < 16, (schedGet sReplay g).image = none)) ∧
    memCmdBusy (waiting s0 [tk 0 0x0502 .upd]) = true ∧ homeDie s0 0xFFFFFFFFFFFFFFFF = none ∧
    (homeDie s0 0 = some (fltDie 0) ∧ pathUp s0 (qSchist s0 0) (fltDie 0) = true ∧
      pathUp (st [(R_SCH_DIE_STATE (fltDie 0), F_SCH_DIE_STATE_STATE, 1)]) (qSchist s0 0) (fltDie 0) = false) ∧
    (regionOf s0 0x800000000000 = .mirror 0 ∧ pathUp s0 (gnsDie (255 / 32)) (fltDie 0) = true ∧ regionOf s0 0 = .lpddr 0) ∧
    (∀ e ∈ [some 255], ((sBar e []).coh.bars.find? fun b => b.home == fltDie 0 && barrierClear (sBar e []) b) = some ⟨5, fltDie 0, 0, e, none, []⟩) ∧
    ((sBar none [63]).coh.bars.find? fun b => b.home == fltDie 0 && !(barrierClear (sBar none [63]) b)) = some ⟨5, fltDie 0, 0, none, none, [63]⟩ ∧
    ((waiting (sBar none []) [tk 0 0x0321 (.barrier 5)]).cmds.taken.find? fun x => x.wait == .barrier 5) = some (tk 0 0x0321 (.barrier 5)) ∧
    (∀ b ∈ s0.coh.bars, b.home ≠ 63) := by decide +kernel
theorem seen_add (s : State) (a m n : Nat) : seen s a (m + n) = seen s a m ++ seen s (a + m) n := by
  simp [seen, List.range_add, List.map_map, Function.comp_def, Nat.add_assoc]
theorem seen_halves {s : State} {a m n : Nat} {l : List Byte} (h1 : seen s a m = l.take m) (h2 : seen s (a + m) n = l.drop m) : seen s a (m + n) = l := by
  rw [seen_add, h1, h2, List.take_append_drop]
/-- A ring record of two members on Feldspar 0, one level of one stripe and one check stripe, two blocks, FP32 (10:R220). -/
def rec0 : List Byte :=
  leBytes 4 9 ++ [1#8, 0#8, 0#8, 0#8] ++ leBytes 2 2 ++ leBytes 4 0 ++ leBytes 2 0 ++ leBytes 4 2 ++ [127#8, 8#8, 0#8] ++ List.replicate 41 0#8 ++
    leBytes 8 0 ++ [1#8, 1#8, 0#8, 0#8, 0#8, 1#8] ++ List.replicate 14 0xFF#8 ++ [2#8, 3#8] ++ List.replicate 6 0xFF#8 ++ leBytes 4 0 ++
    (List.replicate 2 (leBytes 4 0 ++ List.replicate 24 0xFF#8 ++ leBytes 4 0)).flatten ++
    leBytes 8 0x2000 ++ leBytes 8 0x10000 ++ leBytes 8 0x20000 ++ leBytes 8 0x30000 ++ leBytes 8 0x40000 ++ leBytes 8 0x3000 ++ List.replicate 40 0#8
/-- Its tables: contribution and all-gather in Shale 15. -/
def segs0 : List Byte := leBytes 8 (shaleBase 15) ++ leBytes 4 2 ++ leBytes 4 0
/-- The all-gather table's entry. -/
def ags0 : List Byte := leBytes 8 (shaleBase 15 + 0x1000) ++ leBytes 8 0 ++ leBytes 4 2 ++ List.replicate 12 0#8
/-- Ports 0 to 3 in Yoger mode. -/
def yoger4 : List (Nat × Fld × Nat) := (List.range 4).flatMap fun p =>
  [(R_FLD_PORT_STATUS (portDie p) (portLoc p), F_FLD_PORT_STATUS_STATE, 4), (R_FLD_PORT_STATUS (portDie p) (portLoc p), F_FLD_PORT_STATUS_ACT_MODE, 1)]
/-- The bytes of record and tables that are not zero. -/
def recMem : Memory :=
  let ff (a n : Nat) : List (Nat × Byte) := (List.range n).map fun i => (a + i, 0xFF#8)
  ⟨[(0x1000, 9#8), (0x1004, 1#8), (0x1008, 2#8), (0x1010, 2#8), (0x1014, 127#8), (0x1015, 8#8), (0x1048, 1#8), (0x1049, 1#8), (0x104D, 1#8)] ++ ff 0x104E 14 ++
    [(0x105C, 2#8), (0x105D, 3#8)] ++ ff 0x105E 6 ++ ff 0x106C 24 ++ ff 0x108C 24 ++
    [(0x10A9, 0x20#8), (0x10B2, 1#8), (0x10BA, 2#8), (0x10C2, 3#8), (0x10CA, 4#8), (0x10D1, 0x30#8)] ++
    [(0x2004, 0x3C#8), (0x2005, 1#8), (0x2008, 2#8), (0x3001, 0x10#8), (0x3004, 0x3C#8), (0x3005, 1#8), (0x3010, 2#8)], []⟩
/-- Record and tables in memory. -/
def sRec : State := { st yoger4 with mem := recMem }
theorem sRec_reads : seen sRec 0x1000 256 = rec0 ∧ seen sRec 0x2000 16 = segs0 ∧ seen sRec 0x3000 32 = ags0 := by decide +kernel
theorem sRec_tables : TableAt sRec (fieldLE rec0 168 8) 16 8 64 [segs0] ∧ TableAt sRec (fieldLE rec0 208 8) 32 16 64 [ags0] := by
  refine ⟨⟨?_, ?_, ?_, ?_⟩, ⟨?_, ?_, ?_, ?_⟩⟩ <;>
    first | decide +kernel | (intro i hi; obtain rfl : i = 0 := by simpa using hi; decide +kernel)
theorem noRings_of {s : State} (ht : s.cmds.taken = []) (hu : s.rings.updRun = none) (hs : ∀ e ∈ s.rings.slots, e.2.run = none ∧ e.2.exch = none) : NoRings s :=
  ⟨by simp [ht], hu, hs⟩
theorem plainReads_of {s : State} (h1 : s.ecc = []) (h2 : s.coh.dir = []) (h3 : s.tags = []) : PlainReads s := ⟨h1, h2, tagsClean_of h3⟩
theorem meets_ringCfg :
    (sRec.Serving ∧ NoRings sRec ∧ PlainReads sRec) ∧ (inOneRange 0x1000 256 = true ∧ cmdReach sRec (takenAs 0x0401 src0 [] sRec) 0x1000 256 = true) ∧
    (rcOk sRec rec0 = true ∧ (∀ l < 3, rcN rec0 l ≤ 512) ∧ rcMembers rec0 ≤ 262144 ∧ rcTablesOk sRec rec0 [segs0] [ags0] = true) ∧
    ((∀ e ∈ rcPorts rec0, portYoger sRec e.1 = true ∧ tabFind sRec.rings.cfgHellos e.1 = none) ∧ inOneRange 0xFFFFFFFFFFFFFFFF 256 = false) := by
  refine ⟨⟨serving_of ?_, noRings_of ?_ ?_ ?_, plainReads_of ?_ ?_ ?_⟩, ?_, ?_, ?_⟩ <;> decide +kernel
/-- The configuration of slot 7. -/
def cfg0 : RingCfg := ⟨rec0, [1#8], [(shaleBase 15, 2)], [(shaleBase 15 + 0x1000, 0, 2)]⟩
/-- Slot 7 of a block whose Shale 15 begins with a SCHEDULE region. -/
def sSlot (x : RingSlot) : State :=
  { st ([(R_SHL_RGN (shlDie 15) 0, F_SHL_RGN_TYPE, 2)] ++ yoger4) with rings := { s0.rings with slots := [(7, x)] } }
/-- Configured and idle. -/
def sCfg : State := sSlot ⟨some cfg0, none, none, some (0, 0), none⟩
/-- With a window open on Gabbro 15. -/
def sCfgWin : State := { sCfg with scheds := [(15, ⟨some img0, some win0⟩)] }
theorem meets_ringRun :
    (sCfg.Serving ∧ NoRings sCfg ∧ sCfgWin.Serving ∧ NoRings sCfgWin) ∧
    ((slotGet sCfg 7).cfg = some cfg0 ∧ sCfg.step.toNat = 0 ∧ 1#64 ≠ sCfg.step ∧ (slotGet s0 7).cfg = none ∧ rcTable cfg0.record = false ∧
      (∀ e ∈ rcPorts cfg0.record, portYoger sCfg e.1 = true) ∧ keptHello sCfg 0 cfg0 0 = none ∧ rcPolicy cfg0.record ≠ 1 ∧ sCfg.excl = [] ∧ sCfg.ecc = []) := by
  refine ⟨⟨serving_of ?_, noRings_of ?_ ?_ ?_, serving_of ?_, noRings_of ?_ ?_ ?_⟩, ?_⟩ <;> decide +kernel
theorem meets_ringHeld :
    ringReach sCfg cfg0 false = true ∧ ringReach sCfg cfg0 true = true ∧ (∀ g ∈ heldGabbros sCfg (ringRanges cfg0 false), winOpen sCfg g = false) ∧
    (∃ g ∈ heldGabbros sCfgWin (ringRanges cfg0 false), winOpen sCfgWin g = true) ∧ (∃ g ∈ heldGabbros sCfgWin (ringRanges cfg0 true), winOpen sCfgWin g = true) := by
  decide +kernel
/-- An update record: the one block of the own shard on Flint 0, one tensor of 256 parameters. -/
def upd0 : List Byte :=
  [7#8] ++ List.replicate 63 0#8 ++ (leBytes 4 0 ++ leBytes 4 1 ++ leBytes 8 0x100000 ++ leBytes 8 0x200000 ++ leBytes 32 0 ++ leBytes 8 0x5000) ++
    (List.replicate 11 (leBytes 4 1 ++ leBytes 60 0)).flatten
/-- Its tensor. -/
def ten0 : List Byte := leBytes 4 0 ++ leBytes 4 256 ++ leBytes 24 0
/-- The bytes of both that are not zero. -/
def updMem : Memory :=
  ⟨[(0x4000, 7#8), (0x4044, 1#8), (0x404A, 0x10#8), (0x4052, 0x20#8), (0x4079, 0x50#8)] ++ ((List.range 11).map fun i => (0x4080 + 64 * i, 1#8)) ++ [(0x5005, 1#8)], []⟩
/-- The record and its tensor table in memory, slot 7 configured. -/
def sUpd : State := { sCfg with mem := updMem }
/-- The runs that the record gives. -/
def parts0 : List UpdPart := ⟨0, 1, 0x100000, 0x200000, [0, 0, 0, 0], 0x5000, [tensorOf ten0]⟩ :: List.replicate 11 ⟨1, 0, 0, 0, [0, 0, 0, 0], 0, []⟩
theorem sUpd_reads : seen sUpd 0x4000 832 = upd0 := by
  refine seen_halves (m := 416) (n := 416) ?_ ?_ <;> decide +kernel
theorem meets_updCfg :
    PlainReads sUpd ∧ (inOneRange 0x4000 832 = true ∧ cmdReach sUpd (takenAs 0x0501 src0 [] sUpd) 0x4000 832 = true) ∧
    (fieldLE upd0 0 1 = 7 ∧ (sliceZ upd0 1 63).all (· == 0#8) = true ∧ (slotGet sUpd 7).cfg = some cfg0 ∧ parts0.length = 12) ∧
    (∀ m < 12, ∀ p ∈ [parts0.getD m ⟨0, 0, 0, 0, [], 0, []⟩], p.first = fieldLE upd0 (64 + 64 * m) 4 ∧ p.count = fieldLE upd0 (68 + 64 * m) 4 ∧
      p.wBase = fieldLE upd0 (72 + 64 * m) 8 ∧ p.tailBase = fieldLE upd0 (80 + 64 * m) 8 ∧ p.table = fieldLE upd0 (120 + 64 * m) 8 ∧
      p.slots = (List.range 4).map (fun i => fieldLE upd0 (88 + 64 * m + 8 * i) 8) ∧ (p.count = 0 → p.table = 0 ∧ p.tensors = [])) ∧
    (∀ p ∈ parts0.take 1, partOk sUpd 0 p = true ∧ p.table = 0x5000 ∧ cmdReach sUpd (takenAs 0x0501 src0 [] sUpd) p.table 32 = true ∧
      inFlint sUpd 0 p.table (32 * ([ten0].length + 1)) = true ∧ p.tensors = [ten0].map tensorOf ∧ [ten0].all (tensorOk sUpd 0) = true ∧
      tensorsRise p.count 0 p.tensors = true) ∧
    partsDivide ((shardBlocks cfg0).2 - (shardBlocks cfg0).1) 0 parts0 = true := by
  refine ⟨plainReads_of ?_ ?_ ?_, ?_, ?_, ?_, ?_, ?_⟩ <;> decide +kernel
theorem sUpd_table : TableAt sUpd 0x5000 32 4 4096 [ten0] := by
  refine ⟨by decide, by decide +kernel, by decide +kernel, ?_⟩
  intro i hi; obtain rfl : i = 0 := by simpa using hi
  decide +kernel
theorem meets_updCoefSet : PlainReads s0 ∧ ((1#64 <<< 63).toNat ≠ 0 ∧ inOneRange 0 6144 = true ∧ cmdReach s0 (takenAs 0x0502 src0 [] s0) 0 6144 = true) ∧
    (∀ j ∈ setBits 64 (1#64 <<< 63).toNat, coefOk (coefOf fun n => BitVec.ofNat 32 (fieldLE (seen s0 0 6144) (96 * j + 4 * n) 4))
      ((List.range 5).map fun i => BitVec.ofNat 32 (fieldLE (seen s0 0 6144) (96 * j + 4 * (19 + i)) 4)) = true) := by
  refine ⟨plainReads_of ?_ ?_ ?_, ?_, ?_⟩ <;> decide +kernel
/-- An update configuration without tensors, its ring's results in the SCHEDULE region, the ring's step done. -/
def sUpdRun : State :=
  let c := { cfg0 with record := rec0.take 184 ++ leBytes 8 (shaleBase 15) ++ rec0.drop 192 }
  { sSlot ⟨some c, none, none, some (0, 0), none⟩ with
    upd := some ⟨7, List.replicate 12 ⟨0, 0, 0, 0, [], 0, []⟩⟩, rcp := { s0.rcp with words := List.replicate 8 8#32 }, scheds := [(15, ⟨some img0, some win0⟩)] }
theorem meets_updRun : (sUpdRun.Serving ∧ NoRings sUpdRun) ∧ (updCheck sUpdRun 0 = none ∧ updCheck s0 0 = some 0x0506 ∧ updCheck s0 1 = some 0x0102) ∧
    (∃ rc, (slotGet sUpdRun 7).cfg = some rc ∧ ∃ g ∈ heldGabbros sUpdRun (updRanges rc), winOpen sUpdRun g = true) := by
  refine ⟨⟨serving_of ?_, noRings_of ?_ ?_ ?_⟩, ?_, _, rfl, ?_⟩ <;> decide +kernel
/-- A run of slot 7. -/
def run7 (ag live : Bool) (phase : Nat) (todo : List Nat) (marks : List (Nat × Nat)) (turn : List Nat := []) : RingRun :=
  let v : RingVerdict := ⟨0, 0, 0, 0, none, 0, false⟩
  ⟨5, ag, 0, live, false, [], 0, phase, todo, [], [], [], [], marks, [], [], [], [], v, 0, [], [1], [], [(0, turn)], [], [], []⟩
/-- Slot 7 with a run, ordinary memory in Shale 15. -/
def sRing (r : RingRun) : State := { st ([(R_SHL_RGN (shlDie 15) 0, F_SHL_RGN_TYPE, 1)] ++ yoger4) with rings := { s0.rings with slots := [(7, ⟨some cfg0, none, some r, none, none⟩)] } }
/-- With nothing greeted, and blocks held back. -/
def runHeld (l : List (Nat × Nat × Bool × List Byte × List Byte)) : RingRun := { run7 false true 0 [1] [] with greeted := [], kept := l }
/-- A hello of the other member on a port. -/
def hello0 (level step : Nat) : Hello := ⟨9, level, 1, [1#8], step⟩
theorem meets_ringHellos :
    ((slotGet s0 7).exch = none ∧ (∀ k < 8, (slotGet s0 k).exch = none)) ∧
    (∀ left ∈ [[0, 1], [0]], ∀ s ∈ [sSlot ⟨none, some (5, cfg0, left), none, none, none⟩], (slotGet s 7).exch = some (5, cfg0, left) ∧ left.contains 0 = true ∧
      ∀ j < 7, (slotGet s j).exch = none) ∧
    helloOk cfg0 0 (hello0 1 0) = true ∧ [0, 1].filter (· ≠ 0) ≠ [] ∧ [0].filter (· ≠ 0) = [] ∧ helloOk cfg0 0 (hello0 2 0) = false ∧ rcTable cfg0.record = false ∧
    (∀ k < 8, (slotGet s0 k).run = none) ∧
    (∀ r ∈ [run7 false true 0 [1] []], ringSlotOf (sRing r) 0 9 = some 7 ∧ (slotGet (sRing r) 7).cfg = some cfg0 ∧ (slotGet (sRing r) 7).run = some r ∧ r.step = 0 ∧
      r.live = true ∧ passDone r = false ∧ 1 ∈ r.greeted ∧ helloOk cfg0 1 (hello0 1 0) = true) ∧ ringSlotOf s0 0 9 = none := by decide +kernel
/-- A payload that waits for its port's peer. -/
def pay2 : List Byte := List.replicate 1024 2#8
theorem meets_ringGreet :
    (∀ r ∈ [runHeld [], runHeld [(1, 0, false, [1#8], pay2)], runHeld [(1, 1, true, [1#8], pay2)]], ringSlotOf (sRing r) 1 9 = some 7 ∧
      (slotGet (sRing r) 7).run = some r ∧ 1 ∉ r.greeted ∧ r.ag = false ∧ r.step = 0) ∧
    ((runHeld []).kept = [] ∧ (runHeld [(1, 0, false, [1#8], pay2)]).kept = [(1, 0, false, [1#8], pay2)] ∧ pay2.length = 1024 ∧
      bitOf (fieldLE cfg0.record 7 1) 0 = false) := by
  refine ⟨?_, ?_⟩ <;> decide +kernel
/-- A ring block of block 1: its CTRL, STEP and a payload of zeros. -/
def blk1 (ctrl step : Nat) : List Byte :=
  leBytes 4 9 ++ leBytes 8 step ++ leBytes 4 1 ++ leBytes 2 ctrl ++ leBytes 30 0 ++ leBytes 4 (crc32c (List.replicate 1024 0#8)).toNat ++ leBytes 12 0 ++ List.replicate 1024 0#8
theorem meets_ringBlockArrival :
    (bitOf (fieldLE (blk1 32 0) 16 2) 5 = true ∧ ((blk1 32 0).take 64).length = 64 ∧ bitOf (fieldLE ((blk1 32 0).take 64) 16 2) 5 = true ∧
      bitOf (fieldLE (blk1 0 1) 16 2) 5 = false ∧ (blk1 0 1).length ≠ 64 ∧ fieldLE (blk1 0 1) 4 8 = 1 ∧ ringNow (run7 false false 0 [1, 0] []) (blk1 0 0) = false) ∧
    (∀ e ∈ [(0, 0, false), (3, 24, true)], ∀ r ∈ [run7 e.2.2 true e.1 [1, 0] [] [1], run7 e.2.2 true e.1 [1, 0] [] [0, 1]],
      ringSlotOf (sRing r) 0 (fieldLE (blk1 e.2.1 0) 0 4) = some 7 ∧ bitOf (fieldLE (blk1 e.2.1 0) 16 2) 5 = false ∧ fieldLE (blk1 e.2.1 0) 4 8 = r.step ∧
      ringNow r (blk1 e.2.1 0) = true ∧ r.early = [] ∧ ((rcStripes cfg0.record r.level).find? fun i => (rcPair cfg0.record r.level i).1 == 0) = some 0 ∧
      fieldLE (blk1 e.2.1 0) 52 4 = tabGet r.seqRx (r.level * 16 + 0) 0 ∧ fieldLE (blk1 e.2.1 0) 12 4 = 1 ∧ bitOf (fieldLE (blk1 e.2.1 0) 16 2) 6 = false ∧
      1 ∈ r.todo ∧ (∃ x ∈ r.todo, x ≠ 1) ∧ (rcPair cfg0.record 0 0).2 ∈ r.greeted ∧ (sRing r).ecc = [] ∧ (sRing r).coh.dir = [] ∧ r.level = 0 ∧
      r.dropped = false ∧ r.ready = []) ∧
    (tabGet (run7 false true 0 [1, 0] [] [1]).turn 0 [] = 1 :: [] ∧ tabGet (run7 false true 0 [1, 0] [] [0, 1]).turn 0 [] = 0 :: [1]) ∧
    (bitOf (fieldLE cfg0.record 7 1) 0 = false ∧ rcOwner cfg0.record 0 1 ≠ rcPos cfg0.record 0 ∧ rcAgScaled cfg0.record = false ∧
      (rcPos cfg0.record 0 + 1) % rcN cfg0.record 0 = rcOwner cfg0.record 0 1) ∧
    homeUp (sRing (run7 true true 3 [1, 0] [])) (stripeDie cfg0 (run7 true true 3 [1, 0] []) 0) (agAt (rcElemBytes cfg0.record) cfg0.ags 1).1 = true := by
  refine ⟨?_, ?_, ?_, ?_, ?_⟩ <;> decide +kernel
/-- What asks for block 1 of an all-gather again. -/
def ask1 : List Byte := leBytes 4 9 ++ leBytes 8 0 ++ leBytes 4 1 ++ leBytes 2 24 ++ leBytes 46 0
theorem meets_ringAgain :
    (∀ s ∈ [sSlot ⟨some cfg0, none, none, some (0, 0), some (run7 true true 3 [] [])⟩], ask1.length = 64 ∧ bitOf (fieldLE ask1 16 2) 5 = false ∧
      (slotGet s 7).cfg = some cfg0 ∧ (slotGet s 7).run = none ∧ (slotGet s 7).lastAg = some (run7 true true 3 [] []) ∧ (∀ j < 7, (slotGet s j).cfg = none) ∧
      fieldLE cfg0.record 0 4 = fieldLE ask1 0 4 ∧ fieldLE ask1 4 8 = (run7 true true 3 [] []).step ∧
      agHolds cfg0 (run7 true true 3 [] []) 0 (fieldLE ask1 12 4) = true ∧ s.ecc = [] ∧ s.coh.dir = []) ∧
    rcAgScaled cfg0.record = false ∧ bitOf (fieldLE cfg0.record 7 1) 1 = false ∧ (nextOf cfg0.record 1).isSome = true ∧
    (∀ k < 8, (slotGet s0 k).cfg = none) := by decide +kernel
theorem ringPlain : Plain (sRing (run7 true true 3 [1, 0] [])) (agAt (rcElemBytes cfg0.record) cfg0.ags 1).1
    (rcElemBytes cfg0.record) := plain_of (by decide +kernel)
theorem blk1_crc (c t : Nat) : (crc32c ((blk1 c t).drop 64)).toNat = fieldLE (blk1 c t) 48 4 := by
  have h : ∀ z : List Byte, ∀ n : Nat, n < 2 ^ 32 → fieldLE (leBytes 4 9 ++ leBytes 8 t ++ leBytes 4 1 ++ leBytes 2 c ++ leBytes 30 0 ++ leBytes 4 n ++ leBytes 12 0 ++ z) 48 4 = n := by
    intro z n hn
    rw [List.append_assoc, List.append_assoc, fieldLE_of_mid _ _ _ _ _ (by simp) (by simp), leNat_leBytes]
    exact Nat.mod_eq_of_lt hn
  have hd : ∀ z : List Byte, ∀ n : Nat, (leBytes 4 9 ++ leBytes 8 t ++ leBytes 4 1 ++ leBytes 2 c ++ leBytes 30 0 ++ leBytes 4 n ++ leBytes 12 0 ++ z).drop 64 = z := by
    intro z n
    rw [List.drop_append_of_le_length (by simp), List.drop_eq_nil_of_le (by simp), List.nil_append]
  unfold blk1
  rw [hd, h _ _ (BitVec.isLt _)]
theorem meets_ringPhases :
    (∀ r ∈ [run7 false true 0 [] []], (slotGet (sRing r) 7).run = some r ∧ r.live = true ∧ r.phase = 0 ∧ passDone r = true ∧ r.ag = false ∧ r.early = [] ∧ r.marks = [] ∧
      (2 : Nat) ≥ (rcVector cfg0.record r.level).2 ∧ r.level + 1 = rcLevels cfg0.record) ∧
    (∀ r ∈ [run7 false true 0 [] [(0, 1)]], (slotGet (sRing r) 7).run = some r ∧ passDone r = true ∧ (∃ m ∈ r.marks, m.1 = 0) ∧ 0 ∈ blocksOf (rcVector cfg0.record r.level) ∧
      rcFirst cfg0.record r.level 0 = false ∧ (sRing r).ecc = []) ∧
    (∀ r ∈ [run7 false true 2 [] []], (slotGet (sRing r) 7).run = some r ∧ r.phase = 2) ∧ (slotGet s0 7).run = none := by decide +kernel
/-- Epochs by STATE: 0 holds the default image, 3 is RETIRING. -/
def sMica (l : List (Nat × Nat)) : State :=
  { st (yoger47 ++ l.map fun e => (R_FLD_MICA_EPOCH (fldDie 0) e.1, F_FLD_MICA_EPOCH_STATE, e.2)) with
    mica := { s0.mica with tables := [(0, micaDefault)], acks := [(3, 47)] } }
theorem meets_MicaEpochs :
    (∀ s ∈ [{ s0 with mem := memWrite s0.mem 0x1000 (micaDefault.take 40) }], servingB s = true ∧ 0x1000 % 64 = 0 ∧ (regionOf s 0x1000).isMem = true ∧
      cmdReach s (takenAs 0x0601 src0 [] s) 0x1000 64 = true ∧ s.ecc = [] ∧ s.coh.dir = [] ∧ s.tags = [] ∧ seen s 0x1000 64 = micaDefault ∧ micaState s 3 = 0) ∧
    micaImageOk micaDefault = true ∧ (regionOf s0 0x01C000000000).isMem = false := by decide +kernel
theorem meets_MicaRetire :
    (∀ s ∈ [sMica [(3, 1)]], servingB s = true ∧ micaState s 3 = 1) ∧
    (∀ s ∈ [sMica [(3, 2)]], servingB s = true ∧ micaState s 3 = 2 ∧ (∀ p < 48, portYoger s p = true → (3, p) ∈ s.mica.acks) ∧ (∀ l < 8, micaRefs s l 3 = 0) ∧
      (∀ x ∈ s.cmds.taken, x.wait ≠ .micaRetire 3) ∧
      ((waiting s [tk 0 0x0602 (.micaRetire 3)]).cmds.taken.find? fun x => x.wait == .micaRetire 3) = some (tk 0 0x0602 (.micaRetire 3))) ∧
    (portYoger (sMica []) 47 = true ∧ portYoger (sMica []) 0 = false) ∧
    micaDecode (sMica []) 6 128 (micaRawBlock 6 (List.replicate 128 0#8)) = .ok (List.replicate 128 0#8) none ∧ micaDecode (sMica []) 6 128 [] = .bad ∧
    micaDecode (sMica []) 6 128 (micaCoded (micaMap micaDefault 6) 6 3 (List.replicate 64 0)) = .absent := by decide +kernel
/-- Gabbro 15 waits for 64 bytes on port 47, epoch 0 holds the default image. -/
def sCoded : State := { sData 255 64 with mica := (sMica []).mica }
/-- A block of 64 zeros in FP8: raw, coded in epoch 0, coded in epoch 3. -/
def codedBlock (e : Option Nat) : List Byte := match e with
  | none => micaRawBlock 4 (List.replicate 64 0#8)
  | some e => micaCoded (micaMap micaDefault 4) 4 e (List.replicate 64 0)
theorem meets_micaBlockDecode :
    (portYoger sCoded 47 = true ∧ micaDue sCoded 47 (.transfer 65535 0) = some (some 15, none, 64) ∧ recvFind sCoded 15 65535 = some (rec1 255)) ∧
    (∀ r ∈ [run7 false true 0 [1] [], run7 true true 3 [1] []], portYoger (sRing r) 0 = true ∧ (micaDue (sRing r) 0 (.ring 7 0)).isSome = true) ∧
    (∀ p ∈ [none, some 0], micaDecode sCoded (bitsOf (fieldLE (codedBlock p) 0 4) 12 4) 64 (codedBlock p) = .ok (List.replicate 64 0#8) p) ∧
    (micaDecode sCoded 4 64 (codedBlock (some 3)) = .absent ∧ micaDecode sCoded 5 64 (codedBlock none) = .bad ∧ micaDecode sCoded 4 32 (codedBlock none) = .bad ∧
      micaDue sCoded 47 (.transfer 1 0) = none ∧ micaDue s0 0 (.ring 7 0) = none) := by
  refine ⟨?_, ?_, ?_, ?_⟩ <;> decide +kernel
theorem meets_MicaLossless : micaFmtOk 4 = true ∧ micaFmtOk 8 = true ∧ micaRaw 4 ≤ 64 ∧ micaRaw 8 ≤ 256 ∧ tabFind (sMica []).mica.tables 0 = some micaDefault ∧
    micaMapOk (micaMap micaDefault 4) = true ∧ micaMapOk (micaMap micaDefault 8) = true ∧ (List.replicate 64 (2 ^ 32 - 1)).length = 64 ∧
    (∀ c ∈ List.replicate 64 (2 ^ 32 - 1), c < 2 ^ (fmtInfo 8).width) ∧ (List.replicate 256 255#8).length = micaRaw 8 := by decide +kernel
/-- Port 47 in a STATE, configured in a mode, with what it holds. -/
def sPort (state mode : Nat) (x : PortX) : State :=
  { st [(R_FLD_PORT_STATUS (portDie 47) (portLoc 47), F_FLD_PORT_STATUS_STATE, state), (R_FLD_PORT_STATUS (portDie 47) (portLoc 47), F_FLD_PORT_STATUS_ACT_MODE, mode),
      (R_FLD_PORT_CFG (portDie 47) (portLoc 47), F_FLD_PORT_CFG_MODE, mode), (R_FLD_PORT_CFG (portDie 47) (portLoc 47), F_FLD_PORT_CFG_AUTO_RETRAIN, 1)] with
    ports := [(47, x)] }
/-- The identity frames of lanes 0 to n of the module with this MODULE_ID. -/
def idents (id n : Nat) : Tab (List Byte) := (List.range n).map fun l => (l, leBytes 8 id ++ [0#8, BitVec.ofNat 8 l, 1#8, 1#8] ++ List.replicate 20 0#8)
theorem meets_LinksTrained :
    (portState (sPort 1 1 .empty) 47 = 1 ∧ yogerCfg (sPort 1 1 .empty) 47 = true ∧ 6 ≤ laneCount (255 - (3 ||| 2 ||| 1)) ∧ laneCount (255 - (7 ||| 2 ||| 1)) < 6 ∧
      portState s0 47 ≠ 1) ∧
    (∀ s ∈ [sPort 2 1 { PortX.empty with lanes := 252 }], portState s 47 = 2 ∧ yogerCfg s 47 = true ∧ 6 ≤ laneCount ((portGet s 47).lanes &&& 255) ∧
      laneCount ((portGet s 47).lanes &&& 127) < 6) ∧
    (∀ s ∈ [sPort 3 1 { PortX.empty with lanes := 255 }], (portState s 47 == 3 && yogerCfg s 47 && bitOf (portGet s 47).lanes 7 && (identBytes s 0 0).length == 32 &&
      fieldLE (identBytes s 0 0) 11 1 == 1 && fieldLE (identBytes s 0 0) 28 4 == (crc32c ((identBytes s 0 0).take 28)).toNat) = true) ∧
    (∀ e ∈ [(1, false), (7, true)], ∀ s ∈ [sPort 3 1 { PortX.empty with idents := idents e.1 6 }], (portGet s 47).idents = idents e.1 6 ∧ portState s 47 = 3 ∧
      yogerCfg s 47 = true ∧ identRefused s 47 (idents e.1 6) ((idents e.1 6).getD 0 (0, [])).2 = e.2 ∧ 6 ≤ (idents e.1 6).length) ∧
    ((portGet s0 47).idents = [] ∧ portState s0 47 = 0) ∧ portYoger (sPort 4 1 .empty) 47 = true ∧ portYoger s0 47 = false ∧ (portGet s0 47).dark = false ∧
    (∀ s ∈ [sPort 5 1 { PortX.empty with dark := true }, sPort 7 1 { PortX.empty with dark := true }], (portGet s 47).dark = true ∧ yogerCfg s 47 = true ∧ (portGet s 47).still = false ∧
      (portState s 47 = 5 ∨ ((portState s 47 = 6 ∨ portState s 47 = 7) ∧ portAuto s 47 = true))) ∧
    (portState (sPort 6 1 .empty) 47 = 6 ∧ portAuto (sPort 6 1 .empty) 47 = true) ∧
    ((waiting s0 [tk 5 0x0B01 (.linkTrain [47])]).cmds.taken.find? fun t => t.id == 5) = some (tk 5 0x0B01 (.linkTrain [47])) := by decide +kernel
theorem meets_linkCommands :
    servingB s0 = true ∧ s0.cmds.taken = [] ∧ portList (1#48 <<< 47) = [47] ∧ portList 0 = [] ∧ portsBusy s0 false (1#48 <<< 47) = false ∧
    portsBusy sCfg false 1 = true ∧ portsBusy (sRing (run7 false true 0 [1] [])) true 1 = true ∧ (bitOf (7#8).toNat 2 = true ∧ (portList (1#48 <<< 47)).length ≤ 1) ∧
    1 < (portList 3).length ∧ (∀ s ∈ [sPort 7 2 .empty], servingB s = true ∧ portsBusy s true (1#48 <<< 47) = false ∧ portCfgMode s 47 ≠ 0) := by decide +kernel
/-- Frames 65535 and 0 in the retry buffer, the first with NAKs so far. -/
def held2 (naks : Nat) : List HeldFrame := [⟨65535, frData, [], naks⟩, ⟨0, frData, [], 0⟩]
theorem meets_LinkFrames :
    portYoger s0 47 = false ∧
    (∀ s ∈ [sPort 4 2 { PortX.empty with held := held2 7 }], portYoger s 47 = true ∧ (portGet s 47).owed = [] ∧
      ((portGet s 47).held.findIdx? fun f => f.seq == 65535) = some 0 ∧ (portGet s 47).held[0]? = some ⟨65535, frData, [], 7⟩ ∧
      (((portGet s 47).retries.filter fun r => decide (s.cyc < r.1 + 1050000)).map Prod.snd).sum + ((portGet s 47).held.length - 0) ≤ 4096 ∧ (portGet s 47).retries = [] ∧
      (portGet s 47).held.length ≤ 4096) ∧
    9 ≤ 8 + 1 ∧ (portGet (sPort 4 2 { PortX.empty with held := held2 8 }) 47).held = held2 8 ∧
    (∀ e ∈ [(63, 6), (127, 7)], ∀ s ∈ [setFld (setFld (sPort 4 2 .empty) (R_FLD_PORT_LANES (portDie 47) (portLoc 47)) F_FLD_PORT_LANES_IN_USE e.1)
        (R_FLD_PORT_STATUS (portDie 47) (portLoc 47)) F_FLD_PORT_STATUS_WIDTH e.2], portYoger s 47 = true ∧
      bitOf (fld s (R_FLD_PORT_LANES (portDie 47) (portLoc 47)) F_FLD_PORT_LANES_IN_USE) 5 = true ∧
      fld s (R_FLD_PORT_STATUS (portDie 47) (portLoc 47)) F_FLD_PORT_STATUS_WIDTH = e.2 ∧
      bitOf (fld s (R_FLD_PORT_LANES (portDie 47) (portLoc 47)) F_FLD_PORT_LANES_IN_USE) 7 = false) := by decide +kernel
/-- An endpoint present, its link up or not. -/
def sPcie (up : Nat) : State := st [(R_SCH_CONN_STATUS, F_SCH_CONN_STATUS_PCIE_PRESENT, 1), (R_FLD_PCIE_STATUS, F_FLD_PCIE_STATUS_LINK_UP, up)]
theorem meets_PciePort :
    (servingB (sPcie 0) = true ∧ pciePresent (sPcie 0) = true ∧ pcieUp (sPcie 0) = false ∧ pcieUp (sPcie 1) = true ∧ (sPcie 0).cmds.taken = []) ∧
    (pciePresent s0 = false ∧ pcieUp s0 = false) ∧ (4 ≤ s0.io.maxGen ∧ 8 ≤ s0.io.width ∧ s0.io.maxGen < 7) ∧ (2047 < 2048 ∧ pwState (sPcie 1) ≠ 3) ∧
    (∀ u ∈ [wakeAccess (upsets (sPcie 1) []) 3], homeUp (sPcie 1) 10 0 = true ∧ (regionBelow (sPcie 1).intlv 0).isMem = true ∧ inOneRange 0 16 = true ∧ plainB u 0 16 = true ∧
      u.ecc = [] ∧ u.coh.dir = [] ∧ u.tags = []) ∧ (regionBelow (sPcie 1).intlv 0x01C000000000).isMem = false ∧
    (∀ e ∈ [(0, 512, false), (0, 4096, true), (0x1000, 513, false), (0x1000, 4097, true)], inOneRange e.1 e.2.1 = true ∧ (regionBelow (sPcie 1).intlv e.1).isMem = true ∧
      (decide ((if e.2.2 then 4096 else 512) < e.2.1) = decide (e.1 = 0x1000)) ∧ (0x1000000000000#64 + BitVec.ofNat 64 e.1).toNat - 0x1000000000000 = e.1) ∧
    (msiPage ≤ (0x000101C0280A1FFC#64).toNat ∧ (0x000101C0280A1FFC#64).toNat < msiPage + 4096 ∧ (0x000101C0280A1FFC#64).toNat % 4 = 0 ∧
      (leBytes 4 2047).length = 4) ∧
    (regionBelow s0.intlv 0x01F010000000 = .pcie ∧ pcieAccessOk 0x01F010000000 8 = true ∧ pcieAccessOk 0x01F000000000 4 = true) := by decide +kernel
/-- A queue pair's record: rings of 16 entries at 0x10000 and 0x20000. -/
def qpRec : List Byte := leBytes 8 0x10000 ++ leBytes 8 0x20000 ++ [4#8, 4#8, 2#8, 7#8] ++ List.replicate 44 0#8
/-- A work request: WRITE of 16 bytes from 0x30000, with a completion. -/
def wr0 : List Byte := [1#8, 1#8, 0#8, 0#8] ++ leBytes 4 16 ++ leBytes 8 0x30000 ++ List.replicate 48 0#8
/-- Port 47 an Ethernet port that is UP, QP 1023 with a request sent, a region of memory, a record and a work request in memory. -/
def sEth (state : Nat) (x : Qp) : State :=
  { sPort state 3 .empty with
    io := { s0.io with qps := [(47 * 1024 + 1023, x)], mrs := [(mrKey 7 255, ⟨true, true, 9, 0x40000, 64⟩)] },
    mem := memWrite (memWrite s0.mem 0x10000 [1#8, 1#8, 0#8, 0#8, 16#8, 0#8, 0#8, 0#8, 0#8, 0#8, 3#8]) 0x50000 (qpRec.take 20) }
/-- A queue pair. -/
def qp0 (sent : List (Nat × List Byte)) : Qp := ⟨qpRec, 0, 0, sent, 0, (100, 0), false, 0⟩
/-- A READ of 16 bytes to 0x30000, and a request of a kind that there is not. -/
def wr3 : List Byte := [3#8, 0#8, 0#8, 0#8] ++ wr0.drop 4
theorem meets_EthernetPorts :
    (∀ s ∈ [sEth 4 (qp0 [])], servingB s = true ∧ s.ecc = [] ∧ s.coh.dir = [] ∧ portCfgMode s 47 = 3 ∧ inOneRange 0x50000 64 = true ∧
      cmdReach s (takenAs 0x0B20 src0 [] s) 0x50000 64 = true ∧ seen s 0x50000 64 = qpRec ∧ qpRecordOk qpRec = true ∧ qpRecordOk (seen s 0x60000 64) = false ∧
      qpGet s 47 1023 = some (qp0 []) ∧ qpGet s 47 0 = none ∧ (portUp s 47 && portMode s 47 == 3) = true) ∧
    (inOneRange 0 64 = true ∧ inOneRange 0xC000000000 64 = false) ∧ (portUp (sEth 7 (qp0 [])) 47 && portMode (sEth 7 (qp0 [])) 47 == 3) = false ∧
    (∀ u ∈ [wakeAccess (upsets (sEth 4 (qp0 [])) []) 3], u.ecc = [] ∧ u.coh.dir = [] ∧ u.tags = [] ∧ seen u 0x10000 64 = wr0 ∧ homeUp (sEth 4 (qp0 [])) (portDie 47) 0x10000 = true ∧
      homeUp (sEth 4 (qp0 [])) (portDie 47) 0x30000 = true ∧ fieldLE wr0 0 1 ≤ 3 ∧ fieldLE wr0 4 4 ≤ 2 ^ 31 ∧ fieldLE wr0 8 8 = 0x30000 ∧ inOneRange 0x30000 (fieldLE wr0 4 4) = true ∧
      homeUp (sEth 4 (qp0 [])) (portDie 47) 0x20000 = true ∧ plainB u 0x20000 16 = true ∧ homeUp (sEth 4 (qp0 [])) (portDie 47) 0x40000 = true ∧ plainB u 0x40000 64 = true ∧ plainB u 0x30000 16 = true) ∧
    (fieldLE wr3 0 1 = 3 ∧ fieldLE wr3 1 1 % 2 = 0 ∧ fieldLE wr3 4 4 = 16 ∧ fieldLE wr3 8 8 = 0x30000 ∧ 3 < fieldLE (4#8 :: wr0.drop 1) 0 1) ∧
    (qpFld (qp0 []) 0 8 + 64 * (0 % 2 ^ qpFld (qp0 []) 16 1) = 0x10000 ∧ qpFld (qp0 []) 8 8 + 16 * (0 % 2 ^ qpFld (qp0 []) 17 1) = 0x20000) ∧
    (fieldLE wr0 1 1 % 2 = 1 ∧ (qp0 [(0, wr0)]).sent = (0, wr0) :: []) ∧
    (memRegOk (sEth 4 (qp0 [])) 47 (255 * 256 + 9) 0x40000 64 true = true ∧ memRegOk (sEth 4 (qp0 [])) 47 (255 * 256 + 9) 0x40000 64 false = true ∧
      memRegOk (sEth 4 (qp0 [])) 47 (255 * 256 + 9) 0x40001 64 true = false ∧ memRegOk (sEth 4 (qp0 [])) 47 (255 * 256 + 8) 0x40000 64 false = false) ∧
    (∀ s ∈ [sPort 7 3 .empty], portCfgMode s 47 = 3 ∧ (portGet s 47).still = false ∧ portUp s 47 = false ∧ s.io.qps = []) ∧ portCfgMode s0 47 ≠ 3 := by decide +kernel
/-- Seam 0 of Gabbro 15: STATE, marks, spares in use. -/
def sSeam (state pend spares : Nat) : State :=
  ctrSet (stOn (regSet s0 (R_SEAM_MAP 51 0) (BitVec.ofNat 32 spares)) [(R_SEAM_STATUS 51 0, F_SEAM_STATUS_STATE, state),
    (R_SEAM_STATUS (seamEnd 51 0).1 (seamEnd 51 0).2, F_SEAM_STATUS_STATE, state)]) (R_SEAM_PEND 51 0) (BitVec.ofNat 64 pend)
theorem meets_SeamsRepaired :
    (seamExists 51 0 = true ∧ seamExists 63 15 = false ∧ seamState (sSeam 1 0 0) 51 0 = 1 ∧ seamState (sSeam 3 0 0) 51 0 = 3 ∧ 16 < 17) ∧
    (∀ s ∈ [sSeam 1 (2 ^ 63) 0, sSeam 2 (2 ^ 31) 0x404040], seamPend s 51 0 = 2 ^ (if seamState s 51 0 = 1 then 63 else 31) ∧
      (if seamState s 51 0 = 2 then (spareFree s 51 0).or (spareIdle s 51 0) else spareFree s 51 0) = some (if seamState s 51 0 = 1 then 0 else 3)) ∧
    (∀ s ∈ [sSeam 1 (2 ^ 63 + 1) 0x4000], (setBits 64 (seamPend s 51 0)).length = 2 ∧
      ((List.range 4).filter fun k => !(spareUsed s 51 0 k) && !(bitOf (spareFailed s 51 0) k)).length = 3 ∧ spareUsed s 51 0 1 = true ∧ spareLane s 51 0 1 = 0) ∧
    (∀ s ∈ [sSeam 1 (2 ^ 63 + 1) 0x404040], ((List.range 4).filter fun k => !(spareUsed s 51 0 k) && !(bitOf (spareFailed s 51 0) k)).length = 1) ∧
    inHalf (sSeam 2 (2 ^ 31) 0x404040) 51 0 31 = true ∧ eventHeld (sSeam 1 (2 ^ 63) 0) (51 * 256 + 0xE0 + 0) (0xE0 + 0) 0 = false ∧ sliceCount s0 (51 / 16) < 256 ∧
    (∀ s ∈ [sSeam 1 (2 ^ 63 + 1) 0], bitOf (seamPend s 51 0) 63 = true ∧ bitOf (seamPend s 51 0) 0 = true ∧ bitOf (seamPend s 51 0) 1 = false ∧ spareFree s 51 0 = some 0) ∧
    (∀ s ∈ [{ sSeam 1 (2 ^ 63) 0 with spareBad := [(51 * 16 + 0, 1)] }], spareFree s 51 0 = some 1) ∧
    (∀ s ∈ [sSeam 1 (2 ^ 63) 0x40404040], seamState s 51 0 = 1 ∧ spareFree s 51 0 = none ∧ (2 ^ 63 ||| seamPend s (seamEnd 51 0).1 (seamEnd 51 0).2) % 2 ^ 32 = 0) ∧
    (∀ s ∈ [ctrSet (sSeam 1 (2 ^ 63) 0x40404040) (R_SEAM_PEND (seamEnd 51 0).1 (seamEnd 51 0).2) 1#64],
      (2 ^ 63 ||| seamPend s (seamEnd 51 0).1 (seamEnd 51 0).2) % 2 ^ 32 ≠ 0 ∧ (2 ^ 63 ||| seamPend s (seamEnd 51 0).1 (seamEnd 51 0).2) / 2 ^ 32 ≠ 0) ∧
    clkFailed (sSeam 1 0 0) 51 0 = 0 ∧ (∀ s ∈ [{ sSeam 1 0 0 with clkBad := [(51 * 16 + 0, 2)] }], clkFailed s 51 0 ||| 2 ^ fld s (R_SEAM_STATUS 51 0) F_SEAM_STATUS_CLK_LANE = 3) := by
  decide +kernel
theorem meets_ConnectorEvents :
    (∀ s ∈ [st [(R_SCH_CONN_STATUS, connBit F_SCH_CONN_STATUS_CBL_PWR_ON 3, 1)]], connGet s F_SCH_CONN_STATUS_CBL_PWR_ON 3 = true ∧ connGet s F_SCH_CONN_STATUS_CBL_PWR_ON 0 = false) ∧
    (∀ s ∈ [st [(R_SCH_CONN_STATUS, connBit F_SCH_CONN_STATUS_HS_PRESENT 3, 1)]], connGet s F_SCH_CONN_STATUS_HS_PRESENT 3 = true ∧
      connGet s F_SCH_CONN_STATUS_CBL_PWR_ON 3 = false ∧ connGet s F_SCH_CONN_STATUS_HS_PRESENT 0 = false) ∧
    (standby s0 = true ∧ ∀ s ∈ [({ s0 with pwr := { s0.pwr with input := false } } : State)], standby s = false) ∧
    (∀ x ∈ s0.cmds.taken, x.wait ≠ .pcie) ∧ pcieUp (sPcie 1) = true ∧ flag s0 R_SCH_RST_STATUS F_SCH_RST_STATUS_DEBUG_ON = false ∧
    flag (st [(R_SCH_RST_STATUS, F_SCH_RST_STATUS_DEBUG_ON, 1)]) R_SCH_RST_STATUS F_SCH_RST_STATUS_DEBUG_ON = true := by decide +kernel
/-- The board's pointer at an offset, an interrupt raised before, the alert on. -/
def sBrd (c : Nat) : State := { st [(R_SCH_PWR_ERR, ⟨0, 1⟩, 1)] with brd := ⟨0x28#8, some 0x08#7, some 0⟩, cyc := c }
theorem meets_I3cTarget :
    (∀ s ∈ [sBrd 0], (true = true ↔ standby s = true ∧ (0x08#7 = 0x5A#7 ∨ s.brd.dyn = some 0x08#7)) ∧
      (false = true ↔ standby s = true ∧ (0x09#7 = 0x5A#7 ∨ s.brd.dyn = some 0x09#7)) ∧
      s.brd.ptr.toNat + 4 * 0 = 0x28 ∧ s.pwr.supply = .on ∧ 0x28 < s.brd.ptr.toNat + 4 * 1) ∧
    (∀ s ∈ [({ sBrd 0 with pwr := { s0.pwr with input := false } } : State)], standby s = false) ∧
    (alertOn (sBrd 105000000) = true ∧ (sBrd 105000000).brd.ibi = some 0 ∧ 0 + 105000000 ≤ (sBrd 105000000).cyc) ∧ (sBrd 104999999).cyc < 0 + 105000000 ∧
    (∀ s ∈ [regSet s0 R_SCH_PWR_ERR 0], alertOn s = false) := by decide +kernel
/-- A range of LPDDR6 is plain where nothing is cached, no error stands and the replay log does not run. -/
theorem plain_lpddr {s : State} {a n : Nat} (h : a + n ≤ 0x00C000000000) (he : s.ecc = []) (hd : s.coh.dir = [])
    (hr : flag s R_SCH_RPL_STATUS F_SCH_RPL_STATUS_RUNNING = false) : Plain s a n := by
  intro i hi
  have hb : ∀ v, regionBelow v (a + i) = .lpddr (lpddrFlint v (a + i)) := fun v => by unfold regionBelow; rw [if_pos (by omega)]
  have ho : regionOf s (a + i) = .lpddr (lpddrFlint s.intlv (a + i)) := by unfold regionOf; rw [if_neg (by omega), hb]
  refine ⟨by rw [ho]; rfl, by rw [dirGet, hd]; rfl, by rw [he]; rfl, by simp [inWell, hb], by simp [inReplay, hr], ?_⟩
  intro g f hg; rw [ho] at hg; cases hg
/-- A package's header and manifest (20:R454, R455): key 0, version 1, `t` payload bytes, every part by METHOD `m` on `n` of them. -/
def fwPkg (m n t : Nat) : List Byte :=
  leBytes 4 0x574B4657 ++ leBytes 2 1 ++ [0#8, 0#8] ++ leBytes 4 1 ++ leBytes 12 0 ++ leBytes 4 1088 ++ leBytes 8 t ++ List.replicate 4060 0#8 ++ leBytes 4 8 ++
    List.replicate 60 0#8 ++ ((List.range 8).map fun k => [BitVec.ofNat 8 (k + 1), BitVec.ofNat 8 m] ++ leBytes 2 0 ++ leBytes 4 0 ++ leBytes 4 1 ++ leBytes 4 0 ++
      leBytes 8 (n * k) ++ leBytes 8 n ++ List.replicate 96 0#8).flatten
/-- The bytes of the package at 0x10000 that are not zero, METHOD 1 with one byte for each part. -/
def pkgMem : Memory :=
  ⟨[(0x10000, 0x57#8), (0x10001, 0x46#8), (0x10002, 0x4B#8), (0x10003, 0x57#8), (0x10004, 1#8), (0x10008, 1#8), (0x10018, 0x40#8), (0x10019, 4#8), (0x1001C, 8#8),
      (0x11000, 8#8)] ++
    (List.range 8).flatMap fun k => [(0x11040 + 128 * k, BitVec.ofNat 8 (k + 1)), (0x11041 + 128 * k, 1#8), (0x11048 + 128 * k, 1#8), (0x11050 + 128 * k, BitVec.ofNat 8 k),
      (0x11058 + 128 * k, 1#8)], []⟩
/-- Firmware state, package open, payload received, versions 0 running. -/
def sFw (state : Nat) (pkg rx : List Byte) : State :=
  let s := stOn (regSet (regSet s0 R_SCH_FW_PKG_VERSION 0) R_SCH_FW_SVN_FLOOR 0) [(R_SCH_FW_STATUS, F_SCH_FW_STATUS_STATE, state)]
  { s with mem := pkgMem, fw := { s.fw with sets := [(0, []), (1, [])], pkg := pkg, rx := rx, keys := [(0, [1#8])] } }
/-- A package passes the six checks when its key is the device's and its signature verifies, which only the device's constants say. -/
theorem meets_fwOpen (hk : pkgKey (sFw 0 [] []) (seen (sFw 0 [] []) 0x10000 5184) = true) (hs : pkgSigned (seen (sFw 0 [] []) 0x10000 5184) = true) :
    pkgCheck (sFw 0 [] []) (seen (sFw 0 [] []) 0x10000 5184) = none := by
  have hf : pkgForm (sFw 0 [] []) (seen (sFw 0 [] []) 0x10000 5184) = true := by decide +kernel
  have hm : pkgManifest (seen (sFw 0 [] []) 0x10000 5184) = true := by decide +kernel
  have hb : pkgBase (sFw 0 [] []) (seen (sFw 0 [] []) 0x10000 5184) = true := by decide +kernel
  have hn : pkgNewer (sFw 0 [] []) (seen (sFw 0 [] []) 0x10000 5184) = true := by decide +kernel
  simp [pkgCheck, hf, hk, hs, hm, hb, hn]
theorem meets_FirmwareStaging :
    (servingB (sFw 0 [] []) = true ∧ 0x10000 % 4096 = 0 ∧ inOneRange 0x10000 5184 = true ∧ (sFw 0 [] []).ecc = [] ∧ (sFw 0 [] []).coh.dir = [] ∧
      cmdReach (sFw 0 [] []) (takenAs 0x0801 src0 [] (sFw 0 [] [])) 0x10000 5184 = true ∧ fwState (sFw 0 [] []) = 0 ∧ fwState (sFw 4 [] []) = 4 ∧
      fwCommitting (sFw 0 [] []) = none) ∧
    (∀ s ∈ [waiting (sFw 1 [] []) [tk 0 0x0803 .fwCommit]], servingB s = true ∧ (fwCommitting s).isSome = true) ∧
    pkgCheck (sFw 0 [] []) (seen (sFw 0 [] []) 0x20000 5184) = some (1, 0x0801) ∧ inOneRange 0xC000000000 5184 = false ∧
    (servingB (sFw 1 (fwPkg 1 2 16) []) = true ∧ fwState (sFw 1 (fwPkg 1 2 16) []) = 1 ∧ 1 + 0 ≤ fieldLE (fwPkg 1 2 16) 28 8 ∧ inOneRange 0 1 = true ∧
      cmdReach (sFw 1 (fwPkg 1 2 16) []) (takenAs 0x0802 src0 [] (sFw 1 (fwPkg 1 2 16) [])) 0 1 = true ∧ (sFw 1 (fwPkg 1 2 16) []).fw.rx.length = 0 ∧
      partFailed (sFw 1 (fwPkg 1 2 16) [9#8]) 0 1 = none ∧ partFailed (sFw 1 (fwPkg 2 1 8) [9#8]) 0 1 = some 1 ∧ fwCommitting (sFw 1 (fwPkg 1 2 16) []) = none) := by decide +kernel
theorem meets_fwClose :
    (∀ s ∈ [sFw 1 (fwPkg 0 0 0) []], fwState s = 1 ∧ s.fw.rx.length = fieldLE s.fw.pkg 28 8 ∧ (∃ d < 64, dieRunning s d = true ∧ dieKind d ≠ .gneiss) ∧
      (∀ e ∈ manEntries s.fw.pkg, meMethod e = 0)) ∧
    ([] : List Byte).length ≠ fieldLE (fwPkg 1 1 8) 28 8 ∧ (∃ e ∈ manEntries (fwPkg 0 0 0), meMethod e = 0 ∧ ([8] : List (Fin 9)).any (fun k => k.val == meKind e) = true) ∧
    (∀ e ∈ manEntries (fwPkg 0 0 0), ∀ e' ∈ manEntries (fwPkg 0 0 0), meKind e' = meKind e → e' = e) ∧
    (∀ n ∈ [0, 1, 2, 3, 4], fwState (sFw n [] []) = n ∧ servingB (sFw n [] []) = true ∧ fwCommitting (sFw n [] []) = none) := by decide +kernel
/-- A package staged or armed, dies READY, a command that waits. -/
def sArm (state ready : Nat) (w : Wait) : State := ctrSet (waiting (sFw state (fwPkg 0 0 0) []) [tk 0 0x0804 w]) R_SCH_FW_READY (BitVec.ofNat 64 ready)
theorem meets_FirmwareActivates :
    (fwStaging (sArm 1 0 .fwCommit) = true ∧ dieRunning (sArm 1 0 .fwCommit) 63 = true ∧ fwStaging s0 = false) ∧
    (fwCommitting (sArm 1 (2 ^ 64 - 1) .fwCommit) = some (tk 0 0x0804 .fwCommit) ∧
      (∀ d < 64, dieRunning (sArm 1 (2 ^ 64 - 1) .fwCommit) d = true → bitOf (fwReady (sArm 1 (2 ^ 64 - 1) .fwCommit)) d = true) ∧
      bitOf (fwReady (sArm 1 (2 ^ 63 - 1) .fwCommit)) 63 = false) ∧
    (∀ e ∈ [(2 ^ 64 - 1, true), (2 ^ 63 - 1, false)], ∀ s ∈ [sArm 3 e.1 (.fwNow [])], s.cmds.taken = [tk 0 0x0804 (.fwNow [])] ∧ stepReady s [] = true ∧
      (if e.2 then ∀ d < 64, dieRunning s d = true ∧ bitOf (fwReady s) d = true else ∃ d < 64, dieRunning s d = false ∨ bitOf (fwReady s) d = false)) ∧
    (∀ s ∈ [{ sArm 3 0 (.fwNow [3]) with runs := [run0] }], stepReady s [3] = false) ∧
    (∀ y ∈ s0.cmds.taken, ∀ r, y.wait ≠ .fwNow r) := by
  refine ⟨?_, ?_, ?_, ?_, ?_⟩ <;> try decide +kernel
  have h : s0.cmds.taken = [] := by decide
  simp [h]
theorem meets_fwTurns : ∀ y ∈ (sArm 1 (2 ^ 64 - 1) .fwCommit).cmds.taken, ∀ c, y.wait ≠ .fwTurn c := by
  intro y hy c
  have h : (sArm 1 (2 ^ 64 - 1) .fwCommit).cmds.taken = [tk 0 0x0804 .fwCommit] := by decide +kernel
  rw [h] at hy
  obtain rfl := List.mem_singleton.1 hy
  simp [tk]
theorem meets_KeysAndAttestation :
    (servingB (sFw 0 [] []) = true ∧ src0.queue.val < 64 ∧ qSession (sFw 0 [] []) src0.queue = none ∧ qSession (sSes 1) 33 = some 0 ∧ servingB (sSes 1) = true ∧
      (64 : Fin 65).val = 64 ∧ 7 < (8#8).toNat) ∧
    (tabFind { s0.fw with keys := [(0, [1#8])] }.keys 0 ≠ none ∧ (7#8).toNat ≠ 0) ∧
    (0x10000 % 4096 = 0 ∧ inOneRange 0x10000 1792 = true ∧ inOneRange 0x10000 6144 = true ∧ inOneRange 0xBFFFFFF000 6144 = false ∧ inOneRange 0xC000000000 1792 = false ∧
      cmdReach s0 (takenAs 0x0911 src0 [] s0) 0x10000 1792 = true ∧ cmdReach s0 (takenAs 0x0911 src0 [] s0) 0x10000 6144 = true) := by decide +kernel
theorem meets_attest : Plain s0 0x10000 1792 ∧ Plain s0 0x10000 6144 :=
  ⟨plain_lpddr (by decide) (by decide) (by decide) (by decide +kernel), plain_lpddr (by decide) (by decide) (by decide) (by decide +kernel)⟩
theorem meets_oneKey : ∀ j, j ≠ 0 → tabFind (sFw 0 [] []).fw.keys j = none := by
  intro j hj
  show tabFind [(0, [1#8])] j = none
  simp [tabFind, Ne.symm hj]
theorem meets_MemoryStaysCanonical : State.reset.memOk ∧ step State.reset = .next (tick State.reset) := ⟨show memWf State.reset.mem = true by decide +kernel, rfl⟩

/-! ### Worked examples of the spec. -/

/-- 03 (W40): 1.0 + 1.5 * 2^-30 is exact in W40, FP32 word 0x3F800000 with tail 0x03; in FP32 it leaves 1.0. -/
theorem test_w40 : valCode 31 (valAdd (fp32Val 0x3F800000#32) (.fin false 3 (-31))) = 0x3F800000 * 256 + 3 ∧
    fp32Of (valAdd (fp32Val 0x3F800000#32) (.fin false 3 (-31))) = 0x3F800000#32 := by decide +kernel
/-- 03 (converting a block to E4M3), kind 1: 13.7, -0.52, 0.0029, 0.00009 and 28 zeros. -/
theorem test_convert_block :
    convBlock (Config.recipeDefault 1) (fun _ => .nearest)
      ([fp32Val 0x415B3333#32, fp32Val 0xBF051EB8#32, fp32Val 0x3B3E0DED#32, fp32Val 0x38BCBE62#32] ++ List.replicate 28 (.fin false 0 0)) =
    (0x7A, [0x7E, 0xD8, 0x1C, 0x01] ++ List.replicate 28 0, 0) := by decide +kernel
/-- 03 (two scaled groups): column 0 of a scaled E4M3 pass, groups 0 and 1, on top of +0.5 into W48 and into FP32. -/
theorem test_two_groups :
    let col := (List.replicate 256 0).set 0 0x7E |>.set 1 0x1C |>.set 5 0xD8 |>.set 32 0x3E
    let row := (List.replicate 256 0).set 0 0xBC |>.set 1 0x54 |>.set 5 0x08 |>.set 32 0x38
    let word (i x : Nat) : Word := BitVec.ofNat 32 (row.getD i 0 + x * 2 ^ 24)
    let p : PassRec := ⟨⟨0, 4, 0, false, false, true, false, 0, 0, 0, 0, 0⟩, 4, 2 ^ 256 - 1, 1, 0,
      ⟨[(List.range 256).map fun i => word i (if i = 31 then 0x7C else if i = 63 then 0x60 else 0)], []⟩, [], []⟩
    let c := columnSum p col [0x7A, 0x80, 0, 0, 0, 0, 0, 0] 0
    valEq (valAdd (.fin false 1 (-1)) c.1) (.fin true 9112125433 (-32)) = true ∧
    fp32Of (valAdd (.fin false 1 (-1)) c.1) = fp32Of (.fin true 8898560 (-22)) := by decide +kernel
/-- 05 (requantising one turned group). -/
theorem test_turned_group :
    turnGroup 4 ((List.replicate 32 0).set 0 0xBC |>.set 3 0x3C |>.set 9 0x7E |>.set 20 0x09)
      ((List.replicate 32 0x7A).set 3 0x7C |>.set 9 0x78 |>.set 20 0x78) (List.replicate 32 true) =
    (0x7C, (List.replicate 32 0).set 0 0xAC |>.set 3 0x3C |>.set 9 0x5E |>.set 20 0x01, 1) := by decide +kernel
/-- 04 (a router row through RELU and top-3). -/
theorem test_topk :
    topkRecord 3 256 (2 ^ 256 - 1) ((List.replicate 256 (.fin false 0 0)).set 3 (fp32Val 0x40800000#32) |>.set 17 (fp32Val 0x40600000#32)
      |>.set 42 (fp32Val 0x40800000#32) |>.set 200 (fp32Val 0x40200000#32)) =
    ([0x40800000, 0x40800000, 0x40600000, 0xFF800000, 0xFF800000, 0xFF800000, 0xFF800000, 0xFF800000].flatMap (leBytes 4) ++
      [259, 298, 273, 0xFFFF, 0xFFFF, 0xFFFF, 0xFFFF, 0xFFFF].flatMap (leBytes 2) ++ List.replicate 16 0#8, false) := by decide +kernel
/-- 09 (after R190): in interleaved quadrant 1, 0x003000005000 lies on Q1.M2. -/
theorem test_interleave : lpddrFlint 2 0x003000005000 = 5 := by decide
/-- 10 (a Tally block that overflows a hop): the entries of members 2, 3, 0, 1, the hops, the FP32 repass and the next exponent. -/
theorem test_tally_hops :
    let c (w : Nat) := (entryBlk true 131 1 [w]).1
    let h1 := (hopAdd (c 0x40200000) (c 0x40E80000)).1
    let h2 := (hopAdd h1 (c 0x40D00000)).1
    let h3 := (hopAdd h2 (c 0xC1100000)).1
    let f (w : Nat) := (entryBlk false 131 1 [w]).1
    (c 0x40200000).words = [335544320] ∧ h1.words = [1308622848] ∧ (h2.words, h2.flags, h2.contrib) = ([2147483647], 2, 3) ∧
    (h3.words, h3.flags, h3.contrib) = ([939524095], 2, 4) ∧
    (hopAdd (hopAdd (hopAdd (f 0x40200000) (f 0x40E80000)).1 (f 0x40D00000)).1 (f 0xC1100000)).1.words = [0x40E80000] ∧ nextX 131 [0x40E80000] = 132 := by
  decide +kernel
/-- 11 (one AdamW parameter on its first step): master 0.5, word 4.5, three contributors. -/
theorem test_adamw :
    let c : Coef := ⟨[0x3F600000#32, 0x3F700000#32, 0#32, 0#32], [0x3E000000#32, 0x3D800000#32, 0#32, 0#32], [0x3F800000#32, 0#32, 0#32, 0#32],
      0x35800000#32, 0x3C000000#32, 0x3A800000#32, 0x3F800000#32, 1014, 0x02533008⟩
    let r := updParam c 1 (gradOf c 3 0x40900000) 0x3F00000000 [.fin false 0 0, .fin false 0 0] (.fin false 0 0) false
    r.1 = 0x3EFF7F8006 ∧ r.2.1.map fp32Of = [0x3E400000#32, 0x3E100000#32, 0#32, 0#32] ∧ r.2.2 = (false, false) := by decide +kernel
/-- 12 (coding a sparse BF16 block): 35 bytes in epoch 1. -/
theorem test_mica_block :
    micaCoded (micaMap micaDefault 7) 7 1 ([0x3FC0, 0xBEC0, 0, 0x4000, 0x3AA0, 0x8000] ++ List.replicate 58 0) =
    [0x1F#8, 0x72#8, 0x80#8, 0x00#8, 0x22#8, 0xF2#8, 0x03#8] ++ List.replicate 21 0#8 ++ [0x75#8, 0x00#8, 0x40#8, 0xC0#8, 0x00#8, 0x20#8, 0x80#8] := by decide +kernel
/-- 16 (a spike, a NaN and a missing loss): E after the losses of steps 7,000 and 7,004, ALPHA 2^-6. -/
theorem test_loss_mean :
    hltNext 0x40200000#32 0x3C800000#32 0x40180000#32 = 0x401FE000#32 ∧ hltNext 0x401FE000#32 0x3C800000#32 0x401C0000#32 = 0x401FD080#32 := by decide +kernel

end Sys2Proof.Tests
end

section
/-! SUPPORT. Zeroing counters: what a CLEAR bit leaves in the counters of its block and everywhere else (02:R47). -/
namespace Sys2Proof.Machine

theorem ctrGet_ctrClear (s : State) (ks : List Nat) (k : Nat) :
    ctrGet (ctrClear s ks) k = if k ∈ ks then 0 else ctrGet s k := by
  induction ks generalizing s with
  | nil => simp [ctrClear]
  | cons a ks ih =>
    have hstep : ctrClear s (a :: ks) = ctrClear (ctrSet s a 0) ks := rfl
    rw [hstep, ih]
    by_cases hk : k = a
    · simp [hk]
    · simp [hk, ctrGet_ctrSet_ne]

theorem regGet_regClear (s : State) (ks : List Nat) (k : Nat) :
    regGet (regClear s ks) k = if k ∈ ks then 0 else regGet s k := by
  induction ks generalizing s with
  | nil => simp [regClear]
  | cons a ks ih =>
    have hstep : regClear s (a :: ks) = regClear (regSet s a 0) ks := rfl
    rw [hstep, ih]
    by_cases hk : k = a
    · simp [hk]
    · simp [hk, regGet_regSet_ne]

theorem ctrClear_eq (s : State) (ks : List Nat) : ctrClear s ks = { s with ctrs := (ctrClear s ks).ctrs } := by
  induction ks generalizing s with
  | nil => rfl
  | cons a ks ih => exact ih (ctrSet s a 0)

theorem regClear_eq (s : State) (ks : List Nat) : regClear s ks = { s with regs := (regClear s ks).regs } := by
  induction ks generalizing s with
  | nil => rfl
  | cons a ks ih => exact ih (regSet s a 0)

@[simp] theorem regGet_ctrClear (s : State) (ks : List Nat) (k : Nat) : regGet (ctrClear s ks) k = regGet s k := by
  rw [ctrClear_eq]; rfl

@[simp] theorem ctrGet_regClear (s : State) (ks : List Nat) (k : Nat) : ctrGet (regClear s ks) k = ctrGet s k := by
  rw [regClear_eq]; rfl

theorem restSame_clear (s : State) (ks rs : List Nat) : RestSame s (regClear (ctrClear s ks) rs) := by
  rw [regClear_eq, ctrClear_eq]; rfl

/-- A row that zeroes the counters `ks` and the counts `rs` clears them alone. -/
theorem clears_of_exec {i : Instr} {s : State} {ks rs : List Nat}
    (h : exec i s = .next (regClear (ctrClear s ks) rs)) : Clears i s ks rs := by
  refine ⟨_, h, ?_, ?_, ?_, ?_, restSame_clear s ks rs⟩
  · intro k hk; simp [ctrGet_ctrClear, hk]
  · intro k hk; simp [ctrGet_ctrClear, hk]
  · intro k hk; simp [regGet_regClear, hk]
  · intro k hk; simp [regGet_regClear, hk]

/-! ### The kinds of the dies that ordinals name (01:R11). -/

@[simp] theorem dieKind_gabDie (g : Fin 16) : dieKind (gabDie g) = .gabbro := by revert g; decide
@[simp] theorem dieKind_shlDie (g : Fin 16) : dieKind (shlDie g) = .shale := by revert g; decide
@[simp] theorem dieKind_fltDie (m : Fin 12) : dieKind (fltDie m) = .flint := by revert m; decide
@[simp] theorem dieKind_gnsDie (c : Fin 8) : dieKind (gnsDie c) = .gneiss := by revert c; decide
@[simp] theorem dieKind_fldDie (l : Fin 8) : dieKind (fldDie l) = .feldspar := by revert l; decide
@[simp] theorem dieKind_portDie (p : Fin 48) : dieKind (portDie p) = .feldspar := by revert p; decide

theorem val_ofNat_gabDie (g : Fin 16) : (Fin.ofNat 64 (gabDie g)).val = gabDie g := by revert g; decide
theorem val_ofNat_shlDie (g : Fin 16) : (Fin.ofNat 64 (shlDie g)).val = shlDie g := by revert g; decide
theorem val_ofNat_fltDie (m : Fin 12) : (Fin.ofNat 64 (fltDie m)).val = fltDie m := by revert m; decide
theorem val_ofNat_gnsDie (c : Fin 8) : (Fin.ofNat 64 (gnsDie c)).val = gnsDie c := by revert c; decide
theorem val_ofNat_fldDie (l : Fin 8) : (Fin.ofNat 64 (fldDie l)).val = fldDie l := by revert l; decide
theorem val_ofNat_portDie (p : Fin 48) : (Fin.ofNat 64 (portDie p)).val = portDie p := by revert p; decide

/-! ### CLEAR of a directory block, whose counters depend on the kind of home (09:R215). -/

theorem clearDir_gabbro (s : State) {d : Nat} (hd : dieKind d = .gabbro) :
    clearDir s d = regClear (ctrClear s [R_GAB_DIR_RECALL d, R_GAB_DIR_SNOOP d, R_GAB_DIR_WB_CROSS d, R_GAB_DIR_FAR_ATOMIC d,
      R_GAB_DIR_BARRIER d, R_GAB_DIR_DROP d]) [R_GAB_DIR_BARRIER_TMO d] := by simp [clearDir, hd]

theorem clearDir_flint (s : State) {d : Nat} (hd : dieKind d = .flint) :
    clearDir s d = regClear (ctrClear s [R_FLT_DIR_RECALL d, R_FLT_DIR_SNOOP d, R_FLT_DIR_WB_CROSS d, R_FLT_DIR_FAR_ATOMIC d,
      R_FLT_DIR_BARRIER d, R_FLT_DIR_DROP d]) [R_FLT_DIR_BARRIER_TMO d, R_FLT_DIR_CE d] := by simp [clearDir, hd]

theorem exec_dirCounterClear (d : Fin 64) (s : State) : exec (.dirCounterClear d) s = .next (clearDir s d) := rfl

theorem exec_seamCounterClear (d : Fin 64) (q : Fin 16) (s : State) :
    exec (.seamCounterClear d q) s = .next (if dieKind d = .shale then s else clearSeam s d q) := rfl

end Sys2Proof.Machine
end

section
/-! SUPPORT. One write or none: what it leaves unchanged, in the terms of the claims. -/
namespace Sys2Proof.Machine

/-- Only the 32-bit registers `ks` and the pairs `cs` may differ. -/
def OnlyRegs (s u : State) (ks cs : List Nat) : Prop := RegsBut s u ks ∧ CtrsBut s u cs ∧ RestSame s u

theorem onlyRegs_regSet (s : State) (k : Nat) (w : Word) : OnlyRegs s (regSet s k w) [k] [] :=
  ⟨fun _ hj => regGet_regSet_ne s w (by simpa using hj), fun _ _ => rfl, rfl⟩

/-- Writing what a register holds changes no register. -/
theorem onlyRegs_regSet_regGet (s : State) (k : Nat) : OnlyRegs s (regSet s k (regGet s k)) [] [] := by
  refine ⟨fun j _ => ?_, fun _ _ => rfl, rfl⟩
  rw [regGet_regSet]
  split
  · rename_i h; rw [h]
  · rfl

theorem onlyRegs_ctrSet (s : State) (k : Nat) (w : DWord) : OnlyRegs s (ctrSet s k w) [] [k] :=
  ⟨fun _ _ => rfl, fun _ hj => ctrGet_ctrSet_ne s w (by simpa using hj), rfl⟩

/-- Writing what a pair holds changes no pair. -/
theorem onlyRegs_ctrSet_ctrGet (s : State) (k : Nat) : OnlyRegs s (ctrSet s k (ctrGet s k)) [] [] := by
  refine ⟨fun _ _ => rfl, fun j _ => ?_, rfl⟩
  by_cases hj : j = k
  · rw [hj, ctrGet_ctrSet_same]
  · exact ctrGet_ctrSet_ne s _ hj

/-- Putting back the half that a pair holds leaves the pair. -/
@[simp] theorem putHalf_halfOf (v : DWord) (hi : Bool) : putHalf v hi (halfOf v hi) = v := by
  apply BitVec.eq_of_toNat_eq
  have hv := v.isLt
  cases hi <;> simp only [putHalf, halfOf, Bool.false_eq_true, if_false, if_true, BitVec.toNat_ofNat] <;> omega

@[simp] theorem accWrite_ro (mask old w : Word) (l : Bool) : accWrite .ro mask old w l = old := rfl
@[simp] theorem accWrite_ctr (mask old w : Word) (l : Bool) : accWrite .ctr mask old w l = old := rfl

/-- A locked RWL word keeps what it holds; an unlocked one whose bits may all change takes the word written. -/
theorem accWrite_rwl_all (old w : Word) (l : Bool) : accWrite .rwl 0xFFFFFFFF#32 old w l = if l then old else w := by
  have hw : w &&& 0xFFFFFFFF#32 = w := BitVec.and_allOnes
  cases l <;> simp [accWrite, hw]

end Sys2Proof.Machine
end

section
/-! SUPPORT. The register map: which offsets of a die a row covers, and which offsets' writes do more than their access
code says. -/
namespace Sys2Proof.Machine

/-! ### Rows. -/

/-- The offset of one register of a row, or of the high half of a pair there. -/
def RegRow.place (r : RegRow) (i j : Nat) (hi : Bool) : Nat := r.off + i * r.s1 + j * r.s2 + if hi then 4 else 0

theorem rowHit_eq_some {r : RegRow} {off : Nat} {hi : Bool} (h : rowHit r off = some hi) :
    ∃ i < r.n1, ∃ j < r.n2, off = r.place i j hi ∧ (hi = true → r.wide = true) := by
  unfold rowHit at h
  split at h
  · cases h
  · rename_i hoff
    simp only at h
    generalize hi0 : (if r.s1 = 0 then 0 else (off - r.off) / r.s1) = i at h
    generalize hj0 : (if r.s2 = 0 then 0 else (off - r.off - i * r.s1) / r.s2) = j at h
    have hle1 : i * r.s1 ≤ off - r.off := by
      subst hi0; split
      · simp
      · exact Nat.div_mul_le_self _ _
    have hle2 : j * r.s2 ≤ off - r.off - i * r.s1 := by
      subst hj0; split
      · simp
      · exact Nat.div_mul_le_self _ _
    split at h
    · cases h
    · rename_i hij
      refine ⟨i, by omega, j, by omega, ?_⟩
      split at h
      · cases h; simp [RegRow.place]; omega
      · split at h
        · rename_i hz
          cases h
          simp only [RegRow.place, if_true, hz.2, implies_true, and_true]
          omega
        · cases h

theorem findRow_eq_some {rows : List RegRow} {off : Nat} {r : RegRow} {hi : Bool} (h : findRow rows off = some (r, hi)) :
    r ∈ rows ∧ rowHit r off = some hi := by
  induction rows with
  | nil => cases h
  | cons a rows ih =>
    rw [findRow] at h
    split at h
    · rename_i b hb
      cases h
      exact ⟨List.mem_cons_self, hb⟩
    · exact ⟨List.mem_cons_of_mem _ (ih h).1, (ih h).2⟩

/-- The rows of a kind of die, with the rows that one die of the kind has alone. -/
def kindRegs : DieKind → List RegRow
  | .gabbro => dieRegs 0
  | .shale => dieRegs 4
  | .gneiss => dieRegs 8
  | .feldspar => dieRegs 10
  | .flint => dieRegs 12
  | .schist => dieRegs 15

theorem dieRegs_subset_kindRegs (d : Nat) : dieRegs d ⊆ kindRegs (dieKind d) := by
  cases hk : dieKind d with
  | feldspar =>
    have hten : dieRegs 10 = q0l0Regs1 ++ feldsparRegs1 ++ feldsparRegs2 ++ allRegs1 ++ notShaleRegs1 (seamCount .feldspar) := rfl
    simp only [kindRegs, hten]
    simp only [dieRegs, hk]
    split
    · exact List.Subset.refl _
    · intro r hr
      simp only [List.mem_append, List.nil_append] at hr ⊢
      exact hr.imp_left (Or.imp_left (Or.imp_left Or.inr))
  | _ => simp only [dieRegs, hk]; exact List.Subset.refl _

/-! ### Offsets whose write does more than its access code says. -/

/-- Offsets of the counter controls that dies of several kinds have: _DIE_CNT_CTRL and _SEAM_CNT_CTRL. -/
def sharedActionOff (k : DieKind) (off : Nat) : Bool :=
  decide (off = 0x1020 ∨ (k ≠ .shale ∧ 0x2000 ≤ off ∧ off < 0x2400 ∧ off % 0x40 = 0x28))

/-- Offsets of the registers of action bits of one kind of die: CLEAR of the counter controls and of a frame, NEXT and PREV. -/
def kindActionOff : DieKind → Nat → Bool
  | .gabbro, off => decide ((0x101000 ≤ off ∧ off < 0x109000 ∧ (off - 0x101000) % 0x1000 ∈ [0x00C, 0x050, 0x220, 0x340, 0x840]) ∨
      off ∈ [0x110080, 0x120040, 0x1128])
  | .shale, off => decide (off = 0x50)
  | .gneiss, off => decide (off = 0x20020)
  | .feldspar, off => decide (off ∈ [0x61038, 0x800C0] ∨ (0x90000 ≤ off ∧ off < 0x90600 ∧ off % 0x100 = 0x60))
  | .flint, off => decide (off ∈ [0x50040, 0x70040])
  | .schist, off => decide (off ∈ [0x542C, 0x607C, 0x703C, 0x902C, 0x9050])

/-- Offsets of registers of action bits. -/
def actionOff (k : DieKind) (off : Nat) : Bool := sharedActionOff k off || kindActionOff k off

/-- Offsets whose write drives a unit: frame enables, RoCE doorbells, queues, the hold, the pod's time-out, the cursor. -/
def drivenOff : DieKind → Nat → Bool
  | .gabbro, off => decide (off = 0x100004)
  | .feldspar, off => decide (0xB0000 ≤ off ∧ off < 0xBC000)
  | .schist, off => decide ((0x4000 ≤ off ∧ off < 0x5000) ∨ off ∈ [0x5400, 0x5408, 0x9020, 0x9024])
  | _, _ => false

/-- Registers whose writes other rows give: a Gabbro's frame enables, a Schist's queues, hold and pod time-out, and pairs
that a write may change. -/
def heldApart (k : DieKind) (r : RegRow) (off : Nat) : Bool :=
  if r.wide then r.acc == .rw || r.acc == .rwl
  else (k == .gabbro && off == 0x100004) ||
    (k == .schist && ((decide (0x4000 ≤ off) && decide (off < 0x5000)) || off == 0x5400 || off == 0x5408))

/-- Unless it is held apart, a WO register has action bits, and any other neither has them nor drives a unit. -/
def actsByCode (k : DieKind) (r : RegRow) (off : Nat) : Bool :=
  heldApart k r off || if r.acc = .wo then actionOff k off else !actionOff k off && !drivenOff k off

/-- Every register of a row acts by its access code. -/
def rowActsByCode (k : DieKind) (r : RegRow) : Bool :=
  (List.range r.n1).all fun i => (List.range r.n2).all fun j =>
    actsByCode k r (r.place i j false) && (!r.wide || actsByCode k r (r.place i j true))

/-- The table's rows and the offsets of the special writes agree, for every kind of die. -/
theorem kindRegs_actByCode (k : DieKind) : (kindRegs k).all (rowActsByCode k) = true := by
  cases k <;> decide +kernel

theorem actsByCode_of_row {k : DieKind} {r : RegRow} {off : Nat} {hi : Bool} (hr : r ∈ kindRegs k)
    (hhit : rowHit r off = some hi) : actsByCode k r off = true := by
  obtain ⟨i, hi1, j, hj1, rfl, hwide⟩ := rowHit_eq_some hhit
  have hrow : rowActsByCode k r = true := List.all_eq_true.1 (kindRegs_actByCode k) r hr
  have hinst := List.all_eq_true.1 (List.all_eq_true.1 hrow i (List.mem_range.2 hi1)) j (List.mem_range.2 hj1)
  rw [Bool.and_eq_true] at hinst
  cases hi with
  | false => exact hinst.1
  | true => simpa [hwide rfl] using hinst.2

theorem actsByCode_of_regRow {d off : Nat} {r : RegRow} {hi : Bool} (h : regRow d off = some (r, hi)) :
    actsByCode (dieKind d) r off = true := by
  unfold regRow at h
  split at h
  · obtain ⟨hmem, hhit⟩ := findRow_eq_some h
    exact actsByCode_of_row (dieRegs_subset_kindRegs d hmem) hhit
  · cases h

end Sys2Proof.Machine
end

section
/-! SUPPORT. A 32-bit write to a control block, by its offset: CLEAR and other action bits, the operations that a write
drives, and everything else by its access code. -/
namespace Sys2Proof.Machine

theorem clearIf_set {w : Word} (s : State) (f : State → State) (hw : bitOf w.toNat 0 = true) : clearIf s w f = f s := by
  simp [clearIf, hw]

/-! ### Words without action bits. -/

theorem bitOf_zero_of_mod_four {n : Nat} (h : n % 4 = 0) : bitOf n 0 = false := by
  simp [bitOf, Nat.testBit, Nat.shiftRight_eq_div_pow]; omega

theorem bitOf_one_of_mod_four {n : Nat} (h : n % 4 = 0) : bitOf n 1 = false := by
  simp [bitOf, Nat.testBit, Nat.shiftRight_eq_div_pow]; omega

theorem clearIf_idle {w : Word} (s : State) (f : State → State) (hw : w.toNat % 4 = 0) : clearIf s w f = s := by
  simp [clearIf, bitOf_zero_of_mod_four hw]

theorem winCtrlWrite_idle {w : Word} (s : State) (hw : w.toNat % 4 = 0) : winCtrlWrite s w = s := by
  simp [winCtrlWrite, bitOf_zero_of_mod_four hw, bitOf_one_of_mod_four hw]

/-! ### Registers of action bits: a write that sets none of them changes nothing. -/

theorem gabbroWrite_idle {off : Nat} {w : Word} (s : State) (d : Nat) (ha : kindActionOff .gabbro off = true)
    (hw : w.toNat % 4 = 0) : gabbroWrite s d off w = s := by
  have hclear (f : State → State) : clearIf s w f = s := clearIf_idle s f hw
  simp only [kindActionOff, decide_eq_true_eq, List.mem_cons, List.not_mem_nil, or_false] at ha
  rcases ha with ⟨hlo, hhi, ho⟩ | rfl | rfl | rfl
  · have hen : off ≠ 0x100004 := by omega
    rcases ho with ho | ho | ho | ho | ho <;> simp [gabbroWrite, hen, hlo, hhi, ho, hclear]
  all_goals simp [gabbroWrite, hclear]

theorem feldsparWrite_idle {off : Nat} {w : Word} (s : State) (d : Nat) (ha : kindActionOff .feldspar off = true)
    (hw : w.toNat % 4 = 0) : feldsparWrite s d off w = s := by
  have hclear (f : State → State) : clearIf s w f = s := clearIf_idle s f hw
  simp only [kindActionOff, decide_eq_true_eq, List.mem_cons, List.not_mem_nil, or_false] at ha
  rcases ha with (rfl | rfl) | ⟨hlo, hhi, ho⟩
  · simp [feldsparWrite, hclear]
  · simp [feldsparWrite, hclear]
  · simp [feldsparWrite, hlo, hhi, ho, hclear]

theorem schistWrite_idle {off : Nat} {w : Word} (s : State) (d : Nat) (ha : kindActionOff .schist off = true)
    (hw : w.toNat % 4 = 0) : schistWrite s d off w = s := by
  simp only [kindActionOff, decide_eq_true_eq, List.mem_cons, List.not_mem_nil, or_false] at ha
  rcases ha with rfl | rfl | rfl | rfl | rfl <;> simp [schistWrite, clearIf_idle s _ hw, winCtrlWrite_idle s hw]

theorem regWrite_of_actionOff {off : Nat} {w : Word} (s : State) (d : Nat) (ha : actionOff (dieKind d) off = true)
    (hw : w.toNat % 4 = 0) : regWrite s d off w = s := by
  have hclear (f : State → State) : clearIf s w f = s := clearIf_idle s f hw
  unfold regWrite
  split
  · exact hclear _
  · split
    · exact hclear _
    · rename_i hdie hseam
      have hkind : kindActionOff (dieKind d) off = true := by
        simpa [actionOff, sharedActionOff, hdie, hseam] using ha
      cases hk : dieKind d <;> rw [hk] at hkind <;> simp only
      case gabbro => exact gabbroWrite_idle s d hkind hw
      case feldspar => exact feldsparWrite_idle s d hkind hw
      case schist => exact schistWrite_idle s d hkind hw
      case shale | gneiss => simp_all [kindActionOff]
      case flint =>
        have hoff : off = 0x50040 ∨ off = 0x70040 := by simpa [kindActionOff] using hkind
        rcases hoff with rfl | rfl <;> simp [hclear]

/-! ### Offsets without operations: a write acts by the access code alone. -/

theorem gabbroWrite_plain {off : Nat} (s : State) (d : Nat) (w : Word) (ha : kindActionOff .gabbro off = false)
    (hd : drivenOff .gabbro off = false) : gabbroWrite s d off w = plainWrite s d off w false := by
  simp [kindActionOff, drivenOff] at ha hd
  by_cases hf : 0x101000 ≤ off ∧ off < 0x109000
  · simp [hf] at ha
    simp [gabbroWrite, hd, hf, ha]
  · simp [gabbroWrite, hd, hf, ha]

theorem feldsparWrite_plain {off : Nat} (s : State) (d : Nat) (w : Word) (ha : kindActionOff .feldspar off = false)
    (hd : drivenOff .feldspar off = false) : feldsparWrite s d off w = plainWrite s d off w false := by
  have hport : ¬(0x90000 ≤ off ∧ off < 0x90600 ∧ off % 0x100 = 0x60) := by simp_all [kindActionOff]
  have hbell : ¬(0xB0000 ≤ off ∧ off < 0xBC000) := by simpa [drivenOff] using hd
  simp [kindActionOff] at ha
  simp [feldsparWrite, ha, hport, hbell]

theorem schistWrite_plain {off : Nat} (s : State) (d : Nat) (w : Word) (ha : kindActionOff .schist off = false)
    (hd : drivenOff .schist off = false) : schistWrite s d off w = plainWrite s d off w false := by
  have hqueue : ¬(0x4000 ≤ off ∧ off < 0x5000) := by simp_all [drivenOff]
  simp [kindActionOff, drivenOff] at ha hd
  simp [schistWrite, ha, hd, hqueue]

theorem regWrite_of_plain {off : Nat} (s : State) (d : Nat) (w : Word) (ha : actionOff (dieKind d) off = false)
    (hd : drivenOff (dieKind d) off = false) : regWrite s d off w = plainWrite s d off w false := by
  obtain ⟨hshared, hkind⟩ := Bool.or_eq_false_iff.1 ha
  have hshared' := of_decide_eq_false hshared
  obtain ⟨hdie, hseam⟩ := not_or.1 hshared'
  rw [regWrite, if_neg hdie, if_neg hseam]
  cases hk : dieKind d <;> rw [hk] at hkind hd <;> simp only
  case gabbro => exact gabbroWrite_plain s d w hkind hd
  case feldspar => exact feldsparWrite_plain s d w hkind hd
  case schist => exact schistWrite_plain s d w hkind hd
  case shale | gneiss | flint => simp_all [kindActionOff]

end Sys2Proof.Machine
end

section
/-! SUPPORT. The rows that store to a register and load from one: the access faults, the access codes, and the counters'
latches (00:R6; 02:R47; 09:R189; 14:R331). -/
namespace Sys2Proof.Machine

/-! ### Faults of access. -/

theorem exec_registerWrite_fault {d : Fin 64} {off : Nat} {s : State}
    (hbad : off % 4 ≠ 0 ∨ 0x4000000 ≤ off ∨ dieRunning s d = false) (h : Fin 256) (w : Word) :
    exec (.registerWrite h d off w) s = .next (emit s (.hartFault h .store)) := by
  show Host.Outcome.next _ = _
  simp [hbad]

theorem exec_registerWrite_running {d : Fin 64} {off : Nat} {s : State} (ha : off % 4 = 0) (ho : off < 0x4000000)
    (hd : dieRunning s d = true) (h : Fin 256) (w : Word) :
    exec (.registerWrite h d off w) s = .next (regWrite s d off w) := by
  show Host.Outcome.next _ = _
  simp [ha, hd, Nat.not_le.2 ho]

theorem exec_counterLoRead_fault {d : Fin 64} {off : Nat} {s : State}
    (hbad : off % 4 ≠ 0 ∨ 0x4000000 ≤ off ∨ dieRunning s d = false) (h : Fin 256) :
    exec (.counterLoRead h d off) s = .next (emit s (.hartFault h .load)) := by
  show Host.Outcome.next _ = _
  simp [hbad]

theorem exec_counterLoRead_running {d : Fin 64} {off : Nat} {s : State} (ha : off % 4 = 0) (ho : off < 0x4000000)
    (hd : dieRunning s d = true) (h : Fin 256) : exec (.counterLoRead h d off) s = .next (counterLoRead s d off) := by
  show Host.Outcome.next _ = _
  simp [ha, hd, Nat.not_le.2 ho]

/-! ### Stores by access code. -/

theorem plainWrite_word {s : State} {d off : Nat} {r : RegRow} {hi : Bool} (hr : regRow d off = some (r, hi))
    (hn : r.wide = false) (w : Word) (l : Bool) :
    plainWrite s d off w l = regSet s (regKey d off) (accWrite r.acc r.wmask (regGet s (regKey d off)) w l) := by
  simp [plainWrite, hr, hn]

theorem plainWrite_pair {s : State} {d off : Nat} {r : RegRow} {hi : Bool} (hr : regRow d off = some (r, hi))
    (hn : r.wide = true) (w : Word) (l : Bool) {k : Nat} (hk : k = regKey d (if hi then off - 4 else off)) :
    plainWrite s d off w l =
      ctrSet s k (putHalf (ctrGet s k) hi (accWrite r.acc r.wmask (halfOf (ctrGet s k) hi) w l)) := by
  simp [plainWrite, hr, hn, hk]

/-- A register with no action bits that is not held apart is written by its access code alone. -/
theorem regWrite_of_regRow {s : State} {d off : Nat} {r : RegRow} {hi : Bool} (hr : regRow d off = some (r, hi))
    (hx : heldApart (dieKind d) r off = false) (hacc : r.acc ≠ .wo) (w : Word) :
    regWrite s d off w = plainWrite s d off w false := by
  have h := actsByCode_of_regRow hr
  simp only [actsByCode, hx, hacc, if_false, Bool.false_or, Bool.and_eq_true, Bool.not_eq_true'] at h
  exact regWrite_of_plain s d w h.1 h.2

/-- A write to a WO register without its action bits changes nothing. -/
theorem regWrite_of_wo {s : State} {d off : Nat} {r : RegRow} {hi : Bool} (hr : regRow d off = some (r, hi))
    (hx : heldApart (dieKind d) r off = false) (hacc : r.acc = .wo) {w : Word} (hw : w.toNat % 4 = 0) :
    regWrite s d off w = s := by
  have h := actsByCode_of_regRow hr
  simp only [actsByCode, hx, hacc, if_true, Bool.false_or] at h
  exact regWrite_of_actionOff s d h hw

theorem regWrite_word {s : State} {d off : Nat} {r : RegRow} {hi : Bool} (hr : regRow d off = some (r, hi))
    (hn : r.wide = false) (hx : heldApart (dieKind d) r off = false) (hacc : r.acc ≠ .wo) (w : Word) :
    regWrite s d off w = regSet s (regKey d off) (accWrite r.acc r.wmask (regGet s (regKey d off)) w false) := by
  rw [regWrite_of_regRow hr hx hacc, plainWrite_word hr hn]

/-- A store to a half of a read-only pair changes no register and nothing else. -/
theorem onlyRegs_regWrite_readOnlyPair {s : State} {d off : Nat} {r : RegRow} {hi : Bool} (hr : regRow d off = some (r, hi))
    (hn : r.wide = true) (hacc : r.acc = .ro ∨ r.acc = .ctr) (w : Word) : OnlyRegs s (regWrite s d off w) [] [] := by
  have hx : heldApart (dieKind d) r off = false := by rcases hacc with h | h <;> simp [heldApart, hn, h]
  have hwo : r.acc ≠ .wo := by rcases hacc with h | h <;> simp [h]
  rw [regWrite_of_regRow hr hx hwo, plainWrite_pair hr hn w false rfl]
  rcases hacc with h | h <;> simp only [h, accWrite_ro, accWrite_ctr, putHalf_halfOf] <;> exact onlyRegs_ctrSet_ctrGet s _

/-! ### Loads. -/

/-- The word that the low half of a counter shows. -/
theorem rdWord_counter {s : State} {d off : Nat} {r : RegRow} (hr : regRow d off = some (r, false)) (hn : r.wide = true)
    (hacc : r.acc = .ctr) : rdWord s d off = BitVec.ofNat 32 (rdPair s (regKey d off)).toNat := by
  have hcursor : ¬(dieKind d = .schist ∧ off = 0x9020) := by
    rintro ⟨hk, rfl⟩
    have h := actsByCode_of_regRow hr
    simp [actsByCode, heldApart, drivenOff, hn, hacc, hk] at h
  simp [rdWord, hr, hn, hacc, hcursor]

/-! The value of a pair does not depend on what was put out. -/

theorem strataNextSeq_emit (s : State) (o : Out) : strataNextSeq (emit s o) = strataNextSeq s := by
  simp only [strataNextSeq, strataNewest, ctrGet, emit_ctrs, emit_strata]

theorem strataFirst_emit (s : State) (o : Out) : strataFirst (emit s o) = strataFirst s := by
  unfold strataFirst
  rw [strataNextSeq_emit, emit_strata]

theorem viewPair_emit (s : State) (o : Out) (d off : Nat) (w : DWord) : viewPair (emit s o) d off w = viewPair s d off w := by
  unfold viewPair
  rw [strataFirst_emit, emit_step, emit_rcp]

@[simp] theorem rdPair_emit (s : State) (o : Out) (k : Nat) : rdPair (emit s o) k = rdPair s k := by
  rw [rdPair, viewPair_emit]
  rfl

theorem counterLoRead_counter {s : State} {d off : Nat} {r : RegRow} (hr : regRow d off = some (r, false)) (hn : r.wide = true)
    (hacc : r.acc = .ctr) :
    counterLoRead s d off =
      { emit s (.reg (regAt d off) (BitVec.ofNat 32 (rdPair s (regKey d off)).toNat)) with
        latch := tabPut s.latch (regKey d off) (BitVec.ofNat 32 ((rdPair s (regKey d off)).toNat / 2 ^ 32)) } := by
  have hpow : (2 : Nat) ^ 32 = 4294967296 := by decide
  simp only [counterLoRead, hr, hn, hacc, rdWord_counter hr hn hacc, and_self, if_true, rdPair_emit, emit_latch, hpow]

theorem counterLoRead_absent {s : State} {d off : Nat} (hr : regRow d off = none) :
    counterLoRead s d off = emit s (.reg (regAt d off) 0) := by
  simp [counterLoRead, rdWord, hr]

end Sys2Proof.Machine
end

section
/-! SUPPORT. The counter controls: a write of 1 to a CLEAR bit is the row of its block (02:R47). -/
namespace Sys2Proof.Machine

/-- A store of a word with bit 0 set to a counter control is the row that zeroes the block's counters. -/
def StoreIsRow (e : Fin 64 × Nat × Instr) : Prop :=
  ∀ (s : State) (h : Fin 256) (w : Word), dieRunning s e.1 = true → bitOf w.toNat 0 = true →
    exec (.registerWrite h e.1 e.2.1 w) s = exec e.2.2 s

theorem storeIsRow_of_regWrite {d : Fin 64} {n off : Nat} {i : Instr} (f : State → State) (hd : d.val = n) (ha : off % 4 = 0)
    (ho : off < 0x4000000) (hi : ∀ s, exec i s = .next (f s)) (hstore : ∀ s w, regWrite s n off w = clearIf s w f) :
    StoreIsRow (d, off, i) := by
  intro s h w hrun hw
  rw [hi, exec_registerWrite_running ha ho hrun, hd, hstore, clearIf_set s f hw]

/-! ### Controls of a Gabbro and its Shale. -/

theorem storeIsRow_gabbro (g : Fin 16) :
    StoreIsRow (Fin.ofNat 64 (gabDie g), 0x110080, .schCounterClear g) ∧
    StoreIsRow (Fin.ofNat 64 (gabDie g), 0x120040, .dirCounterClear (Fin.ofNat 64 (gabDie g))) ∧
    StoreIsRow (Fin.ofNat 64 (gabDie g), 0x1128, .droopCounterClear g) := by
  have hd := val_ofNat_gabDie g
  refine ⟨storeIsRow_of_regWrite (clearSch · (gabDie g)) hd (by decide) (by decide) (fun _ => rfl) fun s w => ?_,
    storeIsRow_of_regWrite (clearDir · (gabDie g)) hd (by decide) (by decide) (fun s => ?_) fun s w => ?_,
    storeIsRow_of_regWrite (clearDroop · (gabDie g)) hd (by decide) (by decide) (fun _ => rfl) fun s w => ?_⟩
  · simp [regWrite, gabbroWrite]
  · rw [exec_dirCounterClear, hd]
  · simp [regWrite, gabbroWrite]
  · simp [regWrite, gabbroWrite]

theorem storeIsRow_shale (g : Fin 16) : StoreIsRow (Fin.ofNat 64 (shlDie g), 0x50, .shlCounterClear g) :=
  storeIsRow_of_regWrite (clearShl · (shlDie g)) (val_ofNat_shlDie g) (by decide) (by decide) (fun _ => rfl) fun s w => by
    simp [regWrite]

/-- A store in the block of a logical frame, by the offset in the block. -/
theorem regWrite_frame (s : State) (g : Fin 16) (f : Fin 8) {o : Nat} (ho : o < 0x1000) (w : Word) :
    regWrite s (gabDie g) (0x101000 + 0x1000 * f.val + o) w =
      if o = 0x00C then clearIf s w fun s => if winOrPending s (gabOrd (gabDie g)) then s else frameReset s (gabOrd (gabDie g)) f
      else if o = 0x050 then clearIf s w fun s => clearFrm s (gabDie g) f
      else if o = 0x220 then clearIf s w fun s => clearNum s (gabDie g) f
      else if o = 0x340 then clearIf s w fun s => clearBeam s (gabDie g) f
      else if o = 0x840 then clearIf s w fun s => clearBwd s (gabDie g) f
      else plainWrite s (gabDie g) (0x101000 + 0x1000 * f.val + o) w false := by
  have hdie : ¬(0x101000 + 0x1000 * f.val + o = 0x1020) := by omega
  have hseam : ¬(0x101000 + 0x1000 * f.val + o < 0x2400) := by omega
  have hen : ¬(0x101000 + 0x1000 * f.val + o = 0x100004) := by omega
  have hin : 0x101000 ≤ 0x101000 + 0x1000 * f.val + o ∧ 0x101000 + 0x1000 * f.val + o < 0x109000 := by omega
  have hf : (0x101000 + 0x1000 * f.val + o - 0x101000) / 0x1000 = f := by omega
  have ho' : (0x101000 + 0x1000 * f.val + o - 0x101000) % 0x1000 = o := by omega
  have hgab : regWrite s (gabDie g) (0x101000 + 0x1000 * f.val + o) w =
      gabbroWrite s (gabDie g) (0x101000 + 0x1000 * f.val + o) w := by simp [regWrite, hdie, hseam]
  rw [hgab, gabbroWrite, if_neg hen, if_pos hin]
  simp only [hf, ho']

theorem storeIsRow_frame (g : Fin 16) (f : Fin 8) :
    StoreIsRow (Fin.ofNat 64 (gabDie g), 0x101000 + 0x1000 * f.val + 0x50, .frmCounterClear g f) ∧
    StoreIsRow (Fin.ofNat 64 (gabDie g), 0x101000 + 0x1000 * f.val + 0x220, .numCounterClear g f) ∧
    StoreIsRow (Fin.ofNat 64 (gabDie g), 0x101000 + 0x1000 * f.val + 0x340, .beamCounterClear g f) ∧
    StoreIsRow (Fin.ofNat 64 (gabDie g), 0x101000 + 0x1000 * f.val + 0x840, .bwdCounterClear g f) := by
  have hd := val_ofNat_gabDie g
  exact ⟨storeIsRow_of_regWrite (clearFrm · (gabDie g) f) hd (by omega) (by omega) (fun _ => rfl)
      fun s w => regWrite_frame s g f (by decide) w,
    storeIsRow_of_regWrite (clearNum · (gabDie g) f) hd (by omega) (by omega) (fun _ => rfl)
      fun s w => regWrite_frame s g f (by decide) w,
    storeIsRow_of_regWrite (clearBeam · (gabDie g) f) hd (by omega) (by omega) (fun _ => rfl)
      fun s w => regWrite_frame s g f (by decide) w,
    storeIsRow_of_regWrite (clearBwd · (gabDie g) f) hd (by omega) (by omega) (fun _ => rfl)
      fun s w => regWrite_frame s g f (by decide) w⟩

/-! ### Controls of the other dies. -/

theorem storeIsRow_flint (m : Fin 12) :
    StoreIsRow (Fin.ofNat 64 (fltDie m), 0x50040, .dirCounterClear (Fin.ofNat 64 (fltDie m))) ∧
    StoreIsRow (Fin.ofNat 64 (fltDie m), 0x70040, .updCounterClear m) := by
  have hd := val_ofNat_fltDie m
  refine ⟨storeIsRow_of_regWrite (clearDir · (fltDie m)) hd (by decide) (by decide) (fun s => ?_) fun s w => ?_,
    storeIsRow_of_regWrite (clearUpd · (fltDie m)) hd (by decide) (by decide) (fun _ => rfl) fun s w => ?_⟩
  · rw [exec_dirCounterClear, hd]
  · simp [regWrite]
  · simp [regWrite]

theorem storeIsRow_gneiss (l : Fin 8) : StoreIsRow (Fin.ofNat 64 (gnsDie l), 0x20020, .atomCounterClear l) :=
  storeIsRow_of_regWrite (clearAtom · (gnsDie l)) (val_ofNat_gnsDie l) (by decide) (by decide) (fun _ => rfl) fun s w => by
    simp [regWrite]

theorem storeIsRow_feldspar (l : Fin 8) :
    StoreIsRow (Fin.ofNat 64 (fldDie l), 0x61038, .ringCounterClear l) ∧
    StoreIsRow (Fin.ofNat 64 (fldDie l), 0x800C0, .micaCounterClear l) := by
  have hd := val_ofNat_fldDie l
  refine ⟨storeIsRow_of_regWrite (clearRing · (fldDie l)) hd (by decide) (by decide) (fun _ => rfl) fun s w => ?_,
    storeIsRow_of_regWrite (clearMica · (fldDie l)) hd (by decide) (by decide) (fun _ => rfl) fun s w => ?_⟩
  · simp [regWrite, feldsparWrite]
  · simp [regWrite, feldsparWrite]

theorem storeIsRow_port (p : Fin 48) :
    StoreIsRow (Fin.ofNat 64 (portDie p), 0x90060 + 0x100 * portLoc p, .portCounterClear p) := by
  have hloc : portLoc p < 6 := Nat.mod_lt _ (by decide)
  refine storeIsRow_of_regWrite (clearPort · (portDie p) (portLoc p)) (val_ofNat_portDie p) (by omega) (by omega) (fun _ => rfl)
    fun s w => ?_
  generalize portLoc p = l at hloc ⊢
  have hdie : ¬(0x90060 + 0x100 * l = 0x1020) := by omega
  have hseam : ¬(0x90060 + 0x100 * l < 0x2400) := by omega
  have hring : ¬(0x90060 + 0x100 * l = 0x61038) := by omega
  have hmica : ¬(0x90060 + 0x100 * l = 0x800C0) := by omega
  have hport : 0x90000 ≤ 0x90060 + 0x100 * l ∧ 0x90060 + 0x100 * l < 0x90600 ∧ (0x90060 + 0x100 * l) % 0x100 = 0x60 := by omega
  have hl : (0x90060 + 0x100 * l - 0x90000) / 0x100 = l := by omega
  simp [regWrite, feldsparWrite, hdie, hseam, hring, hmica, hport, hl]

theorem storeIsRow_die (d : Fin 64) : StoreIsRow (d, 0x1020, .dieCounterClear d) :=
  storeIsRow_of_regWrite (clearDie · d) rfl (by decide) (by decide) (fun _ => rfl) fun s w => by simp [regWrite]

theorem storeIsRow_seam (d : Fin 64) (hd : dieKind d ≠ .shale) (q : Fin 16) :
    StoreIsRow (d, 0x2028 + 0x40 * q.val, .seamCounterClear d q) := by
  refine storeIsRow_of_regWrite (clearSeam · d q) rfl (by omega) (by omega) (fun s => ?_) fun s w => ?_
  · rw [exec_seamCounterClear, if_neg hd]
  · have hdie : ¬(0x2028 + 0x40 * q.val = 0x1020) := by omega
    have hseam : 0x2000 ≤ 0x2028 + 0x40 * q.val ∧ 0x2028 + 0x40 * q.val < 0x2400 ∧ (0x2028 + 0x40 * q.val) % 0x40 = 0x28 := by omega
    have hq : (0x2028 + 0x40 * q.val - 0x2000) / 0x40 = q := by omega
    simp [regWrite, hdie, hd, hseam, hq]

/-- A store to a Schist past the registers that every die has is a Schist's. -/
theorem regWrite_schist {d off : Nat} (hd : dieKind d = .schist) (ho : 0x3000 ≤ off) (s : State) (w : Word) :
    regWrite s d off w = schistWrite s d off w := by
  have hdie : ¬(off = 0x1020) := by omega
  have hseam : ¬(off < 0x2400) := by omega
  simp [regWrite, hdie, hseam, hd]

theorem storeIsRow_schist :
    StoreIsRow (15, 0x542C, .cmdCounterClear) ∧ StoreIsRow (15, 0x607C, .hltCounterClear) ∧
    StoreIsRow (15, 0x703C, .pwrCounterClear) ∧ StoreIsRow (15, 0x9050, .strataCounterClear) := by
  have hk : dieKind 15 = .schist := by decide
  exact ⟨storeIsRow_of_regWrite clearCmd rfl (by decide) (by decide) (fun _ => rfl) fun s w => regWrite_schist hk (by decide) s w,
    storeIsRow_of_regWrite clearHlt rfl (by decide) (by decide) (fun _ => rfl) fun s w => regWrite_schist hk (by decide) s w,
    storeIsRow_of_regWrite clearPwr rfl (by decide) (by decide) (fun _ => rfl) fun s w => regWrite_schist hk (by decide) s w,
    storeIsRow_of_regWrite clearStrata rfl (by decide) (by decide) (fun _ => rfl) fun s w => regWrite_schist hk (by decide) s w⟩

theorem storeIsRow_of_mem_clearRows {e : Fin 64 × Nat × Instr} (he : e ∈ clearRows) : StoreIsRow e := by
  simp only [clearRows, List.mem_append, List.mem_flatMap, List.mem_map, List.mem_finRange, true_and, List.mem_cons,
    List.not_mem_nil, or_false] at he
  rcases he with ((((((⟨g, (rfl | rfl | rfl | rfl) | ⟨f, rfl | rfl | rfl | rfl⟩⟩ | ⟨m, rfl | rfl⟩) | ⟨l, rfl | rfl | rfl⟩) |
    ⟨p, rfl⟩) | ⟨d, rfl⟩) | ⟨d, hseam⟩) | rfl | rfl | rfl | rfl)
  · exact (storeIsRow_gabbro g).1
  · exact (storeIsRow_gabbro g).2.1
  · exact (storeIsRow_gabbro g).2.2
  · exact storeIsRow_shale g
  · exact (storeIsRow_frame g f).1
  · exact (storeIsRow_frame g f).2.1
  · exact (storeIsRow_frame g f).2.2.1
  · exact (storeIsRow_frame g f).2.2.2
  · exact (storeIsRow_flint m).1
  · exact (storeIsRow_flint m).2
  · exact storeIsRow_gneiss l
  · exact (storeIsRow_feldspar l).1
  · exact (storeIsRow_feldspar l).2
  · exact storeIsRow_port p
  · exact storeIsRow_die d
  · split at hseam
    · simp at hseam
    · rename_i hd
      obtain ⟨q, -, rfl⟩ := List.mem_map.1 hseam
      exact storeIsRow_seam d hd q
  · exact storeIsRow_schist.1
  · exact storeIsRow_schist.2.1
  · exact storeIsRow_schist.2.2.1
  · exact storeIsRow_schist.2.2.2

end Sys2Proof.Machine
end

section
/-! SUPPORT. Two registers of a Schist with rules of their own: a queue's ring bases, which its use locks (15:R346, R372), and
SCH_POD_TIMEOUT (15:R369, R372). -/
namespace Sys2Proof.Machine

/-! ### Ring bases. -/

/-- The row of the ring bases: every bit of either half may change. -/
def baseRow (o : Nat) : RegRow := ⟨o, 64, 0x40, 1, 0, true, .rwl, 0xFFFFFFFF#32, 0⟩

theorem regRow_ringBase (q : Fin 64) (hi : Bool) :
    regRow 15 (0x4000 + 0x40 * q.val + if hi then 4 else 0) = some (baseRow 0x4000, hi) ∧
    regRow 15 (0x4008 + 0x40 * q.val + if hi then 4 else 0) = some (baseRow 0x4008, hi) := by
  revert q hi
  decide +kernel

theorem regKey_schist {off : Nat} (h1 : 0x3000 ≤ off) (h2 : off < 0xC000) : regKey 15 off = regAt 15 off := by
  have hk : dieKind 15 = .schist := by decide
  simp [regKey, regMirrored, hk, h1, h2]

/-- A store to a half of a ring base, `o` being 0 for the commands' ring and 8 for the replies'. -/
theorem regWrite_ringBase {s : State} {d o : Nat} (hd : dieKind d = .schist) (ho : o = 0 ∨ o = 8) (q : Fin 64) (hi : Bool)
    (w : Word) :
    regWrite s d (0x4000 + o + 0x40 * q.val + if hi then 4 else 0) w =
      ctrSet s (regAt 15 (0x4000 + o + q.val * 0x40))
        (if qLocked s q then ctrGet s (regAt 15 (0x4000 + o + q.val * 0x40))
         else putHalf (ctrGet s (regAt 15 (0x4000 + o + q.val * 0x40))) hi w) := by
  obtain ⟨x, hx⟩ : ∃ x, x = if hi then 4 else 0 := ⟨_, rfl⟩
  have hx4 : x ≤ 4 := by rw [hx]; split <;> decide
  obtain ⟨off, hoff⟩ : ∃ off, off = 0x4000 + o + 0x40 * q.val + x := ⟨_, rfl⟩
  have hrow : regRow 15 off = some (baseRow (0x4000 + o), hi) := by
    rw [hoff, hx]
    rcases ho with rfl | rfl
    · exact (regRow_ringBase q hi).1
    · exact (regRow_ringBase q hi).2
  have hlow : (if hi then off - 4 else off) = 0x4000 + o + q.val * 0x40 := by
    cases hi <;> simp only [Bool.false_eq_true, if_true, if_false] at hx ⊢ <;> omega
  have hkey : regAt 15 (0x4000 + o + q.val * 0x40) = regKey 15 (if hi then off - 4 else off) := by
    rw [hlow, regKey_schist (by omega) (by omega)]
  have hin : 0x4000 ≤ off ∧ off < 0x5000 := by omega
  have hq : (off - 0x4000) / 0x40 = q := by omega
  have hplain : regWrite s d off w = plainWrite s 15 off w (qLocked s q) := by
    have h10 : (off - 0x4000) % 0x40 ≠ 0x10 := by omega
    have h20 : (off - 0x4000) % 0x40 ≠ 0x20 := by omega
    have h24 : (off - 0x4000) % 0x40 ≠ 0x24 := by omega
    rw [regWrite_schist hd (by omega), schistWrite, if_pos hin, queueWrite]
    simp only [hq, h10, h20, h24, if_false]
  rw [← hx, ← hoff, hplain, plainWrite_pair hrow rfl w _ hkey, show (baseRow (0x4000 + o)).acc = .rwl from rfl,
    show (baseRow (0x4000 + o)).wmask = 0xFFFFFFFF#32 from rfl, accWrite_rwl_all]
  cases qLocked s q <;> simp

theorem qLocked_eq_true {s : State} {q : Nat} :
    qLocked s q = true ↔ 32 ≤ q ∨ qFld s q F_SCH_Q_CFG_ENABLE = 1 ∨ qFld s q F_SCH_Q_CFG_DRAINING = 1 := by
  simp [qLocked, or_assoc]

/-! ### SCH_POD_TIMEOUT. -/

/-- Whether a time-out is one that the block takes. -/
def podTimeoutOk (s : State) (w : Word) : Prop :=
  100 ≤ w.toNat ∧ w.toNat ≤ 600000 ∧ ∀ p, s.pod = some p → p.me = 0 → 20 * (podMaxDepth p.entries + 1) ≤ w.toNat

theorem podTimeoutWrite_ok {s : State} {w : Word} (h : podTimeoutOk s w) : podTimeoutWrite s w = regSet s R_SCH_POD_TIMEOUT w := by
  obtain ⟨hlo, hhi, hroot⟩ := h
  have hlo' : ¬w.toNat < 100 := by omega
  have hhi' : ¬600000 < w.toNat := by omega
  cases hp : s.pod with
  | none => simp [podTimeoutWrite, hp, hlo', hhi']
  | some p =>
    have hshort : p.me = 0 → ¬w.toNat < 20 * (podMaxDepth p.entries + 1) := fun hme => Nat.not_lt.2 (hroot p hp hme)
    simpa [podTimeoutWrite, hp, hlo', hhi'] using fun hme hlt => absurd hlt (hshort hme)

theorem podTimeoutWrite_refused {s : State} {w : Word} (h : w.toNat < 100 ∨ 600000 < w.toNat ∨
    ∃ p, s.pod = some p ∧ p.me = 0 ∧ w.toNat < 20 * (podMaxDepth p.entries + 1)) : podTimeoutWrite s w = s := by
  rcases h with h | h | ⟨p, hp, hme, hlt⟩
  · simp [podTimeoutWrite, h]
  · simp [podTimeoutWrite, h]
  · simp [podTimeoutWrite, hp, hme, hlt]

theorem regWrite_podTimeout {d : Nat} (hd : dieKind d = .schist) (s : State) (w : Word) :
    regWrite s d 0x5408 w = podTimeoutWrite s w := regWrite_schist hd (by decide) s w

end Sys2Proof.Machine
end

section
/-! SUPPORT. What a store or a load does to a RUNNING die, in the terms of RegistersAndCounters. -/
namespace Sys2Proof.Machine

/-! ### Words by their access codes. -/

theorem heldApart_word {d off : Nat} {r : RegRow} (hn : r.wide = false) (hen : ¬(dieKind d = .gabbro ∧ off = 0x100004))
    (hsch : ¬(dieKind d = .schist ∧ (0x4000 ≤ off ∧ off < 0x5000 ∨ off = 0x5400 ∨ off = 0x5408))) :
    heldApart (dieKind d) r off = false := by
  rw [Bool.eq_false_iff]
  intro h
  simp only [heldApart, hn, Bool.false_eq_true, if_false, Bool.or_eq_true, Bool.and_eq_true, beq_iff_eq, decide_eq_true_eq] at h
  rcases h with h | ⟨hk, h⟩
  · exact hen h
  · exact hsch ⟨hk, or_assoc.1 h⟩

section
variable {s : State} {d off : Nat} {r : RegRow} (hr : regRow d off = some (r, false)) (hn : r.wide = false)
  (hx : heldApart (dieKind d) r off = false) (w : Word)
include hr hn hx

theorem onlyRegs_regWrite_word (hacc : r.acc ≠ .wo) : OnlyRegs s (regWrite s d off w) [regKey d off] [] := by
  rw [regWrite_word hr hn hx hacc]
  exact onlyRegs_regSet s _ _

theorem regGet_regWrite_rw (hacc : r.acc = .rw) : regGet (regWrite s d off w) (regKey d off) =
    (regGet s (regKey d off) &&& ~~~r.wmask) ||| (w &&& r.wmask) := by
  rw [regWrite_word hr hn hx (by simp [hacc]), regGet_regSet_same, hacc]
  rfl

theorem regGet_regWrite_w1c (hacc : r.acc = .w1c) : regGet (regWrite s d off w) (regKey d off) =
    regGet s (regKey d off) &&& ~~~(w &&& r.wmask) := by
  rw [regWrite_word hr hn hx (by simp [hacc]), regGet_regSet_same, hacc]
  rfl

theorem onlyRegs_regWrite_ro (hacc : r.acc = .ro) : OnlyRegs s (regWrite s d off w) [] [] := by
  rw [regWrite_word hr hn hx (by simp [hacc]), hacc, accWrite_ro]
  exact onlyRegs_regSet_regGet s _

end

/-! ### Ring bases and the pod's time-out. -/

theorem exec_registerWrite_ringBase {s : State} {d : Fin 64} (hk : dieKind d = .schist) (hd : dieRunning s d = true) {o : Nat}
    (ho : o = 0 ∨ o = 8) (h : Fin 256) (q : Fin 64) (hi : Bool) (w : Word) :
    ∃ t, exec (.registerWrite h d (0x4000 + o + 0x40 * q.val + if hi then 4 else 0) w) s = .next t ∧
      ctrGet t (regAt 15 (0x4000 + o + q.val * 0x40)) =
        (if 32 ≤ q.val ∨ qFld s q F_SCH_Q_CFG_ENABLE = 1 ∨ qFld s q F_SCH_Q_CFG_DRAINING = 1
         then ctrGet s (regAt 15 (0x4000 + o + q.val * 0x40))
         else putHalf (ctrGet s (regAt 15 (0x4000 + o + q.val * 0x40))) hi w) ∧
      OnlyRegs s t [] [regAt 15 (0x4000 + o + q.val * 0x40)] := by
  have hoff : (0x4000 + o + 0x40 * q.val + if hi then 4 else 0) % 4 = 0 ∧
      (0x4000 + o + 0x40 * q.val + if hi then 4 else 0) < 0x4000000 := by
    split <;> omega
  refine ⟨_, exec_registerWrite_running hoff.1 hoff.2 hd h w, ?_, ?_⟩
  · rw [regWrite_ringBase hk ho, ctrGet_ctrSet_same]
    simp only [qLocked_eq_true]
  · rw [regWrite_ringBase hk ho]
    exact onlyRegs_ctrSet s _ _

theorem exec_registerWrite_podTimeout {s : State} {d : Fin 64} (hk : dieKind d = .schist) (hd : dieRunning s d = true)
    (h : Fin 256) (w : Word) : exec (.registerWrite h d 0x5408 w) s = .next (podTimeoutWrite s w) := by
  rw [exec_registerWrite_running (by decide) (by decide) hd, regWrite_podTimeout hk]

end Sys2Proof.Machine
end

section
/-! PROOFS. RegistersAndCounters: each clause by the lemmas on the operation that it speaks of. -/
namespace Sys2Proof.Machine

/-- A store to a RUNNING die, by the access code of its register. -/
theorem exec_registerWrite_byCode {s : State} {d : Fin 64} {off : Nat} (ha : off % 4 = 0) (ho : off < 0x4000000)
    (hd : dieRunning s d = true) (h : Fin 256) {r : RegRow} (w : Word) (hr : regRow d off = some (r, false)) (hn : r.wide = false)
    (hx : heldApart (dieKind d) r off = false) :
    (r.acc = .rw → ∃ t, exec (.registerWrite h d off w) s = .next t ∧
      regGet t (regKey d off) = (regGet s (regKey d off) &&& ~~~r.wmask) ||| (w &&& r.wmask) ∧ OnlyRegs s t [regKey d off] []) ∧
    (r.acc = .w1c → ∃ t, exec (.registerWrite h d off w) s = .next t ∧
      regGet t (regKey d off) = regGet s (regKey d off) &&& ~~~(w &&& r.wmask) ∧ OnlyRegs s t [regKey d off] []) ∧
    (r.acc = .ro → ∃ t, exec (.registerWrite h d off w) s = .next t ∧ OnlyRegs s t [] []) ∧
    (r.acc = .wo → w.toNat % 4 = 0 → exec (.registerWrite h d off w) s = .next s) := by
  have hst := exec_registerWrite_running ha ho hd h w
  refine ⟨fun hacc => ⟨_, hst, regGet_regWrite_rw hr hn hx w hacc, onlyRegs_regWrite_word hr hn hx w (by simp [hacc])⟩,
    fun hacc => ⟨_, hst, regGet_regWrite_w1c hr hn hx w hacc, onlyRegs_regWrite_word hr hn hx w (by simp [hacc])⟩,
    fun hacc => ⟨_, hst, onlyRegs_regWrite_ro hr hn hx w hacc⟩, fun hacc hw => ?_⟩
  rw [hst, regWrite_of_wo hr hx hacc hw]

/-- A load of a counter's low half answers it, latches its high half and changes nothing else. -/
theorem exec_counterLoRead_counter {s : State} {d : Fin 64} {off : Nat} (ha : off % 4 = 0) (ho : off < 0x4000000)
    (hd : dieRunning s d = true) (h : Fin 256) {r : RegRow} (hr : regRow d off = some (r, false)) (hn : r.wide = true)
    (hacc : r.acc = .ctr) :
    ∃ t, exec (.counterLoRead h d off) s = .next t ∧
      t.outs = .reg (regAt d off) (BitVec.ofNat 32 (rdPair s (regKey d off)).toNat) :: s.outs ∧
      tabFind t.latch (regKey d off) = some (BitVec.ofNat 32 ((rdPair s (regKey d off)).toNat / 2 ^ 32)) ∧
      { t with latch := s.latch, outs := s.outs } = s := by
  refine ⟨_, exec_counterLoRead_running ha ho hd h, ?_⟩
  rw [counterLoRead_counter hr hn hacc]
  exact ⟨rfl, tabFind_tabPut_same _ _ _, rfl⟩

/-- Settles O12, clause by clause: the CLEAR rows zero the counters of their block and nothing else; a store acts by the access
code because no row of the register map lies at an offset with an operation of its own, unless it is held apart. -/
theorem registersAndCounters : Obligations.RegistersAndCounters := by
  unfold Obligations.RegistersAndCounters
  refine ⟨fun s => ⟨?_, ?_, ?_, ?_, ?_, ?_, ?_, ?_, ?_, ?_, ?_, ?_⟩, fun s h d off => ⟨?_, ?_⟩, fun s h w => ⟨?_, ?_, ?_⟩⟩
  · exact fun g f => ⟨clears_of_exec rfl, clears_of_exec rfl, clears_of_exec rfl, clears_of_exec rfl⟩
  · intro g
    exact ⟨clears_of_exec rfl, clears_of_exec rfl, clears_of_exec rfl, clears_of_exec <| by
      rw [exec_dirCounterClear, val_ofNat_gabDie, clearDir_gabbro s (dieKind_gabDie g)]⟩
  · intro m
    exact ⟨clears_of_exec <| by
      rw [exec_dirCounterClear, val_ofNat_fltDie, clearDir_flint s (dieKind_fltDie m)], clears_of_exec rfl⟩
  · exact fun l => ⟨clears_of_exec rfl, clears_of_exec rfl, clears_of_exec rfl⟩
  · exact fun p => clears_of_exec rfl
  · exact fun d => clears_of_exec rfl
  · intro d q hd
    exact clears_of_exec <| by rw [exec_seamCounterClear, if_neg hd]; rfl
  · intro d q hd
    rw [exec_seamCounterClear, if_pos hd]
  · exact clears_of_exec rfl
  · exact clears_of_exec rfl
  · exact clears_of_exec rfl
  · exact clears_of_exec rfl
  · exact fun hbad w => ⟨exec_registerWrite_fault hbad h w, exec_counterLoRead_fault hbad h⟩
  · intro ha ho hd
    refine ⟨fun r w hr hn hen hsch => ?_, fun r hi w hr hn hacc => ?_, fun r hr hn hacc => ?_, fun hr => ?_⟩
    · exact exec_registerWrite_byCode ha ho hd h w hr hn (heldApart_word hn hen hsch)
    · exact ⟨_, exec_registerWrite_running ha ho hd h w, onlyRegs_regWrite_readOnlyPair hr hn hacc w⟩
    · exact exec_counterLoRead_counter ha ho hd h hr hn hacc
    · rw [exec_counterLoRead_running ha ho hd, counterLoRead_absent hr]
  · exact fun e he hd hw => storeIsRow_of_mem_clearRows he s h w hd hw
  · intro d q hi hk hd e he
    simp only [List.mem_cons, List.not_mem_nil, or_false] at he
    rcases he with rfl | rfl
    · exact exec_registerWrite_ringBase hk hd (o := 0) (.inl rfl) h q hi w
    · exact exec_registerWrite_ringBase hk hd (o := 8) (.inr rfl) h q hi w
  · intro d hk hd
    rw [exec_registerWrite_podTimeout hk hd]
    refine ⟨fun hlo hhi hroot => ⟨_, rfl, ?_⟩, fun hbad => ?_⟩
    · rw [podTimeoutWrite_ok ⟨hlo, hhi, hroot⟩]
      exact ⟨regGet_regSet_same s _ w, onlyRegs_regSet s _ w⟩
    · rw [podTimeoutWrite_refused hbad]

end Sys2Proof.Machine
end

section
/-! SUPPORT. The replay log (16:R385-R387) and recipes: writing a record changes no recipe, and memory only while the log
runs. -/
namespace Sys2Proof.Machine

theorem Touch.rcp {s t : State} (h : Touch s t) : t.rcp = s.rcp := by
  rw [h.1]

@[simp] theorem rplLose_rcp (s : State) : (rplLose s).rcp = s.rcp := rfl
@[simp] theorem rplLose_mem (s : State) : (rplLose s).mem = s.mem := rfl

@[simp] theorem rplTry_rcp (s : State) (ty len : Nat) (content : List Byte) : (rplTry s ty len content).1.rcp = s.rcp := by
  simp only [rplTry]
  split
  · split
    · rw [ctrSet_rcp, ctrSet_rcp, (touch_writeMem _ _ _ _ _).rcp, (touch_dropCopies _ _ _).rcp]
    · rw [(touch_writeMem _ _ _ _ _).rcp, (touch_dropCopies _ _ _).rcp]
  · rfl

@[simp] theorem rplPut_rcp (s : State) (ty len : Nat) (content : List Byte) : (rplPut s ty len content).rcp = s.rcp := by
  simp only [rplPut]
  split <;> simp

@[simp] theorem rplRoom_rcp (s : State) (len : Nat) : (rplRoom s len).1.rcp = s.rcp := by
  unfold rplRoom
  simp only []
  split
  · rfl
  · split
    · simp [rplStop]
    · split
      · rfl
      · rw [regInc_rcp, ctrSet_rcp]
        split <;> simp

/-- The LOST record that is owed, once room for it was sought. -/
def rplLostIn (r : State × Bool) : State :=
  if r.2 then
    if (rplTry r.1 0x08 64 (leBytes 8 r.1.rpl.lost)).2 then
      { (rplTry r.1 0x08 64 (leBytes 8 r.1.rpl.lost)).1 with
        rpl := { (rplTry r.1 0x08 64 (leBytes 8 r.1.rpl.lost)).1.rpl with lost := 0 } }
    else (rplTry r.1 0x08 64 (leBytes 8 r.1.rpl.lost)).1
  else r.1

theorem rplLost_eq (s : State) : rplLost s = if s.rpl.lost = 0 then s else rplLostIn (rplRoom s 64) := rfl

theorem rplLostIn_rcp (r : State × Bool) : (rplLostIn r).rcp = r.1.rcp := by
  unfold rplLostIn
  split
  · split <;> simp
  · rfl

@[simp] theorem rplLost_rcp (s : State) : (rplLost s).rcp = s.rcp := by
  rw [rplLost_eq]
  split
  · rfl
  · rw [rplLostIn_rcp, rplRoom_rcp]

@[simp] theorem rplRecord_rcp (s : State) (ty : Nat) (content : List Byte) : (rplRecord s ty content).rcp = s.rcp := by
  unfold rplRecord
  simp only []
  split
  · split <;> simp
  · simp

@[simp] theorem rplWrite_rcp (s : State) (ty : Nat) (content : List Byte) : (rplWrite s ty content).rcp = s.rcp := by
  unfold rplWrite
  split
  · split
    · split <;> simp
    · simp
  · split <;> simp

/-- A log that does not run writes nothing. -/
theorem rplWrite_mem_of_stopped {s : State} (h : rplRunning s = false) (ty : Nat) (content : List Byte) :
    (rplWrite s ty content).mem = s.mem := by
  rw [rplWrite, h, if_neg Bool.false_ne_true]
  split <;> simp

/-! ### Recipe changes (03:R57, R58). -/

/-- A change replaces the words and the seed that it selects and advances the generation. -/
theorem recipeApply_rcp (s : State) (c : Nat × Bool × List Word × DWord) :
    (recipeApply s c).rcp =
      { s.rcp with
        words := (indexed s.rcp.words).map fun p => if bitOf c.1 p.1 then c.2.2.1.getD p.1 p.2 else p.2
        seed := if c.2.1 then c.2.2.2 else s.rcp.seed
        gen := s.rcp.gen + 1 } := rplWrite_rcp _ _ _

theorem recipeApply_mem_of_stopped {s : State} (h : rplRunning s = false) (c : Nat × Bool × List Word × DWord) :
    (recipeApply s c).mem = s.mem := by
  have hstop (r : Recipes) : rplRunning { s with rcp := r } = false := (flag_of_regs rfl _ _).trans h
  rw [recipeApply, rplWrite_mem_of_stopped (hstop _)]

@[simp] theorem getElem?_indexed {α : Type} (l : List α) (k : Nat) : (indexed l)[k]? = l[k]?.map (Prod.mk k) := by
  simp [indexed, List.getElem?_zipIdx, Function.comp_def]

theorem recipeApply_word (s : State) (c : Nat × Bool × List Word × DWord) {k : Nat} {w : Word} (h : s.rcp.words[k]? = some w) :
    (recipeApply s c).rcp.words[k]? = some (if bitOf c.1 k then c.2.2.1.getD k w else w) := by
  rw [recipeApply_rcp, List.getElem?_map, getElem?_indexed, h]
  rfl

/-- A state with a change accepted behind those that wait. -/
def withStaged (s : State) (c : Nat × Bool × List Word × DWord) : State :=
  { s with rcp := { s.rcp with staged := s.rcp.staged ++ [c] } }

/-- Where no other change waits, the change accepted takes effect alone. -/
theorem recipesApply_withStaged {s : State} (h : s.rcp.staged = []) (c : Nat × Bool × List Word × DWord) :
    recipesApply (withStaged s c) = recipeApply s c := by
  have hs : { s with rcp := { s.rcp with staged := [] } } = s := by
    rw [← h]
  simp only [recipesApply, withStaged, h, List.nil_append, List.foldl_cons, List.foldl_nil]
  rw [hs]

/-! ### RCP_SET. -/

section
variable (t : Taken) (s : State) {mask : Byte} {sv : Bool} {words : List Word} (seed : DWord)

theorem cmdRcpSet_refused (h : (mask.toNat = 0 ∧ sv = false) ∨ ∃ k ∈ setBits 8 mask.toNat, rcpValid k (words.getD k 0) = false) :
    cmdRcpSet mask sv words seed t s = (s, some (.no 0x0102)) := by
  refine if_pos ?_
  simpa using h

theorem cmdRcpSet_accepted (hsel : mask.toNat ≠ 0 ∨ sv = true)
    (hval : ∀ k ∈ setBits 8 mask.toNat, rcpValid k (words.getD k 0) = true) :
    cmdRcpSet mask sv words seed t s =
      (if s.runs.isEmpty && !(anyWindow s) then recipesApply (withStaged s (mask.toNat, sv, words, seed))
        else withStaged s (mask.toNat, sv, words, seed),
       some (.ok (leBytes 4 (s.rcp.gen + BitVec.ofNat 32 (s.rcp.staged.length + 1)).toNat))) := by
  refine if_neg ?_
  rw [Bool.not_eq_true, Bool.or_eq_false_iff]
  refine ⟨?_, by simpa using hval⟩
  rcases hsel with h | h <;> simp [h]

end

theorem exec_rcpSet (src : Src) (mask : Byte) (sv : Bool) (words : List Word) (seed : DWord) (s : State) :
    exec (.rcpSet src mask sv words seed) s =
      .next (runCmd 0x0110 src (parBytes ([(0, 1, mask.toNat), (1, 1, b2n sv), (36, 8, seed.toNat)]
        ++ (List.range 8).map fun k => (4 + 4 * k, 4, (words.getD k 0).toNat))) (cmdRcpSet mask sv words seed) s) := rfl

end Sys2Proof.Machine
end

section
/-! PROOFS. RecipesSet: RCP_SET through its three outcomes. -/
namespace Sys2Proof.Machine

/-- Settles O21 by the three outcomes of RCP_SET: refused, accepted to wait, and accepted to take effect alone. -/
theorem recipesSet : Obligations.RecipesSet := by
  unfold Obligations.RecipesSet
  intro s src mask sv words seed hserv
  have hexec := exec_rcpSet src mask sv words seed s
  have hdef := defined_rcpSet src mask sv words seed
  refine ⟨fun hsel hval => ⟨fun hruns hwin hstaged => ?_, fun hbusy => ?_⟩, fun hbad => ?_⟩
  · have hf := fun t => cmdRcpSet_accepted t (begun s) seed hsel hval
    have hstaged' : (begun s).rcp.staged = [] := by rw [begun_rcp, hstaged]
    have hgen : (begun s).rcp.gen + BitVec.ofNat 32 ((begun s).rcp.staged.length + 1) = s.rcp.gen + 1 := by
      rw [hstaged', begun_rcp]; rfl
    have hnow : ((begun s).runs.isEmpty && !(anyWindow (begun s))) = true := by simp [hruns, hwin]
    simp only [hgen, hnow, if_true, recipesApply_withStaged hstaged'] at hf
    refine ends_of hserv hexec hdef (hf _) ⟨?_, ?_, ?_, fun k w hk => ?_, fun hstop => ?_⟩
    · rw [recipeApply_rcp, begun_rcp]
    · rw [recipeApply_rcp, begun_rcp]
    · rw [recipeApply_rcp, begun_rcp]; exact hstaged
    · exact recipeApply_word (begun s) _ (by rw [begun_rcp]; exact hk)
    · rw [recipeApply_mem_of_stopped (by rw [rplRunning, flag_begun]; exact hstop), begun_mem]
  · have hf := fun t => cmdRcpSet_accepted t (begun s) seed hsel hval
    have hlater : ((begun s).runs.isEmpty && !(anyWindow (begun s))) = false := by
      rcases hbusy with h | h <;> simp [h]
    simp only [hlater, Bool.false_eq_true, if_false] at hf
    rw [begun_rcp] at hf
    refine ends_of hserv hexec hdef (hf _) ⟨?_, begun_regs s, begun_mem s⟩
    rw [withStaged, begun_rcp]
  · exact ends_of hserv hexec hdef (cmdRcpSet_refused _ _ seed hbad) ⟨begun_unchanged s, begun_rcp s⟩

end Sys2Proof.Machine
end

section
/-! SUPPORT. Logical frames: what a change of one frame leaves in it and in the others. -/
namespace Sys2Proof.Machine

theorem frameGet_of_frames {s t : State} (h : t.frames = s.frames) (g f : Nat) : frameGet t g f = frameGet s g f := by
  simp only [frameGet, h]

@[simp] theorem frameGet_frameMod_same (s : State) (g f : Nat) (h : Frame → Frame) :
    frameGet (frameMod s g f h) g f = h (frameGet s g f) := by
  simp [frameGet, frameMod, frameSet, tabGet]

theorem frameMod_congr {s : State} {g f : Nat} {h h' : Frame → Frame} (hx : h (frameGet s g f) = h' (frameGet s g f)) :
    frameMod s g f h = frameMod s g f h' := by
  rw [frameMod, hx, frameMod]

@[simp] theorem frameMod_regs (s : State) (g f : Nat) (h : Frame → Frame) : (frameMod s g f h).regs = s.regs := rfl
@[simp] theorem frameMod_mem (s : State) (g f : Nat) (h : Frame → Frame) : (frameMod s g f h).mem = s.mem := rfl
@[simp] theorem frameMod_ecc (s : State) (g f : Nat) (h : Frame → Frame) : (frameMod s g f h).ecc = s.ecc := rfl
@[simp] theorem frameMod_scheds (s : State) (g f : Nat) (h : Frame → Frame) : (frameMod s g f h).scheds = s.scheds := rfl

theorem onlyFrame_of_frames {s t : State} (h : t.frames = s.frames) (g f : Nat) : OnlyFrame s t g f :=
  fun _ _ _ _ => frameGet_of_frames h _ _

theorem OnlyFrame.trans {s t u : State} {g f : Nat} (h : OnlyFrame s t g f) (h' : OnlyFrame t u g f) : OnlyFrame s u g f :=
  fun a b hb hne => (h' a b hb hne).trans (h a b hb hne)

theorem onlyFrame_frameMod (s : State) (g : Nat) {f : Nat} (hf : f < 8) (h : Frame → Frame) :
    OnlyFrame s (frameMod s g f h) g f := by
  intro a b hb hne
  have hkey : a * 8 + b ≠ g * 8 + f := by omega
  simp [frameGet, frameMod, frameSet, tabGet, tabFind_tabPut_ne _ _ hkey]

/-! ### A fault that becomes pending (06:R127). -/

section
variable (s : State) (g st : Nat)

@[simp] theorem winFault_frames : (winFault s g st).frames = s.frames := by unfold winFault; split <;> rfl
@[simp] theorem winFault_mem : (winFault s g st).mem = s.mem := by unfold winFault; split <;> rfl
@[simp] theorem winFault_ecc : (winFault s g st).ecc = s.ecc := by unfold winFault; split <;> rfl

theorem regGet_winFault_ne {k : Nat} (h : k ≠ R_GAB_SCH_STATUS (gabDie g)) : regGet (winFault s g st) k = regGet s k := by
  unfold winFault
  split
  · rfl
  · exact regGet_raise_ne _ _ h

theorem faulted_winFault : Faulted s (winFault s g st) g st := by
  intro w hw
  simp only [winFault, hw]
  refine ⟨flag_raise_same _ _ _ (by decide) rfl, ?_⟩
  simp [winGet, schedGet, schedSet, tabGet]

end

/-- A pending fault depends on the schedules and on the status register alone. -/
theorem Faulted.congr {s s' t t' : State} {g st : Nat} (h : Faulted s t g st) (hs : s'.scheds = s.scheds)
    (ht : t'.scheds = t.scheds) (hr : t'.regs = t.regs) : Faulted s' t' g st := by
  intro w hw
  have hw' : winGet s g = some w := by simpa only [winGet, schedGet, hs] using hw
  obtain ⟨hflag, hfault⟩ := h w hw'
  refine ⟨by rw [flag_of_regs hr]; exact hflag, ?_⟩
  simpa only [winGet, schedGet, ht] using hfault

end Sys2Proof.Machine
end

section
/-! SUPPORT. Errors of storage that the beam meets (04:R94): correcting one changes no frame, no memory and no register of
the blocks of a Gabbro from offset 0x100000 on. -/
namespace Sys2Proof.Machine

theorem regOff_regAt (d : Nat) {off : Nat} (h : off < 0x4000000) : regOff (regAt d off) = off := by
  unfold regOff regAt
  omega

/-- Frames, memory and the registers from offset 0x100000 on are as they were. -/
def KeepsHigh (s t : State) : Prop :=
  t.frames = s.frames ∧ t.mem = s.mem ∧ ∀ k, 0x100000 ≤ regOff k → regGet t k = regGet s k

theorem KeepsHigh.refl (s : State) : KeepsHigh s s := ⟨rfl, rfl, fun _ _ => rfl⟩

theorem KeepsHigh.trans {s t u : State} (h : KeepsHigh s t) (h' : KeepsHigh t u) : KeepsHigh s u :=
  ⟨h'.1.trans h.1, h'.2.1.trans h.2.1, fun k hk => (h'.2.2 k hk).trans (h.2.2 k hk)⟩

theorem keepsHigh_regSet (s : State) (d : Nat) {off : Nat} (h : off < 0x100000) (w : Word) :
    KeepsHigh s (regSet s (regAt d off) w) := by
  refine ⟨rfl, rfl, fun k hk => regGet_regSet_ne s w ?_⟩
  rintro rfl
  rw [regOff_regAt d (by omega)] at hk
  omega

theorem keepsHigh_count (s : State) (k n : Nat) : KeepsHigh s (count s k n) :=
  ⟨count_frames s k n, count_mem s k n, fun j _ => regGet_of_regs (count_regs s k n) j⟩

theorem keepsHigh_shl_ecc (s : State) (x : ShaleX) (e : Tab Bool) : KeepsHigh s { s with shl := x, ecc := e } :=
  ⟨rfl, rfl, fun _ _ => rfl⟩

theorem keepsHigh_strataEvent (s : State) (die unit status ctx aux : Nat) : KeepsHigh s (strataEvent s die unit status ctx aux) := by
  refine ⟨strataEvent_frames .., strataEvent_mem .., fun k hk => regGet_strataEvent _ _ _ _ _ _ ?_⟩
  rintro rfl
  rw [R_SCH_STRATA_ERR, regOff_regAt 15 (by decide)] at hk
  omega

theorem keepsHigh_spareExhausted (s : State) (d row : Nat) : KeepsHigh s (spareExhausted s d row) :=
  (keepsHigh_regSet s d (by decide) _).trans (keepsHigh_strataEvent _ _ _ _ _ _)

theorem keepsHigh_spareNote (s : State) (g a : Nat) : KeepsHigh s (spareNote s g a) := by
  have hshl (u : State) (x : ShaleX) : KeepsHigh u { u with shl := x } := keepsHigh_shl_ecc u x u.ecc
  unfold spareNote
  simp only []
  split
  · exact .refl s
  · split
    · exact hshl s _
    · split
      · exact (hshl s _).trans ((hshl _ _).trans (keepsHigh_regSet _ _ (by decide) _))
      · exact (hshl s _).trans (keepsHigh_spareExhausted _ _ _)

theorem keepsHigh_corrected (s : State) (a : Nat) : KeepsHigh s (corrected s a) := by
  have hecc : KeepsHigh s { s with ecc := tabDel s.ecc a } := keepsHigh_shl_ecc s s.shl _
  unfold corrected
  simp only []
  split
  · exact hecc.trans ((keepsHigh_count _ _ _).trans (keepsHigh_spareNote _ _ _))
  · exact hecc.trans (keepsHigh_regSet _ _ (by decide) _)
  · exact hecc.trans (keepsHigh_count _ _ _)
  · exact hecc.trans (keepsHigh_count _ _ _)
  · exact hecc

theorem keepsHigh_checkGranule (s : State) (a : Nat) : KeepsHigh s (checkGranule s a).1 := by
  unfold checkGranule
  split
  · exact .refl s
  · exact .refl s
  · exact keepsHigh_corrected s a

end Sys2Proof.Machine
end

section
/-! SUPPORT. The registers of a tile entry (04:R81): no other register of the beam or of the schedule lies at its address. -/
namespace Sys2Proof.Machine

/-- ENTRY of an OUT_TAG names one of the 64 entries. -/
theorem tagEntry_lt (t : Nat) : tagEntry t < 64 := Nat.mod_lt _ (by decide)

section
variable (d f e : Nat)

theorem regOff_tileStatus {f e : Nat} (hf : f < 8) (he : e < 64) :
    regOff (R_GAB_BEAM_TILE_STATUS d f e) = 0x101404 + f * 0x1000 + e * 16 := regOff_regAt d (by omega)

theorem tileCfg_ne_tileStatus (e' : Nat) : R_GAB_BEAM_TILE_CFG d f e ≠ R_GAB_BEAM_TILE_STATUS d f e' := by
  unfold R_GAB_BEAM_TILE_CFG R_GAB_BEAM_TILE_STATUS regAt; omega
theorem tileCfg_ne_tileGroups (e' : Nat) : R_GAB_BEAM_TILE_CFG d f e ≠ R_GAB_BEAM_TILE_GROUPS d f e' := by
  unfold R_GAB_BEAM_TILE_CFG R_GAB_BEAM_TILE_GROUPS regAt; omega
theorem tileCfg_ne_beamErr : R_GAB_BEAM_TILE_CFG d f e ≠ R_GAB_BEAM_ERR d f := by
  unfold R_GAB_BEAM_TILE_CFG R_GAB_BEAM_ERR regAt; omega
theorem tileStatus_ne_beamErr : R_GAB_BEAM_TILE_STATUS d f e ≠ R_GAB_BEAM_ERR d f := by
  unfold R_GAB_BEAM_TILE_STATUS R_GAB_BEAM_ERR regAt; omega
theorem tileStatus_ne_schStatus : R_GAB_BEAM_TILE_STATUS d f e ≠ R_GAB_SCH_STATUS d := by
  unfold R_GAB_BEAM_TILE_STATUS R_GAB_SCH_STATUS regAt; omega
theorem tileCfg_ne_schStatus {e : Nat} (he : e < 64) : R_GAB_BEAM_TILE_CFG d f e ≠ R_GAB_SCH_STATUS d := by
  unfold R_GAB_BEAM_TILE_CFG R_GAB_SCH_STATUS regAt; omega
theorem beamErr_ne_schStatus : R_GAB_BEAM_ERR d f ≠ R_GAB_SCH_STATUS d := by
  unfold R_GAB_BEAM_ERR R_GAB_SCH_STATUS regAt; omega

end

/-! ### What depends on registers alone. -/

theorem tileCfg_of_regs {s t : State} (h : t.regs = s.regs) (g f e : Nat) : tileCfg t g f e = tileCfg s g f e := regGet_of_regs h _
theorem cfgFld_of_tileCfg {s t : State} {g f e : Nat} (h : tileCfg t g f e = tileCfg s g f e) (x : Fld) :
    cfgFld t g f e x = cfgFld s g f e x := by
  simp only [cfgFld, h]
theorem elemAddr_of_tileCfg {s t : State} {g f e : Nat} (h : tileCfg t g f e = tileCfg s g f e) (r j : Nat) :
    elemAddr t g f e r j = elemAddr s g f e r j := by
  simp only [elemAddr, cfgFld_of_tileCfg h]
theorem accValue_of_tileCfg {s t : State} {g f e : Nat} (h : tileCfg t g f e = tileCfg s g f e) (hm : t.mem = s.mem) (r j : Nat) :
    accValue t g f e r j = accValue s g f e r j := by
  simp only [accValue, cfgFld_of_tileCfg h, elemAddr_of_tileCfg h, hm]

theorem verdict_of_regs {s t : State} (h : t.regs = s.regs) (g f : Nat) (p : PassRec) (k : Nat) :
    verdict t g f p k = verdict s g f p k := by
  have hregs : verdict t g f p k = verdict { s with regs := t.regs } g f p k := rfl
  rw [hregs, h]

end Sys2Proof.Machine
end

section
/-! SUPPORT. What has happened in the stores, and the results that leave the pipeline (04:R83): frames but for the pipeline,
registers and schedules are as they were. -/
namespace Sys2Proof.Machine

/-- Frames, registers and schedules are as they were. -/
def StoresOnly (s t : State) : Prop := t.frames = s.frames ∧ t.regs = s.regs ∧ t.scheds = s.scheds

theorem StoresOnly.refl (s : State) : StoresOnly s s := ⟨rfl, rfl, rfl⟩
theorem StoresOnly.trans {s t u : State} (h : StoresOnly s t) (h' : StoresOnly t u) : StoresOnly s u :=
  ⟨h'.1.trans h.1, h'.2.1.trans h.2.1, h'.2.2.trans h.2.2⟩
theorem StoresOnly.foldl {α : Type} {f : State → α → State} (h : ∀ s x, StoresOnly s (f s x)) (l : List α) (s : State) :
    StoresOnly s (l.foldl f s) := by
  induction l generalizing s with
  | nil => exact .refl s
  | cons a t ih => exact (h s a).trans (ih _)

theorem storesOnly_predSnoop (s : State) (c line mask : Nat) : StoresOnly s (predSnoop s c line mask) := by
  refine StoresOnly.foldl (fun u k => ?_) _ s
  simp only []
  split
  · exact .refl u
  · split <;> exact ⟨rfl, rfl, rfl⟩

theorem storesOnly_lineAtSet (s : State) (c line : Nat) (x : LineAt) : StoresOnly s (lineAtSet s c line x) := by
  unfold lineAtSet
  split
  · exact ⟨rfl, rfl, rfl⟩
  · exact .refl s

theorem storesOnly_watchNote (s : State) (a n : Nat) : StoresOnly s (watchNote s a n) := by
  unfold watchNote
  split
  · exact ⟨rfl, rfl, rfl⟩
  · exact .refl s

theorem storesOnly_before (s : State) (b : Before) : StoresOnly s (before s b) := by
  cases b with
  | upset a ue =>
    simp only [before, upset]
    split
    · exact ⟨rfl, rfl, rfl⟩
    · exact .refl s
  | parity a =>
    simp only [before, tagUpset]
    split
    · exact ⟨rfl, rfl, rfl⟩
    · exact .refl s
  | store h a bs =>
    have hcopy (u : State) (c line : Nat) (x : CacheLine) : StoresOnly u (copySet u c line x) := ⟨rfl, rfl, rfl⟩
    simp only [before, silentStore]
    split
    · split
      · exact (storesOnly_watchNote s _ _).trans ((hcopy _ _ _ _).trans
          ((storesOnly_predSnoop _ _ _ _).trans (storesOnly_lineAtSet _ _ _ _)))
      · exact .refl s
    · exact .refl s
  | evict c a =>
    simp only [before, silentEvict]
    split
    · split
      · exact ⟨rfl, rfl, rfl⟩
      · exact .refl s
    · exact .refl s
  | level c a l2 llc =>
    simp only [before, levelSet]
    split
    · exact .refl s
    · exact storesOnly_lineAtSet _ _ _ _

theorem storesOnly_upsets (s : State) (us : List Before) : StoresOnly s (upsets s us) := StoresOnly.foldl storesOnly_before us s

theorem storesOnly_pipeWrite (s : State) (c : Accum) : StoresOnly s (pipeWrite s c) := by
  unfold pipeWrite
  split
  · exact ⟨rfl, rfl, rfl⟩
  · split
    · exact .refl s
    · exact ⟨rfl, rfl, rfl⟩

/-- A result that was not lost is written: 4 bytes, or 8 of the wide format. -/
theorem stored_pipeWrite (s : State) {c : Accum} (h : c.lost = false) :
    Stored s (pipeWrite s c) c.addr (leBytes (if c.wide then 8 else 4) c.code) := by
  have hmem : (pipeWrite s c).mem = memWrite s.mem c.addr (leBytes (if c.wide then 8 else 4) c.code) := by
    cases hw : c.wide <;> simp [pipeWrite, hw, h]
  unfold Stored
  rw [hmem]
  exact ⟨memRead_memWrite _ _ _, fun x hx => memGet_memWrite_outside _ _ _ _ hx⟩

/-- The results of a frame that are due. -/
def pipeDue (x : Frame) : List Accum := x.pipe.filter fun c => decide (c.due ≤ x.age)
/-- A frame once its results that are due have left. -/
def pipeLeft (x : Frame) : Frame := { x with pipe := x.pipe.filter fun c => decide (x.age < c.due) }

section
variable (s : State) (g f : Nat)

/-- An empty pipeline needs no case of its own. -/
theorem pipeOut_cases : ((frameGet s g f).pipe = [] ∧ pipeOut s g f = s) ∨
    pipeOut s g f = frameMod ((pipeDue (frameGet s g f)).foldl pipeWrite s) g f pipeLeft := by
  have hfr : frameGet ((pipeDue (frameGet s g f)).foldl pipeWrite s) g f = frameGet s g f :=
    frameGet_of_frames (StoresOnly.foldl storesOnly_pipeWrite _ s).1 g f
  unfold pipeOut
  simp only []
  split
  · rename_i h; exact .inl ⟨List.isEmpty_iff.1 h, rfl⟩
  · refine .inr ?_
    have hleft (x : Frame) (hx : x = frameGet s g f) :
        { x with pipe := x.pipe.filter fun c => decide ((frameGet s g f).age < c.due) } = pipeLeft x := by
      rw [← hx]; rfl
    exact frameMod_congr (hleft _ hfr)

theorem pipeOut_mem : (pipeOut s g f).mem = ((pipeDue (frameGet s g f)).foldl pipeWrite s).mem := by
  rcases pipeOut_cases s g f with ⟨hp, h⟩ | h
  · simp [h, pipeDue, hp]
  · rw [h, frameMod_mem]

theorem frameGet_pipeOut : frameGet (pipeOut s g f) g f = pipeLeft (frameGet s g f) := by
  rcases pipeOut_cases s g f with ⟨hp, h⟩ | h
  · rw [h]
    obtain ⟨x, hx⟩ : ∃ x, x = frameGet s g f := ⟨_, rfl⟩
    rw [← hx] at hp ⊢
    cases x
    simp_all [pipeLeft]
  · rw [h, frameGet_frameMod_same, frameGet_of_frames (StoresOnly.foldl storesOnly_pipeWrite _ s).1]

theorem pipeOut_regs : (pipeOut s g f).regs = s.regs := by
  rcases pipeOut_cases s g f with ⟨-, h⟩ | h
  · rw [h]
  · rw [h, frameMod_regs, (StoresOnly.foldl storesOnly_pipeWrite _ s).2.1]

theorem pipeOut_scheds : (pipeOut s g f).scheds = s.scheds := by
  rcases pipeOut_cases s g f with ⟨-, h⟩ | h
  · rw [h]
  · rw [h, frameMod_scheds, (StoresOnly.foldl storesOnly_pipeWrite _ s).2.2]

theorem onlyFrame_pipeOut {f : Nat} (hf : f < 8) : OnlyFrame s (pipeOut s g f) g f := by
  rcases pipeOut_cases s g f with ⟨-, h⟩ | h
  · rw [h]; exact onlyFrame_of_frames rfl g f
  · rw [h]
    exact (onlyFrame_of_frames (StoresOnly.foldl storesOnly_pipeWrite _ s).1 g f).trans (onlyFrame_frameMod _ g hf _)

end

/-- Where no result is due, memory and its errors stay, and so does the pipeline. -/
theorem pipeOut_none_due {s : State} {g f : Nat} (h : ∀ c ∈ (frameGet s g f).pipe, (frameGet s g f).age < c.due) :
    (pipeOut s g f).mem = s.mem ∧ (pipeOut s g f).ecc = s.ecc ∧ frameGet (pipeOut s g f) g f = frameGet s g f := by
  have hdue : pipeDue (frameGet s g f) = [] := List.filter_eq_nil_iff.2 fun c hc => by simpa using h c hc
  have hleft : pipeLeft (frameGet s g f) = frameGet s g f := by
    rw [pipeLeft, List.filter_eq_self.2 fun c hc => by simpa using h c hc]
  refine ⟨by rw [pipeOut_mem, hdue]; rfl, ?_, by rw [frameGet_pipeOut, hleft]⟩
  rcases pipeOut_cases s g f with ⟨-, h⟩ | h
  · rw [h]
  · rw [h, frameMod_ecc, hdue]; rfl

end Sys2Proof.Machine
end

section
/-! SUPPORT. Column 0 of a wavefront enters (04:R80-R84): what the beam's decision sets, and what it leaves. -/
namespace Sys2Proof.Machine

/-- Nothing of the frame changes but the touched masks; memory, its errors and the configurations of the tiles stay. -/
def WaveEntered (s t : State) (g f : Nat) : Prop :=
  (∃ touched, frameGet t g f = { frameGet s g f with touched := touched }) ∧ OnlyFrame s t g f ∧ t.mem = s.mem ∧
    t.ecc = s.ecc ∧ ∀ e < 64, tileCfg t g f e = tileCfg s g f e

section
variable {g f : Nat}

theorem WaveEntered.refl (s : State) : WaveEntered s s g f :=
  ⟨⟨_, rfl⟩, onlyFrame_of_frames rfl g f, rfl, rfl, fun _ _ => rfl⟩

theorem WaveEntered.trans {s t u : State} (h : WaveEntered s t g f) (h' : WaveEntered t u g f) : WaveEntered s u g f := by
  obtain ⟨⟨a, ha⟩, hone, hmem, hecc, hcfg⟩ := h
  obtain ⟨⟨b, hb⟩, hone', hmem', hecc', hcfg'⟩ := h'
  exact ⟨⟨b, by rw [hb, ha]⟩, hone.trans hone', hmem'.trans hmem, hecc'.trans hecc, fun e he => (hcfg' e he).trans (hcfg e he)⟩

theorem waveEntered_regSet (s : State) {k : Nat} (w : Word) (h : ∀ e < 64, R_GAB_BEAM_TILE_CFG (gabDie g) f e ≠ k) :
    WaveEntered s (regSet s k w) g f :=
  ⟨⟨_, rfl⟩, onlyFrame_of_frames rfl g f, rfl, rfl, fun e he => regGet_regSet_ne s w (h e he)⟩

theorem waveEntered_setTile (s : State) (e : Nat) (x : Fld) (v : Nat) : WaveEntered s (setTile s g f e x v) g f :=
  waveEntered_regSet s _ fun _ _ => tileCfg_ne_tileStatus _ _ _ _

theorem waveEntered_count (s : State) (k n : Nat) : WaveEntered s (count s k n) g f :=
  ⟨⟨(frameGet s g f).touched, frameGet_of_frames (count_frames s k n) g f⟩, onlyFrame_of_frames (count_frames s k n) g f,
    count_mem s k n, count_ecc s k n, fun e _ => tileCfg_of_regs (count_regs s k n) g f e⟩

theorem waveEntered_addGroups (s : State) (e n : Nat) : WaveEntered s (addGroups s g f e n) g f := by
  have hset (w : Word) : WaveEntered s (regSet s (R_GAB_BEAM_TILE_GROUPS (gabDie g) f e) w) g f :=
    waveEntered_regSet s w fun _ _ => tileCfg_ne_tileGroups _ _ _ _
  unfold addGroups
  simp only []
  split
  · exact (hset _).trans ((waveEntered_setTile _ e _ _).trans (waveEntered_count _ _ _))
  · exact hset _

theorem waveEntered_freshTile (s : State) (hf : f < 8) (e rows : Nat) : WaveEntered s (freshTile s g f e rows) g f := by
  have htouched (u : State) : WaveEntered u (frameMod u g f fun x => { x with touched := tabDel x.touched e }) g f :=
    ⟨⟨_, frameGet_frameMod_same u g f _⟩, onlyFrame_frameMod u g hf _, rfl, rfl, fun _ _ => rfl⟩
  exact (waveEntered_regSet s _ fun _ _ => tileCfg_ne_tileStatus _ _ _ _).trans
    ((waveEntered_regSet _ _ fun _ _ => tileCfg_ne_tileGroups _ _ _ _).trans (htouched _))

end

/-! ### The three decisions. -/

/-- The beam does not take a wavefront: a flag of the entry, an error flag, and a fault of the window. -/
def rejectWave (s : State) (g f e : Nat) (x y : Fld) : State :=
  winFault (raise (setTile s g f e x 1) (R_GAB_BEAM_ERR (gabDie g) f) y) g 0x0205

/-- The entry of a wavefront that the beam takes, begun afresh where the wavefront begins an accumulation. -/
def begunTile (s : State) (g f : Nat) (p : PassRec) (k : Nat) : State :=
  let e := tagEntry p.desc.outTag
  if tagStarts p.desc.outTag then (if k = 0 then freshTile s g f e (Nat.min (p.desc.w + 1) (tileRows s g f e)) else s)
  else if tileState s g f e = 0 then freshTile s g f e (tileRows s g f e) else s

/-- The same with its groups counted, before it becomes ACCUM. -/
def countedTile (s : State) (g f : Nat) (p : PassRec) (k : Nat) : State :=
  if k = 0 then addGroups (begunTile s g f p k) g f (tagEntry p.desc.outTag) (groupCount p.statFmt) else begunTile s g f p k

section
variable {s : State} {g f : Nat} {p : PassRec} {k : Nat}

theorem enterWave_taken (h : verdict s g f p k = .taken) :
    enterWave s g f p k = (setTile (countedTile s g f p k) g f (tagEntry p.desc.outTag) F_TILE_STATUS_STATE 1, .taken) := by
  simp only [enterWave, h, countedTile, begunTile]

theorem enterWave_refused (h : verdict s g f p k = .refused) :
    enterWave s g f p k =
      (rejectWave s g f (tagEntry p.desc.outTag) F_TILE_STATUS_STATE_FAULT F_GAB_BEAM_ERR_STATE_FAULT, .refused) := by
  simp only [enterWave, h, rejectWave]

theorem enterWave_overrun (h : verdict s g f p k = .overrun) :
    enterWave s g f p k =
      (rejectWave s g f (tagEntry p.desc.outTag) F_TILE_STATUS_ROW_OVERRUN F_GAB_BEAM_ERR_ROW_OVERRUN, .overrun) := by
  simp only [enterWave, h, rejectWave]

theorem enterWave_verdict : (enterWave s g f p k).2 = verdict s g f p k := by
  cases h : verdict s g f p k with
  | taken => rw [enterWave_taken h]
  | refused => rw [enterWave_refused h]
  | overrun => rw [enterWave_overrun h]

theorem waveEntered_rejectWave (e : Nat) (x y : Fld) : WaveEntered s (rejectWave s g f e x y) g f := by
  have herr (u : State) : WaveEntered u (raise u (R_GAB_BEAM_ERR (gabDie g) f) y) g f :=
    waveEntered_regSet u _ fun _ _ => tileCfg_ne_beamErr _ _ _
  have hfault (u : State) : WaveEntered u (winFault u g 0x0205) g f :=
    ⟨⟨_, frameGet_of_frames (winFault_frames u g _) g f⟩, onlyFrame_of_frames (winFault_frames u g _) g f, winFault_mem u g _,
      winFault_ecc u g _, fun e he => regGet_winFault_ne u g _ (tileCfg_ne_schStatus _ _ he)⟩
  exact (waveEntered_setTile s e x 1).trans ((herr _).trans (hfault _))

theorem waveEntered_begunTile (hf : f < 8) : WaveEntered s (begunTile s g f p k) g f := by
  unfold begunTile
  simp only []
  split
  · split
    · exact waveEntered_freshTile s hf _ _
    · exact .refl s
  · split
    · exact waveEntered_freshTile s hf _ _
    · exact .refl s

theorem waveEntered_countedTile (hf : f < 8) : WaveEntered s (countedTile s g f p k) g f := by
  unfold countedTile
  split
  · exact (waveEntered_begunTile hf).trans (waveEntered_addGroups _ _ _)
  · exact waveEntered_begunTile hf

theorem waveEntered_enterWave (hf : f < 8) : WaveEntered s (enterWave s g f p k).1 g f := by
  cases h : verdict s g f p k with
  | taken => rw [enterWave_taken h]; exact (waveEntered_countedTile hf).trans (waveEntered_setTile _ _ _ _)
  | refused => rw [enterWave_refused h]; exact waveEntered_rejectWave _ _ _
  | overrun => rw [enterWave_overrun h]; exact waveEntered_rejectWave _ _ _

/-- A wavefront that is taken makes the entry ACCUM. -/
theorem tileState_enterWave (h : verdict s g f p k = .taken) : tileState (enterWave s g f p k).1 g f (tagEntry p.desc.outTag) = 1 := by
  rw [enterWave_taken h]
  exact fld_setFld_same _ _ _ 1 (by decide)

end

/-- What a wavefront that is not taken leaves pending and flagged. -/
def Rejected (s t : State) (g f e : Nat) (x y : Fld) : Prop :=
  Faulted s t g 0x0205 ∧ fld t (R_GAB_BEAM_TILE_STATUS (gabDie g) f e) x = 1 ∧ flag t (R_GAB_BEAM_ERR (gabDie g) f) y = true

theorem Rejected.congr {s s' t t' : State} {g f e : Nat} {x y : Fld} (h : Rejected s t g f e x y) (hs : s'.scheds = s.scheds)
    (ht : t'.scheds = t.scheds) (hr : t'.regs = t.regs) : Rejected s' t' g f e x y := by
  obtain ⟨hfault, hfld, hflag⟩ := h
  exact ⟨hfault.congr hs ht hr, by rw [fld_of_regs hr]; exact hfld, by rw [flag_of_regs hr]; exact hflag⟩

theorem rejected_rejectWave (s : State) (g f e : Nat) {x y : Fld} (hx : x.lo + x.len ≤ 32)
    (hx1 : x.len = 1) (hy : y.lo + y.len ≤ 32) (hy1 : y.len = 1) : Rejected s (rejectWave s g f e x y) g f e x y := by
  refine ⟨(faulted_winFault (raise (setTile s g f e x 1) (R_GAB_BEAM_ERR (gabDie g) f) y) g 0x0205).congr rfl rfl rfl, ?_, ?_⟩
  · rw [rejectWave, fld, regGet_winFault_ne _ _ _ (tileStatus_ne_schStatus _ _ _), regGet_raise_ne _ _ (tileStatus_ne_beamErr _ _ _)]
    exact (fld_setFld_same _ _ _ 1 hx).trans (by simp [hx1])
  · rw [rejectWave, flag, fld, regGet_winFault_ne _ _ _ (beamErr_ne_schStatus _ _)]
    exact flag_raise_same _ _ _ hy hy1

theorem rejected_enterWave_refused {s : State} {g f : Nat} {p : PassRec} {k : Nat} (h : verdict s g f p k = .refused) :
    Rejected s (enterWave s g f p k).1 g f (tagEntry p.desc.outTag) F_TILE_STATUS_STATE_FAULT F_GAB_BEAM_ERR_STATE_FAULT := by
  rw [enterWave_refused h]
  exact rejected_rejectWave s g f _ (by decide) rfl (by decide) rfl

theorem rejected_enterWave_overrun {s : State} {g f : Nat} {p : PassRec} {k : Nat} (h : verdict s g f p k = .overrun) :
    Rejected s (enterWave s g f p k).1 g f (tagEntry p.desc.outTag) F_TILE_STATUS_ROW_OVERRUN F_GAB_BEAM_ERR_ROW_OVERRUN := by
  rw [enterWave_overrun h]
  exact rejected_rejectWave s g f _ (by decide) rfl (by decide) rfl

end Sys2Proof.Machine
end

section
/-! SUPPORT. A taken column sum adds into its element (03:R69, R70; 04:R83, R84, R93, R94). -/
namespace Sys2Proof.Machine

theorem beamReadWord_clean {s : State} (h : s.ecc = []) (g f a : Nat) : beamReadWord s g f a = (s, false) := by
  simp [beamReadWord, checkGranule, h]

/-- Reading the word of an element changes no frame, no memory and no status of a tile. -/
theorem beamReadWord_keeps (s : State) (g : Nat) {f : Nat} (hf : f < 8) (a : Nat) :
    (beamReadWord s g f a).1.frames = s.frames ∧ (beamReadWord s g f a).1.mem = s.mem ∧
      ∀ e < 64, regGet (beamReadWord s g f a).1 (R_GAB_BEAM_TILE_STATUS (gabDie g) f e) =
        regGet s (R_GAB_BEAM_TILE_STATUS (gabDie g) f e) := by
  obtain ⟨hframes, hmem, hregs⟩ := keepsHigh_checkGranule s (granule a).1
  have hstatus (e : Nat) (he : e < 64) : 0x100000 ≤ regOff (R_GAB_BEAM_TILE_STATUS (gabDie g) f e) := by
    rw [regOff_tileStatus _ hf he]; omega
  unfold beamReadWord
  simp only []
  split
  · refine ⟨by simp [hframes], by simp [hmem], fun e he => ?_⟩
    rw [regGet_winFault_ne _ _ _ (tileStatus_ne_schStatus _ _ _), (keepsHigh_strataEvent _ _ _ _ _ _).2.2 _ (hstatus e he),
      regGet_raise_ne _ _ (tileStatus_ne_beamErr _ _ _), hregs _ (hstatus e he)]
  · exact ⟨hframes, hmem, fun e he => hregs _ (hstatus e he)⟩

/-- What a column sum adds to, in an accumulator format: nothing at the start of a tile, the pipeline's latest result for the
element, or the element as memory holds it. -/
def accOld (s : State) (g f e k j acc a : Nat) (start : Bool) : Val :=
  if start then Val.fin false 0 0
  else match pipeCode (frameGet s g f) a with
    | some c => if acc = 1 then codeVal 39 c else codeVal 23 c
    | none => accValue s g f e k j

/-- The code of a sum in an accumulator format. -/
def accCode (acc : Nat) (v : Val) : Nat := if acc = 1 then valCode 39 v else valCode 23 v

/-- The frame after a column sum: the column is touched, and the result is in the pipeline. -/
def accFrame (x : Frame) (e j a code : Nat) (wide lost : Bool) : Frame :=
  { x with touched := tabPut x.touched e (tabGet x.touched e 0 ||| 2 ^ j), pipe := x.pipe ++ [⟨x.age + 6, a, code, wide, lost⟩] }

/-- Non-finite sums are counted. -/
def countNonfinite (s : State) (g f : Nat) (bad fin : Bool) : State :=
  let s := if bad then count s (R_GAB_BEAM_NF_ACC (gabDie g) f) 1 else s
  if fin then s else count s (R_GAB_BEAM_NF_IN (gabDie g) f) 1

/-- Non-finite sums are counted and flagged, after all else that a column sum does. -/
def noteNonfinite (s : State) (g f e : Nat) (bad fin : Bool) : State :=
  if bad || !fin then setTile (countNonfinite s g f bad fin) g f e F_TILE_STATUS_NONFINITE 1 else countNonfinite s g f bad fin

theorem countNonfinite_keeps (s : State) (g f : Nat) (bad fin : Bool) :
    (countNonfinite s g f bad fin).frames = s.frames ∧ (countNonfinite s g f bad fin).mem = s.mem ∧
      (countNonfinite s g f bad fin).regs = s.regs := by
  cases bad <;> cases fin <;> simp [countNonfinite]

/-- A flag of an entry is not its STATE. -/
theorem tileState_setNonfinite (s : State) (g f e v e' : Nat) :
    tileState (setTile s g f e F_TILE_STATUS_NONFINITE v) g f e' = tileState s g f e' := by
  unfold tileState setTile
  by_cases he : R_GAB_BEAM_TILE_STATUS (gabDie g) f e' = R_GAB_BEAM_TILE_STATUS (gabDie g) f e
  · rw [he]
    exact fld_setFld_field s _ _ _ v (by decide) (by decide)
  · exact fld_setFld_ne s _ _ v he

/-- The counts and the flag of non-finite sums change no frame, no memory and no STATE. -/
theorem noteNonfinite_keeps (s : State) (g f e : Nat) (bad fin : Bool) :
    (noteNonfinite s g f e bad fin).frames = s.frames ∧ (noteNonfinite s g f e bad fin).mem = s.mem ∧
      ∀ e', tileState (noteNonfinite s g f e bad fin) g f e' = tileState s g f e' := by
  obtain ⟨hframes, hmem, hregs⟩ := countNonfinite_keeps s g f bad fin
  have hstate (e' : Nat) : tileState (countNonfinite s g f bad fin) g f e' = tileState s g f e' := fld_of_regs hregs _ _
  unfold noteNonfinite
  split
  · exact ⟨hframes, hmem, fun e' => (tileState_setNonfinite _ g f e 1 e').trans (hstate e')⟩
  · exact ⟨hframes, hmem, hstate⟩

/-- A taken column sum, step by step: the word is read, the result goes into the pipeline, non-finite sums are noted. -/
theorem accumulate_eq (s : State) (g f e k j : Nat) (start : Bool) (v : Val) {a acc code : Nat} {m : State × Bool} {old : Val}
    (ha : elemAddr s g f e k j = a) (hacc : cfgFld s g f e F_TILE_CFG_ACC = acc) (hm : beamReadWord s g f a = m)
    (hold : accOld m.1 g f e k j acc a start = old) (hcode : accCode acc (valAdd old v) = code) :
    ∃ bad fin, accumulate s g f e k j start v =
      noteNonfinite (frameMod m.1 g f fun x => accFrame x e j a code (acc == 1) m.2) g f e bad fin := by
  subst hcode hold hm hacc ha
  exact ⟨_, _, rfl⟩

/-- What a column sum leaves as it was: but for the touched masks and the pipeline the frame, and memory and the STATE of every
entry. -/
def ColumnAdded (s t : State) (g f : Nat) : Prop :=
  (∃ touched pipe, frameGet t g f = { frameGet s g f with touched := touched, pipe := pipe }) ∧ OnlyFrame s t g f ∧
    t.mem = s.mem ∧ ∀ e < 64, tileState t g f e = tileState s g f e

theorem columnAdded_of_pipelined (s : State) (g : Nat) {f : Nat} (hf : f < 8) (a e : Nat) (bad fin : Bool) {h : Frame → Frame}
    (hh : ∀ x, ∃ touched pipe, h x = { x with touched := touched, pipe := pipe }) :
    ColumnAdded s (noteNonfinite (frameMod (beamReadWord s g f a).1 g f h) g f e bad fin) g f := by
  obtain ⟨hframes, hmem, hstatus⟩ := beamReadWord_keeps s g hf a
  obtain ⟨hframes', hmem', hstate'⟩ := noteNonfinite_keeps (frameMod (beamReadWord s g f a).1 g f h) g f e bad fin
  obtain ⟨touched, pipe, hx⟩ := hh (frameGet s g f)
  refine ⟨⟨touched, pipe, ?_⟩, ?_, ?_, fun e' he' => ?_⟩
  · rw [frameGet_of_frames hframes', frameGet_frameMod_same, frameGet_of_frames hframes, hx]
  · exact (onlyFrame_of_frames hframes g f).trans ((onlyFrame_frameMod _ g hf _).trans (onlyFrame_of_frames hframes' g f))
  · rw [hmem', frameMod_mem, hmem]
  · rw [hstate', tileState, fld_of_regs (frameMod_regs _ _ _ _), fld, hstatus e' he']
    rfl

theorem columnAdded_accumulate (s : State) (g : Nat) {f : Nat} (hf : f < 8) (e k j : Nat) (start : Bool) (v : Val) :
    ColumnAdded s (accumulate s g f e k j start v) g f := by
  obtain ⟨bad, fin, h⟩ := accumulate_eq s g f e k j start v rfl rfl rfl rfl rfl
  rw [h]
  exact columnAdded_of_pipelined s g hf _ e bad fin fun x => ⟨_, _, rfl⟩

/-- Where storage has no error, the result that goes into the pipeline is the old value plus the column sum. -/
theorem frameGet_accumulate {s : State} (h : s.ecc = []) (g f e k j : Nat) (start : Bool) (v : Val) :
    frameGet (accumulate s g f e k j start v) g f =
      accFrame (frameGet s g f) e j (elemAddr s g f e k j)
        (accCode (cfgFld s g f e F_TILE_CFG_ACC)
          (valAdd (accOld s g f e k j (cfgFld s g f e F_TILE_CFG_ACC) (elemAddr s g f e k j) start) v))
        (cfgFld s g f e F_TILE_CFG_ACC == 1) false := by
  obtain ⟨bad, fin, hacc⟩ := accumulate_eq s g f e k j start v rfl rfl (beamReadWord_clean h g f _) rfl rfl
  rw [hacc, frameGet_of_frames (noteNonfinite_keeps _ g f e bad fin).1, frameGet_frameMod_same]

end Sys2Proof.Machine
end

section
/-! SUPPORT. A delivery as a whole (04:R79-R84; 02:R29): the wavefront enters, its column sum is added, and a pass whose last
column has delivered leaves the array. -/
namespace Sys2Proof.Machine

theorem mem_indexed {α : Type} {l : List α} {i : Nat} {a : α} (h : (i, a) ∈ indexed l) : l[i]? = some a := by
  obtain ⟨n, hn⟩ := List.getElem?_of_mem h
  rw [getElem?_indexed] at hn
  obtain ⟨b, hb, heq⟩ := Option.map_eq_some_iff.1 hn
  cases heq
  exact hb

/-- The pass that delivers next stands in the array, and the wavefront is its next in that column. -/
theorem nextDelivery_some {x : Frame} {j i k : Nat} {p : PassRec} (h : nextDelivery x j = some (i, p, k)) :
    x.passes[i]? = some p := by
  unfold nextDelivery at h
  split at h
  · simp at h
  · rename_i q r hfind
    simp only [Option.ite_none_right_eq_some, Option.some.injEq, Prod.mk.injEq] at h
    obtain ⟨-, rfl, rfl, -⟩ := h
    exact mem_indexed (List.mem_of_find?_eq_some hfind)

/-- The pipeline is no part of what delivers next. -/
theorem nextDelivery_pipeLeft (x : Frame) (j : Nat) : nextDelivery (pipeLeft x) j = nextDelivery x j := rfl

/-- Column `j` of wavefront `k` enters, column 0 with the beam's decision on the wavefront. -/
def enterColumn (s : State) (g f j : Nat) (p : PassRec) (k : Nat) : State × Verdict :=
  if j = 0 then enterWave s g f p k else (s, p.verdicts.getD k .refused)

/-- The beam's decision as column `j` of wavefront `k` meets it. -/
def columnVerdict (s : State) (g f j : Nat) (p : PassRec) (k : Nat) : Verdict :=
  if j = 0 then verdict s g f p k else p.verdicts.getD k .refused

/-- A pass once column `j` has delivered wavefront `k`. -/
def passAfter (p : PassRec) (j k : Nat) (v : Verdict) : PassRec :=
  { p with done := tabPut p.done j (k + 1), verdicts := if j = 0 then p.verdicts ++ [v] else p.verdicts,
           got := if j = 255 then { p.got with lanes := p.got.lanes.drop 1 } else p.got }

/-- The products that a column flushed and overflowed are counted. -/
def countProducts (s : State) (g f : Nat) (c : Val × Nat × Nat) : State :=
  count (count s (R_GAB_FRM_PROD_FLUSH (gabDie g) f) c.2.1) (R_GAB_FRM_RANGE_OVF (gabDie g) f) c.2.2

/-- A column sum is counted if its column is unmasked, and added if the wavefront is taken. -/
def addColumn (s : State) (g f j : Nat) (p : PassRec) (k : Nat) (v : Verdict) (c : Val × Nat × Nat) : State :=
  if bitOf p.colMask j then
    match v with
    | .taken => accumulate (countProducts s g f c) g f (tagEntry p.desc.outTag) k j (tagStarts p.desc.outTag) c.1
    | _ => countProducts s g f c
  else s

/-- The pass of a delivery, once its last column has delivered its last wavefront, leaves the array. -/
def leaveArray (s : State) (g f j i : Nat) (p : PassRec) (k : Nat) : State :=
  if j = 255 ∧ k + 1 = p.desc.w + 1 then retirePass s g f i p else s

/-- The column has entered, and its pass has gone on. -/
def enteredColumn (s : State) (g f j i : Nat) (p : PassRec) (k : Nat) : State :=
  frameMod (enterColumn s g f j p k).1 g f fun x =>
    { x with passes := x.passes.set i (passAfter p j k (enterColumn s g f j p k).2) }

/-- A delivery after the results due are written, before its pass leaves the array. -/
def addDelivery (s : State) (g f j i : Nat) (p : PassRec) (k : Nat) : State :=
  addColumn (enteredColumn s g f j i p k) g f j p k (enterColumn s g f j p k).2
    (deliverySum (frameGet (enterColumn s g f j p k).1 g f) p k j)

/-- A delivery after the results due are written. -/
def delivered (s : State) (g f j i : Nat) (p : PassRec) (k : Nat) : State :=
  leaveArray (addDelivery s g f j i p k) g f j i (passAfter p j k (enterColumn s g f j p k).2) k

theorem beamDelivery_none {s : State} {g f j : Nat} (h : nextDelivery (frameGet s g f) j = none) :
    beamDelivery s g f j = pipeOut s g f := by
  have h' : nextDelivery (frameGet (pipeOut s g f) g f) j = none := by
    rw [frameGet_pipeOut, nextDelivery_pipeLeft, h]
  simp only [beamDelivery, h']

theorem beamDelivery_some {s : State} {g f j i k : Nat} {p : PassRec} (h : nextDelivery (frameGet s g f) j = some (i, p, k)) :
    beamDelivery s g f j = delivered (pipeOut s g f) g f j i p k := by
  have h' : nextDelivery (frameGet (pipeOut s g f) g f) j = some (i, p, k) := by
    rw [frameGet_pipeOut, nextDelivery_pipeLeft, h]
  simp only [beamDelivery, h']
  rfl

theorem deliverySum_eq (x : Frame) (p : PassRec) (k j : Nat) :
    deliverySum x p k j = columnSum p (if p.desc.slot = 0 then x.tileH.getD j [] else x.tileE.getD j [])
      (if p.desc.slot = 0 then x.tsclH.getD j [] else x.tsclE.getD j []) k := by
  unfold deliverySum
  split <;> rfl

/-! ### Each part of a delivery. -/

section
variable {s : State} {g f j i : Nat} {p : PassRec} {k : Nat}

theorem enterColumn_verdict : (enterColumn s g f j p k).2 = columnVerdict s g f j p k := by
  unfold enterColumn columnVerdict
  split
  · exact enterWave_verdict
  · rfl

theorem waveEntered_enterColumn (s : State) (g j : Nat) (p : PassRec) (k : Nat) (hf : f < 8) :
    WaveEntered s (enterColumn s g f j p k).1 g f := by
  unfold enterColumn
  split
  · exact waveEntered_enterWave hf
  · exact .refl s

theorem countProducts_keeps (s : State) (g f : Nat) (c : Val × Nat × Nat) :
    (countProducts s g f c).frames = s.frames ∧ (countProducts s g f c).regs = s.regs ∧
      (countProducts s g f c).scheds = s.scheds ∧ (countProducts s g f c).mem = s.mem ∧ (countProducts s g f c).ecc = s.ecc := by
  simp only [countProducts, count_frames, count_regs, count_scheds, count_mem, count_ecc, and_self]

/-- A masked column, and a wavefront that is not taken, count at most. -/
theorem addColumn_idle {v : Verdict} (c : Val × Nat × Nat) (h : bitOf p.colMask j = false ∨ v ≠ .taken) :
    (addColumn s g f j p k v c).frames = s.frames ∧ (addColumn s g f j p k v c).regs = s.regs ∧
      (addColumn s g f j p k v c).scheds = s.scheds := by
  obtain ⟨hframes, hregs, hscheds, -⟩ := countProducts_keeps s g f c
  unfold addColumn
  split
  · rename_i hbit
    cases v with
    | taken => simp [hbit] at h
    | refused => exact ⟨hframes, hregs, hscheds⟩
    | overrun => exact ⟨hframes, hregs, hscheds⟩
  · exact ⟨rfl, rfl, rfl⟩

theorem columnAdded_of_same {s t : State} (hframes : t.frames = s.frames) (hmem : t.mem = s.mem) (hregs : t.regs = s.regs) :
    ColumnAdded s t g f :=
  ⟨⟨(frameGet s g f).touched, (frameGet s g f).pipe, frameGet_of_frames hframes g f⟩, onlyFrame_of_frames hframes g f, hmem,
    fun _ _ => fld_of_regs hregs _ _⟩

theorem ColumnAdded.trans {s t u : State} (h : ColumnAdded s t g f) (h' : ColumnAdded t u g f) : ColumnAdded s u g f := by
  obtain ⟨⟨_, _, hx⟩, hone, hmem, hstate⟩ := h
  obtain ⟨⟨touched, pipe, hx'⟩, hone', hmem', hstate'⟩ := h'
  exact ⟨⟨touched, pipe, by rw [hx', hx]⟩, hone.trans hone', hmem'.trans hmem, fun e he => (hstate' e he).trans (hstate e he)⟩

theorem columnAdded_addColumn (s : State) (g j : Nat) (p : PassRec) (k : Nat) (hf : f < 8) (v : Verdict) (c : Val × Nat × Nat) :
    ColumnAdded s (addColumn s g f j p k v c) g f := by
  obtain ⟨hframes, hregs, -, hmem, -⟩ := countProducts_keeps s g f c
  have hcount : ColumnAdded s (countProducts s g f c) g f := columnAdded_of_same hframes hmem hregs
  unfold addColumn
  split
  · split
    · exact hcount.trans (columnAdded_accumulate _ g hf _ _ _ _ _)
    · exact hcount
  · exact columnAdded_of_same rfl rfl rfl

theorem accOld_congr {s t : State} {e : Nat} (hpipe : (frameGet t g f).pipe = (frameGet s g f).pipe) (hmem : t.mem = s.mem)
    (hcfg : tileCfg t g f e = tileCfg s g f e) (k j acc a : Nat) (start : Bool) :
    accOld t g f e k j acc a start = accOld s g f e k j acc a start := by
  simp only [accOld, pipeCode, hpipe, accValue_of_tileCfg hcfg hmem]

/-- Where storage has no error, an unmasked column of a taken wavefront puts its result into the pipeline. -/
theorem frameGet_addColumn (hbit : bitOf p.colMask j = true) (hecc : s.ecc = []) (c : Val × Nat × Nat) :
    frameGet (addColumn s g f j p k .taken c) g f =
      accFrame (frameGet s g f) (tagEntry p.desc.outTag) j (elemAddr s g f (tagEntry p.desc.outTag) k j)
        (accCode (cfgFld s g f (tagEntry p.desc.outTag) F_TILE_CFG_ACC)
          (valAdd (accOld s g f (tagEntry p.desc.outTag) k j (cfgFld s g f (tagEntry p.desc.outTag) F_TILE_CFG_ACC)
            (elemAddr s g f (tagEntry p.desc.outTag) k j) (tagStarts p.desc.outTag)) c.1))
        (cfgFld s g f (tagEntry p.desc.outTag) F_TILE_CFG_ACC == 1) false := by
  obtain ⟨hframes, hregs, -, hmem, hecc'⟩ := countProducts_keeps s g f c
  have hframe : frameGet (countProducts s g f c) g f = frameGet s g f := frameGet_of_frames hframes g f
  have hcfg := tileCfg_of_regs hregs g f (tagEntry p.desc.outTag)
  have hadd : addColumn s g f j p k .taken c =
      accumulate (countProducts s g f c) g f (tagEntry p.desc.outTag) k j (tagStarts p.desc.outTag) c.1 := if_pos hbit
  rw [hadd, frameGet_accumulate (hecc'.trans hecc), hframe, elemAddr_of_tileCfg hcfg, cfgFld_of_tileCfg hcfg,
    accOld_congr (by rw [hframe]) hmem hcfg]

/-- What a draining pass leaves: its tile waits for its cycle D. -/
def drainAfter (s : State) (g f : Nat) (p : PassRec) : Drain :=
  ⟨tagEntry p.desc.outTag, activeRows s g f (tagEntry p.desc.outTag), p.start + (p.desc.w + 1) * issueCycles p.statFmt + 516, false,
    none, [], [], 0, [], []⟩

theorem retirePass_eq (s : State) (g f i : Nat) (p : PassRec) :
    retirePass s g f i p =
      if tagDrains p.desc.outTag && p.verdicts.getLast? != some .refused then
        frameMod (frameMod s g f fun x => { x with passes := x.passes.eraseIdx i }) g f fun x =>
          { x with drains := x.drains ++ [drainAfter s g f p] }
      else frameMod s g f fun x => { x with passes := x.passes.eraseIdx i } := rfl

/-- Retiring a pass changes the passes and the drains of the frame alone. -/
theorem retirePass_keeps (s : State) (g : Nat) (hf : f < 8) (i : Nat) (p : PassRec) :
    (∃ drains, frameGet (retirePass s g f i p) g f =
      { frameGet s g f with passes := (frameGet s g f).passes.eraseIdx i, drains := drains }) ∧
      OnlyFrame s (retirePass s g f i p) g f ∧ (retirePass s g f i p).mem = s.mem ∧ (retirePass s g f i p).regs = s.regs ∧
      (retirePass s g f i p).scheds = s.scheds := by
  have herase := onlyFrame_frameMod s g hf fun x => { x with passes := x.passes.eraseIdx i }
  rw [retirePass_eq]
  split
  · refine ⟨⟨(frameGet s g f).drains ++ [drainAfter s g f p], ?_⟩, herase.trans (onlyFrame_frameMod _ g hf _), rfl, rfl, rfl⟩
    rw [frameGet_frameMod_same, frameGet_frameMod_same]
  · exact ⟨⟨_, frameGet_frameMod_same s g f _⟩, herase, rfl, rfl, rfl⟩

/-- Leaving the array changes the passes and the drains of the frame alone. -/
theorem leaveArray_keeps (s : State) (g : Nat) (hf : f < 8) (j i : Nat) (p : PassRec) (k : Nat) :
    (∃ passes drains, frameGet (leaveArray s g f j i p k) g f = { frameGet s g f with passes := passes, drains := drains }) ∧
      OnlyFrame s (leaveArray s g f j i p k) g f ∧ (leaveArray s g f j i p k).mem = s.mem ∧
      (leaveArray s g f j i p k).regs = s.regs ∧ (leaveArray s g f j i p k).scheds = s.scheds := by
  unfold leaveArray
  split
  · obtain ⟨⟨drains, hx⟩, hrest⟩ := retirePass_keeps s g hf i p
    exact ⟨⟨_, drains, hx⟩, hrest⟩
  · exact ⟨⟨_, _, rfl⟩, onlyFrame_of_frames rfl g f, rfl, rfl, rfl⟩

/-! ### The delivery before its pass leaves. -/

theorem frameGet_enteredColumn (s : State) (g j i : Nat) (p : PassRec) (k : Nat) (hf : f < 8) : ∃ touched,
    frameGet (enteredColumn s g f j i p k) g f = { frameGet s g f with
      passes := (frameGet s g f).passes.set i (passAfter p j k (columnVerdict s g f j p k)), touched := touched } := by
  obtain ⟨⟨touched, hx⟩, -⟩ := waveEntered_enterColumn s g j p k hf
  refine ⟨touched, ?_⟩
  rw [enteredColumn, frameGet_frameMod_same, hx, enterColumn_verdict]

/-- The frame of a delivery: its pass has gone on, and the touched masks and the pipeline may have changed. -/
theorem frameGet_addDelivery (s : State) (g j i : Nat) (p : PassRec) (k : Nat) (hf : f < 8) : ∃ touched pipe,
    frameGet (addDelivery s g f j i p k) g f =
    { frameGet s g f with
      passes := (frameGet s g f).passes.set i (passAfter p j k (columnVerdict s g f j p k)), touched := touched, pipe := pipe } := by
  obtain ⟨_, hx⟩ := frameGet_enteredColumn s g j i p k hf
  obtain ⟨⟨touched, pipe, hx'⟩, -⟩ := columnAdded_addColumn (enteredColumn s g f j i p k) g j p k hf (enterColumn s g f j p k).2
    (deliverySum (frameGet (enterColumn s g f j p k).1 g f) p k j)
  exact ⟨touched, pipe, hx'.trans (by rw [hx])⟩

theorem addDelivery_keeps (s : State) (g j i : Nat) (p : PassRec) (k : Nat) (hf : f < 8) :
    OnlyFrame s (addDelivery s g f j i p k) g f ∧ (addDelivery s g f j i p k).mem = s.mem ∧
      ∀ e < 64, tileState (addDelivery s g f j i p k) g f e = tileState (enterColumn s g f j p k).1 g f e := by
  obtain ⟨-, hone, hmem, -⟩ := waveEntered_enterColumn s g j p k hf
  obtain ⟨-, hone', hmem', hstate⟩ := columnAdded_addColumn (enteredColumn s g f j i p k) g j p k hf (enterColumn s g f j p k).2
    (deliverySum (frameGet (enterColumn s g f j p k).1 g f) p k j)
  exact ⟨hone.trans ((onlyFrame_frameMod _ g hf _).trans hone'), hmem'.trans hmem, hstate⟩

/-- A masked column, and a wavefront that is not taken, bring no result. -/
theorem addDelivery_idle (hf : f < 8) (h : bitOf p.colMask j = false ∨ columnVerdict s g f j p k ≠ .taken) :
    (frameGet (addDelivery s g f j i p k) g f).pipe = (frameGet s g f).pipe ∧
      (addDelivery s g f j i p k).regs = (enterColumn s g f j p k).1.regs ∧
      (addDelivery s g f j i p k).scheds = (enterColumn s g f j p k).1.scheds := by
  rw [← enterColumn_verdict] at h
  obtain ⟨hframes, hregs, hscheds⟩ := addColumn_idle (s := enteredColumn s g f j i p k) (g := g) (f := f) (k := k)
    (deliverySum (frameGet (enterColumn s g f j p k).1 g f) p k j) h
  obtain ⟨_, hx⟩ := frameGet_enteredColumn s g j i p k hf
  refine ⟨?_, hregs, hscheds⟩
  rw [addDelivery, frameGet_of_frames hframes, hx]

/-- Where storage has no error, an unmasked column of a taken wavefront touches its column, and its result goes into the pipeline. -/
theorem addDelivery_taken (hf : f < 8) {e a acc : Nat} (he : tagEntry p.desc.outTag = e) (ha : elemAddr s g f e k j = a)
    (hacc : cfgFld s g f e F_TILE_CFG_ACC = acc) (hbit : bitOf p.colMask j = true) (hv : columnVerdict s g f j p k = .taken)
    (hecc : s.ecc = []) :
    bitOf (tabGet (frameGet (addDelivery s g f j i p k) g f).touched e 0) j = true ∧
      (frameGet (addDelivery s g f j i p k) g f).pipe = (frameGet s g f).pipe ++
        [⟨(frameGet s g f).age + 6, a,
          accCode acc (valAdd (accOld s g f e k j acc a (tagStarts p.desc.outTag)) (deliverySum (frameGet s g f) p k j).1),
          acc == 1, false⟩] := by
  have he64 : e < 64 := he ▸ tagEntry_lt _
  obtain ⟨⟨touched, hxu⟩, -, hmem, hecc', hcfg⟩ := waveEntered_enterColumn s g j p k hf
  obtain ⟨_, hx⟩ := frameGet_enteredColumn s g j i p k hf
  have hecce : (enteredColumn s g f j i p k).ecc = [] := hecc'.trans hecc
  have hcfg' : tileCfg (enteredColumn s g f j i p k) g f e = tileCfg s g f e := hcfg e he64
  have hsum : deliverySum (frameGet (enterColumn s g f j p k).1 g f) p k j = deliverySum (frameGet s g f) p k j := by
    rw [hxu]; rfl
  have hold := accOld_congr (s := s) (t := enteredColumn s g f j i p k) (by rw [hx]) hmem hcfg' k j acc a (tagStarts p.desc.outTag)
  rw [addDelivery, enterColumn_verdict, hv, frameGet_addColumn hbit hecce, he, elemAddr_of_tileCfg hcfg', ha,
    cfgFld_of_tileCfg hcfg', hacc, hold, hsum, hx]
  refine ⟨?_, rfl⟩
  simp [accFrame, bitOf, tabGet, Nat.testBit_or]

end

end Sys2Proof.Machine
end

section
/-! PROOFS. BeamDeliveries: a delivery finds the same passes, registers and schedules after the results due are written as before. -/
namespace Sys2Proof.Machine

section
variable {s : State} {g f j i : Nat} {p : PassRec} {k : Nat}

theorem delivered_keeps (s : State) (g j i : Nat) (p : PassRec) (k : Nat) (hf : f < 8) :
    OnlyFrame s (delivered s g f j i p k) g f ∧ (delivered s g f j i p k).mem = s.mem ∧
    (frameGet (delivered s g f j i p k) g f).pipe = (frameGet (addDelivery s g f j i p k) g f).pipe ∧
    (frameGet (delivered s g f j i p k) g f).touched = (frameGet (addDelivery s g f j i p k) g f).touched ∧
    (delivered s g f j i p k).regs = (addDelivery s g f j i p k).regs ∧
    (delivered s g f j i p k).scheds = (addDelivery s g f j i p k).scheds := by
  obtain ⟨hone, hmem, -⟩ := addDelivery_keeps s g j i p k hf
  obtain ⟨⟨_, _, hx⟩, hone', hmem', hregs, hscheds⟩ := leaveArray_keeps (addDelivery s g f j i p k) g hf j i
    (passAfter p j k (enterColumn s g f j p k).2) k
  exact ⟨hone.trans hone', hmem'.trans hmem, by rw [delivered, hx], by rw [delivered, hx], hregs, hscheds⟩

/-- A pass that has not delivered all stays in the array, gone on by a wavefront in the column. -/
theorem delivered_passes_stays (hf : f < 8) (hp : (frameGet s g f).passes[i]? = some p)
    (hlast : ¬(j = 255 ∧ k + 1 = p.desc.w + 1)) :
    (frameGet (delivered s g f j i p k) g f).passes[i]? = some (passAfter p j k (columnVerdict s g f j p k)) := by
  obtain ⟨_, _, hx⟩ := frameGet_addDelivery s g j i p k hf
  obtain ⟨hi, -⟩ := List.getElem?_eq_some_iff.1 hp
  have hstays : delivered s g f j i p k = addDelivery s g f j i p k := if_neg hlast
  rw [hstays, hx]
  exact List.getElem?_set_self hi

theorem delivered_passes_leaves (hf : f < 8) (hj : j = 255) (hk : k + 1 = p.desc.w + 1) :
    (frameGet (delivered s g f j i p k) g f).passes = (frameGet s g f).passes.eraseIdx i := by
  obtain ⟨_, _, hx⟩ := frameGet_addDelivery s g j i p k hf
  have hleaves : delivered s g f j i p k =
      retirePass (addDelivery s g f j i p k) g f i (passAfter p j k (enterColumn s g f j p k).2) := if_pos ⟨hj, hk⟩
  obtain ⟨⟨_, hx'⟩, -⟩ := retirePass_keeps (addDelivery s g f j i p k) g hf i (passAfter p j k (enterColumn s g f j p k).2)
  rw [hleaves, hx', hx]
  exact List.eraseIdx_set_eq

/-- Column 0 of a wavefront that is taken makes the entry ACCUM. -/
theorem tileState_delivered (hf : f < 8) (hj : j = 0) (hv : verdict s g f p k = .taken) :
    tileState (delivered s g f j i p k) g f (tagEntry p.desc.outTag) = 1 := by
  obtain ⟨-, -, -, -, hregs, -⟩ := delivered_keeps s g j i p k hf
  obtain ⟨-, -, hstate⟩ := addDelivery_keeps s g j i p k hf
  rw [tileState, fld_of_regs hregs]
  refine (hstate _ (tagEntry_lt _)).trans ?_
  rw [enterColumn, if_pos hj]
  exact tileState_enterWave hv

/-- What column 0 of a wavefront that is not taken leaves pending and flagged stays. -/
theorem rejected_delivered (hf : f < 8) (hj : j = 0) (hv : verdict s g f p k ≠ .taken) {e : Nat} {x y : Fld}
    (h : Rejected s (enterWave s g f p k).1 g f e x y) : Rejected s (delivered s g f j i p k) g f e x y := by
  have hv' : columnVerdict s g f j p k ≠ .taken := by rwa [columnVerdict, if_pos hj]
  obtain ⟨-, -, -, -, hregs, hscheds⟩ := delivered_keeps s g j i p k hf
  obtain ⟨-, hregs', hscheds'⟩ := addDelivery_idle (i := i) hf (.inr hv')
  rw [enterColumn, if_pos hj] at hregs' hscheds'
  exact h.congr rfl (hscheds.trans hscheds') (hregs.trans hregs')

end

/-- Settles O33, clause by clause: a delivery starts from the state that the results due leave (`pipeOut`), which has the passes,
the registers and the schedules of the state before. -/
theorem beamDeliveries : Obligations.BeamDeliveries := by
  unfold Obligations.BeamDeliveries
  intro s g f j ups
  have hf : f.val < 8 := f.isLt
  obtain ⟨hframes, hregs, hscheds⟩ := storesOnly_upsets s ups
  have hx : frameGet (upsets s ups) g f = frameGet s g f := frameGet_of_frames hframes g f
  refine ⟨fun hnext => ?_, fun c hc => stored_pipeWrite s hc, fun i p k hnext v hv => ?_⟩
  · exact congrArg Host.Outcome.next (beamDelivery_none (by rw [hx, hnext]))
  have hp := nextDelivery_some hnext
  obtain ⟨u, hu⟩ : ∃ u, u = pipeOut (upsets s ups) g f := ⟨_, rfl⟩
  have hxu : frameGet u g f = pipeLeft (frameGet s g f) := by rw [hu, frameGet_pipeOut, hx]
  have hpu : (frameGet u g f).passes[i]? = some p := by rw [hxu]; exact hp
  have hregsu : u.regs = s.regs := by rw [hu, pipeOut_regs, hregs]
  have hschedsu : u.scheds = s.scheds := by rw [hu, pipeOut_scheds, hscheds]
  have hverdict : verdict u g f p k = verdict s g f p k := verdict_of_regs hregsu g f p k
  have hvu : columnVerdict u g f j p k = v := by rw [hv, columnVerdict, hverdict]
  have hv0 (hj : j.val = 0) : verdict u g f p k = v := by rw [hv, if_pos hj, hverdict]
  obtain ⟨hone, hmem, hpipe, htouched, -⟩ := delivered_keeps u g j i p k hf
  have hrejected {e : Nat} {x y : Fld} (h : Rejected u (delivered u g f j i p k) g f e x y) :
      Rejected s (delivered u g f j i p k) g f e x y := h.congr hschedsu.symm rfl rfl
  refine ⟨delivered u g f j i p k, ?_, ?_, fun hlast => ⟨_, delivered_passes_stays hf hpu hlast, ?_, ?_, ?_⟩, fun hj hk => ?_, ?_,
    fun hidle => ?_, fun hj ht => ?_, fun hj hr => ?_, fun hj ho => ?_, fun hbit ht hecc hups hdue => ?_⟩
  · rw [hu]
    exact congrArg Host.Outcome.next (beamDelivery_some (by rw [hx, hnext]))
  · exact (onlyFrame_of_frames hframes g f).trans ((hu ▸ onlyFrame_pipeOut _ _ hf).trans hone)
  · simp [passAfter, tabGet]
  · intro hj
    rw [hvu, passAfter, if_pos hj]
  · intro hj
    rw [passAfter, if_neg hj]
  · rw [delivered_passes_leaves hf hj hk, hxu]
    rfl
  · rw [hmem, hu, pipeOut_mem, hx]
    rfl
  · rw [hpipe, (addDelivery_idle hf (hvu ▸ hidle)).1, hxu]
    rfl
  · exact tileState_delivered hf hj ((hv0 hj).trans ht)
  · have hr' : verdict u g f p k = .refused := (hv0 hj).trans hr
    exact hrejected (rejected_delivered hf hj (by simp [hr']) (rejected_enterWave_refused hr'))
  · have ho' : verdict u g f p k = .overrun := (hv0 hj).trans ho
    exact hrejected (rejected_delivered hf hj (by simp [ho']) (rejected_enterWave_overrun ho'))
  · subst hups
    obtain ⟨hmemu, heccu, hxu'⟩ := pipeOut_none_due hdue
    intro e w a col scl old sum
    have hcfg := tileCfg_of_regs hregsu g f e
    obtain ⟨htouch, hadd⟩ := addDelivery_taken (i := i) hf rfl (elemAddr_of_tileCfg hcfg k j) (cfgFld_of_tileCfg hcfg _) hbit
      (hvu.trans ht) (by rw [hu]; exact heccu.trans hecc)
    refine ⟨by rw [htouched]; exact htouch, ?_⟩
    have hxs : frameGet u g f = frameGet s g f := by rw [hu]; exact hxu'
    have hold : accOld u g f e k j w a (tagStarts p.desc.outTag) = old := by
      rw [accOld_congr (by rw [hxs]) (by rw [hu]; exact hmemu) hcfg]
      simp only [accOld, pipeCode, old]
      cases (frameGet s g f).pipe.reverse.find? fun c => c.addr == a <;> rfl
    rw [hpipe, hadd, hxs, hold, deliverySum_eq]
    rfl

end Sys2Proof.Machine
end

section
/-! SUPPORT. The head of a stream is taken (06:R124), and a beam descriptor fault becomes pending (04:R87). -/
namespace Sys2Proof.Machine

section
variable (s : State) (g i : Nat)

theorem winMod_eq (h : Window → Window) : winMod s g h = { s with scheds := (winMod s g h).scheds } := by
  unfold winMod
  split <;> rfl

@[simp] theorem winGet_schedSet (x : Sched) : winGet (schedSet s g x) g = x.win := by
  simp [winGet, schedGet, schedSet, tabGet]

@[simp] theorem winGet_winMod (h : Window → Window) : winGet (winMod s g h) g = (winGet s g).map h := by
  unfold winMod
  split
  · rename_i w hw
    rw [winGet_schedSet, hw]; rfl
  · rename_i hw
    simp [hw]

@[simp] theorem streamPop_regs : (streamPop s g i).regs = s.regs := by rw [streamPop, winMod_eq]
@[simp] theorem streamPop_ctrs : (streamPop s g i).ctrs = s.ctrs := by rw [streamPop, winMod_eq]
@[simp] theorem streamPop_mem : (streamPop s g i).mem = s.mem := by rw [streamPop, winMod_eq]
@[simp] theorem streamPop_frames : (streamPop s g i).frames = s.frames := by rw [streamPop, winMod_eq]
@[simp] theorem streamPop_rcp : (streamPop s g i).rcp = s.rcp := by rw [streamPop, winMod_eq]

theorem popped_streamPop : Popped s (streamPop s g i) g i := by
  simp [Popped, streamsOf, streamPop, Function.comp_def]

@[simp] theorem winFault_ctrs (st : Nat) : (winFault s g st).ctrs = s.ctrs := by unfold winFault; split <;> rfl

/-- A pending fault leaves the streams as they are. -/
theorem streamsOf_winFault (st : Nat) : streamsOf (winFault s g st) g = streamsOf s g := by
  unfold winFault
  split
  · rfl
  · rename_i w hw
    have hraise (u : State) (k : Nat) (x : Fld) : streamsOf (raise u k x) g = streamsOf u g := rfl
    rw [hraise, streamsOf, winGet_schedSet, streamsOf, hw]; rfl

end

/-- The streams depend on the schedules alone. -/
theorem Popped.congr {s t u : State} {g i : Nat} (h : Popped s t g i) (hu : u.scheds = t.scheds) : Popped s u g i := by
  have hw : winGet u g = winGet t g := by simp only [winGet, schedGet, hu]
  rwa [Popped, streamsOf, hw]

/-- A fault that is pending once the head was taken is pending for the window as it was before. -/
theorem Faulted.of_streamPop {s t : State} {g i st : Nat} (h : Faulted (streamPop s g i) t g st) : Faulted s t g st := by
  intro w hw
  exact h { w with streams := w.streams.set i ((w.streams.getD i []).drop 1) } (by rw [streamPop, winGet_winMod, hw]; rfl)

/-- A later fault leaves a pending one in force (06:R128). -/
theorem Faulted.after_winFault {s t : State} {g st : Nat} (h : Faulted s t g st) (st' : Nat) :
    Faulted s (winFault t g st') g st := by
  intro w hw
  obtain ⟨-, hfault⟩ := h w hw
  obtain ⟨v, hv, hvf⟩ := Option.bind_eq_some_iff.1 hfault
  obtain ⟨hflag, hfault'⟩ := faulted_winFault t g st' v hv
  exact ⟨hflag, by rw [hfault', hvf]; rfl⟩

/-- A beam descriptor fault is flagged, and pending in the window that `s` has. -/
def BeamFaulted (s t : State) (g f : Nat) : Prop :=
  Faulted s t g 0x0205 ∧ flag t (R_GAB_BEAM_ERR (gabDie g) f) F_GAB_BEAM_ERR_DESC_FAULT = true

section
variable (s : State) (g f : Nat)

@[simp] theorem beamFault_frames : (beamFault s g f).frames = s.frames := winFault_frames _ _ _
@[simp] theorem beamFault_mem : (beamFault s g f).mem = s.mem := winFault_mem _ _ _
@[simp] theorem beamFault_ctrs : (beamFault s g f).ctrs = s.ctrs := winFault_ctrs _ _ _

theorem regsBut_beamFault :
    RegsBut s (beamFault s g f) [R_GAB_BEAM_ERR (gabDie g) f, R_GAB_SCH_STATUS (gabDie g)] := by
  intro k hk
  simp only [List.mem_cons, List.not_mem_nil, or_false, not_or] at hk
  rw [beamFault, regGet_winFault_ne _ _ _ hk.2, regGet_raise_ne _ _ hk.1]

theorem flag_beamFault : flag (beamFault s g f) (R_GAB_BEAM_ERR (gabDie g) f) F_GAB_BEAM_ERR_DESC_FAULT = true := by
  rw [beamFault, flag, fld, regGet_winFault_ne _ _ _ (beamErr_ne_schStatus _ _)]
  exact flag_raise_same s _ _ (by decide) rfl

theorem beamFaulted_beamFault : BeamFaulted s (beamFault s g f) g f :=
  ⟨(faulted_winFault (raise s _ _) g 0x0205).congr rfl rfl rfl, flag_beamFault s g f⟩

end

/-- A descriptor that the beam skips is consumed, flags its fault and leaves all else. -/
theorem skipped_beamFault (s : State) (g f : Nat) :
    flag (beamFault (streamPop s g f) g f) (R_GAB_BEAM_ERR (gabDie g) f) F_GAB_BEAM_ERR_DESC_FAULT = true ∧
      Faulted s (beamFault (streamPop s g f) g f) g 0x0205 ∧ Popped s (beamFault (streamPop s g f) g f) g f ∧
      (beamFault (streamPop s g f) g f).frames = s.frames ∧
      RegsBut s (beamFault (streamPop s g f) g f) [R_GAB_BEAM_ERR (gabDie g) f, R_GAB_SCH_STATUS (gabDie g)] ∧
      (beamFault (streamPop s g f) g f).ctrs = s.ctrs ∧ (beamFault (streamPop s g f) g f).mem = s.mem := by
  obtain ⟨hfault, hflag⟩ := beamFaulted_beamFault (streamPop s g f) g f
  refine ⟨hflag, hfault.of_streamPop, ?_, by simp, fun k hk => ?_, by simp, by simp⟩
  · rw [Popped, beamFault, streamsOf_winFault]
    exact (popped_streamPop s g f).congr rfl
  · rw [regsBut_beamFault _ g f k hk, regGet_of_regs (streamPop_regs s g f)]

end Sys2Proof.Machine
end

section
/-! SUPPORT. A TILE and an OUTPUT at the head of a stream, each accepted or skipped (04:R86, R87). -/
namespace Sys2Proof.Machine

theorem tileStatus_ne_tileGroups (d f e : Nat) : R_GAB_BEAM_TILE_STATUS d f e ≠ R_GAB_BEAM_TILE_GROUPS d f e := by
  unfold R_GAB_BEAM_TILE_GROUPS R_GAB_BEAM_TILE_STATUS regAt; omega

/-- The configuration word that a TILE gives its entry (04:R86). -/
def tileWord (d : TileDesc) : Word :=
  fldSet (fldSet (fldSet (fldSet 0 F_TILE_CFG_VALID 1) F_TILE_CFG_ACC d.acc) F_TILE_CFG_ROWS_LOG2 d.rowsLog2)
    F_TILE_CFG_BASE_KIB d.baseKib

/-- Why a TILE is a fault (04:R87): its entry is in ACCUM or DRAIN, its ROWS is out of range, or its storage ends beyond the beam
store or overlaps that of another entry in ACCUM or DRAIN. -/
abbrev TileRefused (s : State) (g f : Nat) (d : TileDesc) : Prop :=
  tileState s g f d.entry = 1 ∨ tileState s g f d.entry = 2 ∨ d.rowsLog2 < 5 ∨ 12 < d.rowsLog2 ∨
    4194304 < (cfgSpan (tileWord d)).2 ∨ overlapsBusy s g f d.entry (cfgSpan (tileWord d)) = true

/-- A frame once a TILE has set up an entry. -/
def tileFrame (x : Frame) (e : Nat) : Frame := { x with progs := tabDel x.progs e, touched := tabDel x.touched e }

/-- A TILE sets up its entry. -/
def setUpTile (s : State) (g f : Nat) (d : TileDesc) : State :=
  frameMod (regSet (regSet (regSet s (R_GAB_BEAM_TILE_CFG (gabDie g) f d.entry) (tileWord d))
    (R_GAB_BEAM_TILE_STATUS (gabDie g) f d.entry) 0) (R_GAB_BEAM_TILE_GROUPS (gabDie g) f d.entry) 0) g f fun x => tileFrame x d.entry

/-- An OUTPUT becomes its entry's latest program. -/
def outputFrame (x : Frame) (d : OutputDesc) : Frame :=
  { x with progs := tabPut x.progs d.entry ((d, x.age) :: progKeep x.age (tabGet x.progs d.entry [])) }

theorem overlapsBusy_of_regs {s t : State} (h : t.regs = s.regs) (g f e : Nat) (span : Nat × Nat) :
    overlapsBusy t g f e span = overlapsBusy s g f e span := by
  have hregs : overlapsBusy t g f e span = overlapsBusy { s with regs := t.regs } g f e span := rfl
  rw [hregs, h]

theorem outputFaulty_of_regs {s t : State} (h : t.regs = s.regs) (hr : t.rcp = s.rcp) (g f : Nat) (d : OutputDesc) :
    outputFaulty t g f d = outputFaulty s g f d := by
  have hregs : outputFaulty t g f d = outputFaulty { s with regs := t.regs, rcp := t.rcp } g f d := rfl
  rw [hregs, h, hr]

section
variable {s : State} {g f : Nat}

theorem tileDescriptor_of_head {d : TileDesc} (h : HeadIs s g f (.tile d)) :
    tileDescriptor s g f = if TileRefused s g f d then beamFault (streamPop s g f) g f else setUpTile (streamPop s g f) g f d := by
  obtain ⟨n, at_, hhead⟩ := h
  have hregs := streamPop_regs s g f
  have hstate : tileState (streamPop s g f) g f d.entry = tileState s g f d.entry := fld_of_regs hregs _ _
  simp only [tileDescriptor, hhead]
  refine ite_congr (propext ?_) (fun _ => rfl) (fun _ => rfl)
  rw [hstate]
  simp only [Bool.or_eq_true, beq_iff_eq, decide_eq_true_eq, TileRefused, or_assoc, overlapsBusy_of_regs hregs, tileWord]

theorem outputDescriptor_of_head {d : OutputDesc} (h : HeadIs s g f (.output d)) :
    outputDescriptor s g f = if outputFaulty s g f d then beamFault (streamPop s g f) g f
      else frameMod (streamPop s g f) g f fun x => outputFrame x d := by
  obtain ⟨n, at_, hhead⟩ := h
  simp only [outputDescriptor, hhead, outputFaulty_of_regs (streamPop_regs s g f) (streamPop_rcp s g f), outputFrame]

end

/-- An OUTPUT keeps none but the OUTPUTs that its entry had. -/
theorem mem_of_mem_progKeep {now : Nat} {l : List (OutputDesc × Nat)} {p : OutputDesc × Nat}
    (h : p ∈ progKeep now l) : p ∈ l := by
  induction l with
  | nil => simp [progKeep] at h
  | cons q t ih =>
    rw [progKeep] at h
    split at h
    · rw [List.mem_singleton.1 h]; exact List.mem_cons_self
    · rcases List.mem_cons.1 h with rfl | h
      · exact List.mem_cons_self
      · exact List.mem_cons_of_mem _ (ih h)

/-- What setting up an entry changes in the registers of a beam. -/
theorem regGet_setUpTile (s : State) (g f : Nat) (d : TileDesc) :
    tileCfg (setUpTile s g f d) g f d.entry = tileWord d ∧
      regGet (setUpTile s g f d) (R_GAB_BEAM_TILE_STATUS (gabDie g) f d.entry) = 0 ∧
      regGet (setUpTile s g f d) (R_GAB_BEAM_TILE_GROUPS (gabDie g) f d.entry) = 0 ∧
      RegsBut s (setUpTile s g f d) [R_GAB_BEAM_TILE_CFG (gabDie g) f d.entry, R_GAB_BEAM_TILE_STATUS (gabDie g) f d.entry,
        R_GAB_BEAM_TILE_GROUPS (gabDie g) f d.entry] := by
  simp only [tileCfg, RegsBut, setUpTile, regGet_of_regs (frameMod_regs _ _ _ _)]
  refine ⟨?_, ?_, regGet_regSet_same _ _ _, fun k hk => ?_⟩
  · rw [regGet_regSet_ne _ _ (tileCfg_ne_tileGroups _ _ _ _), regGet_regSet_ne _ _ (tileCfg_ne_tileStatus _ _ _ _),
      regGet_regSet_same]
  · rw [regGet_regSet_ne _ _ (tileStatus_ne_tileGroups _ _ _), regGet_regSet_same]
  · simp only [List.mem_cons, List.not_mem_nil, or_false, not_or] at hk
    obtain ⟨hcfg, hstatus, hgroups⟩ := hk
    rw [regGet_regSet_ne _ _ hgroups, regGet_regSet_ne _ _ hstatus, regGet_regSet_ne _ _ hcfg]

theorem frameGet_setUpTile (s : State) (g f : Nat) (d : TileDesc) :
    frameGet (setUpTile s g f d) g f = tileFrame (frameGet s g f) d.entry := frameGet_frameMod_same _ g f _

theorem onlyFrame_setUpTile (s : State) (g : Nat) {f : Nat} (hf : f < 8) (d : TileDesc) : OnlyFrame s (setUpTile s g f d) g f :=
  onlyFrame_frameMod _ g hf _

end Sys2Proof.Machine
end

section
/-! PROOFS. TilesAndPrograms: the two outcomes of each descriptor. -/
namespace Sys2Proof.Machine

/-- Settles O32: each descriptor has two outcomes (`tileDescriptor_of_head`, `outputDescriptor_of_head`), and both skip a faulty
one in the same way (`skipped_beamFault`). -/
theorem tilesAndPrograms : Obligations.TilesAndPrograms := by
  unfold Obligations.TilesAndPrograms
  intro s g f
  have hf : f.val < 8 := f.isLt
  have hframes := streamPop_frames s g f
  have hx : frameGet (streamPop s g f) g f = frameGet s g f := frameGet_of_frames hframes g f
  have hone := onlyFrame_of_frames hframes g f
  refine ⟨fun d hhead _ c hc => ?_, fun d hhead hok => ?_, fun d hhead hbad => ?_⟩
  · obtain rfl : c = tileWord d := hc
    have hexec : exec (.tileDescriptor g f) s = .next _ := congrArg Host.Outcome.next (tileDescriptor_of_head hhead)
    refine ⟨fun hacc hdrain hlow hhigh hend hover => ?_, fun hbad => ?_⟩
    · have hok : ¬ TileRefused s g f d := by
        rintro (h | h | h | h | h | h)
        · exact hacc h
        · exact hdrain h
        · omega
        · omega
        · omega
        · simp [hover] at h
      rw [if_neg hok] at hexec
      obtain ⟨hcfg, hstatus, hgroups, hregs⟩ := regGet_setUpTile (streamPop s g f) g f d
      refine ⟨_, hexec, hcfg, hstatus, hgroups, ?_, ?_, (popped_streamPop s g f).congr rfl,
        hone.trans (onlyFrame_setUpTile _ g hf d), fun k hk => ?_, streamPop_ctrs s g f, streamPop_mem s g f⟩
      · rw [frameGet_setUpTile]
        exact tabFind_tabDel_same _ _
      · rw [frameGet_setUpTile]
        simp [tileFrame, tabGet]
      · rw [hregs k hk, regGet_of_regs (streamPop_regs s g f)]
    · rw [if_pos (show TileRefused s g f d from hbad)] at hexec
      exact ⟨_, hexec, skipped_beamFault s g f⟩
  · have hexec : exec (.outputDescriptor g f) s = .next _ := congrArg Host.Outcome.next (outputDescriptor_of_head hhead)
    rw [if_neg (by simp [hok])] at hexec
    refine ⟨_, hexec, ?_, fun e he => ?_, (popped_streamPop s g f).congr rfl, hone.trans (onlyFrame_frameMod _ g hf _), ?_, ?_, ?_⟩
    · rw [frameGet_frameMod_same, hx]
      exact ⟨_, tabFind_tabPut_same _ _ _, fun p hp => mem_of_mem_progKeep hp⟩
    · rw [frameGet_frameMod_same, hx]
      exact tabFind_tabPut_ne _ _ he
    · exact streamPop_regs s g f
    · exact streamPop_ctrs s g f
    · exact streamPop_mem s g f
  · have hexec : exec (.outputDescriptor g f) s = .next _ := congrArg Host.Outcome.next (outputDescriptor_of_head hhead)
    rw [if_pos hbad] at hexec
    exact ⟨_, hexec, skipped_beamFault s g f⟩

end Sys2Proof.Machine
end

section
/-! SUPPORT. What has happened in the stores changes no byte of memory and no counter. -/
namespace Sys2Proof.Machine

/-- Memory and the counters are as they were. -/
def MemAndCtrs (s t : State) : Prop := t.mem = s.mem ∧ t.ctrs = s.ctrs

theorem MemAndCtrs.refl (s : State) : MemAndCtrs s s := ⟨rfl, rfl⟩
theorem MemAndCtrs.trans {s t u : State} (h : MemAndCtrs s t) (h' : MemAndCtrs t u) : MemAndCtrs s u :=
  ⟨h'.1.trans h.1, h'.2.trans h.2⟩
theorem MemAndCtrs.foldl {α : Type} {f : State → α → State} (h : ∀ s x, MemAndCtrs s (f s x)) (l : List α) (s : State) :
    MemAndCtrs s (l.foldl f s) := by
  induction l generalizing s with
  | nil => exact .refl s
  | cons a t ih => exact (h s a).trans (ih _)

theorem memAndCtrs_predSnoop (s : State) (c line mask : Nat) : MemAndCtrs s (predSnoop s c line mask) := by
  refine MemAndCtrs.foldl (fun u k => ?_) _ s
  simp only []
  split
  · exact .refl u
  · split <;> exact ⟨rfl, rfl⟩

theorem memAndCtrs_lineAtSet (s : State) (c line : Nat) (x : LineAt) : MemAndCtrs s (lineAtSet s c line x) := by
  unfold lineAtSet
  split <;> exact ⟨rfl, rfl⟩

theorem memAndCtrs_watchNote (s : State) (a n : Nat) : MemAndCtrs s (watchNote s a n) := by
  unfold watchNote
  split <;> exact ⟨rfl, rfl⟩

theorem memAndCtrs_silentStore (s : State) (h a : Nat) (bs : List Byte) : MemAndCtrs s (silentStore s h a bs) := by
  have hcopy (u : State) (c line : Nat) (x : CacheLine) : MemAndCtrs u (copySet u c line x) := ⟨rfl, rfl⟩
  unfold silentStore
  simp only []
  split
  · split
    · exact (memAndCtrs_watchNote s _ _).trans ((hcopy _ _ _ _).trans
        ((memAndCtrs_predSnoop _ _ _ _).trans (memAndCtrs_lineAtSet _ _ _ _)))
    · exact .refl s
  · exact .refl s

theorem memAndCtrs_before (s : State) (b : Before) : MemAndCtrs s (before s b) := by
  cases b with
  | upset a ue =>
    simp only [before, upset]
    split <;> exact ⟨rfl, rfl⟩
  | parity a =>
    simp only [before, tagUpset]
    split <;> exact ⟨rfl, rfl⟩
  | store h a bs => exact memAndCtrs_silentStore s _ _ _
  | evict c a =>
    simp only [before, silentEvict]
    split
    · split <;> exact ⟨rfl, rfl⟩
    · exact .refl s
  | level c a l2 llc =>
    simp only [before, levelSet]
    split
    · exact .refl s
    · exact memAndCtrs_lineAtSet _ _ _ _

theorem memAndCtrs_upsets (s : State) (us : List Before) : MemAndCtrs s (upsets s us) := MemAndCtrs.foldl memAndCtrs_before us s

end Sys2Proof.Machine
end

section
/-! SUPPORT. A read of an open window (06:R130; 08:R181): no frame changes, and a pending beam descriptor fault stays pending. -/
namespace Sys2Proof.Machine

/-! ### Reads of memory leave the registers of a Gabbro's beams and schedule. -/

theorem KeepsHigh.foldl_fst {α β : Type} {f : State × β → α → State × β} (h : ∀ p x, KeepsHigh p.1 (f p x).1) (l : List α)
    (p : State × β) : KeepsHigh p.1 (l.foldl f p).1 := by
  induction l generalizing p with
  | nil => exact .refl _
  | cons a t ih => exact (h p a).trans (ih _)

theorem keepsHigh_tagSeen (s : State) (a : Nat) : KeepsHigh s (tagSeen s a) := by
  unfold tagSeen
  split
  · split
    · exact keepsHigh_regSet s _ (by decide) _
    · exact .refl s
  · exact .refl s

theorem keepsHigh_noteUe (s : State) (ag : Agent) (unit a : Nat) : KeepsHigh s (noteUe s ag unit a) := by
  have hctr (u : State) (k : Nat) (w : DWord) : KeepsHigh u (ctrSet u k w) := ⟨rfl, rfl, fun _ _ => rfl⟩
  unfold noteUe
  simp only []
  split
  · split
    · exact (keepsHigh_count s _ _).trans (keepsHigh_strataEvent _ _ _ _ _ _)
    · exact (keepsHigh_count s _ _).trans ((hctr _ _ _).trans ((keepsHigh_regSet _ _ (by decide) _).trans
        ((keepsHigh_regSet _ _ (by decide) _).trans (keepsHigh_strataEvent _ _ _ _ _ _))))
  · exact keepsHigh_strataEvent s _ _ _ _ _
  · exact keepsHigh_strataEvent s _ _ _ _ _
  · exact keepsHigh_strataEvent s _ _ _ _ _
  · exact .refl s

theorem keepsHigh_meet (s : State) (ag : Agent) (unit a : Nat) : KeepsHigh s (meet s ag unit a).1 := by
  unfold meet
  simp only []
  split
  · exact (keepsHigh_checkGranule s a).trans (keepsHigh_noteUe _ _ _ _)
  · exact keepsHigh_checkGranule s a

theorem keepsHigh_readMem (s : State) (ag : Agent) (unit a n : Nat) : KeepsHigh s (readMem s ag unit a n).1 := by
  unfold readMem
  refine KeepsHigh.foldl_fst (p := (s, false)) (fun p x => ?_) _
  simp only []
  split
  · exact .refl _
  · exact (keepsHigh_tagSeen _ _).trans (keepsHigh_meet _ _ _ _)

/-! ### Frames and pending faults. -/

/-- No frame changes, and a beam descriptor fault that is pending stays so. -/
def KeepsPending (s t : State) (g f : Nat) : Prop :=
  t.frames = s.frames ∧ ∀ s₀, BeamFaulted s₀ s g f → BeamFaulted s₀ t g f

/-- A pending fault rests on the schedules and one status register. -/
theorem Faulted.of_status {s₀ s t : State} {g st : Nat} (h : Faulted s₀ s g st) (hscheds : t.scheds = s.scheds)
    (hstatus : regGet t (R_GAB_SCH_STATUS (gabDie g)) = regGet s (R_GAB_SCH_STATUS (gabDie g))) : Faulted s₀ t g st := by
  intro w hw
  simpa only [flag, fld, winGet, schedGet, hscheds, hstatus] using h w hw

theorem BeamFaulted.of_status {s₀ s t : State} {g f : Nat} (h : BeamFaulted s₀ s g f) (hscheds : t.scheds = s.scheds)
    (hstatus : regGet t (R_GAB_SCH_STATUS (gabDie g)) = regGet s (R_GAB_SCH_STATUS (gabDie g)))
    (herr : regGet t (R_GAB_BEAM_ERR (gabDie g) f) = regGet s (R_GAB_BEAM_ERR (gabDie g) f)) : BeamFaulted s₀ t g f := by
  obtain ⟨hfault, hflag⟩ := h
  exact ⟨hfault.of_status hscheds hstatus, by simpa only [flag, fld, herr] using hflag⟩

section
variable {g f : Nat}

theorem KeepsPending.refl (s : State) : KeepsPending s s g f := ⟨rfl, fun _ h => h⟩

theorem KeepsPending.trans {s t u : State} (h : KeepsPending s t g f) (h' : KeepsPending t u g f) : KeepsPending s u g f :=
  ⟨h'.1.trans h.1, fun s₀ hs => h'.2 s₀ (h.2 s₀ hs)⟩

theorem keepsPending_winFault (s : State) (st : Nat) : KeepsPending s (winFault s g st) g f := by
  refine ⟨winFault_frames s g st, fun s₀ h => ?_⟩
  obtain ⟨hfault, hflag⟩ := h
  refine ⟨hfault.after_winFault st, ?_⟩
  rwa [flag, fld, regGet_winFault_ne _ _ _ (beamErr_ne_schStatus _ _)]

theorem keepsPending_beamFault (s : State) : KeepsPending s (beamFault s g f) g f := by
  refine ⟨beamFault_frames s g f, fun s₀ h => ⟨?_, flag_beamFault s g f⟩⟩
  have hraise := regGet_raise_ne s F_GAB_BEAM_ERR_DESC_FAULT (beamErr_ne_schStatus (gabDie g) f).symm
  exact (h.1.of_status (t := raise s _ _) rfl hraise).after_winFault 0x0205

theorem keepsPending_readMem (s : State) (hf : f < 8) (ag : Agent) (unit a n : Nat) :
    KeepsPending s (readMem s ag unit a n).1 g f := by
  obtain ⟨hframes, -, hregs⟩ := keepsHigh_readMem s ag unit a n
  have hscheds : (readMem s ag unit a n).1.scheds = s.scheds := by rw [(touch_readMem s ag unit a n).1]
  refine ⟨hframes, fun s₀ h => h.of_status hscheds (hregs _ ?_) (hregs _ ?_)⟩
  · rw [R_GAB_SCH_STATUS, regOff_regAt _ (by decide)]; decide
  · rw [R_GAB_BEAM_ERR, regOff_regAt _ (by omega)]; omega

theorem keepsPending_winRead (s : State) (hf : f < 8) (a n : Nat) : KeepsPending s (winRead s g a n).1 g f := by
  unfold winRead
  split
  · have hread := keepsPending_readMem (g := g) s hf (winAgent g) 0x01 a n
    simp only []
    split
    · exact hread.trans (keepsPending_winFault _ _)
    · exact hread
  · exact keepsPending_winFault s 0x0105

theorem keepsPending_drainVectors (s : State) (hf : f < 8) (d : OutputDesc) : KeepsPending s (drainVectors s g d).1 g f := by
  have hread (u : State) (a : Nat) : KeepsPending u (readWide u g a 8 256).1 g f := keepsPending_winRead u hf a _
  unfold drainVectors
  simp only []
  split <;> split
  · exact .refl s
  · exact hread s _
  · exact hread s _
  · exact (hread s _).trans (hread _ _)

end

end Sys2Proof.Machine
end

section
/-! SUPPORT. A drain starts (04:R81, R86, R87, R92): its program, its vectors, and what shows that it runs. -/
namespace Sys2Proof.Machine

section
variable (d f e : Nat)

theorem tileStatus_ne_beamStatus : R_GAB_BEAM_TILE_STATUS d f e ≠ R_GAB_BEAM_STATUS d f := by
  unfold R_GAB_BEAM_TILE_STATUS R_GAB_BEAM_STATUS regAt; omega
theorem beamErr_ne_beamStatus : R_GAB_BEAM_ERR d f ≠ R_GAB_BEAM_STATUS d f := by
  unfold R_GAB_BEAM_ERR R_GAB_BEAM_STATUS regAt; omega
theorem schStatus_ne_beamStatus : R_GAB_SCH_STATUS d ≠ R_GAB_BEAM_STATUS d f := by
  unfold R_GAB_SCH_STATUS R_GAB_BEAM_STATUS regAt; omega

end

@[simp] theorem frameMod_ctrs (s : State) (g f : Nat) (h : Frame → Frame) : (frameMod s g f h).ctrs = s.ctrs := rfl

/-! ### The program of a drain. -/

/-- An OUTPUT was consumed fewer than 512 cycles before cycle D (04:R87). -/
def lateOutput (d : Nat) (p : OutputDesc × Nat) : Bool := decide (d < p.2 + 512)

/-- The OUTPUTs of an entry that are late at cycle D, latest first. -/
def lateOutputs (x : Frame) (e d : Nat) : List (OutputDesc × Nat) := (tabGet x.progs e []).takeWhile (lateOutput d)

/-- Those before them. -/
def timelyOutputs (x : Frame) (e d : Nat) : List (OutputDesc × Nat) := (tabGet x.progs e []).dropWhile (lateOutput d)

/-- The program of an entry's drain at cycle D: its latest OUTPUT that is not late. -/
def programAt (x : Frame) (e d : Nat) : Option OutputDesc := (timelyOutputs x e d).head?.map Prod.fst

/-- A frame once the OUTPUTs of an entry are those given. -/
def setOutputs (x : Frame) (e : Nat) (ps : List (OutputDesc × Nat)) : Frame := { x with progs := tabPut x.progs e ps }

theorem keepsPending_foldl_beamFault {α : Type} {g f : Nat} (l : List α) (s : State) :
    KeepsPending s (l.foldl (fun s _ => beamFault s g f) s) g f := by
  induction l generalizing s with
  | nil => exact .refl s
  | cons a t ih => exact (keepsPending_beamFault s).trans (ih _)

theorem beamFaulted_foldl_beamFault {α : Type} {g f : Nat} {l : List α} (h : l ≠ []) (s : State) :
    BeamFaulted s (l.foldl (fun s _ => beamFault s g f) s) g f := by
  cases l with
  | nil => exact absurd rfl h
  | cons a t => exact (keepsPending_foldl_beamFault t _).2 s (beamFaulted_beamFault s g f)

section
variable (s : State) (g f e d : Nat)

/-- Without a late OUTPUT nothing changes. -/
theorem drainProg_of_none_late (h : lateOutputs (frameGet s g f) e d = []) :
    (drainProg s g f e d).1 = s := by
  unfold lateOutputs lateOutput at h
  simp [drainProg, h]

/-- Late OUTPUTs are dropped, and their faults are pending. -/
theorem drainProg_of_late (h : lateOutputs (frameGet s g f) e d ≠ []) :
    ∃ u, BeamFaulted s u g f ∧ u.frames = s.frames ∧ (drainProg s g f e d).1 =
      frameMod u g f fun x => setOutputs x e (timelyOutputs (frameGet s g f) e d) := by
  have hframes := (keepsPending_foldl_beamFault (g := g) (f := f) (lateOutputs (frameGet s g f) e d) s).1
  refine ⟨_, beamFaulted_foldl_beamFault h s, hframes, if_neg ?_⟩
  exact fun hnil => h (List.isEmpty_iff.1 hnil)

/-- Choosing a program changes no frame but its own, and there the OUTPUTs alone. -/
theorem drainProg_keeps (hf : f < 8) : OnlyFrame s (drainProg s g f e d).1 g f ∧
    ∃ progs, frameGet (drainProg s g f e d).1 g f = { frameGet s g f with progs := progs } := by
  by_cases h : lateOutputs (frameGet s g f) e d = []
  · rw [drainProg_of_none_late s g f e d h]
    exact ⟨onlyFrame_of_frames rfl g f, _, rfl⟩
  · obtain ⟨u, -, hframes, hdrop⟩ := drainProg_of_late s g f e d h
    rw [hdrop, frameGet_frameMod_same, frameGet_of_frames hframes]
    exact ⟨(onlyFrame_of_frames hframes g f).trans (onlyFrame_frameMod u g hf _), _, rfl⟩

theorem beamFaulted_drainProg (h : ∃ x ∈ (tabGet (frameGet s g f).progs e []).head?, d < x.2 + 512) :
    BeamFaulted s (drainProg s g f e d).1 g f := by
  obtain ⟨x, hx, hlate⟩ := h
  obtain ⟨l, hl⟩ := List.head?_eq_some_iff.1 hx
  obtain ⟨u, hfault, -, hdrop⟩ := drainProg_of_late s g f e d (by simp [lateOutputs, hl, lateOutput, hlate])
  rw [hdrop]
  exact hfault.of_status rfl rfl rfl

end

/-! ### Its vectors. -/

/-- The state once a drain's vectors are read, with s[j] and b[j]: a drain that reads nothing has none (04:R88). -/
def drainOperands (s : State) (g : Nat) : Option OutputDesc → State × List Val × List Val
  | some p => if p.outMode = 2 ∧ p.stashDst = 0 then (s, [], []) else drainVectors s g p
  | none => (s, [], [])

theorem keepsPending_drainOperands (s : State) (g : Nat) {f : Nat} (hf : f < 8) (p : Option OutputDesc) :
    KeepsPending s (drainOperands s g p).1 g f := by
  unfold drainOperands
  split
  · split
    · exact .refl s
    · exact keepsPending_drainVectors s hf _
  · exact .refl s

/-! ### What shows that it runs. -/

/-- An entry is in DRAIN, and the beam's status names it. -/
def showDrain (s : State) (g f e : Nat) : State :=
  raise (setFld (setTile s g f e F_TILE_STATUS_STATE 2) (R_GAB_BEAM_STATUS (gabDie g) f) F_GAB_BEAM_STATUS_DRAIN_ENTRY e)
    (R_GAB_BEAM_STATUS (gabDie g) f) F_GAB_BEAM_STATUS_DRAINING

section
variable (s : State) (g f : Nat) {e : Nat}

@[simp] theorem showDrain_frames : (showDrain s g f e).frames = s.frames := rfl
@[simp] theorem showDrain_mem : (showDrain s g f e).mem = s.mem := rfl
@[simp] theorem showDrain_ctrs : (showDrain s g f e).ctrs = s.ctrs := rfl

theorem regsBut_showDrain :
    RegsBut s (showDrain s g f e) [R_GAB_BEAM_TILE_STATUS (gabDie g) f e, R_GAB_BEAM_STATUS (gabDie g) f] := by
  intro k hk
  simp only [List.mem_cons, List.not_mem_nil, or_false, not_or] at hk
  obtain ⟨htile, hbeam⟩ := hk
  rw [showDrain, regGet_raise_ne _ _ hbeam, regGet_setFld_ne _ _ _ hbeam, setTile, regGet_setFld_ne _ _ _ htile]

theorem tileState_showDrain : tileState (showDrain s g f e) g f e = 2 := by
  rw [showDrain, tileState, raise, fld_setFld_ne _ _ _ _ (tileStatus_ne_beamStatus _ _ _),
    fld_setFld_ne _ _ _ _ (tileStatus_ne_beamStatus _ _ _)]
  exact fld_setFld_same s _ _ 2 (by decide)

theorem draining_showDrain :
    flag (showDrain s g f e) (R_GAB_BEAM_STATUS (gabDie g) f) F_GAB_BEAM_STATUS_DRAINING = true :=
  flag_raise_same _ _ _ (by decide) rfl

theorem drainEntry_showDrain (he : e < 64) :
    fld (showDrain s g f e) (R_GAB_BEAM_STATUS (gabDie g) f) F_GAB_BEAM_STATUS_DRAIN_ENTRY = e := by
  rw [showDrain, raise, fld_setFld_field _ _ _ _ _ (by decide) (by decide), fld_setFld_same _ _ _ _ (by decide)]
  exact Nat.mod_eq_of_lt he

theorem BeamFaulted.after_showDrain {s₀ : State} (h : BeamFaulted s₀ s g f) : BeamFaulted s₀ (showDrain s g f e) g f :=
  h.of_status rfl
    (regsBut_showDrain s g f _ (by simp [schStatus_ne_beamStatus, (tileStatus_ne_schStatus _ _ _).symm]))
    (regsBut_showDrain s g f _ (by simp [beamErr_ne_beamStatus, (tileStatus_ne_beamErr _ _ _).symm]))

end

/-! ### The start. -/

/-- A drain that starts, with its cycle D, its program and its vectors. -/
def startedDrain (q : Drain) (d : Nat) (p : Option OutputDesc) (v : List Val × List Val) : Drain :=
  { q with d := d, started := true, prog := p, sv := v.1, bias := v.2 }

/-- A frame once its drain `i` has become `q`: the next one starts after its last read (04:R92). -/
def drainFrame (x : Frame) (i : Nat) (q : Drain) : Frame :=
  { x with drains := x.drains.set i q, readEnd := if drainReads q then q.d + q.rows else q.d + 1 }

/-- The tile that waits first, and its place among the drains. -/
def nextDrain (x : Frame) : Option (Nat × Drain) := (indexed x.drains).find? fun q => !q.2.started

/-- A program is chosen at cycle D, and its vectors are read. -/
def readyDrain (s : State) (g f e d : Nat) : State × List Val × List Val :=
  drainOperands (drainProg s g f e d).1 g (programAt (frameGet s g f) e d)

/-- The waiting drain `q`, once it has started at cycle D. -/
def begunDrain (s : State) (g f d : Nat) (q : Drain) : Drain :=
  startedDrain q d (programAt (frameGet s g f) q.entry d) (readyDrain s g f q.entry d).2

/-- The waiting drain `q`, which stands at place `i`, starts at cycle D. -/
def beginDrain (s : State) (g f i d : Nat) (q : Drain) : State :=
  showDrain (frameMod (readyDrain s g f q.entry d).1 g f fun x => drainFrame x i (begunDrain s g f d q)) g f q.entry

section
variable {s : State} {g f : Nat}

theorem drainStart_none (h : nextDrain (frameGet s g f) = none) : drainStart s g f = s := by
  unfold nextDrain at h
  simp only [drainStart, h]

theorem drainStart_early {i : Nat} {q : Drain} (h : nextDrain (frameGet s g f) = some (i, q))
    (hd : (frameGet s g f).age < Nat.max q.d (frameGet s g f).readEnd) : drainStart s g f = s := by
  unfold nextDrain at h
  simp only [drainStart, h, hd, if_true]

theorem drainStart_due {i d : Nat} {q : Drain} (h : nextDrain (frameGet s g f) = some (i, q))
    (hd : d = Nat.max q.d (frameGet s g f).readEnd) (hdue : d ≤ (frameGet s g f).age) :
    drainStart s g f = beginDrain s g f i d q := by
  subst hd
  unfold nextDrain at h
  simp only [drainStart, h, if_neg (Nat.not_lt.2 hdue)]
  rfl

/-- Getting a drain ready changes no frame but its own, and there the OUTPUTs alone; faults that it raises stay pending. -/
theorem readyDrain_keeps (s : State) (g : Nat) (hf : f < 8) (e d : Nat) :
    OnlyFrame s (readyDrain s g f e d).1 g f ∧
      (∃ progs, frameGet (readyDrain s g f e d).1 g f = { frameGet s g f with progs := progs }) ∧
      ((∃ x ∈ (tabGet (frameGet s g f).progs e []).head?, d < x.2 + 512) → BeamFaulted s (readyDrain s g f e d).1 g f) := by
  obtain ⟨hone, progs, hx⟩ := drainProg_keeps s g f e d hf
  obtain ⟨hframes, hpending⟩ := keepsPending_drainOperands (drainProg s g f e d).1 g hf (programAt (frameGet s g f) e d)
  exact ⟨hone.trans (onlyFrame_of_frames hframes g f), ⟨progs, (frameGet_of_frames hframes g f).trans hx⟩,
    fun hlate => hpending s (beamFaulted_drainProg s g f e d hlate)⟩

/-- An entry without an OUTPUT has no program, and nothing is read. -/
theorem readyDrain_of_no_output {e : Nat} (h : tabGet (frameGet s g f).progs e [] = []) (d : Nat) :
    (readyDrain s g f e d).1 = s := by
  rw [readyDrain, drainProg_of_none_late s g f e d (by simp [lateOutputs, h]), programAt, timelyOutputs, h]
  rfl

theorem onlyFrame_beginDrain (s : State) (g i d : Nat) (hf : f < 8) (q : Drain) : OnlyFrame s (beginDrain s g f i d q) g f := by
  obtain ⟨hone, -⟩ := readyDrain_keeps s g hf q.entry d
  exact hone.trans ((onlyFrame_frameMod _ g hf _).trans (onlyFrame_of_frames (showDrain_frames _ g f) g f))

theorem frameGet_beginDrain (s : State) (g i d : Nat) (hf : f < 8) (q : Drain) : ∃ progs,
    frameGet (beginDrain s g f i d q) g f = drainFrame { frameGet s g f with progs := progs } i (begunDrain s g f d q) := by
  obtain ⟨-, ⟨progs, hready⟩, -⟩ := readyDrain_keeps s g hf q.entry d
  exact ⟨progs, by rw [beginDrain, frameGet_of_frames (showDrain_frames _ g f), frameGet_frameMod_same, hready]⟩

/-- A late OUTPUT of the entry leaves its fault pending. -/
theorem beamFaulted_beginDrain (i : Nat) {d : Nat} (hf : f < 8) {q : Drain}
    (h : ∃ x ∈ (tabGet (frameGet s g f).progs q.entry []).head?, d < x.2 + 512) : BeamFaulted s (beginDrain s g f i d q) g f := by
  obtain ⟨-, -, hlate⟩ := readyDrain_keeps s g hf q.entry d
  exact BeamFaulted.after_showDrain _ g f ((hlate h).of_status rfl rfl rfl)

/-- Without an OUTPUT of its entry a drain that starts changes its frame and two status registers alone. -/
theorem beginDrain_of_no_output (i d : Nat) {q : Drain} (h : tabGet (frameGet s g f).progs q.entry [] = []) :
    (beginDrain s g f i d q).mem = s.mem ∧ (beginDrain s g f i d q).ctrs = s.ctrs ∧
      RegsBut s (beginDrain s g f i d q) [R_GAB_BEAM_TILE_STATUS (gabDie g) f q.entry, R_GAB_BEAM_STATUS (gabDie g) f] := by
  have hready := readyDrain_of_no_output h d
  refine ⟨by rw [beginDrain, showDrain_mem, frameMod_mem, hready], by rw [beginDrain, showDrain_ctrs, frameMod_ctrs, hready],
    fun k hk => ?_⟩
  rw [beginDrain, regsBut_showDrain _ g f k hk, regGet_of_regs (frameMod_regs _ _ _ _), hready]

end

end Sys2Proof.Machine
end

section
/-! SUPPORT. A drain ends (04:R81, R92): its entry is DONE unless a second drain of it is to come, and the beam's status names
the drain that started last of those that run. -/
namespace Sys2Proof.Machine

/-- An entry is DONE if no drain of it is left. -/
def doneTile (s : State) (g f e : Nat) (rest : List Drain) : State :=
  if rest.any fun r => r.entry == e then s else setTile s g f e F_TILE_STATUS_STATE 3

/-- The same with the drain counted in the entry's status. -/
def countDrain (s : State) (g f e : Nat) (rest : List Drain) : State :=
  setTile (doneTile s g f e rest) g f e F_TILE_STATUS_DRAIN_CNT
    (fld (doneTile s g f e rest) (R_GAB_BEAM_TILE_STATUS (gabDie g) f e) F_TILE_STATUS_DRAIN_CNT + 1)

/-- The beam's status for the drains that are left. -/
def showRest (s : State) (g f : Nat) (rest : List Drain) : State :=
  match (rest.filter (·.started)).getLast? with
  | some r => setFld s (R_GAB_BEAM_STATUS (gabDie g) f) F_GAB_BEAM_STATUS_DRAIN_ENTRY r.entry
  | none => setFld s (R_GAB_BEAM_STATUS (gabDie g) f) F_GAB_BEAM_STATUS_DRAINING 0

/-- The drain of entry `e` has ended, and `rest` are left. -/
def endDrain (s : State) (g f e : Nat) (rest : List Drain) : State :=
  showRest (countDrain (frameMod s g f fun x => { x with drains := rest }) g f e rest) g f rest

/-- Whether a drain of a frame has run and its last write has issued. -/
def drainEnded (x : Frame) (q : Drain) : Bool :=
  q.started && decide (drainLength q ≤ q.t) && decide (q.d + drainLength q ≤ x.age)

section
variable {s : State} {g f : Nat}

theorem drainComplete_none (h : ((indexed (frameGet s g f).drains).find? fun x => drainEnded (frameGet s g f) x.2) = none) :
    drainComplete s g f = s := by
  unfold drainEnded at h
  simp only [drainComplete, h]

theorem drainComplete_ended {i : Nat} {q : Drain} {rest : List Drain} (hrest : rest = (frameGet s g f).drains.eraseIdx i)
    (h : ((indexed (frameGet s g f).drains).find? fun x => drainEnded (frameGet s g f) x.2) = some (i, q)) :
    drainComplete s g f = endDrain s g f q.entry rest := by
  subst hrest
  unfold drainEnded at h
  simp only [drainComplete, h]
  rfl

end

section
variable (s : State) (g f e : Nat) (rest : List Drain)

@[simp] theorem countDrain_frames : (countDrain s g f e rest).frames = s.frames := by unfold countDrain doneTile; split <;> rfl
@[simp] theorem countDrain_mem : (countDrain s g f e rest).mem = s.mem := by unfold countDrain doneTile; split <;> rfl
@[simp] theorem countDrain_ctrs : (countDrain s g f e rest).ctrs = s.ctrs := by unfold countDrain doneTile; split <;> rfl

theorem regsBut_countDrain : RegsBut s (countDrain s g f e rest) [R_GAB_BEAM_TILE_STATUS (gabDie g) f e] := by
  intro k hk
  have hk' : k ≠ R_GAB_BEAM_TILE_STATUS (gabDie g) f e := by simpa using hk
  rw [countDrain, setTile, regGet_setFld_ne _ _ _ hk', doneTile]
  split
  · rfl
  · rw [setTile, regGet_setFld_ne _ _ _ hk']

/-- The count of drains is not STATE. -/
theorem tileState_countDrain : tileState (countDrain s g f e rest) g f e =
    if rest.any fun r => r.entry == e then tileState s g f e else 3 := by
  rw [countDrain, tileState, setTile, fld_setFld_field _ _ _ _ _ (by decide) (by decide), doneTile]
  split
  · rfl
  · exact fld_setFld_same s _ _ 3 (by decide)

theorem drainCnt_countDrain : fld (countDrain s g f e rest) (R_GAB_BEAM_TILE_STATUS (gabDie g) f e) F_TILE_STATUS_DRAIN_CNT =
    (fld s (R_GAB_BEAM_TILE_STATUS (gabDie g) f e) F_TILE_STATUS_DRAIN_CNT + 1) % 4096 := by
  rw [countDrain, setTile, fld_setFld_same _ _ _ _ (by decide), doneTile]
  split
  · rfl
  · rw [setTile, fld_setFld_field _ _ _ _ _ (by decide) (by decide)]
    rfl

@[simp] theorem showRest_frames : (showRest s g f rest).frames = s.frames := by unfold showRest; split <;> rfl
@[simp] theorem showRest_mem : (showRest s g f rest).mem = s.mem := by unfold showRest; split <;> rfl
@[simp] theorem showRest_ctrs : (showRest s g f rest).ctrs = s.ctrs := by unfold showRest; split <;> rfl

theorem regsBut_showRest : RegsBut s (showRest s g f rest) [R_GAB_BEAM_STATUS (gabDie g) f] := by
  intro k hk
  have hk' : k ≠ R_GAB_BEAM_STATUS (gabDie g) f := by simpa using hk
  unfold showRest
  split <;> exact regGet_setFld_ne _ _ _ hk'

theorem drainEntry_showRest {r : Drain} (h : (rest.filter (·.started)).getLast? = some r) (he : r.entry < 64) :
    fld (showRest s g f rest) (R_GAB_BEAM_STATUS (gabDie g) f) F_GAB_BEAM_STATUS_DRAIN_ENTRY = r.entry := by
  simp only [showRest, h]
  rw [fld_setFld_same _ _ _ _ (by decide)]
  exact Nat.mod_eq_of_lt he

/-- DRAINING ends with the last drain that runs. -/
theorem draining_showRest : flag (showRest s g f rest) (R_GAB_BEAM_STATUS (gabDie g) f) F_GAB_BEAM_STATUS_DRAINING =
    if rest.any (·.started) then flag s (R_GAB_BEAM_STATUS (gabDie g) f) F_GAB_BEAM_STATUS_DRAINING else false := by
  cases h : (rest.filter (·.started)).getLast? with
  | none =>
    have hnone : rest.any (·.started) = false := by simpa using List.getLast?_eq_none_iff.1 h
    simp only [showRest, h, hnone, flag, fld_setFld_same _ _ F_GAB_BEAM_STATUS_DRAINING 0 (by decide)]
    rfl
  | some r =>
    have hr := List.mem_filter.1 (List.mem_of_getLast? h)
    have hsome : rest.any (·.started) = true := List.any_eq_true.2 ⟨r, hr⟩
    simp only [showRest, h, hsome, flag, if_true]
    rw [fld_setFld_field _ _ _ _ _ (by decide) (by decide)]

/-! ### The end. -/

theorem endDrain_keeps (hf : f < 8) : OnlyFrame s (endDrain s g f e rest) g f ∧ (endDrain s g f e rest).mem = s.mem ∧
    (endDrain s g f e rest).ctrs = s.ctrs ∧ (frameGet (endDrain s g f e rest) g f).drains = rest := by
  have hframes : (endDrain s g f e rest).frames = (frameMod s g f fun x => { x with drains := rest }).frames := by
    rw [endDrain, showRest_frames, countDrain_frames]
  refine ⟨(onlyFrame_frameMod s g hf _).trans (onlyFrame_of_frames hframes g f), ?_, ?_, ?_⟩
  · rw [endDrain, showRest_mem, countDrain_mem, frameMod_mem]
  · rw [endDrain, showRest_ctrs, countDrain_ctrs, frameMod_ctrs]
  · rw [frameGet_of_frames hframes, frameGet_frameMod_same]

theorem regsBut_endDrain :
    RegsBut s (endDrain s g f e rest) [R_GAB_BEAM_TILE_STATUS (gabDie g) f e, R_GAB_BEAM_STATUS (gabDie g) f] := by
  intro k hk
  simp only [List.mem_cons, List.not_mem_nil, or_false, not_or] at hk
  rw [endDrain, regsBut_showRest _ g f rest k (by simp [hk.2]), regsBut_countDrain _ g f e rest k (by simp [hk.1])]
  rfl

/-- The status of the entry is what the count leaves. -/
theorem fld_tileStatus_endDrain (x : Fld) : fld (endDrain s g f e rest) (R_GAB_BEAM_TILE_STATUS (gabDie g) f e) x =
    fld (countDrain (frameMod s g f fun x => { x with drains := rest }) g f e rest) (R_GAB_BEAM_TILE_STATUS (gabDie g) f e) x := by
  rw [fld, endDrain, regsBut_showRest _ g f rest _ (by simp [tileStatus_ne_beamStatus])]
  rfl

theorem tileState_endDrain : tileState (endDrain s g f e rest) g f e =
    if rest.any fun r => r.entry == e then tileState s g f e else 3 :=
  (fld_tileStatus_endDrain s g f e rest _).trans (tileState_countDrain _ g f e rest)

theorem drainCnt_endDrain : fld (endDrain s g f e rest) (R_GAB_BEAM_TILE_STATUS (gabDie g) f e) F_TILE_STATUS_DRAIN_CNT =
    (fld s (R_GAB_BEAM_TILE_STATUS (gabDie g) f e) F_TILE_STATUS_DRAIN_CNT + 1) % 4096 :=
  (fld_tileStatus_endDrain s g f e rest _).trans (drainCnt_countDrain _ g f e rest)

theorem draining_endDrain : flag (endDrain s g f e rest) (R_GAB_BEAM_STATUS (gabDie g) f) F_GAB_BEAM_STATUS_DRAINING =
    if rest.any (·.started) then flag s (R_GAB_BEAM_STATUS (gabDie g) f) F_GAB_BEAM_STATUS_DRAINING else false := by
  rw [endDrain, draining_showRest, flag, fld, regsBut_countDrain _ g f e rest _ (by simp [(tileStatus_ne_beamStatus _ _ _).symm])]
  rfl

end

end Sys2Proof.Machine
end

section
/-! PROOFS. Drains: the stores' events leave the frame as it was; then the start and the end of a drain. -/
namespace Sys2Proof.Machine

theorem find?_indexed_eq_none {α : Type} {l : List α} {p : α → Bool} (h : ∀ a ∈ l, p a = false) :
    ((indexed l).find? fun x => p x.2) = none := by
  refine List.find?_eq_none.2 fun x hx => ?_
  simp [h x.2 (List.mem_of_getElem? (mem_indexed hx))]

/-- Settles O34: what has happened in the stores leaves the frame and its drains as they were; a drain that is due is got ready
(`readyDrain_keeps`) and shown (`showDrain`), and one that has ended is counted (`countDrain`). -/
theorem drains : Obligations.Drains := by
  unfold Obligations.Drains
  intro s g f ups
  have hf : f.val < 8 := f.isLt
  obtain ⟨hframes, hregs, hscheds⟩ := storesOnly_upsets s ups
  obtain ⟨hmem, hctrs⟩ := memAndCtrs_upsets s ups
  have hx : frameGet (upsets s ups) g f = frameGet s g f := frameGet_of_frames hframes g f
  refine ⟨fun i q hnext he d hd => ?_, fun hall => ?_, fun i q hended he => ?_, fun hall => ?_⟩
  · rw [← hx] at hnext hd ⊢
    refine ⟨fun hearly => congrArg Host.Outcome.next (drainStart_early hnext (hd ▸ hearly)), fun hdue p hp => ?_⟩
    obtain ⟨progs, hframe⟩ := frameGet_beginDrain (upsets s ups) g i d hf q
    refine ⟨_, congrArg Host.Outcome.next (drainStart_due hnext hd hdue), tileState_showDrain _ _ _, draining_showDrain _ _ _,
      drainEntry_showDrain _ _ _ he, (onlyFrame_of_frames hframes g f).trans (onlyFrame_beginDrain _ g i d hf q),
      ⟨begunDrain (upsets s ups) g f d q, by rw [hframe]; rfl, rfl, rfl, rfl, rfl, hp.symm, rfl, by rw [hframe]; rfl⟩,
      fun hlate => ?_, fun hnone => ?_⟩
    · obtain ⟨hfault, hflag⟩ := beamFaulted_beginDrain i hf hlate
      exact ⟨hfault.congr hscheds.symm rfl rfl, hflag⟩
    · obtain ⟨hmem', hctrs', hregs'⟩ := beginDrain_of_no_output i d hnone
      exact ⟨hmem'.trans hmem, hctrs'.trans hctrs, fun k hk => (hregs' k hk).trans (regGet_of_regs hregs k)⟩
  · have hnone : nextDrain (frameGet (upsets s ups) g f) = none :=
      find?_indexed_eq_none (p := fun q : Drain => !q.started) fun q hq => by simp [hall q (hx ▸ hq)]
    exact congrArg Host.Outcome.next (drainStart_none hnone)
  · obtain ⟨rest, hrest⟩ : ∃ rest, rest = (frameGet s g f).drains.eraseIdx i := ⟨_, rfl⟩
    have hend := drainComplete_ended hrest hended
    rw [← hrest]
    obtain ⟨hone, hmem', hctrs', hdrains⟩ := endDrain_keeps s g f q.entry rest hf
    refine ⟨_, congrArg Host.Outcome.next hend, fun hlast => ?_, fun ⟨r, hr, hsame⟩ => ?_,
      fun r hr hre => drainEntry_showRest _ g f rest hr hre, hdrains, drainCnt_endDrain s g f q.entry rest,
      fun hidle => ?_, fun ⟨r, hr, hruns⟩ => ?_, hone,
      regsBut_endDrain s g f q.entry rest, hctrs', hmem'⟩
    · rw [tileState_endDrain, if_neg (by simpa using hlast)]
    · rw [tileState_endDrain, if_pos (by simpa using ⟨r, hr, hsame⟩)]
    · rw [draining_endDrain, if_neg (by simpa using hidle)]
    · rw [draining_endDrain, if_pos (by simpa using ⟨r, hr, hruns⟩)]
  · refine congrArg Host.Outcome.next (drainComplete_none (find?_indexed_eq_none fun q hq => ?_))
    rcases hall q hq with h | h | h
    · simp [drainEnded, h]
    · simp [drainEnded, Nat.not_le.2 h]
    · simp [drainEnded, Nat.not_le.2 h]

end Sys2Proof.Machine
end

section
/-! SUPPORT. What has happened in the stores, as one form: errors, tags, caches and the watch of an update alone change; the tags
of rows keep WRITTEN and WRITER, and a stream keeps its head. -/
namespace Sys2Proof.Machine

/-- Caches and the watch of an update alone differ. -/
def CachesOnly (s t : State) : Prop := t = { s with coh := t.coh, updWatch := t.updWatch }

theorem CachesOnly.refl (s : State) : CachesOnly s s := rfl

theorem CachesOnly.trans {s t u : State} (h : CachesOnly s t) (h' : CachesOnly t u) : CachesOnly s u := by
  rw [CachesOnly, h', h]

theorem cachesOnly_predSnoop (s : State) (c line mask : Nat) : CachesOnly s (predSnoop s c line mask) := by
  unfold predSnoop
  refine List.foldlRecOn (motive := CachesOnly s) _ _ (.refl s) fun u hu k _ => hu.trans ?_
  simp only []
  split
  · exact .refl u
  · split <;> exact rfl

theorem cachesOnly_lineAtSet (s : State) (c line : Nat) (x : LineAt) : CachesOnly s (lineAtSet s c line x) := by
  unfold lineAtSet
  split <;> exact rfl

theorem cachesOnly_watchNote (s : State) (a n : Nat) : CachesOnly s (watchNote s a n) := by
  unfold watchNote
  split <;> exact rfl

theorem cachesOnly_silentStore (s : State) (h a : Nat) (bs : List Byte) : CachesOnly s (silentStore s h a bs) := by
  have hcopy (u : State) (c line : Nat) (x : CacheLine) : CachesOnly u (copySet u c line x) := rfl
  unfold silentStore
  simp only []
  split
  · split
    · exact (cachesOnly_watchNote s _ _).trans ((hcopy _ _ _ _).trans
        ((cachesOnly_predSnoop _ _ _ _).trans (cachesOnly_lineAtSet _ _ _ _)))
    · exact .refl s
  · exact .refl s

theorem cachesOnly_silentEvict (s : State) (c a : Nat) : CachesOnly s (silentEvict s c a) := by
  unfold silentEvict
  split
  · split <;> exact rfl
  · exact .refl s

theorem cachesOnly_levelSet (s : State) (c a l2 : Nat) (llc : Bool) : CachesOnly s (levelSet s c a l2 llc) := by
  unfold levelSet
  split
  · exact .refl s
  · exact cachesOnly_lineAtSet _ _ _ _

/-- The three ways in which one thing that has happened in the stores shows: an error, a tag's parity, or a move in the caches. -/
theorem before_cases (s : State) (b : Before) :
    (∃ e, before s b = { s with ecc := e }) ∨
      (∃ row, before s b = tagSet s row { tagGet s row with parity := true }) ∨ CachesOnly s (before s b) := by
  cases b with
  | upset a ue =>
    simp only [before, upset]
    split
    · exact .inl ⟨_, rfl⟩
    · exact .inr (.inr (.refl s))
  | parity a =>
    simp only [before, tagUpset]
    split
    · exact .inr (.inl ⟨_, rfl⟩)
    · exact .inr (.inr (.refl s))
  | store h a bs => exact .inr (.inr (cachesOnly_silentStore s _ _ _))
  | evict c a => exact .inr (.inr (cachesOnly_silentEvict s _ _))
  | level c a l2 llc => exact .inr (.inr (cachesOnly_levelSet s _ _ _ _))

theorem tagGet_tagSet_same (s : State) (row : Nat) (t : RowTag) : tagGet (tagSet s row t) row = t := by
  simp [tagGet, tagSet, tabGet]

theorem tagGet_tagSet_ne (s : State) {row r : Nat} (t : RowTag) (h : r ≠ row) : tagGet (tagSet s row t) r = tagGet s r := by
  simp [tagGet, tagSet, tabGet, tabFind_tabPut_ne _ _ h]

/-- Errors, parities of tags, caches and the watch of an update alone differ. -/
def HappenedOnly (s t : State) : Prop :=
  t = { s with ecc := t.ecc, tags := t.tags, coh := t.coh, updWatch := t.updWatch } ∧
    ∀ row, ∃ p, tagGet t row = { tagGet s row with parity := p }

theorem HappenedOnly.refl (s : State) : HappenedOnly s s := ⟨rfl, fun _ => ⟨_, rfl⟩⟩

theorem HappenedOnly.trans {s t u : State} (h : HappenedOnly s t) (h' : HappenedOnly t u) : HappenedOnly s u := by
  refine ⟨by rw [h'.1, h.1], fun row => ?_⟩
  obtain ⟨_, hp⟩ := h.2 row
  obtain ⟨p, hp'⟩ := h'.2 row
  exact ⟨p, by rw [hp', hp]⟩

theorem happenedOnly_before (s : State) (b : Before) : HappenedOnly s (before s b) := by
  rcases before_cases s b with ⟨e, h⟩ | ⟨r, h⟩ | h
  · rw [h]
    exact ⟨rfl, fun _ => ⟨_, rfl⟩⟩
  · rw [h]
    refine ⟨rfl, fun row => ?_⟩
    by_cases hrow : row = r
    · exact ⟨true, by rw [hrow, tagGet_tagSet_same]⟩
    · exact ⟨_, by rw [tagGet_tagSet_ne _ _ hrow]⟩
  · refine ⟨by rw [h], fun row => ⟨(tagGet s row).parity, ?_⟩⟩
    rw [h]
    rfl

theorem happenedOnly_upsets (s : State) (us : List Before) : HappenedOnly s (upsets s us) :=
  List.foldlRecOn (motive := HappenedOnly s) us before (.refl s) fun u hu b _ => hu.trans (happenedOnly_before u b)

theorem streamHead_upsets (s : State) (us : List Before) (g i : Nat) : streamHead (upsets s us) g i = streamHead s g i := by
  rw [(happenedOnly_upsets s us).1]
  rfl

theorem upsets_rcp (s : State) (us : List Before) : (upsets s us).rcp = s.rcp := by
  rw [(happenedOnly_upsets s us).1]

theorem tagGet_upsets (s : State) (us : List Before) (row : Nat) :
    (tagGet (upsets s us) row).written = (tagGet s row).written ∧ (tagGet (upsets s us) row).writer = (tagGet s row).writer := by
  obtain ⟨p, hp⟩ := (happenedOnly_upsets s us).2 row
  rw [hp]
  exact ⟨rfl, rfl⟩

end Sys2Proof.Machine
end

section
/-! SUPPORT. A fault of the backward pass (05:R106, R118): flagged in GAB_FRM_BWD_ERR, recorded, and pending. -/
namespace Sys2Proof.Machine

theorem bwdErr_ne_schStatus (d f : Nat) : R_GAB_FRM_BWD_ERR d f ≠ R_GAB_SCH_STATUS d := by
  unfold R_GAB_FRM_BWD_ERR R_GAB_SCH_STATUS regAt; omega

theorem bwdErr_ne_strataErr (d f : Nat) : R_GAB_FRM_BWD_ERR d f ≠ R_SCH_STRATA_ERR := by
  unfold R_GAB_FRM_BWD_ERR R_SCH_STRATA_ERR regAt; omega

/-- The streams depend on the schedules alone. -/
theorem streamsOf_of_scheds {s t : State} (h : t.scheds = s.scheds) (g : Nat) : streamsOf t g = streamsOf s g := by
  simp only [streamsOf, winGet, schedGet, h]

/-- A flag of GAB_FRM_BWD_ERR, an event of the frame's unit, and a fault of the window. -/
def bwdFault (s : State) (g f : Nat) (bit : Fld) (st : Nat) : State :=
  winFault (strataEvent (raise s (R_GAB_FRM_BWD_ERR (gabDie g) f) bit) (gabDie g) (0x20 + f) st f 0) g st

theorem garnetFault_eq (s : State) (g f : Nat) (bit : Fld) : garnetFault s g f bit = bwdFault s g f bit 0x0207 := rfl

section
variable (s : State) (g f : Nat) (bit : Fld) (st : Nat)

@[simp] theorem bwdFault_frames : (bwdFault s g f bit st).frames = s.frames := by simp [bwdFault]
@[simp] theorem bwdFault_mem : (bwdFault s g f bit st).mem = s.mem := by simp [bwdFault]

theorem streamsOf_bwdFault : streamsOf (bwdFault s g f bit st) g = streamsOf s g := by
  rw [bwdFault, streamsOf_winFault]
  exact streamsOf_of_scheds (by simp) g

theorem regsBut_bwdFault :
    RegsBut s (bwdFault s g f bit st) [R_GAB_FRM_BWD_ERR (gabDie g) f, R_GAB_SCH_STATUS (gabDie g), R_SCH_STRATA_ERR] := by
  intro k hk
  simp only [List.mem_cons, List.not_mem_nil, or_false, not_or] at hk
  obtain ⟨hbwd, hsch, hstrata⟩ := hk
  rw [bwdFault, regGet_winFault_ne _ _ _ hsch, regGet_strataEvent _ _ _ _ _ _ hstrata, regGet_raise_ne _ _ hbwd]

theorem faulted_bwdFault : Faulted s (bwdFault s g f bit st) g st :=
  (faulted_winFault (strataEvent (raise s _ bit) (gabDie g) (0x20 + f) st f 0) g st).congr (by simp) rfl rfl

theorem flag_bwdFault (hfit : bit.lo + bit.len ≤ 32) (hone : bit.len = 1) :
    flag (bwdFault s g f bit st) (R_GAB_FRM_BWD_ERR (gabDie g) f) bit = true := by
  rw [bwdFault, flag, fld, regGet_winFault_ne _ _ _ (bwdErr_ne_schStatus _ _),
    regGet_strataEvent _ _ _ _ _ _ (bwdErr_ne_strataErr _ _)]
  exact flag_raise_same s _ _ hfit hone

end

end Sys2Proof.Machine
end

section
/-! SUPPORT. A GARNET at the head of a stream (05:R104, R111, R118): it starts with its vectors read, or is skipped. -/
namespace Sys2Proof.Machine

theorem Popped.of_streams {s t u : State} {g i : Nat} (h : Popped s t g i) (hu : streamsOf u g = streamsOf t g) : Popped s u g i :=
  hu.trans h

/-- Logical frames and the streams of a Gabbro are as they were. -/
def KeepsStreams (s t : State) (g : Nat) : Prop := t.frames = s.frames ∧ streamsOf t g = streamsOf s g

theorem KeepsStreams.refl (s : State) (g : Nat) : KeepsStreams s s g := ⟨rfl, rfl⟩

theorem KeepsStreams.trans {s t u : State} {g : Nat} (h : KeepsStreams s t g) (h' : KeepsStreams t u g) : KeepsStreams s u g :=
  ⟨h'.1.trans h.1, h'.2.trans h.2⟩

theorem keepsStreams_winFault (s : State) (g st : Nat) : KeepsStreams s (winFault s g st) g :=
  ⟨winFault_frames s g st, streamsOf_winFault s g st⟩

theorem keepsStreams_winRead (s : State) (g a n : Nat) : KeepsStreams s (winRead s g a n).1 g := by
  have htouch := (touch_readMem s (winAgent g) 0x01 a n).1
  have hread : KeepsStreams s (readMem s (winAgent g) 0x01 a n).1 g :=
    ⟨by rw [htouch], streamsOf_of_scheds (by rw [htouch]) g⟩
  unfold winRead
  split
  · simp only []
    split
    · exact hread.trans (keepsStreams_winFault _ g _)
    · exact hread
  · exact keepsStreams_winFault s g _

/-- A vector that a descriptor names is read; one that it does not name is given. -/
def readVector (s : State) (g : Nat) (named : Bool) (a n : Nat) (z : List Val) : State × List Val :=
  if named then readWide s g a 8 n else (s, z)

theorem keepsStreams_readVector (s : State) (g : Nat) (named : Bool) (a n : Nat) (z : List Val) :
    KeepsStreams s (readVector s g named a n z).1 g := by
  unfold readVector
  split
  · exact keepsStreams_winRead s g a _
  · exact .refl s g

/-- The state once γ and β of a descriptor are read, with both. -/
def readGammaBeta (s : State) (g : Nat) (d : GarnetDesc) : State × List Val × List Val :=
  let ga := readVector s g (decide (2 < d.op) && d.gammaAddr != 0) d.gammaAddr d.len (List.replicate d.len (natVal 1))
  let be := readVector ga.1 g ((d.op == 3 || d.op == 5) && d.betaAddr != 0) d.betaAddr d.len
    (List.replicate d.len (Val.fin false 0 0))
  (be.1, ga.2, be.2)

/-- A run of a descriptor before its first cycle. -/
def freshRun (d : GarnetDesc) (gamma beta : List Val) : GntRun :=
  ⟨d, 0, gamma, beta, List.replicate d.len (Val.fin false 0 0), List.replicate d.len (Val.fin false 0 0),
    [], [], [], 0, false, [], [], []⟩

theorem garnetStart_eq (s : State) (g f : Nat) (d : GarnetDesc) :
    garnetStart s g f d = frameMod (readGammaBeta s g d).1 g f fun x =>
      { x with gnt := x.gnt ++ [freshRun d (readGammaBeta s g d).2.1 (readGammaBeta s g d).2.2] } := by
  simp only [garnetStart, readGammaBeta, readVector, freshRun]

theorem keepsStreams_readGammaBeta (s : State) (g : Nat) (d : GarnetDesc) : KeepsStreams s (readGammaBeta s g d).1 g :=
  (keepsStreams_readVector s g _ _ _ _).trans (keepsStreams_readVector _ g _ _ _ _)

theorem garnetFaulty_of_regs {s t : State} (h : t.regs = s.regs) (hr : t.rcp = s.rcp) (d : GarnetDesc) :
    garnetFaulty t d = garnetFaulty s d := by
  have hrecipe : recipe t d.kind = recipe s d.kind := by rw [recipe, hr, recipe]
  have hwell (dst stride rows bytes fmt : Nat) : wellBroken t dst stride rows bytes fmt = wellBroken s dst stride rows bytes fmt := by
    have hregs : wellBroken t dst stride rows bytes fmt = wellBroken { s with regs := t.regs } dst stride rows bytes fmt := rfl
    rw [hregs, h]
  rw [garnetFaulty, garnetFaulty, hrecipe]
  simp only [hwell]

/-- The head of a frame's stream is taken, and the errors of its side memory have arisen. -/
def takeGarnet (s : State) (g f : Nat) (side : List (Nat × Bool)) : State :=
  frameMod (streamPop s g f) g f fun x => { x with sideErr := side.foldl sideUpset x.sideErr }

theorem garnetDescriptor_of_head {s : State} {g f : Nat} {d : GarnetDesc} (h : HeadIs s g f (.garnet d))
    (side : List (Nat × Bool)) :
    garnetDescriptor s g f side = if garnetFaulty s d then garnetFault (takeGarnet s g f side) g f F_GAB_FRM_BWD_ERR_GNT_DESC_FAULT
      else garnetStart (takeGarnet s g f side) g f d := by
  obtain ⟨n, at_, hhead⟩ := h
  have hfaulty : garnetFaulty (takeGarnet s g f side) d = garnetFaulty s d :=
    garnetFaulty_of_regs (t := takeGarnet s g f side) (streamPop_regs s g f) (streamPop_rcp s g f) d
  rw [← hfaulty, garnetDescriptor, hhead]
  rfl

section
variable (s : State) (g : Nat) {f : Nat} (side : List (Nat × Bool))

theorem onlyFrame_takeGarnet (hf : f < 8) : OnlyFrame s (takeGarnet s g f side) g f :=
  (onlyFrame_of_frames (streamPop_frames s g f) g f).trans (onlyFrame_frameMod _ g hf _)

theorem gnt_takeGarnet : (frameGet (takeGarnet s g f side) g f).gnt = (frameGet s g f).gnt := by
  rw [takeGarnet, frameGet_frameMod_same, frameGet_of_frames (streamPop_frames s g f)]

theorem popped_takeGarnet : Popped s (takeGarnet s g f side) g f := (popped_streamPop s g f).congr rfl

/-- A descriptor that starts is consumed, and its run joins those of the frame. -/
theorem started_garnetStart (hf : f < 8) (d : GarnetDesc) :
    Popped s (garnetStart (takeGarnet s g f side) g f d) g f ∧ OnlyFrame s (garnetStart (takeGarnet s g f side) g f d) g f ∧
      ∃ gamma beta, (frameGet (garnetStart (takeGarnet s g f side) g f d) g f).gnt =
        (frameGet s g f).gnt ++ [freshRun d gamma beta] := by
  obtain ⟨hframes, hstreams⟩ := keepsStreams_readGammaBeta (takeGarnet s g f side) g d
  rw [garnetStart_eq]
  refine ⟨(popped_takeGarnet s g side).of_streams hstreams, ?_, (readGammaBeta (takeGarnet s g f side) g d).2.1,
    (readGammaBeta (takeGarnet s g f side) g d).2.2, ?_⟩
  · exact (onlyFrame_takeGarnet s g side hf).trans
      ((onlyFrame_of_frames hframes g f).trans (onlyFrame_frameMod _ g hf _))
  · rw [frameGet_frameMod_same, frameGet_of_frames hframes, gnt_takeGarnet]

/-- A faulty descriptor is consumed, flags its fault and leaves memory and every other register. -/
theorem skipped_garnetFault (hf : f < 8) {t : State}
    (ht : t = garnetFault (takeGarnet s g f side) g f F_GAB_FRM_BWD_ERR_GNT_DESC_FAULT) :
    Popped s t g f ∧ OnlyFrame s t g f ∧ Faulted s t g 0x0207 ∧
      flag t (R_GAB_FRM_BWD_ERR (gabDie g) f) F_GAB_FRM_BWD_ERR_GNT_DESC_FAULT = true ∧ t.mem = s.mem ∧
      RegsBut s t [R_GAB_FRM_BWD_ERR (gabDie g) f, R_GAB_SCH_STATUS (gabDie g), R_SCH_STRATA_ERR] := by
  rw [ht, garnetFault_eq]
  refine ⟨(popped_takeGarnet s g side).of_streams (streamsOf_bwdFault ..),
    (onlyFrame_takeGarnet s g side hf).trans (onlyFrame_of_frames (bwdFault_frames ..) g f), ?_,
    flag_bwdFault _ g f _ _ (by decide) rfl, ?_, fun k hk => ?_⟩
  · exact Faulted.of_streamPop ((faulted_bwdFault (takeGarnet s g f side) g f _ 0x0207).congr rfl rfl rfl)
  · rw [bwdFault_mem]
    exact streamPop_mem s g f
  · rw [regsBut_bwdFault _ g f _ _ k hk]
    exact regGet_of_regs (streamPop_regs s g f) k

end

end Sys2Proof.Machine
end

section
/-! SUPPORT. A line of a Shale as memory (08:R168, R178, R181): its eight granules, what a read of it gives where nothing is
wrong, and what a write of it leaves. -/
namespace Sys2Proof.Machine

/-- The addresses of a Shale. -/
theorem regionBelow_eq_shale {a o : Nat} :
    regionBelow 0 a = .shale o ↔ 0x010000000000 ≤ a ∧ a < 0x014000000000 ∧ o = (a - 0x010000000000) / 0x000400000000 := by
  unfold regionBelow
  split
  · simp; omega
  · split
    · rename_i h
      simp [h, eq_comm]
    · rename_i h
      have hout : ¬(0x010000000000 ≤ a ∧ a < 0x014000000000 ∧ o = (a - 0x010000000000) / 0x000400000000) := by omega
      simp only [hout, iff_false]
      split
      · split
        · simp
        · split <;> simp
      · split
        · simp
        · split <;> simp

/-- `n` bytes from an address lie in one Shale. -/
def InShale (o a n : Nat) : Prop := ∀ i < n, regionBelow 0 (a + i) = .shale o

theorem inShale_line {line o : Nat} (hline : line % 1024 = 0) (h : regionBelow 0 line = .shale o) : InShale o line 1024 := by
  obtain ⟨hlo, hhi, rfl⟩ := regionBelow_eq_shale.1 h
  intro i hi
  rw [regionBelow_eq_shale]
  omega

theorem InShale.first {o a n : Nat} (h : InShale o a n) (hn : 0 < n) : regionBelow 0 a = .shale o := h 0 hn

theorem InShale.skip {o a m n : Nat} (h : InShale o a (m + n)) : InShale o (a + m) n := by
  intro i hi
  rw [Nat.add_assoc]
  exact h _ (by omega)

theorem InShale.mono {o a m n : Nat} (h : InShale o a n) (hmn : m ≤ n) : InShale o a m := fun i hi => h i (by omega)

theorem granule_shale {a o : Nat} (h : regionBelow 0 a = .shale o) : granule a = (a / 128 * 128, 128) := by
  simp only [granule, h]

theorem rowOf_mod (a : Nat) : rowOf a % 1024 = 0 := Nat.mul_mod_left _ _

theorem rowOf_add {line i : Nat} (hline : line % 1024 = 0) (hi : i < 1024) : rowOf (line + i) = line := by
  unfold rowOf; omega

/-! ### Reading. -/

theorem map_memGet_range (m : Memory) (a n : Nat) : ((List.range n).map fun i => memGet m (a + i)) = memRead m a n := by
  induction n generalizing a with
  | zero => rfl
  | succ n ih =>
    rw [memRead, ← ih, List.range_succ_eq_map]
    simp [Function.comp_def, Nat.add_assoc, Nat.add_comm 1]

theorem granulesOf_line {line o : Nat} (hline : line % 1024 = 0) (h : regionBelow 0 line = .shale o) :
    granulesOf line 1024 = (List.range 8).map fun i => line + i * 128 := by
  have hfirst : line / 128 * 128 = line := by omega
  have hcount : (line + 1024 - 1 - line) / 128 + 1 = 8 := by omega
  simp only [granulesOf, granule_shale h, hfirst, hcount]
  rfl

theorem tagSeen_of_parity {s : State} {a : Nat} (h : (tagGet s (rowOf a)).parity = false) : tagSeen s a = s := by
  unfold tagSeen
  split <;> simp [h]

/-- One granule's part of a read, behind the parts before it. -/
def readNext (ag : Agent) (unit : Nat) (acc : State × Bool) (q : Nat) : State × Bool :=
  if rowBlank acc.1 (rowOf q) then acc
  else ((meet (tagSeen acc.1 q) ag unit q).1, acc.2 || (meet (tagSeen acc.1 q) ag unit q).2)

/-- A read gives the bytes as the state stands once its granules are met. -/
def readOut (a n : Nat) (r : State × Bool) : State × List Byte × Bool := (r.1, (List.range n).map fun i => byteSeen r.1 (a + i), r.2)

theorem readMem_eq (s : State) (ag : Agent) (unit a n : Nat) :
    readMem s ag unit a n = readOut a n ((granulesOf a n).foldl (readNext ag unit) (s, false)) := rfl

/-- No tag of the rows of these granules has a parity error. -/
def TagsSound (s : State) (l : List Nat) : Prop := ∀ q ∈ l, (tagGet s (rowOf q)).parity = false

/-- Where no error is stored and no tag met has a parity error, granules met change nothing. -/
theorem foldl_readNext_clean {s : State} (hecc : s.ecc = []) (ag : Agent) (unit : Nat) {l : List Nat} (hl : TagsSound s l) :
    l.foldl (readNext ag unit) (s, false) = (s, false) := by
  have hmeet (q : Nat) : meet s ag unit q = (s, false) := by simp [meet, checkGranule, hecc]
  induction l with
  | nil => rfl
  | cons q t ih =>
    have hq : readNext ag unit (s, false) q = (s, false) := by
      simp [readNext, tagSeen_of_parity (hl q List.mem_cons_self), hmeet]
    rw [List.foldl_cons, hq]
    exact ih fun r hr => hl r (List.mem_cons_of_mem _ hr)

theorem byteSeen_written {s : State} {a o : Nat} (h : regionBelow 0 a = .shale o) (hwritten : (tagGet s (rowOf a)).written = true) :
    byteSeen s a = memGet s.mem a := by
  simp [byteSeen, h, rowBlank, hwritten]

/-- A read of a written line gives its stored bytes. -/
theorem readMem_writtenLine {s : State} {line o : Nat} (hline : line % 1024 = 0) (h : regionBelow 0 line = .shale o)
    (hecc : s.ecc = []) (hwritten : (tagGet s line).written = true) (hparity : (tagGet s line).parity = false) (ag : Agent)
    (unit : Nat) : readMem s ag unit line 1024 = (s, memRead s.mem line 1024, false) := by
  have hsound : TagsSound s (granulesOf line 1024) := by
    intro q hq
    rw [granulesOf_line hline h] at hq
    obtain ⟨i, hi, rfl⟩ := List.mem_map.1 hq
    have hi' := List.mem_range.1 hi
    rwa [rowOf_add hline (by omega)]
  have hbytes : ∀ i ∈ List.range 1024, byteSeen s (line + i) = memGet s.mem (line + i) := by
    intro i hi
    have hi' := List.mem_range.1 hi
    exact byteSeen_written (inShale_line hline h i hi') (by rw [rowOf_add hline hi']; exact hwritten)
  rw [readMem_eq, foldl_readNext_clean hecc ag unit hsound, readOut, List.map_congr_left hbytes, map_memGet_range]

/-! ### Writing. -/

theorem memWrite_append (m : Memory) (a : Nat) (xs ys : List Byte) :
    memWrite m a (xs ++ ys) = memWrite (memWrite m a xs) (a + xs.length) ys := by
  induction xs generalizing m a with
  | nil => rfl
  | cons x t ih =>
    rw [List.cons_append, memWrite, ih, memWrite, List.length_cons, Nat.add_assoc, Nat.add_comm 1]

theorem putBytes_shale {o : Nat} (bs : List Byte) (s : State) (a : Nat) (h : InShale o a bs.length) :
    putBytes s a bs = { s with mem := memWrite s.mem a bs } := by
  induction bs generalizing s a with
  | nil => rfl
  | cons b t ih =>
    have hfirst : regionBelow 0 a = .shale o := h.first (by simp)
    have hrest : InShale o (a + 1) t.length := by
      refine InShale.skip (m := 1) ?_
      rw [Nat.add_comm]
      exact h
    simp only [putBytes, hfirst]
    rw [ih _ _ hrest]
    rfl

/-- One granule's part of a write, behind the parts before it. -/
def writeNext (ag : Agent) (unit : Nat) (acc : State × Bool) (p : Nat × List Byte) : State × Bool :=
  ((writePiece acc.1 ag unit p.1 p.2).1, acc.2 && (writePiece acc.1 ag unit p.1 p.2).2)

theorem writeMem_eq (s : State) (ag : Agent) (unit a : Nat) (bs : List Byte) :
    writeMem s ag unit a bs = (pieces (bs.length + 1) a bs).foldl (writeNext ag unit) (remapCovered s a bs.length true, true) := rfl

/-- A whole granule of a Shale is replaced, and its error with it. -/
theorem writePiece_wholeGranule {s : State} {o a : Nat} {bs : List Byte} (ha : a % 128 = 0) (hlen : bs.length = 128)
    (h : InShale o a 128) (ag : Agent) (unit : Nat) :
    writePiece s ag unit a bs = ({ s with ecc := tabDel s.ecc a, mem := memWrite s.mem a bs }, true) := by
  have hgranule : granule a = (a, 128) := by
    rw [granule_shale (h.first (by decide)), Nat.div_mul_cancel (Nat.dvd_of_mod_eq_zero ha)]
  simp only [writePiece, hgranule, hlen, and_self, if_true]
  rw [putBytes_shale bs _ a (by rw [hlen]; exact h)]

/-- Whole granules of a Shale are written in turn: memory takes the bytes, and errors alone change beside it. -/
theorem foldl_writeNext_granules {o : Nat} (ag : Agent) (unit n : Nat) {fuel a : Nat} {bs : List Byte} (s : State) (ok : Bool)
    (hfuel : n < fuel) (ha : a % 128 = 0) (hlen : bs.length = 128 * n) (h : InShale o a (128 * n)) :
    ∃ e, ((pieces fuel a bs).foldl (writeNext ag unit) (s, ok)).1 = { s with ecc := e, mem := memWrite s.mem a bs } := by
  induction n generalizing fuel a bs s ok with
  | zero =>
    obtain rfl : bs = [] := List.length_eq_zero_iff.1 (by simpa using hlen)
    obtain ⟨m, rfl⟩ : ∃ m, fuel = m + 1 := ⟨fuel - 1, by omega⟩
    exact ⟨s.ecc, rfl⟩
  | succ n ih =>
    obtain ⟨m, rfl⟩ : ∃ m, fuel = m + 1 := ⟨fuel - 1, by omega⟩
    have hhead : InShale o a 128 := h.mono (by omega)
    have hgranule : (granule a).1 + (granule a).2 - a = 128 := by
      rw [granule_shale (hhead.first (by decide)), Nat.div_mul_cancel (Nat.dvd_of_mod_eq_zero ha)]
      omega
    have hne : bs.isEmpty = false := by
      cases bs with
      | nil => simp at hlen
      | cons b t => rfl
    have hpieces : pieces (m + 1) a bs = (a, bs.take 128) :: pieces m (a + 128) (bs.drop 128) := by
      simp only [pieces, hne, hgranule]
      rfl
    have htake : (bs.take 128).length = 128 := by rw [List.length_take]; omega
    have hrest : InShale o (a + 128) (128 * n) := InShale.skip (by rw [Nat.add_comm]; exact h)
    obtain ⟨e, he⟩ := ih (fuel := m) (a := a + 128) (bs := bs.drop 128)
      { s with ecc := tabDel s.ecc a, mem := memWrite s.mem a (bs.take 128) } ok (by omega) (by omega)
      (by rw [List.length_drop]; omega) hrest
    refine ⟨e, ?_⟩
    rw [hpieces, List.foldl_cons, writeNext, writePiece_wholeGranule ha htake hhead, Bool.and_true, he,
      ← List.take_append_drop 128 bs, memWrite_append, htake, List.take_append_drop]

/-! ### Rows remapped to spares (08:R180). -/

/-- Memory, and every counter but those of the recorder, are as they were, and nothing but what an access changes differs. -/
def Remapped (s t : State) : Prop :=
  Touch s t ∧ t.mem = s.mem ∧ ∀ k, k ≠ R_SCH_STRATA_SUPPRESSED → k ≠ R_SCH_STRATA_LOST → ctrGet t k = ctrGet s k

theorem remapped_spareTake (s : State) (o row : Nat) : Remapped s (spareTake s o row) := by
  refine ⟨touch_spareTake s o row, ?_, fun k hsup hlost => ?_⟩
  · simp only [spareTake]
    split
    · rfl
    · simp [spareExhausted]
  · simp only [spareTake]
    split
    · rfl
    · exact ctrGet_strataEvent _ _ _ _ _ _ hsup hlost

theorem Remapped.refl (s : State) : Remapped s s := ⟨.refl s, rfl, fun _ _ _ => rfl⟩

theorem Remapped.trans {s t u : State} (h : Remapped s t) (h' : Remapped t u) : Remapped s u := by
  obtain ⟨htouch, hmem, hctrs⟩ := h
  obtain ⟨htouch', hmem', hctrs'⟩ := h'
  exact ⟨htouch.trans htouch', hmem'.trans hmem, fun k hsup hlost => (hctrs' k hsup hlost).trans (hctrs k hsup hlost)⟩

theorem remapped_remapCovered (s : State) (a n : Nat) (wells : Bool) : Remapped s (remapCovered s a n wells) := by
  unfold remapCovered
  split
  · refine List.foldlRecOn (motive := Remapped s) _ _ (.refl s) fun u hu row _ => hu.trans ?_
    split
    · exact remapped_spareTake u _ row
    · exact .refl u
  · exact .refl s

/-- A write of a whole line: its bytes are stored, errors in it go, and what it covers may be remapped. -/
theorem writeMem_line {s : State} {line o : Nat} {bs : List Byte} (hline : line % 1024 = 0) (h : regionBelow 0 line = .shale o)
    (hlen : bs.length = 1024) (ag : Agent) (unit : Nat) :
    ∃ u e, Remapped s u ∧ (writeMem s ag unit line bs).1 = { u with ecc := e, mem := memWrite s.mem line bs } := by
  have hremap := remapped_remapCovered s line bs.length true
  obtain ⟨e, he⟩ := foldl_writeNext_granules ag unit 8 (fuel := bs.length + 1) (a := line) (bs := bs)
    (remapCovered s line bs.length true) true (by omega) (by omega) (by omega) (inShale_line hline h)
  refine ⟨_, e, hremap, ?_⟩
  rw [writeMem_eq, he, hremap.2.1]

theorem stored_memWrite {s t : State} {a : Nat} {bs : List Byte} (h : t.mem = memWrite s.mem a bs) : Stored s t a bs := by
  unfold Stored
  rw [h]
  exact ⟨memRead_memWrite _ _ _, fun _ hx => memGet_memWrite_outside _ _ _ _ hx⟩

end Sys2Proof.Machine
end

section
/-! SUPPORT. A well write (05:R105, R106; 08:R176): a conflict, or the sum of the row and what the frame wrote before. -/
namespace Sys2Proof.Machine

/-- Lane `i` of a line: the value written before, if one was, and the row's, summed and rounded once (05:R105). -/
def laneSum (written : Bool) (old : List Byte) (row : List Word) (i : Nat) : Word :=
  fp32Of (valAdd (if written then codeVal 23 (fieldLE old (4 * i) 4) else .fin false 0 0) (fp32Val (row.getD i 0)))

/-- The bytes of a line summed lane by lane. -/
def sumBytes (written : Bool) (old : List Byte) (row : List Word) : List Byte :=
  (List.range 256).flatMap fun i => leBytes 4 (laneSum written old row i).toNat

theorem length_flatMap_words (x : Nat → Nat) (n : Nat) : ((List.range n).flatMap fun i => leBytes 4 (x i)).length = n * 4 := by
  induction n with
  | zero => rfl
  | succ n ih =>
    rw [List.range_succ, List.flatMap_append, List.length_append, ih, List.flatMap_singleton, length_leBytes, Nat.succ_mul]

theorem length_sumBytes (written : Bool) (old : List Byte) (row : List Word) : (sumBytes written old row).length = 1024 :=
  length_flatMap_words _ 256

theorem indexed_map_range {α : Type} (h : Nat → α) (n : Nat) :
    indexed ((List.range n).map h) = (List.range n).map fun i => (i, h i) := by
  refine List.ext_getElem? fun k => ?_
  by_cases hk : k < n
  · simp [hk]
  · simp [Nat.not_lt.1 hk]

/-- A row as the model hands it on: 256 lanes. -/
def laneRow (row : List Word) : List Word := (List.range 256).map fun i => row.getD i 0

theorem execWellWrite_of_well {s : State} {g : Fin 16} {a : Nat} (hwell : inWell s a = true) (hopen : winOpen s g = true)
    (f : Fin 8) (row : List Word) (ups : List Before) (bad : Bool) :
    exec (.wellWrite g f a row ups bad) s = .next (wellWrite (upsets s ups) g f (rowOf a) (laneRow row) bad) :=
  congrArg Host.Outcome.next (if_pos (by simp [hwell, hopen]))

theorem execWellWrite_idle {s : State} {g : Fin 16} {a : Nat} (h : inWell s a = false ∨ winOpen s g = false)
    (f : Fin 8) (row : List Word) (ups : List Before) (bad : Bool) : exec (.wellWrite g f a row ups bad) s = .next s :=
  congrArg Host.Outcome.next (if_neg (by rcases h with h | h <;> simp [h]))

/-- Why a well line takes no row (05:R106): it lies in another Shale, or another frame wrote it. -/
def WellConflict (s : State) (g f o line : Nat) : Prop :=
  o ≠ g ∨ ((tagGet s line).written = true ∧ (tagGet s line).parity = false ∧ (tagGet s line).writer ≠ f)

section
variable {s : State} {g f o line : Nat}

theorem wellWrite_conflict (h : regionBelow 0 line = .shale o) (hconflict : WellConflict s g f o line) (row : List Word) :
    wellWrite s g f line row false = bwdFault (tagSet s line (tagGet s line)) g f F_GAB_FRM_BWD_ERR_WELL_CONFLICT 0x0208 := by
  simp only [wellWrite, h, Bool.or_false]
  refine if_pos (hconflict.imp_right ?_)
  rintro ⟨hwritten, hparity, hwriter⟩
  exact ⟨hwritten, by simp [hparity], hwriter⟩

/-- A conflict changes no memory and no frame, is flagged and is pending (05:R106). -/
theorem wellWrite_conflict_keeps (h : regionBelow 0 line = .shale o) (hconflict : WellConflict s g f o line) {row : List Word}
    {t : State} (ht : t = wellWrite s g f line row false) :
    t.mem = s.mem ∧ Faulted s t g 0x0208 ∧
      flag t (R_GAB_FRM_BWD_ERR (gabDie g) f) F_GAB_FRM_BWD_ERR_WELL_CONFLICT = true ∧ t.frames = s.frames ∧
      RegsBut s t [R_GAB_FRM_BWD_ERR (gabDie g) f, R_GAB_SCH_STATUS (gabDie g), R_SCH_STRATA_ERR] := by
  obtain ⟨u, hu⟩ : ∃ u, u = tagSet s line (tagGet s line) := ⟨_, rfl⟩
  have hregs : u.regs = s.regs := by rw [hu]; rfl
  rw [ht, wellWrite_conflict h hconflict, ← hu]
  refine ⟨?_, ?_, flag_bwdFault u g f _ _ (by decide) rfl, ?_, fun k hk => ?_⟩
  · rw [bwdFault_mem, hu, tagSet_mem]
  · exact (faulted_bwdFault u g f _ 0x0208).congr (by rw [hu, tagSet_scheds]) rfl rfl
  · rw [bwdFault_frames, hu, tagSet_frames]
  · rw [regsBut_bwdFault u g f _ _ k hk, regGet_of_regs hregs]

/-- What a line holds of earlier writes. -/
def oldLine (s : State) (line : Nat) : List Byte := if (tagGet s line).written then memRead s.mem line 1024 else []

theorem sumBytes_oldLine (s : State) (line : Nat) (row : List Word) :
    sumBytes (tagGet s line).written (oldLine s line) row = sumBytes (tagGet s line).written (memRead s.mem line 1024) row := by
  cases hwritten : (tagGet s line).written with
  | false => rfl
  | true => rw [oldLine, if_pos hwritten]

/-- The tally unit reads a line that was written, and no other (05:R105). -/
theorem readMem_tally (h : regionBelow 0 line = .shale g) (hline : line % 1024 = 0) (hparity : (tagGet s line).parity = false)
    (hecc : (tagGet s line).written = true → s.ecc = []) :
    (if (tagGet s line).written then readMem s (winAgent g) 0x04 line 1024 else (s, [], false)) = (s, oldLine s line, false) := by
  cases hwritten : (tagGet s line).written with
  | false => simp [oldLine, hwritten]
  | true =>
    rw [if_pos rfl, oldLine, if_pos hwritten]
    exact readMem_writtenLine hline h (hecc hwritten) hwritten hparity _ _

/-- The line once the bytes of its sum are stored: tagged with the frame, and counted. -/
def tallied (s : State) (g f line : Nat) (nz : Bool) (bs : List Byte) : State :=
  count (tagSet (writeMem s (winAgent g) 0x04 line bs).1 line ⟨true, f, nz, false⟩) (R_SHL_WELL_WR (shlDie g)) 1

/-- A line of the own Shale without a parity error, not written or written by the frame, takes the row. -/
theorem wellWrite_tallied (h : regionBelow 0 line = .shale g) (hline : line % 1024 = 0) (hparity : (tagGet s line).parity = false)
    (hown : (tagGet s line).written = true → (tagGet s line).writer = f ∧ s.ecc = []) (row : List Word) :
    ∃ nz, wellWrite s g f line (laneRow row) false =
      tallied s g f line nz (sumBytes (tagGet s line).written (memRead s.mem line 1024) row) := by
  have hno : ¬(g ≠ g ∨ (tagGet s line).written = true ∧ ¬(tagGet s line).parity = true ∧ (tagGet s line).writer ≠ f) := by
    rintro (hg | ⟨hwritten, -, hne⟩)
    · exact hg rfl
    · exact hne (hown hwritten).1
  have hsum : ((indexed (laneRow row)).map fun p => fp32Of (valAdd
      (if (tagGet s line).written then codeVal 23 (fieldLE (oldLine s line) (4 * p.1) 4) else .fin false 0 0) (fp32Val p.2))) =
        (List.range 256).map (laneSum (tagGet s line).written (oldLine s line) row) := by
    rw [laneRow, indexed_map_range, List.map_map]
    rfl
  have hread := readMem_tally h hline hparity fun hwritten => (hown hwritten).2
  simp only [wellWrite, h, Bool.or_false]
  rw [if_neg hno, hread, hparity, if_neg Bool.false_ne_true, if_neg Bool.false_ne_true, hsum, List.flatMap_map]
  exact ⟨_, congrArg (tallied s g f line _) (sumBytes_oldLine s line row)⟩

theorem counted_count (s : State) (k n : Nat) : Counted s (count s k n) k n := by
  unfold Counted count
  split <;> simp

theorem ctrGet_of_ctrs {s t : State} (h : t.ctrs = s.ctrs) (k : Nat) : ctrGet t k = ctrGet s k := by
  simp only [ctrGet, h]

theorem Counted.congr {s u t : State} {k n : Nat} (h : Counted u t k n) (hctr : ctrGet u k = ctrGet s k)
    (hon : cntOn u k = cntOn s k) : Counted s t k n := by
  unfold Counted at h ⊢
  rw [← hctr, ← hon]
  exact h

/-- SHL_CTRL.CNT_EN lets SHL_WELL_WR advance (08:R187). The gate is found by comparisons of the counter's address, which compute
for a given Shale alone: hence the sixteen cases. -/
theorem cntOn_wellWr (s : State) {n : Nat} (hn : n < 16) :
    cntOn s (R_SHL_WELL_WR (shlDie n)) = flag s (R_SHL_CTRL (shlDie n)) F_SHL_CTRL_CNT_EN := by
  have hshale : n = 0 ∨ n = 1 ∨ n = 2 ∨ n = 3 ∨ n = 4 ∨ n = 5 ∨ n = 6 ∨ n = 7 ∨ n = 8 ∨ n = 9 ∨ n = 10 ∨ n = 11 ∨ n = 12 ∨
      n = 13 ∨ n = 14 ∨ n = 15 := by omega
  rcases hshale with rfl | rfl | rfl | rfl | rfl | rfl | rfl | rfl | rfl | rfl | rfl | rfl | rfl | rfl | rfl | rfl
  all_goals exact rfl

theorem wellWr_ne_strataSuppressed (d : Nat) : R_SHL_WELL_WR d ≠ R_SCH_STRATA_SUPPRESSED := by
  unfold R_SHL_WELL_WR R_SCH_STRATA_SUPPRESSED regAt; omega

theorem wellWr_ne_strataLost (d : Nat) : R_SHL_WELL_WR d ≠ R_SCH_STRATA_LOST := by
  unfold R_SHL_WELL_WR R_SCH_STRATA_LOST regAt; omega

theorem not_errKey_shlCtrl (d : Nat) : ¬ errKey (R_SHL_CTRL d) := by
  unfold errKey R_SHL_CTRL R_SCH_STRATA_ERR R_SCH_RPL_WR_DISCARD R_SHL_ERR R_SHL_UE_SRC R_SHL_SPARE_USED R_SHL_STATUS
    R_FLT_DIR_CE R_GAB_BEAM_ERR regAt
  rintro (h | h | ⟨e, h | h | h | h | h | ⟨i, h⟩⟩) <;> omega

/-- A line that took a row holds the bytes, is tagged with its writer, and is counted; frames and schedules stay. -/
theorem tallied_keeps {g : Fin 16} (h : regionBelow 0 line = .shale g) (hline : line % 1024 = 0) {bs : List Byte}
    (hlen : bs.length = 1024) (nz : Bool) :
    Stored s (tallied s g f line nz bs) line bs ∧ tagGet (tallied s g f line nz bs) line = ⟨true, f, nz, false⟩ ∧
      Counted s (tallied s g f line nz bs) (R_SHL_WELL_WR (shlDie g)) 1 ∧ (tallied s g f line nz bs).frames = s.frames ∧
      (tallied s g f line nz bs).scheds = s.scheds := by
  obtain ⟨u, e, ⟨⟨hsame, hregs, -⟩, -, hctrs⟩, hwrite⟩ := writeMem_line (s := s) hline h hlen (winAgent g) 0x04
  have hframes : u.frames = s.frames := by rw [hsame]
  have hscheds : u.scheds = s.scheds := by rw [hsame]
  rw [tallied, hwrite]
  refine ⟨stored_memWrite (count_mem ..), ?_, ?_, (count_frames ..).trans hframes, (count_scheds ..).trans hscheds⟩
  · rw [tagGet, count_tags]
    exact tagGet_tagSet_same ..
  · obtain ⟨v, hv⟩ : ∃ v, v = tagSet { u with ecc := e, mem := memWrite s.mem line bs } line ⟨true, f, nz, false⟩ := ⟨_, rfl⟩
    have hvregs : v.regs = u.regs := by rw [hv]; rfl
    have hvctrs : v.ctrs = u.ctrs := by rw [hv]; rfl
    have hctr : ctrGet v (R_SHL_WELL_WR (shlDie g)) = ctrGet s (R_SHL_WELL_WR (shlDie g)) := by
      rw [ctrGet_of_ctrs hvctrs]
      exact hctrs _ (wellWr_ne_strataSuppressed _) (wellWr_ne_strataLost _)
    have hon : cntOn v (R_SHL_WELL_WR (shlDie g)) = cntOn s (R_SHL_WELL_WR (shlDie g)) := by
      rw [cntOn_wellWr _ g.isLt, cntOn_wellWr _ g.isLt, flag_of_regs hvregs, flag, fld, hregs _ (not_errKey_shlCtrl _)]
      rfl
    rw [← hv]
    exact (counted_count v _ 1).congr hctr hon

end

end Sys2Proof.Machine
end

section
/-! PROOFS. GarnetAndWells: the start and the fault of a descriptor; the three outcomes of a well write. -/
namespace Sys2Proof.Machine

/-- Settles O35: what has happened in the stores leaves the head of the stream and WRITTEN and WRITER of every tag, so that a
descriptor starts or is skipped (`started_garnetStart`, `skipped_garnetFault`), and a well write outside a well or a window takes
nothing, is summed into its line (`wellWrite_tallied`), or is a conflict (`wellWrite_conflict_keeps`). -/
theorem garnetAndWells : Obligations.GarnetAndWells := by
  unfold Obligations.GarnetAndWells
  intro s g f ups
  have hf : f.val < 8 := f.isLt
  obtain ⟨hframes, hregs, hscheds⟩ := storesOnly_upsets s ups
  obtain ⟨hmem, hctrs⟩ := memAndCtrs_upsets s ups
  have hone := onlyFrame_of_frames hframes g f
  have hgnt := congrArg Frame.gnt (frameGet_of_frames hframes g f)
  have hhead {d : GarnetDesc} (h : HeadIs s g f (.garnet d)) : HeadIs (upsets s ups) g f (.garnet d) := by
    rwa [HeadIs, streamHead_upsets]
  have hfaulty (d : GarnetDesc) : garnetFaulty (upsets s ups) d = garnetFaulty s d := garnetFaulty_of_regs hregs (upsets_rcp s ups) d
  have hpopped {t : State} (h : Popped (upsets s ups) t g f) : Popped s t g f := by
    rwa [Popped, streamsOf_of_scheds hscheds] at h
  refine ⟨fun d side h hok => ?_, fun d side h hbad => ?_, fun a row bad hidle => execWellWrite_idle hidle f row ups bad,
    fun a row hwell hopen hown hparity hwritten => ?_, fun a o row hwell hopen hregion hconflict => ?_⟩
  · have hstart := garnetDescriptor_of_head (hhead h) side
    rw [if_neg (by simp [hfaulty, hok])] at hstart
    obtain ⟨hpop, hone', gamma, beta, hrun⟩ := started_garnetStart (upsets s ups) g side hf d
    exact ⟨_, congrArg Host.Outcome.next hstart, hpopped hpop, hone.trans hone', freshRun d gamma beta, by rw [hrun, hgnt],
      rfl, rfl, rfl, rfl, rfl, rfl⟩
  · have hskip := garnetDescriptor_of_head (hhead h) side
    rw [if_pos (by simp [hfaulty, hbad])] at hskip
    obtain ⟨hpop, hone', hfault, hflag, hmem', hregs'⟩ := skipped_garnetFault (upsets s ups) g side hf rfl
    exact ⟨_, congrArg Host.Outcome.next hskip, hpopped hpop, hone.trans hone', hfault.congr hscheds.symm rfl rfl, hflag,
      hmem'.trans hmem, fun k hk => (hregs' k hk).trans (regGet_of_regs hregs k)⟩
  · obtain ⟨htag, -⟩ := tagGet_upsets s ups (rowOf a)
    have hlen := length_sumBytes (tagGet s (rowOf a)).written (memRead s.mem (rowOf a) 1024) row
    obtain ⟨nz, htallied⟩ := wellWrite_tallied (f := f) hown (rowOf_mod a) hparity (fun hw => by
      obtain ⟨hmine, hecc, rfl⟩ := hwritten (htag ▸ hw)
      exact ⟨hmine, hecc⟩) row
    rw [htag, hmem] at htallied
    obtain ⟨hstored, htag', hcounted, hframes', hscheds'⟩ := tallied_keeps (s := upsets s ups) (f := f) hown (rowOf_mod a) hlen nz
    refine ⟨_, (execWellWrite_of_well hwell hopen f row ups false).trans (congrArg Host.Outcome.next htallied), ?_, ?_, ?_, ?_, ?_,
      hframes'.trans hframes, hscheds'.trans hscheds⟩
    · rw [Stored, hmem] at hstored
      exact hstored
    · rw [htag']
    · rw [htag']
    · rw [htag']
    · exact hcounted.congr (ctrGet_of_ctrs hctrs _) (by
        rw [cntOn_wellWr _ g.isLt, cntOn_wellWr _ g.isLt, flag_of_regs hregs])
  · obtain ⟨htag, hwriter⟩ := tagGet_upsets s ups (rowOf a)
    have hconflict' : WellConflict (upsets s ups) g f o (rowOf a) := hconflict.imp_right fun ⟨hw, hp, hne⟩ =>
      ⟨htag.trans hw, hp, hwriter ▸ hne⟩
    obtain ⟨hmem', hfault, hflag, hframes', hregs'⟩ := wellWrite_conflict_keeps hregion hconflict' rfl
    exact ⟨_, execWellWrite_of_well hwell hopen f row ups false, hmem'.trans hmem, hfault.congr hscheds.symm rfl rfl, hflag,
      hframes'.trans hframes, fun k hk => (hregs' k hk).trans (regGet_of_regs hregs k)⟩

end Sys2Proof.Machine
end

section
/-! SUPPORT. A command of a Shale as it was taken (08:R184; 14:R331): its own part runs where the Schist reaches the Shale and
no earlier command of the Shale waits. -/
namespace Sys2Proof.Machine

theorem hopUp_of_regs {s t : State} (h : t.regs = s.regs) (a b : Nat) (sel : Option Nat) : hopUp t a b sel = hopUp s a b sel := by
  simp only [hopUp, seamFenced, fld_of_regs h]

theorem walkUp_of_regs {s t : State} (h : t.regs = s.regs) (sel : Option Nat) : ∀ l, walkUp t sel l = walkUp s sel l
  | [] => rfl
  | [d] => by simp only [walkUp, dieFenced, dieState, fld_of_regs h]
  | a :: b :: l => by simp only [walkUp, dieFenced, dieState, fld_of_regs h, hopUp_of_regs h, walkUp_of_regs h sel (b :: l)]

theorem homeDie_of_intlv {s t : State} (h : t.intlv = s.intlv) (a : Nat) : homeDie t a = homeDie s a := by
  simp only [homeDie, regionOf, h]

/-- Which homes a die reaches rests on registers and the interleave alone. -/
theorem homeUp_of_regs {s t : State} (h : t.regs = s.regs) (hintlv : t.intlv = s.intlv) (d a : Nat) :
    homeUp t d a = homeUp s d a := by
  simp only [homeUp, pathUp, homeDie_of_intlv hintlv, walkUp_of_regs h]

@[simp] theorem homeUp_begun (s : State) (d a : Nat) : homeUp (begun s) d a = homeUp s d a :=
  homeUp_of_regs (begun_regs s) (begun_intlv s) d a
@[simp] theorem qSchist_begun (s : State) (q : Nat) : qSchist (begun s) q = qSchist s q := by
  simp [qSchist, schServing]
@[simp] theorem schedGet_begun (s : State) (g : Nat) : schedGet (begun s) g = schedGet s g := by
  simp [schedGet]
@[simp] theorem shaleWaits_begun (s : State) (g : Nat) : shaleWaits (begun s) g = shaleWaits s g := by
  simp [shaleWaits]
@[simp] theorem winOrPending_begun (s : State) (g : Nat) : winOrPending (begun s) g = winOrPending s g := by
  simp [winOrPending]
@[simp] theorem meetsType_begun (s : State) (d lo hi ty : Nat) : meetsType (begun s) d lo hi ty = meetsType s d lo hi ty := by
  simp [meetsType]

theorem refuseIf_pos {c : Bool} (h : c = true) (st : Nat) (s : State) (k : State × Option Reply) :
    refuseIf c st s k = refuse s st := if_pos h
theorem refuseIf_neg {c : Bool} (h : c = false) (st : Nat) (s : State) (k : State × Option Reply) : refuseIf c st s k = k :=
  if_neg (by rw [h]; exact Bool.false_ne_true)

/-- A command that refuses leaves the state it was taken in. -/
theorem ends_refused {i : Instr} {s : State} (h : s.Serving) {op st : Nat} {src : Src} {params : List Byte} {f : CmdFn}
    (he : exec i s = .next (runCmd op src params f s)) (hu : parsUndefined op (parsOf (packetOf op src params)) = false)
    (hf : f (takenAs op src params s) (begun s) = refuse (begun s) st) : Ends i s src op (.no st) (Unchanged s) :=
  ends_of h he hu hf (begun_unchanged s)

theorem toNat_shlByte (g : Fin 16) : (BitVec.ofNat 8 (shlDie g)).toNat = shlDie g := by revert g; decide
theorem shlOrd_shlDie (g : Fin 16) : shlOrd (shlDie g) = g := by revert g; decide
theorem isKind_shlByte (g : Fin 16) : isKind (BitVec.ofNat 8 (shlDie g)) .shale = true := by revert g; decide

theorem tSchist_takenAs (op : Nat) (src : Src) (params : List Byte) (s : State) :
    tSchist (begun s) (takenAs op src params s) = qSchist s (src.queue.val % 64) := by
  simp [tSchist, takenAs]

theorem cmdReach_one (s : State) (t : Taken) (a : Nat) : cmdReach s t a 1 = homeUp s (tSchist s t) a := by
  simp [cmdReach, List.range_succ]

section
variable {s : State} {src : Src} {g : Fin 16} (op : Nat) (params : List Byte)

theorem shaleReach_taken (hup : homeUp s (qSchist s (src.queue.val % 64)) (shaleBase g) = true) (k : State × Option Reply) :
    shaleReach (begun s) (takenAs op src params s) (BitVec.ofNat 8 (shlDie g)) k = k := by
  have hreach : cmdReach (begun s) (takenAs op src params s) (shaleBase g) 1 = true := by
    rw [cmdReach_one, tSchist_takenAs, homeUp_begun, hup]
  simp only [shaleReach, isKind_shlByte, toNat_shlByte, shlOrd_shlDie, hreach, Bool.not_true, Bool.false_eq_true, if_false]

theorem shaleOrder_taken (hfirst : shaleWaits s g = false) (k : State × Option Reply) :
    shaleOrder (begun s) (takenAs op src params s) g k = k := by
  simp [shaleOrder, hfirst]

end

end Sys2Proof.Machine
end

section
/-! SUPPORT. SHL_REGION_SET (08:R171, R173): what it refuses; the wells it makes and ends are lost, and what becomes a well is
armed. -/
namespace Sys2Proof.Machine

/-! ### Rows armed (08:R175). -/

section
variable (s : State) (g : Nat) (hit : Nat → Bool)

theorem armGen_armRows : regGet (armRows s g hit) (R_SHL_ARM_GEN (shlDie g)) = regGet s (R_SHL_ARM_GEN (shlDie g)) + 1 :=
  regGet_regSet_same ..

theorem regsBut_armRows : RegsBut s (armRows s g hit) [R_SHL_ARM_GEN (shlDie g)] := fun _ hk =>
  regGet_regSet_ne { s with tags := tabDelIf s.tags hit } _ (by simpa using hk)

@[simp] theorem armRows_mem : (armRows s g hit).mem = s.mem := rfl
@[simp] theorem armRows_frames : (armRows s g hit).frames = s.frames := rfl
@[simp] theorem armRows_scheds : (armRows s g hit).scheds = s.scheds := rfl

/-- The tag of a row armed is clear. -/
theorem tagGet_armRows {row : Nat} (h : hit row = true) : tagGet (armRows s g hit) row = ⟨false, 0, false, false⟩ := by
  simp [tagGet, tabGet, armRows, regInc, tabFind_tabDelIf, h]

end

/-! ### Ranges of storage lost. -/

/-- Lose the ranges of a list, as offsets from a base. -/
def loseSpans (s : State) (b : Nat) (l : List (Nat × Nat)) : State :=
  l.foldl (fun s p => loseRange s (b + p.1) (b + p.2)) s

theorem loseRange_eq (s : State) (lo hi : Nat) : ∃ m n, loseRange s lo hi = { s with mem := m, nextId := n } := by
  unfold loseRange
  split
  · exact ⟨_, _, rfl⟩
  · exact ⟨s.mem, s.nextId, rfl⟩

theorem loseSpans_eq (s : State) (b : Nat) (l : List (Nat × Nat)) :
    ∃ m n, loseSpans s b l = { s with mem := m, nextId := n } := by
  refine List.foldlRecOn (motive := fun u => ∃ m n, u = { s with mem := m, nextId := n }) l _ ⟨s.mem, s.nextId, rfl⟩
    fun u hu p _ => ?_
  obtain ⟨m, n, rfl⟩ := hu
  obtain ⟨m', n', h⟩ := loseRange_eq { s with mem := m, nextId := n } (b + p.1) (b + p.2)
  exact ⟨m', n', h⟩

theorem memGet_loseRange_outside (s : State) {lo hi a : Nat} (h : a < lo ∨ hi ≤ a) :
    memGet (loseRange s lo hi).mem a = memGet s.mem a := by
  unfold loseRange
  split
  · exact memGet_memLose_outside _ _ _ _ _ h
  · rfl

theorem memGet_loseSpans_outside (s : State) (b : Nat) {l : List (Nat × Nat)} {a : Nat}
    (h : ∀ p ∈ l, a < b + p.1 ∨ b + p.2 ≤ a) : memGet (loseSpans s b l).mem a = memGet s.mem a :=
  List.foldlRecOn (motive := fun u => memGet u.mem a = memGet s.mem a) l _ rfl fun u hu p hp =>
    (memGet_loseRange_outside u (h p hp)).trans hu

/-! ### Parts of one span outside another. -/

/-- The parts of span `a` outside span `b` that are not empty. -/
def spanRest (a b : Nat × Nat) : List (Nat × Nat) := (spanLess a b).filter fun p => decide (p.1 < p.2)

theorem spanRest_self (a : Nat × Nat) : spanRest a a = [] := by
  unfold spanRest spanLess
  split
  · exact List.filter_eq_nil_iff.2 fun p hp => by simp_all
  · simp

/-- A part lies in the span it is a part of. -/
theorem spanRest_within {a b p : Nat × Nat} (h : p ∈ spanRest a b) : a.1 ≤ p.1 ∧ p.2 ≤ a.2 := by
  unfold spanRest spanLess at h
  split at h
  · obtain rfl : p = a := by simpa using (List.mem_filter.1 h).1
    exact ⟨Nat.le_refl _, Nat.le_refl _⟩
  · have hp : p = (a.1, b.1) ∨ p = (b.2, a.2) := by simpa using (List.mem_filter.1 h).1
    rcases hp with rfl | rfl <;> exact ⟨by omega, by omega⟩

/-! ### The entry put. -/

section
variable (s : State) (g n : Nat) (w : Word)

/-- What becomes a well where an entry is replaced. -/
def freshWell : List (Nat × Nat) := spanRest (wellSpan w) (wellSpan (regGet s (R_SHL_RGN (shlDie g) n)))

/-- What ceases to be a well where an entry is replaced. -/
def goneWell : List (Nat × Nat) := spanRest (wellSpan (regGet s (R_SHL_RGN (shlDie g) n))) (wellSpan w)

/-- The table with the entry replaced, and the wells that it makes and ends undefined. -/
def regionPlaced : State :=
  loseSpans (regSet s (R_SHL_RGN (shlDie g) n) w) (shaleBase g) (freshWell s g n w ++ goneWell s g n w)

theorem regionPut_eq : regionPut s g n w =
    if (freshWell s g n w).isEmpty then regionPlaced s g n w
    else armRows (regionPlaced s g n w) g fun row =>
      (freshWell s g n w).any fun p => decide (shaleBase g + p.1 ≤ row) && decide (row < shaleBase g + p.2) := rfl

/-- What an entry put sets and leaves, whether or not rows are armed after it. -/
def RegionSet (u : State) : Prop :=
  regGet u (R_SHL_RGN (shlDie g) n) = w ∧ RegsBut s u [R_SHL_RGN (shlDie g) n, R_SHL_ARM_GEN (shlDie g)] ∧
    u.frames = s.frames ∧ u.scheds = s.scheds ∧
    ∀ a, (∀ x ∈ [wellSpan w, wellSpan (regGet s (R_SHL_RGN (shlDie g) n))], a < shaleBase g + x.1 ∨ shaleBase g + x.2 ≤ a) →
      memGet u.mem a = memGet s.mem a

variable {s g n w}

theorem regionSet_placed : RegionSet s g n w (regionPlaced s g n w) := by
  obtain ⟨m, i, hplaced⟩ := loseSpans_eq (regSet s (R_SHL_RGN (shlDie g) n) w) (shaleBase g) (freshWell s g n w ++ goneWell s g n w)
  have hregs : (regionPlaced s g n w).regs = (regSet s (R_SHL_RGN (shlDie g) n) w).regs := by rw [regionPlaced, hplaced]
  refine ⟨?_, fun k hk => ?_, by rw [regionPlaced, hplaced]; rfl, by rw [regionPlaced, hplaced]; rfl, fun a ha => ?_⟩
  · rw [regGet_of_regs hregs, regGet_regSet_same]
  · rw [regGet_of_regs hregs, regGet_regSet_ne _ _ fun h => hk (by simp [h])]
  · have hnew := ha (wellSpan w) (by simp)
    have hold := ha (wellSpan (regGet s (R_SHL_RGN (shlDie g) n))) (by simp)
    refine memGet_loseSpans_outside _ _ fun p hp => ?_
    rcases List.mem_append.1 hp with hp | hp
    · have := spanRest_within hp; omega
    · have := spanRest_within hp; omega

theorem rgn_ne_armGen (d m : Nat) : R_SHL_RGN d m ≠ R_SHL_ARM_GEN d := by
  unfold R_SHL_RGN R_SHL_ARM_GEN regAt; omega

theorem RegionSet.armed {u : State} (h : RegionSet s g n w u) (hit : Nat → Bool) : RegionSet s g n w (armRows u g hit) := by
  obtain ⟨hword, hregs, hframes, hscheds, hmem⟩ := h
  refine ⟨?_, fun k hk => ?_, (armRows_frames ..).trans hframes, (armRows_scheds ..).trans hscheds, fun a ha => ?_⟩
  · rw [regsBut_armRows u g hit _ (by simpa using rgn_ne_armGen _ _), hword]
  · rw [regsBut_armRows u g hit k (fun h => hk (List.mem_cons_of_mem _ h)), hregs k hk]
  · rw [armRows_mem, hmem a ha]

theorem regionSet_regionPut : RegionSet s g n w (regionPut s g n w) := by
  rw [regionPut_eq]
  split
  · exact regionSet_placed
  · exact regionSet_placed.armed _

/-- An entry that covers the same well as before loses and arms nothing. -/
theorem regionPut_sameWell (h : wellSpan w = wellSpan (regGet s (R_SHL_RGN (shlDie g) n))) :
    regionPut s g n w = regSet s (R_SHL_RGN (shlDie g) n) w := by
  have hfresh : freshWell s g n w = [] := by rw [freshWell, h, spanRest_self]
  have hgone : goneWell s g n w = [] := by rw [goneWell, h, spanRest_self]
  rw [regionPut_eq, if_pos (by rw [hfresh]; rfl), regionPlaced, hfresh, hgone]
  rfl

end

end Sys2Proof.Machine
end

section
/-! SUPPORT. The commands of a Shale (08:R171, R173, R175, R184): what each refuses, in which order, and its own part. -/
namespace Sys2Proof.Machine

/-! ### SHL_REGION_SET. -/

/-- What SHL_REGION_SET refuses as an illegal entry or word. -/
def rgnIllegal (n : Byte) (w : Word) : Bool :=
  decide (15 < n.toNat) || (fldGet w F_SHL_RGN_TYPE == 0 && w != 0) || decide (16384 * 1048576 < (rgnSpan w).2) ||
    bitsOf w.toNat 14 2 != 0

theorem rgnIllegal_eq_true {n : Byte} {w : Word} (h : 15 < n.toNat ∨ (fldGet w F_SHL_RGN_TYPE = 0 ∧ w ≠ 0) ∨
    16384 * 1048576 < (rgnSpan w).2 ∨ bitsOf w.toNat 14 2 ≠ 0) : rgnIllegal n w = true := by
  simpa [rgnIllegal, or_assoc] using h

theorem rgnIllegal_eq_false {n : Byte} {w : Word} (hn : n.toNat ≤ 15) (hfree : fldGet w F_SHL_RGN_TYPE = 0 → w = 0)
    (hspan : (rgnSpan w).2 ≤ 16384 * 1048576) (hbits : bitsOf w.toNat 14 2 = 0) : rgnIllegal n w = false := by
  simpa [rgnIllegal, hn, hspan, hbits] using hfree

/-- Whether an entry put would share a MiB with another one. -/
def rgnShares (s : State) (g n : Nat) (w : Word) : Bool :=
  (List.range 16).any fun m => m != n && rgnOverlap w (regGet s (R_SHL_RGN (shlDie g) m))

theorem rgnShares_eq_true {s : State} {g n : Nat} {w : Word}
    (h : ∃ m < 16, m ≠ n ∧ rgnOverlap w (regGet s (R_SHL_RGN (shlDie g) m)) = true) : rgnShares s g n w = true := by
  simpa [rgnShares] using h

theorem rgnShares_eq_false {s : State} {g n : Nat} {w : Word}
    (h : ∀ m < 16, m ≠ n → rgnOverlap w (regGet s (R_SHL_RGN (shlDie g) m)) = false) : rgnShares s g n w = false := by
  simpa [rgnShares] using h

/-- Whether an image keeps an entry from becoming or ceasing to be a SCHEDULE or WELL one. -/
def rgnPinned (s : State) (g n : Nat) (w : Word) : Bool :=
  (schedGet s g).image.isSome && decide (2 ≤ fldGet w F_SHL_RGN_TYPE ∨ 2 ≤ fld s (R_SHL_RGN (shlDie g) n) F_SHL_RGN_TYPE)

theorem rgnPinned_eq_true {s : State} {g n : Nat} {w : Word} (himage : (schedGet s g).image ≠ none)
    (h : 2 ≤ fldGet w F_SHL_RGN_TYPE ∨ 2 ≤ fld s (R_SHL_RGN (shlDie g) n) F_SHL_RGN_TYPE) : rgnPinned s g n w = true := by
  simp [rgnPinned, Option.isSome_iff_ne_none, himage, h]

theorem rgnPinned_eq_false {s : State} {g n : Nat} {w : Word} (h : (schedGet s g).image = none ∨
    (fldGet w F_SHL_RGN_TYPE < 2 ∧ fld s (R_SHL_RGN (shlDie g) n) F_SHL_RGN_TYPE < 2)) : rgnPinned s g n w = false := by
  rcases h with h | ⟨hnew, hold⟩
  · simp [rgnPinned, h]
  · simp [rgnPinned, Nat.not_le.2 hnew, Nat.not_le.2 hold]

/-! ### SHL_WELL_ARM. -/

/-- What SHL_WELL_ARM refuses: no entry, or one that is not a well. -/
def armIllegal (s : State) (g : Nat) (mask : Half) : Bool :=
  mask == 0 || (setBits 16 mask.toNat).any fun n => fld s (R_SHL_RGN (shlDie g) n) F_SHL_RGN_TYPE != 3

theorem armIllegal_eq_true {s : State} {g : Nat} {mask : Half}
    (h : mask = 0 ∨ ∃ n ∈ setBits 16 mask.toNat, fld s (R_SHL_RGN (shlDie g) n) F_SHL_RGN_TYPE ≠ 3) :
    armIllegal s g mask = true := by
  simpa [armIllegal] using h

theorem armIllegal_eq_false {s : State} {g : Nat} {mask : Half} (hmask : mask ≠ 0)
    (h : ∀ n ∈ setBits 16 mask.toNat, fld s (R_SHL_RGN (shlDie g) n) F_SHL_RGN_TYPE = 3) : armIllegal s g mask = false := by
  simpa [armIllegal] using And.intro hmask h

theorem armGen_armEntries (s : State) (g mask : Nat) :
    regGet (armEntries s g mask) (R_SHL_ARM_GEN (shlDie g)) = regGet s (R_SHL_ARM_GEN (shlDie g)) + 1 := armGen_armRows ..

theorem regsBut_armEntries (s : State) (g mask : Nat) : RegsBut s (armEntries s g mask) [R_SHL_ARM_GEN (shlDie g)] :=
  regsBut_armRows s g _

theorem armEntries_mem (s : State) (g mask : Nat) : (armEntries s g mask).mem = s.mem := armRows_mem ..

/-- The rows of a well that the mask selects are armed. -/
theorem tagGet_armEntries {s : State} {g mask n row : Nat} (hn : n ∈ setBits 16 mask)
    (hwell : fld s (R_SHL_RGN (shlDie g) n) F_SHL_RGN_TYPE = 3)
    (hlo : shaleBase g + (rgnSpan (regGet s (R_SHL_RGN (shlDie g) n))).1 ≤ row)
    (hhi : row < shaleBase g + (rgnSpan (regGet s (R_SHL_RGN (shlDie g) n))).2) :
    tagGet (armEntries s g mask) row = ⟨false, 0, false, false⟩ := by
  refine tagGet_armRows _ _ _ (List.any_eq_true.2 ⟨n, hn, ?_⟩)
  simp only [fld] at hwell
  simp [hwell, hlo, hhi]

/-! ### SHL_FILL. -/

/-- What SHL_FILL refuses: a range that is not of whole rows of the Shale, or that meets a well. -/
def fillIllegal (s : State) (d off n : Nat) : Bool :=
  off % 1024 != 0 || n == 0 || n % 1024 != 0 || decide (0x000400000000 < off + n) || meetsType s d off (off + n) 3

theorem fillIllegal_eq_true {s : State} {d off n : Nat} (h : off % 1024 ≠ 0 ∨ n = 0 ∨ n % 1024 ≠ 0 ∨ 0x000400000000 < off + n ∨
    meetsType s d off (off + n) 3 = true) : fillIllegal s d off n = true := by
  simpa [fillIllegal, or_assoc] using h

theorem fillIllegal_eq_false {s : State} {d off n : Nat} (hoff : off % 1024 = 0) (hn : n ≠ 0) (hrows : n % 1024 = 0)
    (hend : off + n ≤ 0x000400000000) (hwell : meetsType s d off (off + n) 3 = false) : fillIllegal s d off n = false := by
  simp [fillIllegal, hoff, hn, hrows, hend, hwell]

theorem countSnoops_mem (s : State) (line n : Nat) : (countSnoops s line n).mem = s.mem := by
  unfold countSnoops
  split
  · exact count_mem ..
  · rfl

theorem invalidate_mem (s : State) (c line : Nat) : (invalidate s c line).1.mem = s.mem := by
  unfold invalidate
  simp only []
  split
  · exact countSnoops_mem ..
  · exact (memAndCtrs_predSnoop _ _ _ _).1.trans (countSnoops_mem ..)

theorem invalidateBut_mem (s : State) (line : Nat) (keep : Option Nat) : (invalidateBut s line keep).1.mem = s.mem := by
  unfold invalidateBut
  split
  · rfl
  · refine List.foldlRecOn (motive := fun u : State × Option (List Byte) => u.1.mem = s.mem) _ _ rfl fun u hu c _ => ?_
    simp only []
    split
    · exact hu
    · exact (invalidate_mem ..).trans hu

/-- Cached copies dropped leave memory as it is. -/
theorem dropCopies_mem (s : State) (p : Nat → Bool) (counted : Bool) : (dropCopies s p counted).mem = s.mem := by
  refine List.foldlRecOn (motive := fun u : State => u.mem = s.mem) _ _ rfl fun u hu e _ => ?_
  refine Eq.trans ?_ ((invalidateBut_mem u e.1 none).trans hu)
  simp only [dirDel]
  split
  · split
    · exact count_mem ..
    · rfl
  · rfl

/-- A write of whole granules of a Shale stores its bytes. -/
theorem writeMem_granules {o a n : Nat} {bs : List Byte} (ha : a % 128 = 0) (hlen : bs.length = 128 * n)
    (h : InShale o a (128 * n)) (s : State) (ag : Agent) (unit : Nat) :
    (writeMem s ag unit a bs).1.mem = memWrite s.mem a bs := by
  obtain ⟨e, he⟩ := foldl_writeNext_granules ag unit n (fuel := bs.length + 1) (remapCovered s a bs.length true) true
    (by omega) ha hlen h
  rw [writeMem_eq, he, (remapped_remapCovered s a bs.length true).2.1]

theorem inShale_offset (g : Fin 16) {off n : Nat} (h : off + n ≤ 0x000400000000) : InShale g (shaleBase g + off) n := by
  intro i hi
  have hg := g.isLt
  unfold shaleBase
  rw [regionBelow_eq_shale]
  omega

/-- The bytes of a fill. -/
def fillBytes (n : Nat) (pat : Word) : List Byte := (List.replicate (n / 4) (leBytes 4 pat.toNat)).flatten

theorem length_fillBytes {n : Nat} (h : n % 4 = 0) (pat : Word) : (fillBytes n pat).length = n := by
  have hlen : (fillBytes n pat).length = n / 4 * 4 := by simp [fillBytes]
  omega

/-- Fill rows of Shale `g` from an offset on. -/
def fillRows (s : State) (g off n : Nat) (pat : Word) : State :=
  (writeMem (dropCopies s (fun x => decide (shaleBase g + off ≤ x) && decide (x < shaleBase g + off + n)) false)
    ⟨5, shlDie g⟩ 0x04 (shaleBase g + off) (fillBytes n pat)).1

theorem stored_fillRows (s : State) (g : Fin 16) {off n : Nat} (hoff : off % 1024 = 0) (hrows : n % 1024 = 0)
    (hend : off + n ≤ 0x000400000000) (pat : Word) :
    Stored s (fillRows s g off n pat) (shaleBase g + off) (fillBytes n pat) := by
  have hgranules : 128 * (n / 128) = n := by omega
  have haligned : (shaleBase g + off) % 128 = 0 := by unfold shaleBase; omega
  have hin : InShale g (shaleBase g + off) (128 * (n / 128)) := by
    rw [hgranules]
    exact inShale_offset g hend
  refine stored_memWrite ?_
  rw [fillRows, writeMem_granules haligned (by rw [length_fillBytes (by omega), hgranules]) hin, dropCopies_mem]

/-! ### SHL_ERR_INJECT. -/

/-- What SHL_ERR_INJECT refuses: no granule of the Shale, or no kind of error. -/
def injectIllegal (off : Nat) (kind : Byte) : Bool :=
  off % 128 != 0 || decide (0x000400000000 ≤ off) || !(kind == 1#8 || kind == 2#8)

theorem injectIllegal_eq_false {off : Nat} {kind : Byte} (hoff : off % 128 = 0) (hend : off < 0x000400000000)
    (hkind : kind = 1 ∨ kind = 2) : injectIllegal off kind = false := by
  rcases hkind with rfl | rfl <;> simp [injectIllegal, hoff, hend]

@[simp] theorem upset_regs (s : State) (a : Nat) (ue : Bool) : (upset s a ue).regs = s.regs := by
  unfold upset; split <;> rfl
@[simp] theorem upset_mem (s : State) (a : Nat) (ue : Bool) : (upset s a ue).mem = s.mem := by
  unfold upset; split <;> rfl

/-- An error that arises in a granule of a Shale is in that granule alone, and uncorrectable where either error is. -/
theorem tabFind_upset_shale (s : State) (g : Fin 16) {off : Nat} (hoff : off % 128 = 0) (hend : off < 0x000400000000) (ue : Bool)
    (a : Nat) : tabFind (upset s (shaleBase g + off) ue).ecc a =
      if a = shaleBase g + off then some (ue || tabGet s.ecc (shaleBase g + off) false) else tabFind s.ecc a := by
  have hregion : regionBelow 0 (shaleBase g + off) = .shale g := inShale_offset g (n := 1) hend 0 Nat.one_pos
  have hgranule : (granule (shaleBase g + off)).1 = shaleBase g + off := by
    rw [granule_shale hregion]
    unfold shaleBase
    omega
  have hmem : (regionBelow 0 (shaleBase g + off)).isMem = true := by rw [hregion]; rfl
  rw [upset, if_pos hmem, hgranule, tabFind_tabPut]

/-! ### The commands as they were taken. -/

section
variable {s : State} {src : Src} {g : Fin 16} (hup : homeUp s (qSchist s (src.queue.val % 64)) (shaleBase g) = true) (op : Nat)
  (params : List Byte)
include hup

theorem cmdShlRegionSet_taken (n : Byte) (w : Word) :
    cmdShlRegionSet (BitVec.ofNat 8 (shlDie g)) n w (takenAs op src params s) (begun s) =
      (refuseIf (rgnIllegal n w) 0x0102 (begun s) <| refuseIf (rgnShares s g n.toNat w) 0x0303 (begun s) <|
        refuseIf (rgnPinned s g n.toNat w) 0x0304 (begun s) <|
        shaleOrder (begun s) (takenAs op src params s) g (okay (regionPut (begun s) g n.toNat w) [])) := by
  simp only [cmdShlRegionSet, shaleReach_taken op params hup, toNat_shlByte, shlOrd_shlDie, regGet_begun, fld_begun,
    schedGet_begun, rgnIllegal, rgnShares, rgnPinned]

theorem cmdShlWellArm_taken (mask : Half) :
    cmdShlWellArm (BitVec.ofNat 8 (shlDie g)) mask (takenAs op src params s) (begun s) =
      (refuseIf (armIllegal s g mask) 0x0102 (begun s) <| shaleOrder (begun s) (takenAs op src params s) g <|
        if winOpen s g then (defer (begun s) (takenAs op src params s) (.wellArm g mask.toNat), none)
        else okay (armEntries (begun s) g mask.toNat) (leBytes 4 (regGet s (R_SHL_ARM_GEN (shlDie g)) + 1).toNat)) := by
  simp only [cmdShlWellArm, shaleReach_taken op params hup, toNat_shlByte, shlOrd_shlDie, fld_begun, winOpen_begun, armIllegal,
    armGen_armEntries, regGet_begun]

theorem cmdShlFill_taken (off : DWord) (bytes pat : Word) :
    cmdShlFill (BitVec.ofNat 8 (shlDie g)) off bytes pat (takenAs op src params s) (begun s) =
      (refuseIf (fillIllegal s (shlDie g) off.toNat bytes.toNat) 0x0102 (begun s) <|
        refuseIf (meetsType s (shlDie g) off.toNat (off.toNat + bytes.toNat) 2 && winOrPending s g) 0x0304 (begun s) <|
        shaleOrder (begun s) (takenAs op src params s) g (okay (fillRows (begun s) g off.toNat bytes.toNat pat) [])) := by
  simp only [cmdShlFill, shaleReach_taken op params hup, toNat_shlByte, shlOrd_shlDie, meetsType_begun, winOrPending_begun,
    fillIllegal, fillRows, fillBytes]

theorem cmdShlErrInject_taken (off : DWord) (kind : Byte) :
    cmdShlErrInject (BitVec.ofNat 8 (shlDie g)) off kind (takenAs op src params s) (begun s) =
      (refuseIf (injectIllegal off.toNat kind) 0x0102 (begun s) <|
        refuseIf (!(flag s R_SCH_RST_STATUS F_SCH_RST_STATUS_DEBUG_ON)) 0x0305 (begun s) <|
        shaleOrder (begun s) (takenAs op src params s) g
          (okay (upset (begun s) (shaleBase g + off.toNat) (kind == 2#8)) [])) := by
  simp only [cmdShlErrInject, shaleReach_taken op params hup, toNat_shlByte, shlOrd_shlDie, flag_begun, injectIllegal]

end

theorem exec_shlRegionSet (src : Src) (die n : Byte) (w : Word) (s : State) :
    exec (.shlRegionSet src die n w) s =
      .next (runCmd 0x0310 src (parBytes [(0, 1, die.toNat), (1, 1, n.toNat), (4, 4, w.toNat)]) (cmdShlRegionSet die n w) s) := rfl

theorem exec_shlWellArm (src : Src) (die : Byte) (mask : Half) (s : State) :
    exec (.shlWellArm src die mask) s =
      .next (runCmd 0x0311 src (parBytes [(0, 1, die.toNat), (2, 2, mask.toNat)]) (cmdShlWellArm die mask) s) := rfl

theorem exec_shlFill (src : Src) (die : Byte) (off : DWord) (bytes pat : Word) (s : State) :
    exec (.shlFill src die off bytes pat) s =
      .next (runCmd 0x0312 src (parBytes [(0, 1, die.toNat), (8, 8, off.toNat), (16, 4, bytes.toNat), (20, 4, pat.toNat)])
        (cmdShlFill die off bytes pat) s) := rfl

theorem exec_shlErrInject (src : Src) (die : Byte) (off : DWord) (kind : Byte) (s : State) :
    exec (.shlErrInject src die off kind) s =
      .next (runCmd 0x0313 src (parBytes [(0, 1, die.toNat), (8, 8, off.toNat), (16, 1, kind.toNat)])
        (cmdShlErrInject die off kind) s) := rfl

end Sys2Proof.Machine
end

section
/-! PROOFS. ShaleCommands: each command through its checks to its own part. -/
namespace Sys2Proof.Machine

/-- Settles O40: each command's own part in the state it was taken in is its checks in order and then its effect
(`cmdShlRegionSet_taken` and its fellows), so that a clause names the check that refuses, or none and the effect. -/
theorem shaleCommands : Obligations.ShaleCommands := by
  unfold Obligations.ShaleCommands
  rintro s src g hserv hup _ rfl
  refine ⟨fun n w => ?_, fun mask => ?_, fun off bytes pat => ?_, fun off kind hoff hend hkind => ?_⟩
  · have hexec := exec_shlRegionSet src (BitVec.ofNat 8 (shlDie g)) n w s
    have hdef := defined_shlRegionSet src (BitVec.ofNat 8 (shlDie g)) n w
    refine ⟨fun hn hfree hspan hbits hapart hloose hfirst => ?_, fun hbad => ?_, fun hn hfree hspan hbits hshared => ?_,
      fun hn hfree hspan hbits hapart himage hkept => ?_⟩
    · obtain ⟨hword, hregs, hframes, hscheds, hmem⟩ := regionSet_regionPut (s := begun s) (g := g) (n := n.toNat) (w := w)
      refine ends_of (u := regionPut (begun s) g n.toNat w) hserv hexec hdef ?_
        ⟨hword, fun k hk => ?_, ?_, ?_, fun a ha => ?_, fun hsame => ?_⟩
      · rw [cmdShlRegionSet_taken hup, refuseIf_neg (rgnIllegal_eq_false hn hfree hspan hbits),
          refuseIf_neg (rgnShares_eq_false hapart), refuseIf_neg (rgnPinned_eq_false hloose), shaleOrder_taken _ _ hfirst]
        rfl
      · rw [hregs k hk, regGet_begun]
      · rw [hframes, begun_frames]
      · rw [hscheds, begun_scheds]
      · rw [hmem a (by rwa [regGet_begun]), begun_mem]
      · rw [regionPut_sameWell (by rwa [regGet_begun])]
        exact ⟨begun_mem s, begun_tags s⟩
    · refine ends_refused hserv hexec hdef ?_
      rw [cmdShlRegionSet_taken hup, refuseIf_pos (rgnIllegal_eq_true hbad)]
    · refine ends_refused hserv hexec hdef ?_
      rw [cmdShlRegionSet_taken hup, refuseIf_neg (rgnIllegal_eq_false hn hfree hspan hbits),
        refuseIf_pos (rgnShares_eq_true hshared)]
    · refine ends_refused hserv hexec hdef ?_
      rw [cmdShlRegionSet_taken hup, refuseIf_neg (rgnIllegal_eq_false hn hfree hspan hbits),
        refuseIf_neg (rgnShares_eq_false hapart), refuseIf_pos (rgnPinned_eq_true himage hkept)]
  · have hexec := exec_shlWellArm src (BitVec.ofNat 8 (shlDie g)) mask s
    have hdef := defined_shlWellArm src (BitVec.ofNat 8 (shlDie g)) mask
    refine ⟨fun hmask hwells hfirst => ⟨fun hclosed => ?_, fun hopen => ?_⟩, fun hbad => ?_⟩
    · refine ends_of (u := armEntries (begun s) g mask.toNat) hserv hexec hdef ?_
        ⟨?_, fun k hk => ?_, fun n hn row hlo hhi => ?_, ?_⟩
      · rw [cmdShlWellArm_taken hup, refuseIf_neg (armIllegal_eq_false hmask hwells), shaleOrder_taken _ _ hfirst, hclosed,
          if_neg Bool.false_ne_true]
        rfl
      · rw [armGen_armEntries, regGet_begun]
      · rw [regsBut_armEntries _ _ _ k hk, regGet_begun]
      · exact tagGet_armEntries hn (by rw [fld_begun, hwells n hn]) (by rwa [regGet_begun]) (by rwa [regGet_begun])
      · rw [armEntries_mem, begun_mem]
    · refine waits_of (u := defer (begun s) (takenAs 0x0311 src _ s) (.wellArm g mask.toNat)) hserv hexec hdef ?_
        (List.mem_append_right _ List.mem_cons_self) ⟨begun_regs s, begun_mem s, begun_tags s⟩
      rw [cmdShlWellArm_taken hup, refuseIf_neg (armIllegal_eq_false hmask hwells), shaleOrder_taken _ _ hfirst, hopen, if_pos rfl]
    · refine ends_refused hserv hexec hdef ?_
      rw [cmdShlWellArm_taken hup, refuseIf_pos (armIllegal_eq_true hbad)]
  · have hexec := exec_shlFill src (BitVec.ofNat 8 (shlDie g)) off bytes pat s
    have hdef := defined_shlFill src (BitVec.ofNat 8 (shlDie g)) off bytes pat
    refine ⟨fun hoff hbytes hrows hend hwell hsched hfirst => ?_, fun hbad => ?_⟩
    · have hloose : (meetsType s (shlDie g) off.toNat (off.toNat + bytes.toNat) 2 && winOrPending s g) = false := by
        rcases hsched with h | h <;> simp [h]
      have hstored := stored_fillRows (begun s) g hoff hrows hend pat
      rw [Stored, begun_mem] at hstored
      refine ends_of (u := fillRows (begun s) g off.toNat bytes.toNat pat) hserv hexec hdef ?_ hstored
      rw [cmdShlFill_taken hup, refuseIf_neg (fillIllegal_eq_false hoff hbytes hrows hend hwell), refuseIf_neg hloose,
        shaleOrder_taken _ _ hfirst]
      rfl
    · refine ends_refused hserv hexec hdef ?_
      rw [cmdShlFill_taken hup, refuseIf_pos (fillIllegal_eq_true hbad)]
  · have hexec := exec_shlErrInject src (BitVec.ofNat 8 (shlDie g)) off kind s
    have hdef := defined_shlErrInject src (BitVec.ofNat 8 (shlDie g)) off kind
    refine ⟨fun hdebug hfirst => ?_, fun hdebug => ?_⟩
    · refine ends_of (u := upset (begun s) (shaleBase g + off.toNat) (kind == 2)) hserv hexec hdef ?_ ⟨?_, ?_, ?_, fun a ha => ?_⟩
      · rw [cmdShlErrInject_taken hup, refuseIf_neg (injectIllegal_eq_false hoff hend hkind), refuseIf_neg (by rw [hdebug]; rfl),
          shaleOrder_taken _ _ hfirst]
        rfl
      · rw [upset_regs, begun_regs]
      · rw [upset_mem, begun_mem]
      · rw [tabFind_upset_shale _ g hoff hend, if_pos rfl, begun_ecc]
      · rw [tabFind_upset_shale _ g hoff hend, if_neg ha, begun_ecc]
    · refine ends_refused hserv hexec hdef ?_
      rw [cmdShlErrInject_taken hup, refuseIf_neg (injectIllegal_eq_false hoff hend hkind), refuseIf_pos (by rw [hdebug]; rfl)]

end Sys2Proof.Machine
end

section
/-! SUPPORT. A refresh (08:R177): the vaults that read hot, as the bits of a number. -/
namespace Sys2Proof.Machine

theorem testBit_foldl_or (l : List Nat) (a v : Nat) :
    (l.foldl (fun a i => a ||| (1 <<< i)) a).testBit v = (a.testBit v || decide (v ∈ l)) := by
  induction l generalizing a with
  | nil => simp
  | cons i t ih =>
    have hbit : (1 <<< i).testBit v = decide (v = i) := by
      rw [Nat.one_shiftLeft, Nat.testBit_two_pow]
      simp [eq_comm]
    rw [List.foldl_cons, ih, Nat.testBit_or, hbit, Bool.or_assoc]
    simp

/-- The bits of the number whose set bits are listed. -/
theorem testBit_ofBits (l : List Nat) (v : Nat) : (ofBits l).testBit v = decide (v ∈ l) := by
  simp [ofBits, testBit_foldl_or]

/-- Adding a bit that is clear sets it. -/
theorem add_two_pow_eq_or {x b : Nat} (h : x.testBit b = false) : x + 2 ^ b = x ||| 2 ^ b := by
  have hlow : x % 2 ^ (b + 1) < 2 ^ b := by
    refine Nat.lt_pow_two_of_testBit _ fun i hi => ?_
    rw [Nat.testBit_mod_two_pow]
    rcases Nat.eq_or_lt_of_le hi with rfl | hlt
    · simp [h]
    · simp [Nat.not_lt.2 hlt]
  have htop : x % 2 ^ (b + 1) + 2 ^ b < 2 ^ (b + 1) := by rw [Nat.pow_succ] at *; omega
  calc x + 2 ^ b = 2 ^ (b + 1) * (x / 2 ^ (b + 1)) + (x % 2 ^ (b + 1) + 2 ^ b) := by rw [← Nat.add_assoc, Nat.div_add_mod]
    _ = 2 ^ (b + 1) * (x / 2 ^ (b + 1)) ||| x % 2 ^ (b + 1) ||| 2 ^ b := by
      rw [Nat.two_pow_add_eq_or_of_lt htop, ← Nat.or_two_pow_eq_add_of_lt hlow, Nat.or_assoc]
    _ = x ||| 2 ^ b := by
      rw [← Nat.two_pow_add_eq_or_of_lt (Nat.mod_lt _ (Nat.two_pow_pos _)), Nat.div_add_mod]

/-- The vaults that read hot once the sensor of vault `v` was read. -/
def hotAfter (m v : Nat) (hot : Bool) : Nat := ofBits ((setBits 32 m).filter (· ≠ v)) + (if hot then 2 ^ v else 0)

theorem testBit_hotAfter (m v : Nat) (hot : Bool) (i : Nat) :
    (hotAfter m v hot).testBit i = if i = v then hot else (decide (i < 32) && m.testBit i) := by
  have hrest (i : Nat) : (ofBits ((setBits 32 m).filter (· ≠ v))).testBit i = (decide (i < 32) && m.testBit i && decide (i ≠ v)) := by
    rw [testBit_ofBits, Bool.eq_iff_iff]
    simp [setBits, bitOf, and_assoc, and_comm]
  cases hot with
  | false =>
    rw [hotAfter, if_neg Bool.false_ne_true, Nat.add_zero, hrest]
    by_cases h : i = v <;> simp [h]
  | true =>
    rw [hotAfter, if_pos rfl, add_two_pow_eq_or (by rw [hrest]; simp), Nat.testBit_or, hrest, Nat.testBit_two_pow]
    by_cases h : i = v
    · simp [h]
    · simp [h, Ne.symm h]

theorem hotAfter_lt (m : Nat) {v : Nat} (hv : v < 32) (hot : Bool) : hotAfter m v hot < 2 ^ 32 := by
  refine Nat.lt_pow_two_of_testBit _ fun i hi => ?_
  rw [testBit_hotAfter, if_neg (by omega)]
  simp [Nat.not_lt.2 hi]

theorem tabGet_tabPutZ_same (t : Tab Nat) (i n : Nat) : tabGet (tabPutZ t i n) i 0 = n := by
  unfold tabPutZ
  split
  · rename_i h; simp [tabGet, h]
  · simp [tabGet]

theorem b2n_lt_two (b : Bool) : b2n b < 2 := by cases b <;> decide

theorem hotVaults_refresh (s : State) (d b : Nat) (hot : Bool) :
    hotVaults (refresh s d b hot) d = hotAfter (hotVaults s d) (b % 32) hot := tabGet_tabPutZ_same ..

theorem refresh2x_refresh (s : State) (d b : Nat) (hot : Bool) :
    fld (refresh s d b hot) (R_SHL_STATUS d) F_SHL_STATUS_REFRESH_2X = b2n (hotAfter (hotVaults s d) (b % 32) hot != 0) := by
  refine (fld_setFld_same _ _ _ _ (by decide)).trans (Nat.mod_eq_of_lt (b2n_lt_two _))

theorem regsBut_refresh (s : State) (d b : Nat) (hot : Bool) : RegsBut s (refresh s d b hot) [R_SHL_STATUS d] := fun _ hk =>
  regGet_setFld_ne _ _ _ (by simpa using hk)

end Sys2Proof.Machine
end

section
/-! SUPPORT. A row of a Shale read for its errors (08:R178, R180, R182): correctable ones are corrected, and beside the errors
themselves only what shows them changes. -/
namespace Sys2Proof.Machine

/-- The registers that show errors met. -/
def ErrorReg (k : Nat) : Prop :=
  k = R_SCH_STRATA_ERR ∨ ∃ d, k = R_SHL_ERR d ∨ k = R_SHL_UE_SRC d ∨ k = R_SHL_STATUS d ∨ k = R_FLT_DIR_CE d

/-- Memory, spare rows and every register but those that show errors are as they were, and so is the sign that the scrubber is
active. -/
structure ErrorsShown (s t : State) : Prop where
  mem : t.mem = s.mem
  spares : t.shl.spares = s.shl.spares
  remapped : t.shl.remapped = s.shl.remapped
  regs : ∀ k, ¬ ErrorReg k → regGet t k = regGet s k
  scrub : ∀ d, fld t (R_SHL_STATUS d) F_SHL_STATUS_SCRUB_ACTIVE = fld s (R_SHL_STATUS d) F_SHL_STATUS_SCRUB_ACTIVE

theorem ErrorsShown.refl (s : State) : ErrorsShown s s := ⟨rfl, rfl, rfl, fun _ _ => rfl, fun _ => rfl⟩

theorem ErrorsShown.trans {s t u : State} (h : ErrorsShown s t) (h' : ErrorsShown t u) : ErrorsShown s u :=
  ⟨h'.mem.trans h.mem, h'.spares.trans h.spares, h'.remapped.trans h.remapped,
    fun k hk => (h'.regs k hk).trans (h.regs k hk), fun d => (h'.scrub d).trans (h.scrub d)⟩

/-! ### What shows an error. -/

theorem errorsShown_regSet (s : State) {k : Nat} (hk : ErrorReg k) (hstatus : ∀ d, R_SHL_STATUS d ≠ k) (w : Word) :
    ErrorsShown s (regSet s k w) :=
  ⟨rfl, rfl, rfl, fun _ hj => regGet_regSet_ne s w fun h => hj (h ▸ hk), fun d => fld_regSet_ne s w _ (hstatus d)⟩

theorem errorsShown_ctrSet (s : State) (k : Nat) (w : DWord) : ErrorsShown s (ctrSet s k w) :=
  ⟨rfl, rfl, rfl, fun _ _ => rfl, fun _ => rfl⟩

theorem errorsShown_count (s : State) (k n : Nat) : ErrorsShown s (count s k n) := by
  unfold count
  split
  · exact errorsShown_ctrSet s _ _
  · exact .refl s

theorem status_ne_strataErr (d : Nat) : R_SHL_STATUS d ≠ R_SCH_STRATA_ERR := by
  unfold R_SHL_STATUS R_SCH_STRATA_ERR regAt; omega
theorem status_ne_shlErr (d e : Nat) : R_SHL_STATUS d ≠ R_SHL_ERR e := by
  unfold R_SHL_STATUS R_SHL_ERR regAt; omega
theorem status_ne_ueSrc (d e : Nat) : R_SHL_STATUS d ≠ R_SHL_UE_SRC e := by
  unfold R_SHL_STATUS R_SHL_UE_SRC regAt; omega
theorem status_ne_dirCe (d e : Nat) : R_SHL_STATUS d ≠ R_FLT_DIR_CE e := by
  unfold R_SHL_STATUS R_FLT_DIR_CE regAt; omega

theorem errorsShown_raiseShlErr (s : State) (d : Nat) (f : Fld) : ErrorsShown s (raise s (R_SHL_ERR d) f) :=
  errorsShown_regSet s (.inr ⟨d, .inl rfl⟩) (fun _ => status_ne_shlErr _ _) _

theorem errorsShown_ueSrc (s : State) (d : Nat) (w : Word) : ErrorsShown s (regSet s (R_SHL_UE_SRC d) w) :=
  errorsShown_regSet s (.inr ⟨d, .inr (.inl rfl)⟩) (fun _ => status_ne_ueSrc _ _) w

theorem errorsShown_dirCe (s : State) (d n : Nat) : ErrorsShown s (regInc s (R_FLT_DIR_CE d) n) :=
  errorsShown_regSet s (.inr ⟨d, .inr (.inr (.inr rfl))⟩) (fun _ => status_ne_dirCe _ _) _

theorem errorsShown_raiseSpareCopy (s : State) (d : Nat) : ErrorsShown s (raise s (R_SHL_STATUS d) F_SHL_STATUS_SPARE_COPY) := by
  refine ⟨rfl, rfl, rfl, fun k hk => regGet_raise_ne s _ fun h => hk (.inr ⟨d, .inr (.inr (.inl h))⟩), fun e => ?_⟩
  by_cases h : R_SHL_STATUS e = R_SHL_STATUS d
  · rw [h]
    exact fld_setFld_field s _ _ _ _ (by decide) (by decide)
  · exact fld_setFld_ne s _ _ _ h

theorem errorsShown_strataEvent (s : State) (die unit status ctx aux : Nat) :
    ErrorsShown s (strataEvent s die unit status ctx aux) :=
  ⟨strataEvent_mem .., by rw [strataEvent_shl], by rw [strataEvent_shl],
    fun k hk => regGet_strataEvent s _ _ _ _ _ fun h => hk (.inl h),
    fun d => fld_strataEvent s _ _ _ _ _ _ (status_ne_strataErr d)⟩

theorem errorsShown_spareExhausted (s : State) (d row : Nat) : ErrorsShown s (spareExhausted s d row) :=
  (errorsShown_raiseShlErr s d _).trans (errorsShown_strataEvent _ _ _ _ _ _)

theorem errorsShown_spareNote (s : State) (g a : Nat) : ErrorsShown s (spareNote s g a) := by
  have hnoted (u : State) (h : Tab (List Nat)) (c : List Nat) : ErrorsShown u { u with shl := { u.shl with hist := h, copies := c } } :=
    ⟨rfl, rfl, rfl, fun _ _ => rfl, fun _ => rfl⟩
  unfold spareNote
  simp only []
  split
  · exact .refl s
  · split
    · exact hnoted s _ s.shl.copies
    · split
      · exact (hnoted s _ _).trans (errorsShown_raiseSpareCopy _ _)
      · exact (hnoted s _ s.shl.copies).trans (errorsShown_spareExhausted _ _ _)

theorem errorsShown_corrected (s : State) (a : Nat) : ErrorsShown s (corrected s a) := by
  have hecc : ErrorsShown s { s with ecc := tabDel s.ecc a } := ⟨rfl, rfl, rfl, fun _ _ => rfl, fun _ => rfl⟩
  unfold corrected
  simp only []
  split
  · exact hecc.trans ((errorsShown_count _ _ _).trans (errorsShown_spareNote _ _ _))
  · exact hecc.trans (errorsShown_dirCe _ _ _)
  · exact hecc.trans (errorsShown_count _ _ _)
  · exact hecc.trans (errorsShown_count _ _ _)
  · exact hecc

theorem errorsShown_noteUe (s : State) (ag : Agent) (unit a : Nat) : ErrorsShown s (noteUe s ag unit a) := by
  unfold noteUe
  simp only []
  split
  · split
    · exact (errorsShown_count s _ _).trans (errorsShown_strataEvent _ _ _ _ _ _)
    · exact (errorsShown_count s _ _).trans ((errorsShown_ctrSet _ _ _).trans ((errorsShown_ueSrc _ _ _).trans
        ((errorsShown_raiseShlErr _ _ _).trans (errorsShown_strataEvent _ _ _ _ _ _))))
  · exact errorsShown_strataEvent s _ _ _ _ _
  · exact errorsShown_strataEvent s _ _ _ _ _
  · exact errorsShown_strataEvent s _ _ _ _ _
  · exact .refl s

theorem errorsShown_meet (s : State) (ag : Agent) (unit a : Nat) : ErrorsShown s (meet s ag unit a).1 := by
  unfold meet checkGranule
  match tabFind s.ecc a with
  | none => exact .refl s
  | some true => exact errorsShown_noteUe s ag unit a
  | some false => exact errorsShown_corrected s a

/-! ### The errors left once granules were read. -/

/-- The errors stored once a granule was read: a correctable one in it is gone. -/
def errorsAfter (e : Tab Bool) (a : Nat) : Tab Bool := if tabFind e a = some false then tabDel e a else e

theorem tabFind_errorsAfter (e : Tab Bool) (a x : Nat) :
    tabFind (errorsAfter e a) x = if x = a ∧ tabFind e x = some false then none else tabFind e x := by
  unfold errorsAfter
  by_cases hx : x = a
  · subst hx
    split <;> simp [*]
  · split <;> simp [hx, tabFind_tabDel_ne]

theorem tabFind_foldl_errorsAfter (l : List Nat) (e : Tab Bool) (x : Nat) :
    tabFind (l.foldl errorsAfter e) x = if x ∈ l ∧ tabFind e x = some false then none else tabFind e x := by
  induction l generalizing e with
  | nil => simp
  | cons a t ih =>
    rw [List.foldl_cons, ih, tabFind_errorsAfter]
    by_cases hx : x = a
    · subst hx
      by_cases he : tabFind e x = some false <;> simp [he]
    · simp [hx]

theorem spareExhausted_ecc (s : State) (d row : Nat) : (spareExhausted s d row).ecc = s.ecc := strataEvent_ecc ..

theorem spareNote_ecc (s : State) (g a : Nat) : (spareNote s g a).ecc = s.ecc := by
  unfold spareNote
  simp only []
  split
  · rfl
  · split
    · rfl
    · split
      · rfl
      · exact spareExhausted_ecc ..

theorem corrected_ecc (s : State) (a : Nat) : (corrected s a).ecc = tabDel s.ecc a := by
  unfold corrected
  simp only []
  split
  · exact (spareNote_ecc ..).trans (count_ecc ..)
  · rfl
  · exact count_ecc ..
  · exact count_ecc ..
  · rfl

/-- The record of an uncorrectable error leaves the errors stored and the Shales as they are. -/
theorem noteUe_keeps (s : State) (ag : Agent) (unit a : Nat) :
    (noteUe s ag unit a).ecc = s.ecc ∧ (noteUe s ag unit a).shl = s.shl := by
  unfold noteUe
  simp only []
  split
  · rw [strataEvent_ecc, strataEvent_shl]
    split
    · exact ⟨count_ecc .., count_shl ..⟩
    · rw [raise_ecc, regSet_ecc, ctrSet_ecc, count_ecc, raise_shl, regSet_shl, ctrSet_shl, count_shl]
      exact ⟨rfl, rfl⟩
  · exact ⟨strataEvent_ecc .., strataEvent_shl ..⟩
  · exact ⟨strataEvent_ecc .., strataEvent_shl ..⟩
  · exact ⟨strataEvent_ecc .., strataEvent_shl ..⟩
  · exact ⟨rfl, rfl⟩

theorem meet_ecc (s : State) (ag : Agent) (unit a : Nat) : (meet s ag unit a).1.ecc = errorsAfter s.ecc a := by
  unfold meet checkGranule errorsAfter
  match tabFind s.ecc a with
  | none => rfl
  | some true => exact (noteUe_keeps s ag unit a).1
  | some false => exact corrected_ecc s a

/-! ### A row whose copy is in progress (08:R180). -/

/-- A row that is being copied starts no other copy. -/
theorem spareNote_copies {s : State} {a : Nat} (h : s.shl.copies.contains (rowOf a) = true) (g : Nat) :
    (spareNote s g a).shl.copies = s.shl.copies := by
  unfold spareNote
  simp only [h, Bool.or_true, if_true]
  split <;> rfl

theorem corrected_copies {s : State} {a : Nat} (h : s.shl.copies.contains (rowOf a) = true) :
    (corrected s a).shl.copies = s.shl.copies := by
  unfold corrected
  simp only []
  split
  · rw [spareNote_copies (by rw [count_shl]; exact h), count_shl]
  · rfl
  · rw [count_shl]
  · rw [count_shl]
  · rfl

theorem meet_copies {s : State} {a : Nat} (h : s.shl.copies.contains (rowOf a) = true) (ag : Agent) (unit : Nat) :
    (meet s ag unit a).1.shl.copies = s.shl.copies := by
  unfold meet checkGranule
  match tabFind s.ecc a with
  | none => rfl
  | some true => exact congrArg ShaleX.copies (noteUe_keeps s ag unit a).2
  | some false => exact corrected_copies h

/-! ### Granules read in turn. -/

/-- Granules are read in turn. -/
def readGranules (s : State) (ag : Agent) (unit : Nat) (l : List Nat) : State := l.foldl (fun u a => (meet u ag unit a).1) s

section
variable (ag : Agent) (unit : Nat) (l : List Nat)

theorem errorsShown_readGranules (s : State) : ErrorsShown s (readGranules s ag unit l) := by
  induction l generalizing s with
  | nil => exact .refl s
  | cons a t ih => exact (errorsShown_meet s ag unit a).trans (ih _)

theorem readGranules_ecc (s : State) : (readGranules s ag unit l).ecc = l.foldl errorsAfter s.ecc := by
  induction l generalizing s with
  | nil => rfl
  | cons a t ih => exact (ih _).trans (congrArg (t.foldl errorsAfter) (meet_ecc s ag unit a))

theorem readGranules_copies {s : State} {l : List Nat} (h : ∀ a ∈ l, s.shl.copies.contains (rowOf a) = true) :
    (readGranules s ag unit l).shl.copies = s.shl.copies := by
  induction l generalizing s with
  | nil => rfl
  | cons a t ih =>
    have ha := meet_copies (h a List.mem_cons_self) ag unit
    refine (ih fun b hb => ?_).trans ha
    rw [ha]
    exact h b (List.mem_cons_of_mem _ hb)

end

/-- The eight sectors of a row. -/
def sectors (row : Nat) : List Nat := (List.range 8).map fun i => row + 128 * i

theorem mem_sectors {row a : Nat} : a ∈ sectors row ↔ ∃ i < 8, row + 128 * i = a := by simp [sectors]

theorem foldl_meet_sectors (s : State) (ag : Agent) (unit row : Nat) :
    (List.range 8).foldl (fun u i => (meet u ag unit (row + 128 * i)).1) s = readGranules s ag unit (sectors row) := by
  rw [readGranules, sectors, List.foldl_map]

/-- A sector read has no correctable error any more, and keeps an uncorrectable one. -/
theorem tabFind_readSectors (s : State) (ag : Agent) (unit row : Nat) {i : Nat} (hi : i < 8) :
    tabFind (readGranules s ag unit (sectors row)).ecc (row + 128 * i) =
      if tabFind s.ecc (row + 128 * i) = some true then some true else none := by
  have hmem : row + 128 * i ∈ sectors row := mem_sectors.2 ⟨i, hi, rfl⟩
  rw [readGranules_ecc, tabFind_foldl_errorsAfter]
  match h : tabFind s.ecc (row + 128 * i) with
  | none => simp
  | some true => simp
  | some false => simp [hmem]

theorem readSectors_copies {s : State} {row : Nat} (hrow : row % 1024 = 0) (h : s.shl.copies.contains row = true) (ag : Agent)
    (unit : Nat) : (readGranules s ag unit (sectors row)).shl.copies = s.shl.copies := by
  refine readGranules_copies ag unit fun a ha => ?_
  obtain ⟨i, hi, rfl⟩ := mem_sectors.1 ha
  rwa [rowOf_add hrow (by omega)]

end Sys2Proof.Machine
end

section
/-! SUPPORT. The scrubber (08:R179) and the end of a spare copy (08:R180, R181), each as the row that it reads and what it then
sets. -/
namespace Sys2Proof.Machine

theorem memAsleep_of_regs {s t : State} (h : t.regs = s.regs) : memAsleep t = memAsleep s := by
  rw [memAsleep, memAsleep, pwState, pwState, fld_of_regs h]

theorem shl_upsets (s : State) (ups : List Before) : (upsets s ups).shl = s.shl := by
  rw [(happenedOnly_upsets s ups).1]

theorem regs_upsets (s : State) (ups : List Before) : (upsets s ups).regs = s.regs := (storesOnly_upsets s ups).2.1

/-! ### SCRUB_ROW. -/

/-- The scrubber shows that it is active, and reads a row unless a copy of it is in progress. -/
def scrubRead (s : State) (d row : Nat) : State :=
  if s.shl.copies.contains row then raise s (R_SHL_STATUS d) F_SHL_STATUS_SCRUB_ACTIVE
  else readGranules (raise s (R_SHL_STATUS d) F_SHL_STATUS_SCRUB_ACTIVE) ⟨4, d⟩ 0x02 (sectors row)

/-- The scrubber stands at the row after an offset. -/
def scrubOn (s : State) (d off : Nat) : State := { s with shl := { s.shl with scrub := tabPut s.shl.scrub d (off + 1024) } }

/-- A pass of the scrubber over a Shale is counted, and its next begins. -/
def scrubPassed (s : State) (g : Nat) : State :=
  setFld (regInc { s with shl := { s.shl with
      scrub := tabDel s.shl.scrub (shlDie g)
      hist := tabDelIf s.shl.hist fun r => decide (shaleBase g ≤ r) && decide (r < shaleBase g + 0x000400000000) } }
    (R_SHL_SCRUB_PASS (shlDie g)) 1) (R_SHL_STATUS (shlDie g)) F_SHL_STATUS_SCRUB_ACTIVE 0

theorem scrubRow_idle {s : State} {g : Nat}
    (h : flag s (R_SHL_CTRL (shlDie g)) F_SHL_CTRL_SCRUB_EN = false ∨ memAsleep s = true) : scrubRow s g = s := by
  refine if_pos ?_
  rcases h with h | h <;> simp [h]

theorem scrubRow_active {s : State} {g off : Nat} (hen : flag s (R_SHL_CTRL (shlDie g)) F_SHL_CTRL_SCRUB_EN = true)
    (hawake : memAsleep s = false) (hoff : off = tabGet s.shl.scrub (shlDie g) 0) :
    scrubRow s g = if off + 1024 < 0x000400000000 then scrubOn (scrubRead s (shlDie g) (shaleBase g + off)) (shlDie g) off
      else scrubPassed (scrubRead s (shlDie g) (shaleBase g + off)) g := by
  subst hoff
  unfold scrubRow
  simp only [foldl_meet_sectors, hen, hawake, Bool.not_true, Bool.or_false, Bool.false_eq_true, if_false]
  rfl

section
variable (s : State) (d row : Nat)

theorem scrubRead_mem : (scrubRead s d row).mem = s.mem := by
  unfold scrubRead
  split
  · rfl
  · exact (errorsShown_readGranules ..).mem

theorem scrubActive_scrubRead : flag (scrubRead s d row) (R_SHL_STATUS d) F_SHL_STATUS_SCRUB_ACTIVE = true := by
  have hraised := flag_raise_same s (R_SHL_STATUS d) F_SHL_STATUS_SCRUB_ACTIVE (by decide) rfl
  unfold scrubRead
  split
  · exact hraised
  · rw [flag, (errorsShown_readGranules _ _ _ _).scrub d]
    exact hraised

theorem not_errorReg_scrubPass : ¬ ErrorReg (R_SHL_SCRUB_PASS d) := by
  unfold ErrorReg R_SHL_SCRUB_PASS R_SCH_STRATA_ERR R_SHL_ERR R_SHL_UE_SRC R_SHL_STATUS R_FLT_DIR_CE regAt
  rintro (h | ⟨e, h | h | h | h⟩) <;> omega

theorem scrubPass_ne_status (e : Nat) : R_SHL_SCRUB_PASS d ≠ R_SHL_STATUS e := by
  unfold R_SHL_SCRUB_PASS R_SHL_STATUS regAt; omega

theorem scrubPass_scrubRead : regGet (scrubRead s d row) (R_SHL_SCRUB_PASS d) = regGet s (R_SHL_SCRUB_PASS d) := by
  have hraised := regGet_raise_ne s F_SHL_STATUS_SCRUB_ACTIVE (scrubPass_ne_status d d)
  unfold scrubRead
  split
  · exact hraised
  · rw [(errorsShown_readGranules _ _ _ _).regs _ (not_errorReg_scrubPass d), hraised]

/-- A correctable error of the row is gone, unless the row is being copied. -/
theorem tabFind_scrubRead {i : Nat} (hi : i < 8) (hcopy : s.shl.copies.contains row = false)
    (herr : tabFind s.ecc (row + 128 * i) = some false) : tabFind (scrubRead s d row).ecc (row + 128 * i) = none := by
  rw [scrubRead, if_neg (by rw [hcopy]; exact Bool.false_ne_true), tabFind_readSectors _ _ _ _ hi, raise_ecc, herr]
  rfl

end

theorem scrub_scrubPassed (s : State) (g : Nat) : tabGet (scrubPassed s g).shl.scrub (shlDie g) 0 = 0 := by
  simp [tabGet, scrubPassed, regInc]

theorem scrubActive_scrubPassed (s : State) (g : Nat) :
    flag (scrubPassed s g) (R_SHL_STATUS (shlDie g)) F_SHL_STATUS_SCRUB_ACTIVE = false := by
  simp only [flag, scrubPassed]
  rw [fld_setFld_same _ _ _ _ (by decide)]
  rfl

theorem scrubPass_scrubPassed (s : State) (g : Nat) :
    regGet (scrubPassed s g) (R_SHL_SCRUB_PASS (shlDie g)) = regGet s (R_SHL_SCRUB_PASS (shlDie g)) + 1 :=
  (regGet_setFld_ne _ _ _ (scrubPass_ne_status _ _)).trans (regGet_regSet_same ..)

/-! ### SPARE_COPY_COMPLETE. -/

/-- The copy of a row is no longer in progress. -/
def copyDone (s : State) (r : Nat) : State := { s with shl := { s.shl with copies := s.shl.copies.filter (· != r) } }

/-- A row was read for its copy, which is no longer in progress. -/
def rowCopied (s : State) (g r : Nat) : State := copyDone (copyRead s g r) r

theorem copyRead_eq (s : State) (g r : Nat) : copyRead s g r = readGranules s ⟨5, shlDie g⟩ 0x03 (sectors r) :=
  foldl_meet_sectors ..

/-- SPARE_COPY goes where no row of the Shale is being copied. -/
def showCopies (s : State) (g : Nat) : State :=
  if s.shl.copies.any fun x => decide (regionBelow 0 x = .shale g) then s
  else setFld s (R_SHL_STATUS (shlDie g)) F_SHL_STATUS_SPARE_COPY 0

/-- A row was copied and takes a spare, if its bank has one. -/
def rowSpared (s : State) (g r : Nat) : State := showCopies (spareTake (rowCopied s g r) g r) g

section
variable {s : State} {g row : Nat}

theorem spareDone_idle (h : s.shl.copies.contains (rowOf row) = false ∨ regionBelow 0 (rowOf row) ≠ .shale g ∨
    memAsleep s = true) : spareDone s g row = s := by
  have hidle : ¬(s.shl.copies.contains (rowOf row) && decide (regionBelow 0 (rowOf row) = .shale g) && !(memAsleep s)) = true := by
    rw [Bool.not_eq_true]
    rcases h with h | h | h <;> simp only [h, decide_false, Bool.false_and, Bool.and_false, Bool.not_true]
  unfold spareDone
  simp only []
  rw [if_neg hidle]

theorem spareDone_copied (hcopy : s.shl.copies.contains (rowOf row) = true) (hregion : regionBelow 0 (rowOf row) = .shale g)
    (hawake : memAsleep s = false) :
    spareDone s g row = rowSpared s g (rowOf row) := by
  have hdue : (s.shl.copies.contains (rowOf row) && decide (regionBelow 0 (rowOf row) = .shale g) && !(memAsleep s)) = true := by
    simp only [hcopy, hregion, hawake, decide_true, Bool.not_false, Bool.and_true]
  unfold spareDone rowSpared showCopies rowCopied copyDone
  simp only []
  rw [if_pos hdue]

end

section
variable (s : State) (g r : Nat)

theorem rowCopied_mem : (rowCopied s g r).mem = s.mem := by
  rw [rowCopied, copyDone, copyRead_eq, (errorsShown_readGranules _ _ _ _).mem]

theorem rowCopied_remapped : (rowCopied s g r).shl.remapped = s.shl.remapped := by
  rw [rowCopied, copyDone, copyRead_eq, (errorsShown_readGranules _ _ _ _).remapped]

theorem rowCopied_copies (hr : r % 1024 = 0) (h : s.shl.copies.contains r = true) :
    (rowCopied s g r).shl.copies = s.shl.copies.filter (· != r) := by
  rw [rowCopied, copyDone, copyRead_eq, readSectors_copies hr h]

theorem tabFind_rowCopied {i : Nat} (hi : i < 8) : tabFind (rowCopied s g r).ecc (r + 128 * i) =
    if tabFind s.ecc (r + 128 * i) = some true then some true else none := by
  rw [rowCopied, copyDone, copyRead_eq, tabFind_readSectors _ _ _ _ hi]

theorem bankUsed_rowCopied (d b : Nat) : bankUsed (rowCopied s g r) d b = bankUsed s d b := by
  rw [bankUsed, bankUsed, rowCopied, copyDone, copyRead_eq, (errorsShown_readGranules _ _ _ _).spares]

theorem not_errorReg_spareUsed (d : Nat) : ¬ ErrorReg (R_SHL_SPARE_USED d) := by
  unfold ErrorReg R_SHL_SPARE_USED R_SCH_STRATA_ERR R_SHL_ERR R_SHL_UE_SRC R_SHL_STATUS R_FLT_DIR_CE regAt
  rintro (h | ⟨e, h | h | h | h⟩) <;> omega

theorem copyDone_regs (u : State) : (copyDone u r).regs = u.regs := rfl

theorem spareUsed_rowCopied (d : Nat) (f : Fld) : fld (rowCopied s g r) (R_SHL_SPARE_USED d) f = fld s (R_SHL_SPARE_USED d) f := by
  rw [rowCopied, fld_of_regs (copyDone_regs _ _), copyRead_eq, fld, fld, (errorsShown_readGranules _ _ _ _).regs _ (not_errorReg_spareUsed d)]

end

section
variable (s : State) (g row : Nat)

theorem spareTake_keeps : (spareTake s g row).mem = s.mem ∧ (spareTake s g row).ecc = s.ecc ∧
    (spareTake s g row).shl.copies = s.shl.copies := by
  simp only [spareTake]
  split
  · exact ⟨rfl, rfl, rfl⟩
  · simp [spareExhausted]

theorem spareUsed_ne_status (d e : Nat) : R_SHL_SPARE_USED d ≠ R_SHL_STATUS e := by
  unfold R_SHL_SPARE_USED R_SHL_STATUS regAt; omega

/-- A row that takes a spare is remapped, and the spare is counted. -/
theorem spareTake_free {s : State} {g row : Nat} (h : bankUsed s (shlDie g) (bankOf g row) < 64) :
    row ∈ (spareTake s g row).shl.remapped ∧
      fld (spareTake s g row) (R_SHL_SPARE_USED (shlDie g)) F_SHL_SPARE_USED_USED =
        (fld s (R_SHL_SPARE_USED (shlDie g)) F_SHL_SPARE_USED_USED + 1) % 65536 := by
  simp only [spareTake, if_pos h]
  refine ⟨List.mem_cons_self, ?_⟩
  rw [fld_setFld_ne _ _ _ _ (spareUsed_ne_status _ _), fld_setFld_same _ _ _ _ (by decide)]
  rfl

theorem shlErr_ne_strataErr (d : Nat) : R_SHL_ERR d ≠ R_SCH_STRATA_ERR := by
  unfold R_SHL_ERR R_SCH_STRATA_ERR regAt; omega

/-- A bank without a free spare reports it and remaps nothing. -/
theorem spareTake_exhausted {s : State} {g row : Nat} (h : 64 ≤ bankUsed s (shlDie g) (bankOf g row)) :
    flag (spareTake s g row) (R_SHL_ERR (shlDie g)) F_SHL_ERR_SPARE_EXHAUSTED = true ∧
      (spareTake s g row).shl.remapped = s.shl.remapped := by
  simp only [spareTake, if_neg (Nat.not_lt.2 h), spareExhausted, flag, fld_strataEvent _ _ _ _ _ _ _ (shlErr_ne_strataErr _)]
  exact ⟨flag_raise_same s _ _ (by decide) rfl, by rw [strataEvent_shl, raise_shl]⟩

@[simp] theorem showCopies_mem : (showCopies s g).mem = s.mem := by unfold showCopies; split <;> rfl
@[simp] theorem showCopies_ecc : (showCopies s g).ecc = s.ecc := by unfold showCopies; split <;> rfl
@[simp] theorem showCopies_shl : (showCopies s g).shl = s.shl := by unfold showCopies; split <;> rfl

theorem regsBut_showCopies : RegsBut s (showCopies s g) [R_SHL_STATUS (shlDie g)] := by
  intro k hk
  unfold showCopies
  split
  · rfl
  · exact regGet_setFld_ne s _ _ (by simpa using hk)

theorem spareCopy_showCopies (h : ∀ x ∈ s.shl.copies, regionBelow 0 x ≠ .shale g) :
    flag (showCopies s g) (R_SHL_STATUS (shlDie g)) F_SHL_STATUS_SPARE_COPY = false := by
  rw [showCopies, if_neg (by simpa using h), flag, fld_setFld_same _ _ _ _ (by decide)]
  rfl

end

section
variable {s : State} {g r : Nat}

theorem rowSpared_mem : (rowSpared s g r).mem = s.mem := by
  rw [rowSpared, showCopies_mem, (spareTake_keeps _ _ _).1, rowCopied_mem]

theorem tabFind_rowSpared {i : Nat} (hi : i < 8) : tabFind (rowSpared s g r).ecc (r + 128 * i) =
    if tabFind s.ecc (r + 128 * i) = some true then some true else none := by
  rw [rowSpared, showCopies_ecc, (spareTake_keeps _ _ _).2.1, tabFind_rowCopied _ _ _ hi]

theorem rowSpared_copies (hr : r % 1024 = 0) (h : s.shl.copies.contains r = true) :
    (rowSpared s g r).shl.copies = s.shl.copies.filter (· != r) := by
  rw [rowSpared, showCopies_shl, (spareTake_keeps _ _ _).2.2, rowCopied_copies _ _ _ hr h]

/-- A row copied in a bank with a free spare is remapped to it. -/
theorem rowSpared_free (h : bankUsed s (shlDie g) (bankOf g r) < 64) : r ∈ (rowSpared s g r).shl.remapped ∧
    fld (rowSpared s g r) (R_SHL_SPARE_USED (shlDie g)) F_SHL_SPARE_USED_USED =
      (fld s (R_SHL_SPARE_USED (shlDie g)) F_SHL_SPARE_USED_USED + 1) % 65536 := by
  obtain ⟨hremapped, hused⟩ := spareTake_free (s := rowCopied s g r) (row := r) (by rwa [bankUsed_rowCopied])
  refine ⟨by rwa [rowSpared, showCopies_shl], ?_⟩
  rw [rowSpared, fld, regsBut_showCopies _ _ _ (by simpa using spareUsed_ne_status _ _), ← fld, hused, spareUsed_rowCopied]

/-- A row copied in a bank without a free spare is not remapped, and the bank is reported. -/
theorem rowSpared_exhausted (h : 64 ≤ bankUsed s (shlDie g) (bankOf g r)) :
    flag (rowSpared s g r) (R_SHL_ERR (shlDie g)) F_SHL_ERR_SPARE_EXHAUSTED = true ∧
      (rowSpared s g r).shl.remapped = s.shl.remapped := by
  obtain ⟨hflag, hremapped⟩ := spareTake_exhausted (s := rowCopied s g r) (row := r) (by rwa [bankUsed_rowCopied])
  refine ⟨?_, by rw [rowSpared, showCopies_shl, hremapped, rowCopied_remapped]⟩
  rw [rowSpared, flag, fld, regsBut_showCopies _ _ _ (by simpa using (status_ne_shlErr _ _).symm), ← fld, ← flag, hflag]

/-- SPARE_COPY goes with the last copy of the Shale. -/
theorem spareCopy_rowSpared (hr : r % 1024 = 0) (h : s.shl.copies.contains r = true)
    (hlast : ∀ x ∈ s.shl.copies, x ≠ r → regionBelow 0 x ≠ .shale g) :
    flag (rowSpared s g r) (R_SHL_STATUS (shlDie g)) F_SHL_STATUS_SPARE_COPY = false := by
  refine spareCopy_showCopies _ _ fun x hx => ?_
  rw [(spareTake_keeps _ _ _).2.2, rowCopied_copies _ _ _ hr h, List.mem_filter] at hx
  exact hlast x hx.1 (by simpa using hx.2)

end

end Sys2Proof.Machine
end

section
/-! PROOFS. ShaleUpkeep: a refresh, a row scrubbed and a copy completed, each through the row read and what is then set. -/
namespace Sys2Proof.Machine

/-- Settles O41: a refresh sets the bit of its vault (`testBit_hotAfter`); what has happened in the stores changes no register and
nothing of the Shales, so that the scrubber and a copy read their row as any read does (`tabFind_readSectors`,
`errorsShown_readGranules`), and then move on (`scrubRow_active`) or take a spare (`rowSpared_free`, `rowSpared_exhausted`). -/
theorem shaleUpkeep : Obligations.ShaleUpkeep := by
  unfold Obligations.ShaleUpkeep
  intro s g
  have hmem := fun ups => (memAndCtrs_upsets s ups).1
  have hawake := fun ups => memAsleep_of_regs (regs_upsets s ups)
  have hen := fun ups => flag_of_regs (regs_upsets s ups) (R_SHL_CTRL (shlDie g)) F_SHL_CTRL_SCRUB_EN
  refine ⟨fun b hot _ => ?_, fun ups hidle => ?_, fun ups off hup hon hoff => ?_, fun row r ups hr hup hcopy hregion => ?_,
    fun row ups hidle => ?_⟩
  · have hv : b.val % 32 < 32 := Nat.mod_lt _ (by decide)
    refine ⟨refresh s (shlDie g) b hot, rfl, fun v hv' => ?_, ?_, ?_, regsBut_refresh s _ _ _, rfl, rfl, rfl⟩
    · rw [hotVaults_refresh, bitOf, bitOf, testBit_hotAfter, decide_eq_true hv', Bool.true_and]
    · rw [hotVaults_refresh]
      exact hotAfter_lt _ hv hot
    · rw [hotVaults_refresh, refresh2x_refresh]
  · exact congrArg Host.Outcome.next (scrubRow_idle (by rwa [hen, hawake]))
  · have hrow := scrubRow_active (s := upsets s ups) (g := g) (off := off) ((hen ups).trans hon) ((hawake ups).trans hup)
      (by rw [shl_upsets]; exact hoff)
    obtain ⟨u, hu⟩ : ∃ u, u = scrubRead (upsets s ups) (shlDie g) (shaleBase g + off) := ⟨_, rfl⟩
    have humem : u.mem = s.mem := by rw [hu, scrubRead_mem, hmem]
    have herr (i : Nat) (hi : i < 8) (hcopy : s.shl.copies.contains (shaleBase g + off) = false)
        (h : tabFind (upsets s ups).ecc (shaleBase g + off + 128 * i) = some false) :
        tabFind u.ecc (shaleBase g + off + 128 * i) = none := by
      rw [hu]
      exact tabFind_scrubRead _ _ _ hi (by rwa [shl_upsets]) h
    rw [← hu] at hrow
    by_cases hlast : off + 1024 < 0x000400000000
    · rw [if_pos hlast] at hrow
      refine ⟨_, congrArg Host.Outcome.next hrow, humem, fun _ => ⟨?_, ?_⟩, fun h => absurd hlast (by omega),
        fun i hi _ _ hcopy h => herr i hi hcopy h⟩
      · simp [scrubOn, tabGet]
      · rw [hu]
        exact scrubActive_scrubRead _ _ _
    · rw [if_neg hlast] at hrow
      refine ⟨_, congrArg Host.Outcome.next hrow, humem, fun h => absurd h hlast,
        fun _ => ⟨scrub_scrubPassed u g, scrubActive_scrubPassed u g, ?_⟩, fun i hi _ _ hcopy h => herr i hi hcopy h⟩
      rw [scrubPass_scrubPassed, hu, scrubPass_scrubRead, regGet_of_regs (regs_upsets s ups)]
  · subst hr
    have hcopy' : (upsets s ups).shl.copies.contains (rowOf row) = true := by rwa [shl_upsets]
    have hdone := spareDone_copied hcopy' hregion ((hawake ups).trans hup)
    have hbank : bankUsed (upsets s ups) = bankUsed s := by
      funext d b
      rw [bankUsed, bankUsed, shl_upsets]
    refine ⟨_, congrArg Host.Outcome.next hdone, ?_, rowSpared_mem.trans (hmem ups), fun i hi => tabFind_rowSpared hi,
      fun hfree => ?_, fun hfull => ?_, fun hlast => spareCopy_rowSpared (rowOf_mod row) hcopy' (by rwa [shl_upsets])⟩
    · rw [rowSpared_copies (rowOf_mod row) hcopy', shl_upsets]
    · rw [← fld_of_regs (regs_upsets s ups)]
      exact rowSpared_free (by rwa [hbank])
    · rw [← shl_upsets s ups]
      exact rowSpared_exhausted (by rwa [hbank])
  · exact congrArg Host.Outcome.next (spareDone_idle (by rwa [shl_upsets, hawake]))

end Sys2Proof.Machine
end
